-- ==== Sys2Proof/Word.lean ====
section
/-!
DEFINITION. The plain types that the operands of the commands and the state share: unit numbers, masters, and the
packets, flits and frames that cross the module's interfaces. Nothing here computes.
-/

namespace Sys2Proof

/-- One byte. -/
abbrev Byte := BitVec 8

/-- An emulation die E0–E3 (01, R102). -/
abbrev Die := Fin 4
/-- A physical cluster PC0–PC67 of a die (R102). -/
abbrev Pc := Fin 68
/-- A logical cluster LC0–LC63 of a die. -/
abbrev Lc := Fin 64
/-- A Boolean processor of a cluster (Table 02-1). -/
abbrev BpIx := Fin 1024
/-- A group of a cluster (Table 02-1). -/
abbrev GroupIx := Fin 32
/-- A design-memory port of a cluster. -/
abbrev PortIx := Fin 4
/-- A SLOT index of an outbound slot table (R109). -/
abbrev SlotIx := Fin 1024
/-- A Seam link (09). -/
abbrev LinkIx := Fin 24
/-- A lane of a Seam link. -/
abbrev LaneIx := Fin 8
/-- A transactor core (R267). -/
abbrev CoreIx := Fin 32
/-- A thread context (R287). -/
abbrev Tcx := Fin 16384
/-- A flag of a thread context. -/
abbrev FlagIx := Fin 32
/-- An XPORT (R275). -/
abbrev XportIx := Fin 4096
/-- A fabric clock region (R350). -/
abbrev RegionIx := Fin 16
/-- A DMA channel (R385). -/
abbrev ChanIx := Fin 16

/-- The four masters of the object dictionary (R189). -/
inductive Master where
  | debug | pcie | can | fw
deriving DecidableEq, Repr

/-- A power rail in the order of 0x2820 (Table 19-6): E0–E3, H, SRAM, AUX. -/
abbrev RailIx := Fin 7

/-- What a multiplexer of the fabric selects (R348): nothing, an output of a cell's table, a flip-flop of a cell, a bit that a block RAM
port has read, or something from outside the logic. -/
inductive FabSource where
  | none | table (cell : Nat) (second : Bool) | flop (cell : Nat) (second : Bool) | ram (port bit : Nat) | outside (n : Nat)
deriving DecidableEq, Repr, Inhabited

/-- The configuration of a flip-flop (R347): D from the bypass input or from its own table output, INIT, and the value that set/reset gives. -/
structure FlopConf where
  bypass : Bool
  init : Bool
  setReset : Bool
deriving DecidableEq, Repr, Inhabited

/-- The configuration of a logic cell (R346, R347): its table and mode, the region that clocks it, how its set/reset acts, its flip-flops. -/
structure CellConf where
  table : Nat
  split : Bool
  region : Nat
  async : Bool
  first : FlopConf
  second : FlopConf
deriving DecidableEq, Repr, Inhabited

/-- The configuration of a block RAM port: the region that clocks it and the shape, as the logarithm of its width (0–5). -/
structure PortConf where
  region : Nat
  shape : Fin 6
deriving DecidableEq, Repr, Inhabited

/-- What fabric logic asks of the user flash (R363). -/
inductive UserFlash where
  | read | program (data : List Byte) | erase
deriving DecidableEq, Repr

/-- The width of a core's access. -/
inductive Width where
  | byte | half | word | double
deriving DecidableEq, Repr

/-- The number of bytes of a width. -/
def Width.bytes : Width → Nat
  | .byte => 1
  | .half => 2
  | .word => 4
  | .double => 8

/-- The AMO operations of RV64A (R271). -/
inductive AmoOp where
  | swap | add | xor | and | or | min | max | minu | maxu
deriving DecidableEq, Repr

/-- The three forms of a CSR write (Table 13-3). -/
inductive CsrOp where
  | replace | set | clear
deriving DecidableEq, Repr

/-- The outcome of an error-correcting check of a word in flight or in a memory. -/
inductive WordCheck where
  | clean | corrected | uncorrectable
deriving DecidableEq, Repr

/-- One bit flipped by an upset in a cluster's stores: node byte address (Table 05-10) and bit. An address of
`0x0400_0000 + row` names the check byte of a design-memory row (R138), which has no host address. -/
structure Upset where
  addr : Nat
  bit : Nat
deriving DecidableEq, Repr

/-- A packet on Causeway or the Seam (Table 05-7). `dc` is the DC of the GO that a Quarry request stands for, which its controller logs
(R147). -/
structure Packet where
  vc : Nat
  op : Nat
  dstMod : Nat
  dstDie : Nat
  dstNode : Nat
  srcMod : Nat
  srcDie : Nat
  srcNode : Nat
  tag : Nat
  gen : Nat
  status : Nat
  bytes : Nat
  addr : Nat
  payload : List Byte
  poison : Bool
  dc : Nat := 0
deriving DecidableEq, Repr

/-- A slot flit (Table 05-2). `onTime` is false once the flit has missed a nominal position (R107, R110);
`due` is the period in which it nominally crosses the rib into its destination cluster. -/
structure Flit where
  stamp : Bool
  key : Nat
  dmod : Nat
  ddie : Nat
  dpc : Nat
  bits : Nat
  onTime : Bool
  due : Nat
  dc : Nat
deriving DecidableEq, Repr

/-- A unit of a Seam frame (R214, R217): a slot flit, a sequenced control block, or a packet flit of a VC. -/
inductive SeamUnit where
  | slot (tag epoch bits : Nat)
  | dcDone (dc : Nat)
  | xtrig (origin xseq lines originDc boot : Nat)
  | flit (vc bits : Nat)
deriving DecidableEq, Repr

/-- A block of a lane (R205): its 2-bit header, 1 for data and 2 for control, and its 256 payload bits. -/
structure SeamBlock where
  header : Nat
  payload : Nat
deriving DecidableEq, Repr

/-- The fields of an IDLE block (Table 09-3). -/
structure IdleBlock where
  moduleId : Nat
  link : Nat
  rxState : Nat
  run : Nat
  llKept : Bool
deriving DecidableEq, Repr

/-- The fields of a TIME_SYNC block (Table 09-3); `depart` is a 96-bit time-base value. -/
structure SyncBlock where
  seqId : Nat
  priority : Nat
  gmId : Nat
  steps : Nat
  boot : Nat
  depart : Nat
deriving DecidableEq, Repr

end Sys2Proof
end

