-- ==== Sys2Proof/Syntax.lean ====
section
/-!
DEFINITION. The commands that the module takes from outside: one constructor for each row of the opcode table, with its operands. An operand
`m : Master` is the master that makes a dictionary access; a `Nat` operand named `i` is a place in a queue; measured values and events of the
environment (`check`, `wait`, `temp`, `watts`) stand for what the hardware meets at that instant.
-/

namespace Sys2Proof

/-- A command. -/
inductive Instr where
  /-- SLUICE_OPEN (R89): Every cluster of the Sluice set opens DC k+1 in the first period in which it is at END, all notices are visible and every partner's DC-done token became visible earlier. -/
  | sluiceOpen
  /-- CLUSTER_STEP (R81): In one step-clock period a cluster lands deliveries, checks tags and route ports, and then executes scheduled step s or holds it. -/
  | clusterStep (die : Die) (pc : Pc) (upsets : List Upset)
  /-- NOP (R70): NOP writes nothing, delivers nothing and never holds its cluster. -/
  | nop (die : Die) (pc : Pc) (bp : BpIx)
  /-- LUT (R31): LUT writes TT[{S3,S2,S1,S0}] to LOCAL entry s and delivers it as DEST directs. -/
  | lut (die : Die) (pc : Pc) (bp : BpIx)
  /-- MRD_ADDR (R59): ADDR deposits N operand bits into nibble K of its port's address register. -/
  | mrdAddr (die : Die) (pc : Pc) (bp : BpIx)
  /-- MRD_GO (R60): MRD GO reads the W-bit word at the port's address, or enqueues a Quarry READ, with returns through the return map. -/
  | mrdGo (die : Die) (pc : Pc) (bp : BpIx)
  /-- MWR_ADDR (R59): An MWR ADDR has the same effect as an MRD ADDR on its port's address register. -/
  | mwrAddr (die : Die) (pc : Pc) (bp : BpIx)
  /-- MWR_DATA (R59): DATA deposits N operand bits into nibble K of its port's write-data register. -/
  | mwrData (die : Die) (pc : Pc) (bp : BpIx)
  /-- MWR_GO (R61): MWR GO writes the low W bits of the write-data register to the addressed word when S0 is 1, or enqueues a Quarry WRITE. -/
  | mwrGo (die : Die) (pc : Pc) (bp : BpIx)
  /-- XIN (R63): XIN yields the XPORT input bit in effect for the current DC. -/
  | xin (die : Die) (pc : Pc) (bp : BpIx)
  /-- XOUT (R63): XOUT sets an XPORT output bit to S0 for delivery in the exchange steps. -/
  | xout (die : Die) (pc : Pc) (bp : BpIx)
  /-- FIN (R63): FIN yields the fabric input bit in effect for the current DC. -/
  | fin (die : Die) (pc : Pc) (bp : BpIx)
  /-- FOUT (R63): FOUT sets a fabric output bit to S0 for delivery in the exchange steps. -/
  | fout (die : Die) (pc : Pc) (bp : BpIx)
  /-- TRG (R64): TRG writes S0 to a trigger channel of the issuing die, passed on in the commit steps. -/
  | trg (die : Die) (pc : Pc) (bp : BpIx)
  /-- PRB (R64): PRB writes S0 to a probe bit of the issuing die, passed on in the commit steps. -/
  | prb (die : Die) (pc : Pc) (bp : BpIx)
  /-- EVT (R65): EVT with S0 = 1 passes a set of a thread flag to the hub, to take effect at the exchange instant. -/
  | evt (die : Die) (pc : Pc) (bp : BpIx)
  /-- ASRT (R66): ASRT with S0 = 1 records a failure of its assertion with the BP address and the DC number. -/
  | asrt (die : Die) (pc : Pc) (bp : BpIx)
  /-- CKEN (R68): CKEN yields the enable of its domain for the current DC. -/
  | cken (die : Die) (pc : Pc) (bp : BpIx)
  /-- END (R69): END writes 0 to LOCAL entry s, and its BP fetches nothing further in the DC. -/
  | endOp (die : Die) (pc : Pc) (bp : BpIx)
  /-- DELIVERY_LAND (R33): A delivery whose stamp matches the DC parity is written and its tag set; otherwise it is discarded and counted as stale. -/
  | deliveryLand (die : Die) (pc : Pc)
  /-- ROUTE_PORT_READ (R78): A group's route port reads one queued route-table entry per period and sends its delivery. -/
  | routePortRead (die : Die) (pc : Pc) (g : GroupIx)
  /-- SLOT_FLIT_LEAVE (R110): A gathered slot flit leaves its cluster at its leaving position, or later as a displaced flit once its last bit arrives. -/
  | slotFlitLeave (die : Die) (pc : Pc) (slot : SlotIx) (check : WordCheck)
  /-- LINK_WORD_SEND (R107): Each period a Causeway router sends on each output link the highest-priority slot or packet flit it holds. -/
  | linkWordSend (die : Fin 5) (node : Fin 76) (port : Fin 72) (check : WordCheck)
  /-- SLOT_FLIT_LAND (R113): An arriving slot flit reads its landing-table entry by KEY and queues its landing words. -/
  | slotFlitLand (die : Die) (pc : Pc)
  /-- LANDING_PORT_WRITE (R114): A group's landing port writes one INBOX bit per period, giving same-cluster route deliveries precedence. -/
  | landingPortWrite (die : Die) (pc : Pc) (g : GroupIx)
  /-- EXCHANGE_INSTANT (R90): In the period in which the last cluster enters its first exchange step, the hub samples its inputs and decides DC k+1. -/
  | exchangeInstant (fin : BitVec 8192)
  /-- XPORT_OUT_LATCH (R278): In the last exchange step the XOUT bits of DC k are copied into OUT, and notify flags are set. -/
  | xportOutLatch
  /-- ECC_REWRITE (R54): A corrected instruction entry is rewritten during the exchange steps of the same DC. -/
  | eccRewrite (die : Die) (pc : Pc)
  /-- CLUSTER_END (R79): A cluster reaches END once its overhead steps are done and its route ports are empty. -/
  | clusterEnd (die : Die) (pc : Pc)
  /-- LOCAL_COMPLETION (R88): At the latest END period over the Sluice set, the module hands its DC-done token to the egress of every configured link. -/
  | localCompletion
  /-- DC_DONE_SEND (R224): The egress sends DC_DONE once every local slot flit of the DC has been sent or DONE_DRAIN has passed. -/
  | dcDoneSend (link : LinkIx)
  /-- CYCLE_OVERRUN_LOCAL (R91): A cluster's period count reaching 64 × (D + 40) before END raises a cycle-overrun fault with cause LOCAL. -/
  | cycleOverrunLocal
  /-- CYCLE_OVERRUN_PARTNER (R92): The count since local completion reaching 64 × (D + 40) before the opening raises a cycle-overrun fault with cause PARTNER. -/
  | cycleOverrunPartner
  /-- MEMORY_RETURN (R60): A cluster-memory read's bits land in INBOX through the port's return bus. -/
  | memoryReturn (die : Die) (pc : Pc)
  /-- ROW_REWRITE (R138): A corrected row is rewritten in the next period in which no port touches the memory. -/
  | rowRewrite (die : Die) (pc : Pc)
  /-- MEMORY_SCRUB (R139): The scrubber reads, corrects and rewrites one row in every period that is free of port and host access. -/
  | memoryScrub (die : Die) (pc : Pc)
  /-- QUARRY_REQUEST_SEND (R142): The head entry of the Quarry queue leaves on VC0 once it has a response tag. -/
  | quarryRequestSend (die : Die) (pc : Pc)
  /-- QUARRY_SERVE (R144): An HBM controller serves a Quarry request in arrival order for its slot. -/
  | quarryServe (stack : Fin 4) (i : Nat) (check : WordCheck)
  /-- BANK_REFRESH (R145): A controller refreshes a bank by per-bank refresh at the interval the stack requires. -/
  | bankRefresh (stack : Fin 4) (bank : Nat) (begins : Bool)
  /-- QUARRY_RETURN (R43): A Quarry read response lands its bits in INBOX, possibly later than nominal. -/
  | quarryReturn (die : Die) (pc : Pc)
  /-- HBM_PATROL_SCRUB (R151): The controllers patrol-scrub HBM words and correct or count errors. -/
  | hbmPatrolScrub (addr : BitVec 37) (check : WordCheck) (passDone : Bool)
  /-- PACKET_REQUEST_ARRIVE (R122): A target accepts a request packet when it can respond on VC1 and answers it. -/
  | packetRequestArrive (i : Nat) (check : WordCheck)
  /-- PACKET_RESPONSE_ARRIVE (R120): A response completes its tag when TAG and GEN match, and is discarded otherwise. -/
  | packetResponseArrive (i : Nat)
  /-- TAG_TIMEOUT (R123): An expired response timer completes the tag with TIMEOUT and advances its generation. -/
  | tagTimeout (tag : Fin 32768)
  /-- WAKE_COMPLETE (R125): A completed wake moves the port to ACTIVE and delivers the held packets in order. -/
  | wakeComplete (die : Die) (pc : Pc)
  /-- WAKE_LIMIT_EXPIRY (R125): A wake not completed within WAKE_LIMIT moves the port to ABSORB, answers WAKE_FAIL and raises a cluster fault. -/
  | wakeLimitExpiry (die : Die) (pc : Pc)
  /-- IDLE_GATE (R433): A cluster outside the Sluice set is gated after IDLE_GATE with no packet, and its port goes to SLEEP. -/
  | idleGate (die : Die) (pc : Pc)
  /-- SEAM_BLOCK_RECEIVE (R209): A receive lane examines a block header and updates its block lock state. -/
  | seamBlockReceive (link : LinkIx) (lane : LaneIx) (bits : List Bool) (past : BitVec 34) (filler : Bool)
  /-- LANE_MARKER_RECEIVE (R210): A LANE_MARKER aligns its lane by unit number, or takes the lane out of LOCKED on a mismatch. -/
  | laneMarkerReceive (link : LinkIx) (lane : LaneIx) (skew : BitVec 16)
  /-- LANE_MARKER_SEND (R210): A lane sends a LANE_MARKER after every 16,384 blocks, or every 64 while not UP. -/
  | laneMarkerSend (link : LinkIx) (lane : LaneIx)
  /-- IDLE_RECEIVE (R211): A received IDLE advances the receive link state and records the partner's identity, run state and LL_KEPT. -/
  | idleReceive (link : LinkIx)
  /-- FRAME_END (R219): A received trailer releases the frame's units if CRC, KILL and SEQ hold, and otherwise discards the frame and sends a NAK. -/
  | frameEnd (link : LinkIx)
  /-- RELAY_FORWARD (R226): A relay forwards a relayed slot unit at once, before the upstream trailer has been checked. -/
  | relayForward (link : LinkIx) (unit : Fin 39) (tag : BitVec 11) (epoch : BitVec 2)
  /-- ACK (R220): An ACK releases acknowledged frames from the retry buffer and returns credits. -/
  | ack (link : LinkIx)
  /-- NAK (R220): A NAK makes the transmitter resend from the named sequence number. -/
  | nak (link : LinkIx)
  /-- ACK_TIMEOUT (R220): No acknowledgement within ACK_TIMEOUT resends from the oldest frame, and RETRY_LIMIT resends take the link DOWN. -/
  | ackTimeout (link : LinkIx)
  /-- NAK_REPEAT (R219): The receiver repeats its NAK every 1 µs until the expected frame arrives. -/
  | nakRepeat (link : LinkIx)
  /-- ACK_SEND (R219): The receiver acknowledges frames at least once every 16 frames or every 1 µs. -/
  | ackSend (link : LinkIx)
  /-- SEAM_EGRESS_SEND (R223): In each unit slot the egress sends the highest-priority unit it holds and closes frames under R217. -/
  | seamEgressSend (link : LinkIx) (past : BitVec 34)
  /-- RESUME_LIMIT_EXPIRY (R231): After RESUME_LIMIT out of UP, the link empties its kept state and raises a Seam-link fault. -/
  | resumeLimitExpiry (link : LinkIx)
  /-- TIME_SYNC (R242): An accepted TIME_SYNC from the parent is judged for join, rate correction or refusal, and is forwarded. -/
  | timeSync (link : LinkIx)
  /-- PDELAY_REQ (R239): A received PDELAY_REQ is answered with PDELAY_RESP. -/
  | pdelayReq (link : LinkIx)
  /-- PDELAY_RESP (R239): A received PDELAY_RESP yields one delay measurement that updates the link's path delay. -/
  | pdelayResp (link : LinkIx)
  /-- PDELAY_INTERVAL_EXPIRY (R239): Every PDELAY_INTERVAL the module starts a path-delay measurement on each UP, enabled link. -/
  | pdelayIntervalExpiry
  /-- SYNC_INTERVAL_EXPIRY (R241): A GRANDMASTER sends TIME_SYNC on every UP, enabled link every SYNC_INTERVAL. -/
  | syncIntervalExpiry
  /-- CANDIDATE_EXPIRY (R240): A candidate not refreshed within 4 × SYNC_INTERVAL expires and the election is run again. -/
  | candidateExpiry (link : LinkIx)
  /-- PPS_IN_EDGE (R246): A TIME_PPS_IN edge is timestamped and, in a disciplined grandmaster, aligns or steers the time. -/
  | ppsInEdge (stamp : BitVec 96)
  /-- PPS_LOST (R246): No PPS edge for 2 s sets PPS_STATE to LOST. -/
  | ppsLost
  /-- PPS_OUT_RISE (R248): TIME_PPS_OUT rises in the tick that reaches each whole second. -/
  | ppsOutRise
  /-- PPS_OUT_FALL (R248): TIME_PPS_OUT falls PPS_OUT_WIDTH after it rose. -/
  | ppsOutFall
  /-- TIME_NS_READ (R236): A read of TIME_NS returns the integer part and latches all 96 bits. -/
  | timeNsRead (m : Master)
  /-- TIME_SET (R247): TIME_SET sets the time base in FREE or GRANDMASTER and sets JOINED. -/
  | timeSet (m : Master) (v : BitVec 64)
  /-- REJOIN (R245): REJOIN clears JOINED so that the next judged sync, or PPS, steps the time. -/
  | rejoin (m : Master) (v : Byte)
  /-- INCREMENT_WRITE (R243): A write to INCREMENT sets the nominal rate and restarts the frequency term at 0. -/
  | incrementWrite (m : Master) (v : BitVec 64)
  /-- PRIORITY_WRITE (R240): A write to PRIORITY runs the election in the serving dictionary cycle. -/
  | priorityWrite (m : Master) (v : Byte)
  /-- TIE_EDGE_REACHED (R257): In the tick that reaches a tie edge, the tie unit captures its FIN bits and pulses TIE_EDGE. -/
  | tieEdgeReached (slot : Fin 8) (fin : BitVec 8192)
  /-- TIE_APPLY (R258): A tie unit applies its output bits at edge + OUT_LATENCY, or late and counted. -/
  | tieApply (slot : Fin 8)
  /-- LOCK_LOAD (R273): A 64-bit load from LOCKn acquires a free lock or returns its owner. -/
  | lockLoad (core : CoreIx) (n : Fin 256) (width : Width) (rd : Fin 32)
  /-- LOCK_STORE (R273): A store by the owner frees the lock, and a foreign store is ignored and counted. -/
  | lockStore (core : CoreIx) (n : Fin 256) (width : Width)
  /-- POST (R276): A store to POST copies IN_STAGE to the pending register and sets PENDING. -/
  | post (core : CoreIx) (x : XportIx)
  /-- IN_STAGE_STORE (R276): A store to IN_STAGE by the owner stages data, and a foreign store is discarded and counted. -/
  | inStageStore (core : CoreIx) (x : XportIx) (off : Fin 256) (width : Width) (value : BitVec 64)
  /-- OUT_LOAD (R278): A core load of OUT word 0 latches all 8 words and OUT_DC. -/
  | outLoad (core : CoreIx) (x : XportIx) (off : Fin 256) (width : Width) (rd : Fin 32)
  /-- PACE_STORE (R280): A store by the owner core adds credits to a transactor-paced domain. -/
  | paceStore (core : CoreIx) (d : Fin 64) (value : BitVec 64)
  /-- WDT_KICK (R281): A store of 0xA5 reloads the core watchdog to WDT_PERIOD. -/
  | wdtKick (core : CoreIx) (value : Byte)
  /-- WDT_EXPIRY (R281): The watchdog reaching 0 applies WDT_ACTION, a core fault or a warning interrupt. -/
  | wdtExpiry (core : CoreIx)
  /-- MTIMECMP_REACHED (R268): The machine timer interrupt becomes pending when the time base reaches MTIMECMP. -/
  | mtimecmpReached (core : CoreIx)
  /-- LR (R272): LR reserves the naturally aligned 64-byte granule of its address. -/
  | lr (core : CoreIx) (wide : Bool) (rd : Fin 32) (addr : BitVec 64)
  /-- SC (R272): SC succeeds only while the reservation holds. -/
  | sc (core : CoreIx) (wide : Bool) (rd : Fin 32) (addr : BitVec 64) (value : BitVec 64)
  /-- AMO (R271): An AMO executes atomically at the shared SRAM, or raises an access fault where atomics are not allowed. -/
  | amo (core : CoreIx) (op : AmoOp) (wide : Bool) (rd : Fin 32) (addr : BitVec 64) (value : BitVec 64)
  /-- FENCE_I (R270): FENCE.I invalidates the core's instruction cache and its data-cache lines. -/
  | fenceI (core : CoreIx)
  /-- RESERVATION_EXPIRY (R272): An LR reservation ends after 4,096 core cycles. -/
  | reservationExpiry (core : CoreIx)
  /-- EBREAK (R463): With EBREAK_HALT set, EBREAK enters debug halt in place of its exception. -/
  | ebreak (core : CoreIx)
  /-- CORE_RUN (R288): A write to CORE_RUN releases a core with its boot thread RUNNING, or puts it in reset and frees its contexts. -/
  | coreRun (m : Master) (v : BitVec 32)
  /-- TCMD_WAIT (R293): WAIT continues, acts as YIELD, or makes the thread WAITING on its flags and timeout. -/
  | tcmdWait (core : CoreIx) (mask : BitVec 32) (timeout : BitVec 64)
  /-- TCMD_YIELD (R292): YIELD moves the thread to the tail of its priority's ready list. -/
  | tcmdYield (core : CoreIx)
  /-- TCMD_EXIT (R292): EXIT frees the context and every lock it owns. -/
  | tcmdExit (core : CoreIx)
  /-- TCMD_SIGNAL (R292): SIGNAL sets a flag of a target context. -/
  | tcmdSignal (core : CoreIx) (tcx : Tcx) (flag : FlagIx)
  /-- TCMD_SPAWN (R292): SPAWN makes a FREE context READY on a core at a priority. -/
  | tcmdSpawn (core : CoreIx) (tcx : Tcx) (home : CoreIx) (prio : Fin 32) (targ0 : BitVec 64) (targ1 : BitVec 64) (targ2 : BitVec 64)
  /-- TCMD_STOP (R292): STOP makes a READY, WAITING or own context STOPPED. -/
  | tcmdStop (core : CoreIx) (tcx : Tcx)
  /-- TCMD_START (R292): START makes a STOPPED context READY with WAKE_CAUSE START. -/
  | tcmdStart (core : CoreIx) (tcx : Tcx)
  /-- TCMD_MIGRATE (R298): MIGRATE moves a context's home to another core. -/
  | tcmdMigrate (core : CoreIx) (tcx : Tcx) (home : CoreIx)
  /-- TCMD_ALARM (R294): ALARM arms or disarms an alarm unit of the issuing core. -/
  | tcmdAlarm (core : CoreIx) (unit : Fin 8) (tcx : Tcx) (flag : FlagIx) (targ0 : BitVec 64) (targ1 : BitVec 64)
  /-- TCMD_REQ_READ (R300): REQ_READ sends one Causeway READ on VC0 with a hub tag. -/
  | tcmdReqRead (core : CoreIx) (buf : BitVec 64) (addr : BitVec 64) (dmod : Fin 1024) (ddie : Fin 8) (dnode : Fin 256) (words : Fin 64) (flag : FlagIx)
  /-- TCMD_REQ_WRITE (R300): REQ_WRITE sends one Causeway WRITE on VC0 with a hub tag. -/
  | tcmdReqWrite (core : CoreIx) (buf : BitVec 64) (addr : BitVec 64) (dmod : Fin 1024) (ddie : Fin 8) (dnode : Fin 256) (words : Fin 64) (flag : FlagIx)
  /-- TFLAGS_WRITE (R291): A CSR write to TFLAGS sets, clears or replaces the thread's own flags. -/
  | tflagsWrite (core : CoreIx) (op : CsrOp) (value : BitVec 32)
  /-- TCTL_WRITE (R297): A change of TCTL.PRIO is judged against the ready lists at once. -/
  | tctlWrite (core : CoreIx) (value : BitVec 64)
  /-- FLAG_APPLY (R293): Flag sets that arrived in the previous scheduler cycle are applied and conditions are judged, waking threads. -/
  | flagApply
  /-- THREAD_TIMEOUT (R293): A waiting thread whose TTIMEOUT is reached wakes with WAKE_CAUSE TIMEOUT. -/
  | threadTimeout (t : Tcx)
  /-- ALARM_FIRE (R294): An alarm unit reaching its instant sets its flag and re-arms if periodic. -/
  | alarmFire (core : CoreIx) (unit : Fin 8)
  /-- DISPATCH (R296): A core needing a thread dispatches the head of its most urgent non-empty ready list. -/
  | dispatch (core : CoreIx) (wait : Nat) (ran : Nat) (idle : Nat)
  /-- PREFETCH_FILL (R297): A prefetch slot is refilled in 2 scheduler cycles when the dispatch order changes. -/
  | prefetchFill (core : CoreIx)
  /-- PREEMPTION (R297): A more urgent READY thread preempts the running one once its slot is filled and no lock defers it. -/
  | preemption (core : CoreIx) (wait : Nat) (ran : Nat)
  /-- CONTEXT_WRITEBACK (R298): The background write-back of an outgoing context completes. -/
  | contextWriteback (core : CoreIx)
  /-- REQUEST_COMPLETION (R300): A REQ response completes, delivers data, sets the thread's flag and writes STATUS to TSTAT. -/
  | requestCompletion
  /-- THREAD_CMD_STOP (R299): The host STOP command acts on the selected context as the STOP command does. -/
  | threadCmdStop (m : Master)
  /-- THREAD_CMD_START (R299): The host START command makes the selected STOPPED or host-written FREE context READY. -/
  | threadCmdStart (m : Master)
  /-- THREAD_FLAGS_SET (R299): A write ORs its value into the flags of the selected context. -/
  | threadFlagsSet (m : Master) (v : BitVec 32)
  /-- VTTX (R470): A core write to VTTX pushes a byte onto its transmit FIFO, dropping it or waiting when the FIFO is full. -/
  | vttx (core : CoreIx) (rd : Fin 32) (value : Byte)
  /-- VTRX (R470): A core read of VTRX returns and removes the oldest received byte. -/
  | vtrx (core : CoreIx) (rd : Fin 32)
  /-- TRIG_INPUT_EDGE (R323): A rising edge on a TRIG ball in edge mode is latched until the next evaluation. -/
  | trigInputEdge (ball : Fin 4) (level : Bool)
  /-- TRIG_PULSE_END (R323): A TRIG output returns low after PULSE ns. -/
  | trigPulseEnd (ball : Fin 4)
  /-- HOLDOFF_EXPIRY (R311): A comparator's hold-off ends in time or events, and it returns to SPENT or ARMED. -/
  | holdoffExpiry (n : Fin 64)
  /-- REARM (R324): REARM resets the sequencer, counters, comparators and latches. -/
  | rearm (m : Master) (v : Byte)
  /-- MASK_TEST_FETCH_DONE (R319): A late mask-test record fetch completes its comparison and may raise a stop. -/
  | maskTestFetchDone
  /-- TRACE_CMD_ARM (R335): ARM resets the ring indices and sets TRACE_STATE to ARMED or STREAMING. -/
  | traceCmdArm (m : Master)
  /-- TRACE_CMD_FREEZE (R332): FREEZE freezes the ring at once in ARMED or POST. -/
  | traceCmdFreeze (m : Master)
  /-- TRACE_RECORD_WRITE (R331): A buffered record is written wholly to HBM and WR advances. -/
  | traceRecordWrite
  /-- SNAPSHOT_DONE (R338): A snapshot completes, records its slot and returns to the interrupted mode, or marks the slot FAILED. -/
  | snapshotDone (bad : Option (BitVec 37))
  /-- RESTORE_DONE (R341): A restore completes its write-back, sets up replay and returns to HOLD. -/
  | restoreDone
  /-- FAB_LOAD_CMD_LOAD (R368): FAB_LOAD_CMD 1 starts a fabric load from FAB_HOST_ADDR. -/
  | fabLoadCmdLoad (m : Master)
  /-- FAB_LOAD_CMD_ABORT (R368): FAB_LOAD_CMD 2 aborts a fabric load by its phase or reports LATE. -/
  | fabLoadCmdAbort (m : Master)
  /-- FAB_LOAD_CMD_UNCONFIGURE (R368): FAB_LOAD_CMD 3 unconfigures the fabric in STANDBY, READY and HOLD. -/
  | fabLoadCmdUnconfigure (m : Master)
  /-- FAB_FETCH_DONE (R368): The fabric container fetch completes and the check begins. -/
  | fabFetchDone (data : Option (List Byte))
  /-- FAB_CHECK_DONE (R366): The consistency check completes, refusing the container or starting the write. -/
  | fabCheckDone (vddio : List Nat)
  /-- FAB_WRITE_DONE (R368): The write completes, flip-flops, RAM and regions start, and FAB_STATE becomes CONFIGURED. -/
  | fabWriteDone
  /-- REGION_SELECT_CHANGE (R351): A region's clock multiplexer switches glitch-free to its new source. -/
  | regionSelectChange (region : RegionIx) (sel : Bool) (alive : Bool)
  /-- REGION_FORCED_SWITCH (R351): A current source with no edge within 16 new-source cycles forces the switch and sets CLK_FORCED. -/
  | regionForcedSwitch (region : RegionIx)
  /-- REGION_LOSS (R352): A region with no rising edge for its loss window is marked lost and forces its pads safe. -/
  | regionLoss (region : RegionIx)
  /-- SAFE_STATE_BEGIN (R356): A safe-state cause forces the affected pads to their SAFE state within 10 ns. -/
  | safeStateBegin (levels : BitVec 384) (enables : BitVec 384)
  /-- PAD_RELEASE (R357): A pad leaves its safe state at the second region-clock edge after its last cause ends. -/
  | padRelease (pad : Fin 384) (level : Bool) (enable : Bool)
  /-- SAFE_FORCE (R356): A write to SAFE_FORCE starts or ends cause FORCE on every pad. -/
  | safeForce (m : Master) (v : Byte)
  /-- FIN_LANE_POST (R358): Fabric logic posts a FIN lane's boundary value to its pending register. -/
  | finLanePost (lane : Fin 128) (value : BitVec 64)
  /-- DELAY_TAP_STEP (R354): Fabric logic steps a pad's delay by one tap, saturating at 0 and 511. -/
  | delayTapStep (pad : Fin 384) (up : Bool)
  /-- USER_FLASH_ACCESS (R363): Fabric logic reads, programs or erases the user flash, subject to write protection and management priority. -/
  | userFlashAccess (op : UserFlash) (addr : BitVec 23)
  /-- USER_FLASH_DONE (R363): A fabric page program or sector erase completes. -/
  | userFlashDone
  /-- CONFIG_SCRUB (R367): The configuration scrub corrects upsets or raises a fabric fault with cause CFG_FAULT. -/
  | configScrub (check : WordCheck) (frame : BitVec 32)
  /-- RO_FREQ_MEASURE (R364): Every 1 ms each ring oscillator's frequency is measured against the base clock. -/
  | roFreqMeasure (osc : Fin 8) (khz : BitVec 32)
  /-- TAP_FS_MEASURE (R354): Every 1 ms each bank's measured delay tap is reported. -/
  | tapFsMeasure (bank : Fin 8) (fs : BitVec 16)
  /-- REGISTER_WRITE (R373): A dictionary write to an object without a row of its own is applied, or refused and recorded. -/
  | registerWrite (m : Master) (key : BitVec 24) (v : BitVec 64) (bytes : Fin 16)
  /-- SHADOW_WRITE (R191): A write to an RWS object writes its shadow and returns a CHECKED or ARMED staging to PENDING. -/
  | shadowWrite (m : Master) (key : BitVec 24) (v : BitVec 64)
  /-- COUNTER_CLEAR (R400): A write to a counter or maximum object sets it to 0, counting events of the same cycle after the clear. -/
  | counterClear (m : Master) (key : BitVec 24)
  /-- ACCESS_ERR_READ (R374): A read of an ACCESS_ERR object returns its value and then sets it to 0. -/
  | accessErrRead (m : Master) (i : Fin 4)
  /-- ERROR_REGISTER_READ (R394): A read of ERROR_REGISTER clears bits 4 and 7 and may send EMCY code 0x0000. -/
  | errorRegisterRead (m : Master)
  /-- ERROR_COUNT_WRITE (R394): A write of 0 to ERROR_COUNT clears the error list. -/
  | errorCountWrite (m : Master) (v : Byte)
  /-- BAR2_READ (R377): A BAR2 read returns the region's data without side effect, waking a sleeping cluster. -/
  | bar2Read (off : BitVec 37) (n : Fin 4097) (tag : Fin 1024)
  /-- BAR2_WRITE (R377): A BAR2 write follows the region's rules, with refusals recorded and narrow writes merged. -/
  | bar2Write (off : BitVec 37) (data : List Byte)
  /-- COMPLETION_TIMEOUT (R378): A BAR2 read with no response after 1.9 ms completes with all-ones data. -/
  | completionTimeout (tag : Fin 1024)
  /-- CW_READ_TIMEOUT (R380): During CLOCK-WAIT a BAR0 read completes after 100 µs with all-ones data. -/
  | cwReadTimeout
  /-- THREAD_DOORBELL (R381): A doorbell write ORs bits into a thread's flags when DB_THREAD is accepted. -/
  | threadDoorbell (t : Tcx) (v : BitVec 64)
  /-- DMA_DOORBELL (R382): A DMA doorbell sets a channel's producer index, or signals OVERRUN. -/
  | dmaDoorbell (ch : ChanIx) (p : BitVec 16)
  /-- FLR (R379): An FLR or hot reset resets the PCIe function only. -/
  | flr
  /-- PERST_N (R447): PERST_N resets the endpoint and holds its link down, and its rising edge starts reference judging. -/
  | perstN (high : Bool) (speed : BitVec 4) (width : BitVec 6)
  /-- CH_CMD_RUN (R387): CH_CMD 1 moves a DMA channel to RUNNING. -/
  | chCmdRun (m : Master) (ch : ChanIx)
  /-- CH_CMD_STOP (R387): CH_CMD 2 stops a DMA channel, abandoning or finishing the current descriptor. -/
  | chCmdStop (m : Master) (ch : ChanIx)
  /-- DMA_DESCRIPTOR (R386): A channel completes a descriptor: bytes moved, STATUS written, CONSUMER advanced, vector and flag raised. -/
  | dmaDescriptor (ch : ChanIx) (desc : BitVec 256) (data : List Byte) (pcieError : Bool) (done : Bool)
  /-- ACCEPTED_WRITE (R388): A write to ACCEPTED stores the written bits ANDed with OFFERED. -/
  | acceptedWrite (m : Master) (i : Fin 4) (v : BitVec 64)
  /-- XACT_VECTOR_WRITE (R384): A 4-byte WRITE to hub endpoint 0x20 raises MSI-X vector v, or is answered UNMAPPED. -/
  | xactVectorWrite (i : Nat)
  /-- NMT_START (R391): NMT start moves the node to Operational. -/
  | nmtStart
  /-- NMT_STOP (R391): NMT stop moves the node to Stopped. -/
  | nmtStop
  /-- NMT_ENTER_PRE_OPERATIONAL (R391): NMT enter pre-operational moves the node to Pre-operational. -/
  | nmtEnterPreOperational
  /-- NMT_RESET_NODE (R392): Reset node resets the communication objects and performs a management reset. -/
  | nmtResetNode
  /-- NMT_RESET_COMMUNICATION (R392): Reset communication resets 0x1000–0x1FFF and sends a boot-up message. -/
  | nmtResetCommunication
  /-- SDO_DOWNLOAD (R393): An SDO download writes an object as one dictionary access, or answers an abort. -/
  | sdoDownload (key : BitVec 24) (data : List Byte) (last : Bool) (proto : Fin 3)
  /-- SDO_UPLOAD (R393): An SDO upload reads an object as one dictionary access, or answers an abort. -/
  | sdoUpload (key : BitVec 24)
  /-- SDO_TIMEOUT (R393): An SDO transfer idle for 1 s is aborted with 0x0504_0000. -/
  | sdoTimeout
  /-- EMCY_SEND (R394): A queued EMCY is sent once the inhibit time has passed. -/
  | emcySend
  /-- HEARTBEAT (R391): The heartbeat producer sends every HEARTBEAT_TIME. -/
  | heartbeat
  /-- BUS_OFF (R389): The CAN FD controller enters bus-off, counts it and recovers per ISO 11898-1. -/
  | busOff (recover : Bool)
  /-- FAULT_SEL (R414): A write to FAULT_SEL latches a whole fault record. -/
  | faultSel (m : Master) (v : BitVec 32)
  /-- FAULT_ACK (R415): A write to FAULT_ACK acknowledges every record up to r. -/
  | faultAck (m : Master) (v : BitVec 32)
  /-- FAIL_SET (R405): FAIL_SET marks a physical cluster failed with cause SOFTWARE. -/
  | failSet (m : Master) (v : BitVec 16)
  /-- FAIL_CLEAR (R408): FAIL_CLEAR removes a cluster's failure mark. -/
  | failClear (m : Master) (v : BitVec 16)
  /-- REMAP_LC (R499): A write to REMAP_LC remaps a logical cluster bound to a marked cluster. -/
  | remapLc (m : Master) (v : BitVec 16)
  /-- LOAD_CMD_LOAD (R163): LOAD_CMD 1 moves the module to LOAD and starts the fetch of an image. -/
  | loadCmdLoad (m : Master)
  /-- LOAD_CMD_ABORT (R167): LOAD_CMD 2 aborts a load by its phase or reports LATE. -/
  | loadCmdAbort (m : Master)
  /-- LOAD_FETCH_DONE (R163): The image DMA fetch completes and CHECKING begins. -/
  | loadFetchDone (data : List Byte)
  /-- LOAD_CHECK_DONE (R164): Phase 2 completes every check, and refuses the load or starts WRITING. -/
  | loadCheckDone (vddio : List Nat)
  /-- LOAD_WRITE_DONE (R166): Phase 3 completes, run state is reset and the module enters READY at the DC 0 boundary. -/
  | loadWriteDone
  /-- REMAP_DONE (R172): A remap or die rewrite from the retained copy completes and raises REMAP_DONE. -/
  | remapDone
  /-- RUN_CMD_RUN (R184): RUN_CMD 1 orders RUN. -/
  | runCmdRun (m : Master)
  /-- RUN_CMD_STEP (R185): RUN_CMD 2 orders STEP for STEP_COUNT DCs. -/
  | runCmdStep (m : Master)
  /-- RUN_CMD_TIED (R254): RUN_CMD 3 orders TIED when its conditions hold. -/
  | runCmdTied (m : Master)
  /-- RUN_CMD_HOLD (R183): RUN_CMD 4 orders HOLD with stop cause HOST. -/
  | runCmdHold (m : Master)
  /-- RUN_CMD_SNAPSHOT (R186): RUN_CMD 5 orders one peat snapshot at a boundary. -/
  | runCmdSnapshot (m : Master)
  /-- RUN_CMD_STANDBY (R178): RUN_CMD 6 unloads the image and gates the dies and cores. -/
  | runCmdStandby (m : Master)
  /-- RUN_CMD_DIAG (R411): RUN_CMD 7 unloads the image and runs the self-test named in DIAG_SEL. -/
  | runCmdDiag (m : Master)
  /-- START_POINT (R181): At the start point an accepted order restarts the step clock at the held boundary. -/
  | startPoint
  /-- MODE_MOVE_DONE (R184): The gating for STANDBY or the powering for DIAG completes. -/
  | modeMoveDone
  /-- DIAG_TEST_DONE (R411): A self-test writes DIAG_RESULT, marks faulty clusters and the module enters STANDBY. -/
  | diagTestDone (detail : Option (BitVec 28)) (failed : List (Die × Pc))
  /-- CHECK (R195): A write of 1 to CHECK starts the staging check. -/
  | check (m : Master) (v : Byte)
  /-- CHECK_DONE (R195): The check writes CHECK_RESULT, and the state becomes CHECKED or PENDING. -/
  | checkDone (list : List Byte)
  /-- COMMIT (R192): An immediate commit in CHECKED pauses at the held or next boundary. -/
  | commit (m : Master) (v : Byte)
  /-- COMMIT_AT_TIME (R197): A write to COMMIT_AT_TIME arms the commit for a time-base instant, or reports TOO_LATE. -/
  | commitAtTime (m : Master) (t : BitVec 64)
  /-- COMMIT_AT_DC (R198): A write to COMMIT_AT_DC arms the commit for a DC boundary, or reports TOO_LATE. -/
  | commitAtDc (m : Master) (n : BitVec 64)
  /-- DISCARD (R200): DISCARD empties the shadows and the list and disarms the commit, or reports LATE. -/
  | discard (m : Master) (v : Byte)
  /-- COMMIT_TIME_REACHED (R197): A held module starts the commit pause when the time base reaches the armed instant. -/
  | commitTimeReached
  /-- COMMIT_PAUSE_END (R192): The pause applies the shadows and list, then resumes, orders a STAGED_ORDER or starts a restore. -/
  | commitPauseEnd
  /-- REFERENCE_LOST (R419): A lost reference starts CLOCK-WAIT within 100 ns and gates its derived clocks. -/
  | referenceLost (ref : Fin 2)
  /-- PLL_UNSTABLE (R419): An unstable PLL starts CLOCK-WAIT. -/
  | pllUnstable (pll : Fin 4)
  /-- HBM_PLL_GATE (R420): 2 µs after entry into CLOCK-WAIT, with the stacks in self-refresh, the HBM PLL is gated. -/
  | hbmPllGate
  /-- CLOCK_WAIT_END (R423): Once the references and PLLs are stable, every gated clock restarts and the interrupted DC continues. -/
  | clockWaitEnd (us : BitVec 32)
  /-- PLL_RELOCK_FAIL (R423): A PLL not stable after 3 attempts raises a clock fault. -/
  | pllRelockFail (pll : Fin 4)
  /-- STEP_MUX_SWITCH (R424): The STEP or CORE multiplexer switches divider paths glitch-free, forced after 16 cycles. -/
  | stepMuxSwitch (core : Bool) (forced : Bool)
  /-- RAIL_TARGET_REACHED (R426): All rails report their targets and the point sequencer changes the divider or becomes STEADY. -/
  | railTargetReached (rail : Fin 4)
  /-- RAMP_LIMIT_EXPIRY (R427): A rail not at target within RAMP_LIMIT raises a power fault. -/
  | rampLimitExpiry (rail : Fin 4)
  /-- AVSBUS_POLL (R428): Every 10 µs each AVSBus master reads current and status, repeating a failed frame up to 3 times. -/
  | avsbusPoll (rail : Fin 4) (mv : BitVec 16) (fails : Nat)
  /-- BROWN_OUT_WARNING (R429): A rail below 95 % for the filter halves the step clock, or for a hub rail both clocks. -/
  | brownOutWarning (rail : RailIx) (mv : BitVec 16)
  /-- BROWN_OUT_WARNING_END (R429): A rail at or above 96 % for 50 µs ends the warning. -/
  | brownOutWarningEnd (rail : RailIx) (mv : BitVec 16)
  /-- BROWN_OUT_RESET_LEVEL (R429): A rail below 90 % for the reset filter causes a die, hub or power-on reset. -/
  | brownOutResetLevel (rail : RailIx) (mv : BitVec 16)
  /-- POWER_SAMPLE (R430): Each 10 µs power sample may start or end the power halving. -/
  | powerSample (watts : BitVec 16)
  /-- THERMAL_SAMPLE (R430): A junction sensor at TJ_THROTTLE starts the thermal halving. -/
  | thermalSample (temp : BitVec 16)
  /-- HALVE_END (R431): The step clock returns to full speed in the first opening after every halving cause ends. -/
  | halveEnd
  /-- THERMAL_SHUTDOWN (R432): A sensor at 105 °C stops the clocks, abandons the DC and gates the dies and cores. -/
  | thermalShutdown (die : Fin 5) (sensor : Fin 16) (temp : BitVec 16)
  /-- AGE_PLAN (R435): A write to AGE_PLAN, or each 1,000 powered hours, starts the margin plan. -/
  | agePlan (by_ : Option Master) (v : Byte)
  /-- AGE_PLAN_COMMIT (R436): The plan commits its voltage table and the point sequencer raises or withdraws P3. -/
  | agePlanCommit
  /-- PERSISTENT_STORE_WRITE (R406): The firmware writes the changed marks, voltage table and hours to the boot flash. -/
  | persistentStoreWrite
  /-- POWER_ON_RESET (R439): VDD_AUX at reset level resets everything except the flash and the fuses. -/
  | powerOnReset
  /-- MODULE_RESET_N (R439): MODULE_RESET_N low for 1 µs or more causes a warm reset. -/
  | moduleResetN (low : Bool) (ns : BitVec 32)
  /-- RESET_CMD_WARM (R442): RESET_CMD 0x5A02 orders a warm reset after the pending flash writes. -/
  | resetCmdWarm (m : Master)
  /-- RESET_CMD_MANAGEMENT (R442): RESET_CMD 0x5A01 orders a management reset. -/
  | resetCmdManagement (m : Master)
  /-- MANAGEMENT_WATCHDOG (R439): 1 s without a firmware kick causes a management reset. -/
  | managementWatchdog
  /-- DIE_RESET (R443): A die reset gates the die's domains and reloads its die memory. -/
  | dieReset (die : Die)
  /-- AUX_START_DONE (R448): The AUX reset is released and boot enters CLOCKS. -/
  | auxStartDone
  /-- CLOCKS_DONE (R448): The root PLL is stable, the time base starts and boot enters HUB_START. -/
  | clocksDone
  /-- HUB_START (R448): With MODULE_RESET_N high the straps are sampled and the Seam PLL and management clock start. -/
  | hubStart (moduleId : BitVec 10) (mgmtId : BitVec 7)
  /-- ROM_DONE (R448): The boot ROM verifies a firmware copy and starts it, or boot enters FAILED. -/
  | romDone (a : Option (BitVec 16)) (b : Option (BitVec 16))
  /-- FIRMWARE_DONE (R448): The firmware restores the persistent store and voltages and boot enters HBM. -/
  | firmwareDone (version : BitVec 32) (svn : Option (BitVec 16))
  /-- HBM_DONE (R448): HBM training and zeroing complete and the module enters STANDBY. -/
  | hbmDone (trained : Bool)
  /-- TEST_LOGIC_RESET (R454): Test-Logic-Reset loads IDCODE and ends any DACC access without result. -/
  | testLogicReset
  /-- EXTEST (R455): EXTEST makes the covered pads follow the boundary register. -/
  | extest (v : Option (BitVec 392))
  /-- SAMPLE_PRELOAD (R455): SAMPLE/PRELOAD selects the boundary register. -/
  | samplePreload (v : Option (BitVec 392))
  /-- IDCODE (R456): IDCODE selects the identification register. -/
  | idcode
  /-- CLAMP (R455): CLAMP holds the pads at the boundary register and selects bypass. -/
  | clamp
  /-- HIGHZ (R455): HIGHZ disables the covered outputs and selects bypass. -/
  | highz
  /-- BYPASS (R455): BYPASS selects the 1-bit bypass register. -/
  | bypass
  /-- DSTAT (R456): DSTAT captures the life-cycle, clock, boot and access status. -/
  | dstat
  /-- DACC_READ (R462): A DACC READ reads the dictionary, the system bus or a core debug register, as a peek unless CONSUME is set. -/
  | daccRead (consume : Bool) (space : Fin 4) (size : Fin 8) (addr : BitVec 40)
  /-- DACC_WRITE (R458): A DACC WRITE writes the dictionary, the system bus or a core debug register. -/
  | daccWrite (space : Fin 4) (size : Fin 8) (addr : BitVec 40) (data : BitVec 64)
  /-- DACC_CAPTURE (R459): Capture-DR returns the status and data of the last completed access. -/
  | daccCapture
  /-- HALTREQ (R464): HALTREQ stops a core issuing, deferred during a locked sequence. -/
  | haltreq (core : CoreIx)
  /-- RESUMEREQ (R466): RESUMEREQ resumes a halted core, or executes one instruction when STEP is set. -/
  | resumereq (core : CoreIx)
  /-- CLR_BROKE (R465): CLR_BROKE clears HALT_BROKE_LOCK. -/
  | clrBroke (core : CoreIx)
  /-- HALT_DEFER_LIMIT (R465): A deferred halt takes effect after 4,096 core cycles and breaks the reservation. -/
  | haltDeferLimit (core : CoreIx)
  /-- CORE_HALTED (R464): The last issued instruction retires, HALTED is set and a halt link may order a design HOLD. -/
  | coreHalted (core : CoreIx) (cycles : BitVec 13)
  /-- DHALT (R469): A write of 1 to DHALT is a HOLD order with stop cause DEBUG. -/
  | dhalt (m : Master) (v : Byte)
  /-- VT_TX (R471): A debug read of VT_TX returns the oldest transmitted byte, removing it only with CONSUME. -/
  | vtTx (core : CoreIx) (consume : Bool)
  /-- VT_RX (R471): A debug write to VT_RX pushes a byte onto the core's receive FIFO, or completes FULL. -/
  | vtRx (core : CoreIx) (value : Option Byte)
  /-- FL_CMD_PROGRAM (R472): FL_CMD 1 programs a 256-byte flash page from the page buffer. -/
  | flCmdProgram (m : Master)
  /-- FL_CMD_ERASE (R472): FL_CMD 2 erases a 4 KiB flash sector. -/
  | flCmdErase (m : Master)
  /-- FL_DONE (R472): A flash program or erase completes with DONE or FAILED. -/
  | flDone (verified : Bool)
  /-- LC_REQ (R479): A life-cycle request through LC_REQ or LCREQ is verified and accepted or refused. -/
  | lcReq (by_ : Option Master) (target : Byte) (sig : BitVec 768)
  /-- LC_TRANSITION_DONE (R480): The fuses are written, after the RETURN erasure where required, and LC_STATE takes the new value. -/
  | lcTransitionDone
  /-- KEY_CMD_INSTALL_IMAGE_KEY (R481): KEY_CMD 1 installs an AES-256 image key into a slot. -/
  | keyCmdInstallImageKey (m : Master)
  /-- KEY_CMD_INSTALL_SIGNING_KEY (R481): KEY_CMD 2 installs a P-384 signing key into a slot. -/
  | keyCmdInstallSigningKey (m : Master)
  /-- KEY_CMD_SET_OWNER_KEY (R481): KEY_CMD 3 sets the owner key. -/
  | keyCmdSetOwnerKey (m : Master)
  /-- KEY_CMD_REVOKE (R481): KEY_CMD 4 revokes a slot of the kind in KEY_KIND. -/
  | keyCmdRevoke (m : Master)
  /-- ABANDON_OPENING (R491): After a fault at or after the exchange instant, the module opens DC k+1 itself without tokens so as to abandon it. -/
  | abandonOpening
  /-- ABANDON_HOLD (R492): Once the Quarry queues and tags have drained, the abandoned DC's opening is repeated and the module holds with cause FAULT. -/
  | abandonHold
  /-- CAN_ERROR_PASSIVE (R389): The CAN FD controller enters error-passive and sets bit 4 of ERROR_REGISTER. -/
  | canErrorPassive (tec : BitVec 8) (rec_ : BitVec 8)
  /-- AGEING_SENSOR_REPORT (R435): Once every second each ageing sensor reports its degradation in ppm, updating AGE_PPM and AGE_WORST. -/
  | ageingSensorReport (die : Die) (pc : Pc) (a : BitVec 32) (b : BitVec 32) (c : BitVec 32) (d : BitVec 32)
  /-- REGION_FREQ_MEASURE (R370): Every 1 ms each fabric region's output frequency is measured into REGION_FREQ. -/
  | regionFreqMeasure (region : RegionIx) (khz : BitVec 32)
  /-- JUDGING_WINDOW_END (R418): At the end of each 8.192 µs judging window the clock monitor updates REF_STATE, PLL_STATE and the measured reference frequencies. -/
  | judgingWindowEnd (sysKhz : BitVec 32) (pcieKhz : BitVec 32) (plls : BitVec 4)
  /-- REGION_LOSS_END (R352): The next rising edge of a lost region clears its CLK_LOST bit and ends cause REGION_LOST for its pads. -/
  | regionLossEnd (region : RegionIx)
deriving DecidableEq, Repr

end Sys2Proof
end

