-- ==== Sys2Proof/Decode.lean ====
section
/-!
DEFINITION. The commands that a word spells by the bits of the opcode table. No row of the table has bits: the module's commands are register
accesses, protocol operations and events, so every word is refused.
-/

namespace Sys2Proof

/-- The command that an `nbits`-bit word spells: none. -/
def decodeTableWord (_nbits _w : Nat) : Option Instr := none

end Sys2Proof
end

