-- ==== Sys2Proof/Config.lean ====
section
/-!
DEFINITION. The free values: constants without a body that stand for what the spec leaves unpredictable, unspecified or
outside its own arithmetic. A statement about one holds whatever it is. `State.fresh` numbers the draws.
-/

namespace Sys2Proof.Config

/-- A bit the spec leaves unpredictable (R50), by draw. -/
opaque freeBit : Nat → Bool

/-- A number the spec leaves open, by draw; a use takes it modulo the width it needs. -/
opaque freeNat : Nat → Nat

/-- Bytes the spec leaves unpredictable (R150), by draw and address. -/
opaque freeByte : Nat → Nat → Byte

/-- The first resource at which a fabric container's CONFIG frames fail their check bits or address nothing (Table 16-6, code
0x000B): the frames' format is not published. -/
opaque fabFrameFault : List Byte → Option Nat

/-- The first resource whose select in CONFIG disagrees with the DRIVERS section (Table 16-6, code 0x000D): container, drivers. -/
opaque fabDriverFault : List Byte → List Byte → Option Nat

/-- What the CONFIG frames say of the fabric's resources (16, Configuration: the content is not published): the source that a resource's
multiplexer selects, a cell, a block RAM port and the initial bits of a block. -/
opaque fabSelect : List Byte → Nat → FabSource
opaque fabCell : List Byte → Nat → CellConf
opaque fabPort : List Byte → Nat → PortConf
opaque fabRam : List Byte → Nat → Nat → Bool

/-- The RESOURCE numbers of a pad's output and output enable in DRIVERS records (R348, Table 16-6): the fabric tools' numbering. -/
opaque padOutput : Nat → Nat
opaque padEnable : Nat → Nat

/-- The bank of an HBM address that per-bank refresh names (R141, R145). -/
opaque hbmBank : Nat → Nat

/-- The maker key (R477). -/
opaque makerKey : List Byte

/-- The manufacturer identity in IDCODE (R456), which the spec does not give. -/
opaque manufacturer : Nat

/-- The entropy source (R229, R479), by draw. -/
opaque entropy : Nat → Nat

end Sys2Proof.Config
end

