-- ==== Sys2Proof/Machine/Objects.lean ====
section
/-!
DEFINITION. The names of the dictionary objects. An object's key is `index * 256 + subindex`; an object of a repeated index
takes the index offset as its argument, and one of a run of subindices takes its place in the run.
-/

namespace Sys2Proof.Machine

/-- The access kinds of Table 17-2. -/
inductive Access where
  | const | ro | wo | rw | rws
deriving DecidableEq, Repr

/-- One line of an object table: first and last subindex, width, access, default, least and greatest value, and whether a
write of any value clears it (R400). -/
structure Row where
  s0 : Nat
  s1 : Nat
  width : Nat
  acc : Access
  dflt : Nat
  lo : Nat
  hi : Nat
  clears : Bool
deriving DecidableEq, Repr

/-- The lines of one index, or of a run of equal indices. -/
structure Group where
  i0 : Nat
  i1 : Nat
  rows : List Row
deriving DecidableEq, Repr

/-- 0x1000.00 (Table 17-12). -/
@[reducible] def O.DEVICE_TYPE : Nat := 0x100000
/-- 0x1001.00 (Table 17-12). -/
@[reducible] def O.ERROR_REGISTER : Nat := 0x100100
/-- 0x1003.00 (Table 17-12). -/
@[reducible] def O.ERROR_COUNT : Nat := 0x100300
/-- 0x1003.01 and on (Table 17-12). -/
@[reducible] def O.ERROR_FIELD (n : Nat) : Nat := 0x1003 * 256 + 0x01 + n
/-- 0x1014.00 (Table 17-12). -/
@[reducible] def O.COB_ID_EMCY : Nat := 0x101400
/-- 0x1015.00 (Table 17-12). -/
@[reducible] def O.INHIBIT_EMCY : Nat := 0x101500
/-- 0x1017.00 (Table 17-12). -/
@[reducible] def O.HEARTBEAT_TIME : Nat := 0x101700
/-- 0x1018.01 (Table 17-12). -/
@[reducible] def O.VENDOR_ID : Nat := 0x101801
/-- 0x1018.02 (Table 17-12). -/
@[reducible] def O.PRODUCT_CODE : Nat := 0x101802
/-- 0x1018.03 (Table 17-12). -/
@[reducible] def O.REVISION : Nat := 0x101803
/-- 0x1018.04 (Table 17-12). -/
@[reducible] def O.CIA_SERIAL : Nat := 0x101804
/-- 0x1200.01 (Table 17-12). -/
@[reducible] def O.SDO_RX_COB : Nat := 0x120001
/-- 0x1200.02 (Table 17-12). -/
@[reducible] def O.SDO_TX_COB : Nat := 0x120002
/-- 0x2000.01 (Table 18-2). -/
@[reducible] def O.OFFERED_0 : Nat := 0x200001
/-- 0x2000.02 and on (Table 18-2). -/
@[reducible] def O.OFFERED_X (n : Nat) : Nat := 0x2000 * 256 + 0x02 + n
/-- 0x2000.05 (Table 18-2). -/
@[reducible] def O.ACCEPTED_0 : Nat := 0x200005
/-- 0x2000.06 and on (Table 18-2). -/
@[reducible] def O.ACCEPTED_X (n : Nat) : Nat := 0x2000 * 256 + 0x06 + n
/-- 0x2000.09 (Table 18-2). -/
@[reducible] def O.MODULE_ID : Nat := 0x200009
/-- 0x2000.0A (Table 18-2). -/
@[reducible] def O.STEPPING : Nat := 0x20000A
/-- 0x2000.0B (Table 18-2). -/
@[reducible] def O.PRODUCT : Nat := 0x20000B
/-- 0x2000.0C (Table 18-2). -/
@[reducible] def O.VARIANT : Nat := 0x20000C
/-- 0x2000.0D (Table 18-2). -/
@[reducible] def O.ID_SERIAL : Nat := 0x20000D
/-- 0x2000.0E (Table 18-2). -/
@[reducible] def O.FW_VERSION : Nat := 0x20000E
/-- 0x2000.0F (Table 18-2). -/
@[reducible] def O.FORMATS : Nat := 0x20000F
/-- 0x2000.10 (Table 18-2). -/
@[reducible] def O.DICT_VERSION : Nat := 0x200010
/-- 0x2030.01 (Table 04-8). -/
@[reducible] def O.LAT_LOCAL : Nat := 0x203001
/-- 0x2030.02 (Table 04-8). -/
@[reducible] def O.LAT_GROUP : Nat := 0x203002
/-- 0x2030.03 (Table 04-8). -/
@[reducible] def O.LAT_ROUTE_OWN : Nat := 0x203003
/-- 0x2030.04 (Table 04-8). -/
@[reducible] def O.LAT_ROUTE_DIE : Nat := 0x203004
/-- 0x2030.05 (Table 04-8). -/
@[reducible] def O.LAT_SPINE_HOP : Nat := 0x203005
/-- 0x2030.06 (Table 04-8). -/
@[reducible] def O.LAT_DIE_TO_DIE : Nat := 0x203006
/-- 0x2030.07 (Table 04-8). -/
@[reducible] def O.LAT_MODULE : Nat := 0x203007
/-- 0x2030.08 (Table 04-8). -/
@[reducible] def O.LAT_SEAM_HOP : Nat := 0x203008
/-- 0x2030.09 (Table 04-8). -/
@[reducible] def O.LAT_CHAIN : Nat := 0x203009
/-- 0x2030.0A (Table 04-8). -/
@[reducible] def O.LAT_MRD_CLUSTER : Nat := 0x20300A
/-- 0x2030.0B (Table 04-8). -/
@[reducible] def O.LAT_MRD_QUARRY : Nat := 0x20300B
/-- 0x2030.0C (Table 04-8). -/
@[reducible] def O.LAT_ADDR_GO : Nat := 0x20300C
/-- 0x2030.0D (Table 04-8). -/
@[reducible] def O.LAT_MWR_SAME : Nat := 0x20300D
/-- 0x2030.0E (Table 04-8). -/
@[reducible] def O.LAT_MWR_OTHER : Nat := 0x20300E
/-- 0x2100.01 (Table 08-2). -/
@[reducible] def O.MODE : Nat := 0x210001
/-- 0x2100.02 (Table 08-2). -/
@[reducible] def O.CLOCK_WAIT : Nat := 0x210002
/-- 0x2100.03 (Table 08-2). -/
@[reducible] def O.RUN_CMD : Nat := 0x210003
/-- 0x2100.04 (Table 08-2). -/
@[reducible] def O.STEP_COUNT : Nat := 0x210004
/-- 0x2100.05 (Table 08-2). -/
@[reducible] def O.STEP_REMAIN : Nat := 0x210005
/-- 0x2100.06 (Table 08-2). -/
@[reducible] def O.STAGED_ORDER : Nat := 0x210006
/-- 0x2100.07 (Table 08-2). -/
@[reducible] def O.MODE_PREVIOUS : Nat := 0x210007
/-- 0x2100.08 (Table 08-2). -/
@[reducible] def O.ORDER_RESULT_DBG : Nat := 0x210008
/-- 0x2100.09 (Table 08-2). -/
@[reducible] def O.ORDER_RESULT_PCIE : Nat := 0x210009
/-- 0x2100.0A (Table 08-2). -/
@[reducible] def O.ORDER_RESULT_CAN : Nat := 0x21000A
/-- 0x2100.0B (Table 08-2). -/
@[reducible] def O.ORDER_RESULT_FW : Nat := 0x21000B
/-- 0x2100.0C (Table 08-2). -/
@[reducible] def O.STOP_CAUSE : Nat := 0x21000C
/-- 0x2100.0D (Table 08-2). -/
@[reducible] def O.STOP_CAUSES : Nat := 0x21000D
/-- 0x2100.0E (Table 08-2). -/
@[reducible] def O.STOP_DC : Nat := 0x21000E
/-- 0x2100.0F (Table 08-2). -/
@[reducible] def O.STOP_TIME : Nat := 0x21000F
/-- 0x2100.10 (Table 08-2). -/
@[reducible] def O.STOP_DETAIL : Nat := 0x210010
/-- 0x2100.11 (Table 08-2). -/
@[reducible] def O.STOP_MASTER : Nat := 0x210011
/-- 0x2100.12 (Table 08-2). -/
@[reducible] def O.STOPS : Nat := 0x210012
/-- 0x2100.13 (Table 08-2). -/
@[reducible] def O.DIAG_SEL : Nat := 0x210013
/-- 0x2100.14 (Table 08-2). -/
@[reducible] def O.DIAG_RESULT : Nat := 0x210014
/-- 0x2110.01 (Table 04-9). -/
@[reducible] def O.DC_NUMBER : Nat := 0x211001
/-- 0x2110.02 (Table 04-9). -/
@[reducible] def O.DEPTH : Nat := 0x211002
/-- 0x2110.03 (Table 04-9). -/
@[reducible] def O.DC_PERIOD_LAST : Nat := 0x211003
/-- 0x2110.04 (Table 04-9). -/
@[reducible] def O.DC_PERIOD_MAX : Nat := 0x211004
/-- 0x2110.05 (Table 04-9). -/
@[reducible] def O.SLUICE_WAIT_LAST : Nat := 0x211005
/-- 0x2110.06 (Table 04-9). -/
@[reducible] def O.HOLD_TOTAL : Nat := 0x211006
/-- 0x2110.07 (Table 04-9). -/
@[reducible] def O.HOLD_MAX : Nat := 0x211007
/-- 0x2110.08 (Table 04-9). -/
@[reducible] def O.HOLD_MAX_WHERE : Nat := 0x211008
/-- 0x2110.09 (Table 04-9). -/
@[reducible] def O.HOLD_MAX_DC : Nat := 0x211009
/-- 0x2110.0A (Table 04-9). -/
@[reducible] def O.LAT_RESULT : Nat := 0x21100A
/-- 0x2110.0B (Table 04-9). -/
@[reducible] def O.LAT_SLOWER_MAP : Nat := 0x21100B
/-- 0x2110.0C (Table 04-9). -/
@[reducible] def O.OVERRUN_LIMIT : Nat := 0x21100C
/-- 0x2120.01 (Table 07-9). -/
@[reducible] def O.LOAD_CMD : Nat := 0x212001
/-- 0x2120.02 (Table 07-9). -/
@[reducible] def O.IMAGE_HOST_ADDR : Nat := 0x212002
/-- 0x2120.03 (Table 07-9). -/
@[reducible] def O.IMAGE_BYTES : Nat := 0x212003
/-- 0x2120.04 (Table 07-9). -/
@[reducible] def O.LOAD_STATE : Nat := 0x212004
/-- 0x2120.05 (Table 07-9). -/
@[reducible] def O.REFUSE_CAUSE : Nat := 0x212005
/-- 0x2120.06 (Table 07-9). -/
@[reducible] def O.REFUSE_DETAIL : Nat := 0x212006
/-- 0x2120.07 (Table 07-9). -/
@[reducible] def O.ABORT_RESULT : Nat := 0x212007
/-- 0x2120.08 (Table 07-9). -/
@[reducible] def O.SYSTEM_ID_LO : Nat := 0x212008
/-- 0x2120.09 (Table 07-9). -/
@[reducible] def O.SYSTEM_ID_HI : Nat := 0x212009
/-- 0x2120.0A (Table 07-9). -/
@[reducible] def O.MODULE_INDEX : Nat := 0x21200A
/-- 0x2120.0B (Table 07-9). -/
@[reducible] def O.MODULE_COUNT : Nat := 0x21200B
/-- 0x2120.0C (Table 07-9). -/
@[reducible] def O.LOADED_FLAGS : Nat := 0x21200C
/-- 0x2121.01 and on (Table 07-9). -/
@[reducible] def O.LO_MODMAP (n : Nat) : Nat := 0x2121 * 256 + 0x01 + n
/-- 0x2122.01 and on (Table 07-9). -/
@[reducible] def O.HI_MODMAP (n : Nat) : Nat := 0x2122 * 256 + 0x01 + n
/-- 0x2200.01 (Table 08-6). -/
@[reducible] def O.CHECK : Nat := 0x220001
/-- 0x2200.02 (Table 08-6). -/
@[reducible] def O.CHECK_RESULT : Nat := 0x220002
/-- 0x2200.03 (Table 08-6). -/
@[reducible] def O.COMMIT : Nat := 0x220003
/-- 0x2200.04 (Table 08-6). -/
@[reducible] def O.COMMIT_AT_TIME : Nat := 0x220004
/-- 0x2200.05 (Table 08-6). -/
@[reducible] def O.COMMIT_AT_DC : Nat := 0x220005
/-- 0x2200.06 (Table 08-6). -/
@[reducible] def O.DISCARD : Nat := 0x220006
/-- 0x2200.07 (Table 08-6). -/
@[reducible] def O.STAGE_STATE : Nat := 0x220007
/-- 0x2200.08 (Table 08-6). -/
@[reducible] def O.CHECK_DETAIL : Nat := 0x220008
/-- 0x2200.09 (Table 08-6). -/
@[reducible] def O.COMMIT_RESULT : Nat := 0x220009
/-- 0x2200.0A (Table 08-6). -/
@[reducible] def O.COMMIT_DONE_DC : Nat := 0x22000A
/-- 0x2200.0B (Table 08-6). -/
@[reducible] def O.STAGE_LIST_ADDR : Nat := 0x22000B
/-- 0x2200.0C (Table 08-6). -/
@[reducible] def O.STAGE_LIST_RECORDS : Nat := 0x22000C
/-- 0x2200.0D (Table 08-6). -/
@[reducible] def O.DISCARD_RESULT : Nat := 0x22000D
/-- 0x2400.01 (Table 18-5). -/
@[reducible] def O.SPARES_FREE : Nat := 0x240001
/-- 0x2400.02 (Table 18-5). -/
@[reducible] def O.FAILED_COUNT : Nat := 0x240002
/-- 0x2400.03 (Table 18-5). -/
@[reducible] def O.ISOLATED_COUNT : Nat := 0x240003
/-- 0x2400.04 (Table 18-5). -/
@[reducible] def O.REMAPS : Nat := 0x240004
/-- 0x2400.05 (Table 18-5). -/
@[reducible] def O.FAIL_SET : Nat := 0x240005
/-- 0x2400.06 (Table 18-5). -/
@[reducible] def O.FAIL_CLEAR : Nat := 0x240006
/-- 0x2401.01 and on (R409). -/
@[reducible] def O.STATUS_WORD (i n : Nat) : Nat := (0x2401 + i) * 256 + 0x01 + n
/-- 0x2410.01 and on (R168). -/
@[reducible] def O.BINDING (i n : Nat) : Nat := (0x2410 + i) * 256 + 0x01 + n
/-- 0x2420.01 (Table 18-8). -/
@[reducible] def O.CTR_SEL : Nat := 0x242001
/-- 0x2420.02 and on (Table 18-8). -/
@[reducible] def O.CTR (n : Nat) : Nat := 0x2420 * 256 + 0x02 + n
/-- 0x2480.01 (Table 06-6). -/
@[reducible] def O.QUARRY_SIZE : Nat := 0x248001
/-- 0x2480.02 (Table 06-6). -/
@[reducible] def O.OVB_SIZE : Nat := 0x248002
/-- 0x2480.03 (Table 06-6). -/
@[reducible] def O.SPOIL_SIZE : Nat := 0x248003
/-- 0x2480.04 (Table 06-6). -/
@[reducible] def O.PEAT_COUNT : Nat := 0x248004
/-- 0x2480.05 (Table 06-6). -/
@[reducible] def O.QUARRY_BASE : Nat := 0x248005
/-- 0x2480.06 (Table 06-6). -/
@[reducible] def O.OVB_BASE : Nat := 0x248006
/-- 0x2480.07 (Table 06-6). -/
@[reducible] def O.SPOIL_BASE : Nat := 0x248007
/-- 0x2480.08 (Table 06-6). -/
@[reducible] def O.PEAT_BASE : Nat := 0x248008
/-- 0x2480.09 (Table 06-6). -/
@[reducible] def O.SYSTEM_BASE : Nat := 0x248009
/-- 0x2480.0A (Table 06-6). -/
@[reducible] def O.FREE : Nat := 0x24800A
/-- 0x2481.01 (Table 06-7). -/
@[reducible] def O.QRY_READS : Nat := 0x248101
/-- 0x2481.02 (Table 06-7). -/
@[reducible] def O.QRY_WRITES : Nat := 0x248102
/-- 0x2481.03 (Table 06-7). -/
@[reducible] def O.QRY_LATE : Nat := 0x248103
/-- 0x2481.04 (Table 06-7). -/
@[reducible] def O.QRY_LAT_MAX : Nat := 0x248104
/-- 0x2481.05 (Table 06-7). -/
@[reducible] def O.REFRESH_WAITS : Nat := 0x248105
/-- 0x2481.06 (Table 06-7). -/
@[reducible] def O.HBM_CORRECTED : Nat := 0x248106
/-- 0x2481.07 (Table 06-7). -/
@[reducible] def O.HBM_UNCORRECTED : Nat := 0x248107
/-- 0x2481.08 (Table 06-7). -/
@[reducible] def O.OVB_RECORDS : Nat := 0x248108
/-- 0x2481.09 (Table 06-7). -/
@[reducible] def O.OVB_OLDEST_DC : Nat := 0x248109
/-- 0x2481.0A (Table 06-7). -/
@[reducible] def O.HBM_SCRUB_PASSES : Nat := 0x24810A
/-- 0x2481.0B (Table 06-7). -/
@[reducible] def O.REFRESH_WAIT_MAX : Nat := 0x24810B
/-- 0x2500.01 and on (R132). -/
@[reducible] def O.PORT_DESC (i n : Nat) : Nat := (0x2500 + i) * 256 + 0x01 + n
/-- 0x2800.01 (Table 19-6). -/
@[reducible] def O.OP_TARGET : Nat := 0x280001
/-- 0x2800.02 (Table 19-6). -/
@[reducible] def O.OP_CURRENT : Nat := 0x280002
/-- 0x2800.03 (Table 19-6). -/
@[reducible] def O.OP_STATE : Nat := 0x280003
/-- 0x2800.04 (Table 19-6). -/
@[reducible] def O.OP_CHANGES : Nat := 0x280004
/-- 0x2800.05 (Table 19-6). -/
@[reducible] def O.P3_AVAILABLE : Nat := 0x280005
/-- 0x2800.06 (Table 19-6). -/
@[reducible] def O.POWER_LIMIT : Nat := 0x280006
/-- 0x2800.07 (Table 19-6). -/
@[reducible] def O.POWER_NOW : Nat := 0x280007
/-- 0x2800.08 (Table 19-6). -/
@[reducible] def O.POWER_MAX : Nat := 0x280008
/-- 0x2800.09 (Table 19-6). -/
@[reducible] def O.HALVED_DCS : Nat := 0x280009
/-- 0x2800.0A (Table 19-6). -/
@[reducible] def O.RAMP_LIMIT : Nat := 0x28000A
/-- 0x2800.0B (Table 19-6). -/
@[reducible] def O.TJ_HOT : Nat := 0x28000B
/-- 0x2800.0C (Table 19-6). -/
@[reducible] def O.TJ_THROTTLE : Nat := 0x28000C
/-- 0x2800.0D (Table 19-6). -/
@[reducible] def O.IDLE_GATE : Nat := 0x28000D
/-- 0x2800.0E (Table 19-6). -/
@[reducible] def O.DOMAINS_ON : Nat := 0x28000E
/-- 0x2810.01 and on (Table 19-6). -/
@[reducible] def O.FREQ (i : Nat) : Nat := (0x2810 + i) * 256 + 0x01
/-- 0x2810.02 and on (Table 19-6). -/
@[reducible] def O.BASE_MV (i : Nat) : Nat := (0x2810 + i) * 256 + 0x02
/-- 0x2810.03 and on (Table 19-6). -/
@[reducible] def O.VOLT_E (i n : Nat) : Nat := (0x2810 + i) * 256 + 0x03 + n
/-- 0x2820.01 and on (Table 19-6). -/
@[reducible] def O.BO_STATE (n : Nat) : Nat := 0x2820 * 256 + 0x01 + n
/-- 0x2821.01 and on (Table 19-6). -/
@[reducible] def O.BO_WARNINGS (n : Nat) : Nat := 0x2821 * 256 + 0x01 + n
/-- 0x2822.01 and on (Table 19-6). -/
@[reducible] def O.BO_RESETS (n : Nat) : Nat := 0x2822 * 256 + 0x01 + n
/-- 0x2823.01 and on (Table 19-6). -/
@[reducible] def O.RAIL_MV (n : Nat) : Nat := 0x2823 * 256 + 0x01 + n
/-- 0x2830.01 (Table 19-6). -/
@[reducible] def O.AGE_PLAN : Nat := 0x283001
/-- 0x2830.02 (Table 19-6). -/
@[reducible] def O.AGE_STATE : Nat := 0x283002
/-- 0x2830.03 (Table 19-6). -/
@[reducible] def O.AGE_RESULT : Nat := 0x283003
/-- 0x2830.04 (Table 19-6). -/
@[reducible] def O.POWER_HOURS : Nat := 0x283004
/-- 0x2830.05 (Table 19-6). -/
@[reducible] def O.AGE_LAST_HOURS : Nat := 0x283005
/-- 0x2830.06 (Table 19-6). -/
@[reducible] def O.AGE_WORST : Nat := 0x283006
/-- 0x2830.07 (Table 19-6). -/
@[reducible] def O.AGE_WORST_WHERE : Nat := 0x283007
/-- 0x2840.01 and on (Table 19-6). -/
@[reducible] def O.AGE_PPM (i n : Nat) : Nat := (0x2840 + i) * 256 + 0x01 + n
/-- 0x2A00.01 (Table 19-7). -/
@[reducible] def O.REF_STATE : Nat := 0x2A0001
/-- 0x2A00.02 (Table 19-7). -/
@[reducible] def O.PLL_STATE : Nat := 0x2A0002
/-- 0x2A00.03 (Table 19-7). -/
@[reducible] def O.SYS_REF_FREQ : Nat := 0x2A0003
/-- 0x2A00.04 (Table 19-7). -/
@[reducible] def O.PCIE_REF_FREQ : Nat := 0x2A0004
/-- 0x2A00.05 (Table 19-7). -/
@[reducible] def O.CW_ENTRIES : Nat := 0x2A0005
/-- 0x2A00.06 (Table 19-7). -/
@[reducible] def O.CW_LAST_CAUSE : Nat := 0x2A0006
/-- 0x2A00.07 (Table 19-7). -/
@[reducible] def O.CW_LAST_LENGTH : Nat := 0x2A0007
/-- 0x2A00.08 (Table 19-7). -/
@[reducible] def O.CLK_FORCED_HUB : Nat := 0x2A0008
/-- 0x2A00.09 (Table 19-7). -/
@[reducible] def O.STEP_DIV : Nat := 0x2A0009
/-- 0x2A00.0A (Table 19-7). -/
@[reducible] def O.HALVE_CAUSES : Nat := 0x2A000A
/-- 0x2C00.01 (Table 05-12). -/
@[reducible] def O.TAG_FREE_HUB : Nat := 0x2C0001
/-- 0x2C00.02 (Table 05-12). -/
@[reducible] def O.TAG_FREE_E : Nat := 0x2C0002
/-- 0x2C00.03 (Table 05-12). -/
@[reducible] def O.TAG_INFLIGHT_MAX : Nat := 0x2C0003
/-- 0x2C00.04 (Table 05-12). -/
@[reducible] def O.TAG_WAITS : Nat := 0x2C0004
/-- 0x2C00.05 (Table 05-12). -/
@[reducible] def O.RESP_TIMEOUT : Nat := 0x2C0005
/-- 0x2C00.06 (Table 05-12). -/
@[reducible] def O.RESP_TIMEOUTS : Nat := 0x2C0006
/-- 0x2C00.07 (Table 05-12). -/
@[reducible] def O.DISPLACED : Nat := 0x2C0007
/-- 0x2C00.08 (Table 05-12). -/
@[reducible] def O.SLOT_DISCARDS : Nat := 0x2C0008
/-- 0x2C00.09 (Table 05-12). -/
@[reducible] def O.ABSORBED : Nat := 0x2C0009
/-- 0x2C00.0A (Table 05-12). -/
@[reducible] def O.CW_WAKES : Nat := 0x2C000A
/-- 0x2C00.0B (Table 05-12). -/
@[reducible] def O.WAKE_FAILS : Nat := 0x2C000B
/-- 0x2C00.0C (Table 05-12). -/
@[reducible] def O.LINK_CORRECTED : Nat := 0x2C000C
/-- 0x2C00.0D (Table 05-12). -/
@[reducible] def O.LINK_FAULTS : Nat := 0x2C000D
/-- 0x2C00.0E (Table 05-12). -/
@[reducible] def O.WAKE_LIMIT : Nat := 0x2C000E
/-- 0x2C10.01 and on (Table 05-12). -/
@[reducible] def O.PORT_STATE (i n : Nat) : Nat := (0x2C10 + i) * 256 + 0x01 + n
/-- 0x2E00.01 (Table 09-7). -/
@[reducible] def O.LINK_ENABLE : Nat := 0x2E0001
/-- 0x2E00.02 (Table 09-7). -/
@[reducible] def O.LINKS_UP : Nat := 0x2E0002
/-- 0x2E00.03 (Table 09-7). -/
@[reducible] def O.RETRY_LIMIT : Nat := 0x2E0003
/-- 0x2E00.04 (Table 09-7). -/
@[reducible] def O.ACK_TIMEOUT : Nat := 0x2E0004
/-- 0x2E00.05 (Table 09-7). -/
@[reducible] def O.RESUME_LIMIT : Nat := 0x2E0005
/-- 0x2E00.06 (Table 09-7). -/
@[reducible] def O.DONE_DRAIN : Nat := 0x2E0006
/-- 0x2E00.07 (Table 09-7). -/
@[reducible] def O.SLOT_UNMATCHED : Nat := 0x2E0007
/-- 0x2E00.08 (Table 09-7). -/
@[reducible] def O.SLOT_STALE : Nat := 0x2E0008
/-- 0x2E00.09 (Table 09-7). -/
@[reducible] def O.XTRIG_ACCEPTED : Nat := 0x2E0009
/-- 0x2E10.01 and on (Table 09-7). -/
@[reducible] def O.LINK_STATE (i : Nat) : Nat := (0x2E10 + i) * 256 + 0x01
/-- 0x2E10.02 and on (Table 09-7). -/
@[reducible] def O.LANES_LOCKED (i : Nat) : Nat := (0x2E10 + i) * 256 + 0x02
/-- 0x2E10.03 and on (Table 09-7). -/
@[reducible] def O.PARTNER_ID (i : Nat) : Nat := (0x2E10 + i) * 256 + 0x03
/-- 0x2E10.04 and on (Table 09-7). -/
@[reducible] def O.PARTNER_LINK (i : Nat) : Nat := (0x2E10 + i) * 256 + 0x04
/-- 0x2E10.05 and on (Table 09-7). -/
@[reducible] def O.PARTNER_RUN (i : Nat) : Nat := (0x2E10 + i) * 256 + 0x05
/-- 0x2E10.06 and on (Table 09-7). -/
@[reducible] def O.CRC_FAILS (i : Nat) : Nat := (0x2E10 + i) * 256 + 0x06
/-- 0x2E10.07 and on (Table 09-7). -/
@[reducible] def O.RESENT (i : Nat) : Nat := (0x2E10 + i) * 256 + 0x07
/-- 0x2E10.08 and on (Table 09-7). -/
@[reducible] def O.DOWNS (i : Nat) : Nat := (0x2E10 + i) * 256 + 0x08
/-- 0x2E10.09 and on (Table 09-7). -/
@[reducible] def O.RESETS (i : Nat) : Nat := (0x2E10 + i) * 256 + 0x09
/-- 0x2E10.0A and on (Table 09-7). -/
@[reducible] def O.SKEW (i : Nat) : Nat := (0x2E10 + i) * 256 + 0x0A
/-- 0x2E10.0B and on (Table 09-7). -/
@[reducible] def O.STUFF_VIOLATIONS (i : Nat) : Nat := (0x2E10 + i) * 256 + 0x0B
/-- 0x3000.01 (Table 10-3). -/
@[reducible] def O.TIME_NS : Nat := 0x300001
/-- 0x3000.02 (Table 10-3). -/
@[reducible] def O.TIME_FRAC : Nat := 0x300002
/-- 0x3000.03 (Table 10-3). -/
@[reducible] def O.INCREMENT : Nat := 0x300003
/-- 0x3000.04 (Table 10-3). -/
@[reducible] def O.TIME_SET : Nat := 0x300004
/-- 0x3000.05 (Table 10-3). -/
@[reducible] def O.TB_STATE : Nat := 0x300005
/-- 0x3000.06 (Table 10-3). -/
@[reducible] def O.JOINED : Nat := 0x300006
/-- 0x3000.07 (Table 10-3). -/
@[reducible] def O.PRIORITY : Nat := 0x300007
/-- 0x3000.08 (Table 10-3). -/
@[reducible] def O.GM_ID : Nat := 0x300008
/-- 0x3000.09 (Table 10-3). -/
@[reducible] def O.STEPS : Nat := 0x300009
/-- 0x3000.0A (Table 10-3). -/
@[reducible] def O.PARENT_LINK : Nat := 0x30000A
/-- 0x3000.0B (Table 10-3). -/
@[reducible] def O.OFFSET_LAST : Nat := 0x30000B
/-- 0x3000.0C (Table 10-3). -/
@[reducible] def O.JUMP_THRESHOLD : Nat := 0x30000C
/-- 0x3000.0D (Table 10-3). -/
@[reducible] def O.JUMP_REFUSALS : Nat := 0x30000D
/-- 0x3000.0E (Table 10-3). -/
@[reducible] def O.HOLDOVER_CAUSE : Nat := 0x30000E
/-- 0x3000.0F (Table 10-3). -/
@[reducible] def O.SYNC_INTERVAL : Nat := 0x30000F
/-- 0x3000.10 (Table 10-3). -/
@[reducible] def O.PDELAY_INTERVAL : Nat := 0x300010
/-- 0x3000.11 (Table 10-3). -/
@[reducible] def O.REJOIN : Nat := 0x300011
/-- 0x3000.12 (Table 10-3). -/
@[reducible] def O.PPS_CTRL : Nat := 0x300012
/-- 0x3000.13 (Table 10-3). -/
@[reducible] def O.PPS_STATE : Nat := 0x300013
/-- 0x3000.14 (Table 10-3). -/
@[reducible] def O.PPS_IN_LAST : Nat := 0x300014
/-- 0x3000.15 (Table 10-3). -/
@[reducible] def O.PPS_OUT_WIDTH : Nat := 0x300015
/-- 0x3001.01 and on (Table 10-4). -/
@[reducible] def O.PATH_DELAY (n : Nat) : Nat := 0x3001 * 256 + 0x01 + n
/-- 0x3010.01 (Table 11-4). -/
@[reducible] def O.TIED_STATE : Nat := 0x301001
/-- 0x3010.02 (Table 11-4). -/
@[reducible] def O.SLIP_POLICY : Nat := 0x301002
/-- 0x3010.03 (Table 11-4). -/
@[reducible] def O.SLIP_WEIGHT : Nat := 0x301003
/-- 0x3010.04 (Table 11-4). -/
@[reducible] def O.TIED_EPOCH : Nat := 0x301004
/-- 0x3010.05 (Table 11-4). -/
@[reducible] def O.ANCHOR : Nat := 0x301005
/-- 0x3010.06 (Table 11-4). -/
@[reducible] def O.START_LAST : Nat := 0x301006
/-- 0x3010.07 (Table 11-4). -/
@[reducible] def O.END_CAUSE : Nat := 0x301007
/-- 0x3010.08 (Table 11-4). -/
@[reducible] def O.HOLD_OUTPUTS : Nat := 0x301008
/-- 0x3010.09 (Table 11-4). -/
@[reducible] def O.TIED_DCS : Nat := 0x301009
/-- 0x3010.0A (Table 11-4). -/
@[reducible] def O.TB_HOLDOVER : Nat := 0x30100A
/-- 0x3020.01 and on (Table 11-5). -/
@[reducible] def O.DOMAIN (i : Nat) : Nat := (0x3020 + i) * 256 + 0x01
/-- 0x3020.02 and on (Table 11-5). -/
@[reducible] def O.PERIOD (i : Nat) : Nat := (0x3020 + i) * 256 + 0x02
/-- 0x3020.03 and on (Table 11-5). -/
@[reducible] def O.PHASE (i : Nat) : Nat := (0x3020 + i) * 256 + 0x03
/-- 0x3020.04 and on (Table 11-5). -/
@[reducible] def O.OUT_LATENCY (i : Nat) : Nat := (0x3020 + i) * 256 + 0x04
/-- 0x3020.05 and on (Table 11-5). -/
@[reducible] def O.NEXT_EDGE (i : Nat) : Nat := (0x3020 + i) * 256 + 0x05
/-- 0x3020.06 and on (Table 11-5). -/
@[reducible] def O.EDGES (i : Nat) : Nat := (0x3020 + i) * 256 + 0x06
/-- 0x3020.07 and on (Table 11-5). -/
@[reducible] def O.SLIPPED (i : Nat) : Nat := (0x3020 + i) * 256 + 0x07
/-- 0x3020.08 and on (Table 11-5). -/
@[reducible] def O.BUCKET (i : Nat) : Nat := (0x3020 + i) * 256 + 0x08
/-- 0x3020.09 and on (Table 11-5). -/
@[reducible] def O.SLIP_BUDGET (i : Nat) : Nat := (0x3020 + i) * 256 + 0x09
/-- 0x3020.0A and on (Table 11-5). -/
@[reducible] def O.LAG_MAX (i : Nat) : Nat := (0x3020 + i) * 256 + 0x0A
/-- 0x3020.0B and on (Table 11-5). -/
@[reducible] def O.OUT_LATE (i : Nat) : Nat := (0x3020 + i) * 256 + 0x0B
/-- 0x3020.0C and on (Table 11-5). -/
@[reducible] def O.SAMPLE_TIME (i : Nat) : Nat := (0x3020 + i) * 256 + 0x0C
/-- 0x3020.0D and on (Table 11-5). -/
@[reducible] def O.OUT_TIME (i : Nat) : Nat := (0x3020 + i) * 256 + 0x0D
/-- 0x3020.0E and on (Table 11-5). -/
@[reducible] def O.IO (i : Nat) : Nat := (0x3020 + i) * 256 + 0x0E
/-- 0x3200.01 (Table 14-8). -/
@[reducible] def O.TRG_ENABLE : Nat := 0x320001
/-- 0x3200.02 (Table 14-8). -/
@[reducible] def O.REARM : Nat := 0x320002
/-- 0x3200.03 (Table 14-8). -/
@[reducible] def O.SEQ_STATE : Nat := 0x320003
/-- 0x3200.04 (Table 14-8). -/
@[reducible] def O.EVALUATIONS : Nat := 0x320004
/-- 0x3200.05 (Table 14-8). -/
@[reducible] def O.LAST_TAKEN_DC : Nat := 0x320005
/-- 0x3200.06 (Table 14-8). -/
@[reducible] def O.LAST_TERMS_LO : Nat := 0x320006
/-- 0x3200.07 (Table 14-8). -/
@[reducible] def O.LAST_TERMS_HI : Nat := 0x320007
/-- 0x3200.08 (Table 14-8). -/
@[reducible] def O.XTRIG_STOP_LINES : Nat := 0x320008
/-- 0x3200.09 (Table 14-8). -/
@[reducible] def O.STOP_FORWARD_LINES : Nat := 0x320009
/-- 0x3200.0A (Table 14-8). -/
@[reducible] def O.TRIGGER_STOPS : Nat := 0x32000A
/-- 0x3200.0B (Table 14-8). -/
@[reducible] def O.XTRIG_SENT : Nat := 0x32000B
/-- 0x3210.01 and on (Table 14-8). -/
@[reducible] def O.CMP_CTRL (i : Nat) : Nat := (0x3210 + i) * 256 + 0x01
/-- 0x3210.02 and on (Table 14-8). -/
@[reducible] def O.CMP_VALUE (i : Nat) : Nat := (0x3210 + i) * 256 + 0x02
/-- 0x3210.03 and on (Table 14-8). -/
@[reducible] def O.CMP_MASK (i : Nat) : Nat := (0x3210 + i) * 256 + 0x03
/-- 0x3210.04 and on (Table 14-8). -/
@[reducible] def O.CMP_HOLDOFF (i : Nat) : Nat := (0x3210 + i) * 256 + 0x04
/-- 0x3210.05 and on (Table 14-8). -/
@[reducible] def O.CMP_STATE (i : Nat) : Nat := (0x3210 + i) * 256 + 0x05
/-- 0x3210.06 and on (Table 14-8). -/
@[reducible] def O.CMP_FIRES (i : Nat) : Nat := (0x3210 + i) * 256 + 0x06
/-- 0x3250.01 and on (Table 14-8). -/
@[reducible] def O.SEQ_SEL_LO_A (i : Nat) : Nat := (0x3250 + i) * 256 + 0x01
/-- 0x3250.02 and on (Table 14-8). -/
@[reducible] def O.SEQ_SEL_HI_A (i : Nat) : Nat := (0x3250 + i) * 256 + 0x02
/-- 0x3250.03 and on (Table 14-8). -/
@[reducible] def O.SEQ_CTRL_A (i : Nat) : Nat := (0x3250 + i) * 256 + 0x03
/-- 0x3250.04 and on (Table 14-8). -/
@[reducible] def O.SEQ_CNT_A (i : Nat) : Nat := (0x3250 + i) * 256 + 0x04
/-- 0x3250.05 and on (Table 14-8). -/
@[reducible] def O.SEQ_SEL_LO_B (i : Nat) : Nat := (0x3250 + i) * 256 + 0x05
/-- 0x3250.06 and on (Table 14-8). -/
@[reducible] def O.SEQ_SEL_HI_B (i : Nat) : Nat := (0x3250 + i) * 256 + 0x06
/-- 0x3250.07 and on (Table 14-8). -/
@[reducible] def O.SEQ_CTRL_B (i : Nat) : Nat := (0x3250 + i) * 256 + 0x07
/-- 0x3250.08 and on (Table 14-8). -/
@[reducible] def O.SEQ_CNT_B (i : Nat) : Nat := (0x3250 + i) * 256 + 0x08
/-- 0x3250.09 and on (Table 14-8). -/
@[reducible] def O.STAY_INC (i : Nat) : Nat := (0x3250 + i) * 256 + 0x09
/-- 0x3260.01 and on (Table 14-8). -/
@[reducible] def O.COUNT (n : Nat) : Nat := 0x3260 * 256 + 0x01 + n
/-- 0x3261.01 and on (Table 14-8). -/
@[reducible] def O.LIMIT (n : Nat) : Nat := 0x3261 * 256 + 0x01 + n
/-- 0x3270.01 (Table 14-8). -/
@[reducible] def O.MT_ENABLE : Nat := 0x327001
/-- 0x3270.02 (Table 14-8). -/
@[reducible] def O.MT_FIRST_WORD : Nat := 0x327002
/-- 0x3270.03 (Table 14-8). -/
@[reducible] def O.MT_WORDS : Nat := 0x327003
/-- 0x3270.04 (Table 14-8). -/
@[reducible] def O.MT_BASE : Nat := 0x327004
/-- 0x3270.05 (Table 14-8). -/
@[reducible] def O.MT_RECORDS : Nat := 0x327005
/-- 0x3270.06 (Table 14-8). -/
@[reducible] def O.MT_WR : Nat := 0x327006
/-- 0x3270.07 (Table 14-8). -/
@[reducible] def O.MT_RD : Nat := 0x327007
/-- 0x3270.08 (Table 14-8). -/
@[reducible] def O.MT_UNDERRUN_STOP : Nat := 0x327008
/-- 0x3270.09 (Table 14-8). -/
@[reducible] def O.MT_CHECKED : Nat := 0x327009
/-- 0x3270.0A (Table 14-8). -/
@[reducible] def O.MT_FAILS : Nat := 0x32700A
/-- 0x3270.0B (Table 14-8). -/
@[reducible] def O.MT_FAIL_DC : Nat := 0x32700B
/-- 0x3270.0C (Table 14-8). -/
@[reducible] def O.MT_FAIL_CHANNEL : Nat := 0x32700C
/-- 0x3270.0D (Table 14-8). -/
@[reducible] def O.MT_STALE : Nat := 0x32700D
/-- 0x3270.0E (Table 14-8). -/
@[reducible] def O.MT_UNDERRUNS : Nat := 0x32700E
/-- 0x3280.01 and on (Table 14-8). -/
@[reducible] def O.TRIG_CFG (n : Nat) : Nat := 0x3280 * 256 + 0x01 + n
/-- 0x3280.05 (Table 14-8). -/
@[reducible] def O.TRIG_LEVEL : Nat := 0x328005
/-- 0x3290.01 and on (Table 14-8). -/
@[reducible] def O.LO_CHAN_WORD (n : Nat) : Nat := 0x3290 * 256 + 0x01 + n
/-- 0x3291.01 and on (Table 14-8). -/
@[reducible] def O.HI_CHAN_WORD (n : Nat) : Nat := 0x3291 * 256 + 0x01 + n
/-- 0x3400.01 (Table 15-4). -/
@[reducible] def O.TRACE_ENABLE : Nat := 0x340001
/-- 0x3400.02 (Table 15-4). -/
@[reducible] def O.TRACE_MODE : Nat := 0x340002
/-- 0x3400.03 (Table 15-4). -/
@[reducible] def O.CAPTURE : Nat := 0x340003
/-- 0x3400.04 (Table 15-4). -/
@[reducible] def O.FIRST_WORD : Nat := 0x340004
/-- 0x3400.05 (Table 15-4). -/
@[reducible] def O.WORDS : Nat := 0x340005
/-- 0x3400.06 (Table 15-4). -/
@[reducible] def O.PRE_DCS : Nat := 0x340006
/-- 0x3400.07 (Table 15-4). -/
@[reducible] def O.POST_DCS : Nat := 0x340007
/-- 0x3400.08 (Table 15-4). -/
@[reducible] def O.TRACE_CMD : Nat := 0x340008
/-- 0x3400.09 (Table 15-4). -/
@[reducible] def O.TRACE_STATE : Nat := 0x340009
/-- 0x3400.0A (Table 15-4). -/
@[reducible] def O.RECORD_BYTES : Nat := 0x34000A
/-- 0x3400.0B (Table 15-4). -/
@[reducible] def O.CAPACITY : Nat := 0x34000B
/-- 0x3400.0C (Table 15-4). -/
@[reducible] def O.WR : Nat := 0x34000C
/-- 0x3400.0D (Table 15-4). -/
@[reducible] def O.RD : Nat := 0x34000D
/-- 0x3400.0E (Table 15-4). -/
@[reducible] def O.TRIG_DC : Nat := 0x34000E
/-- 0x3400.0F (Table 15-4). -/
@[reducible] def O.TRIG_INDEX : Nat := 0x34000F
/-- 0x3400.10 (Table 15-4). -/
@[reducible] def O.DROPPED : Nat := 0x340010
/-- 0x3400.11 (Table 15-4). -/
@[reducible] def O.FIRST_VALID : Nat := 0x340011
/-- 0x3400.12 (Table 15-4). -/
@[reducible] def O.TRIG_IGNORED : Nat := 0x340012
/-- 0x3410.01 (Table 15-5). -/
@[reducible] def O.PEAT_AUTO : Nat := 0x341001
/-- 0x3410.02 (Table 15-5). -/
@[reducible] def O.PEAT_PIN : Nat := 0x341002
/-- 0x3410.03 (Table 15-5). -/
@[reducible] def O.PEAT_NEXT : Nat := 0x341003
/-- 0x3410.04 (Table 15-5). -/
@[reducible] def O.SNAP_RESULT : Nat := 0x341004
/-- 0x3410.05 (Table 15-5). -/
@[reducible] def O.SNAP_TIME_LAST : Nat := 0x341005
/-- 0x3410.06 (Table 15-5). -/
@[reducible] def O.RESTORE_DC : Nat := 0x341006
/-- 0x3410.07 (Table 15-5). -/
@[reducible] def O.RESTORE_KIND : Nat := 0x341007
/-- 0x3410.08 (Table 15-5). -/
@[reducible] def O.RESTORE_RESULT : Nat := 0x341008
/-- 0x3410.09 (Table 15-5). -/
@[reducible] def O.RESTORE_TIME_LAST : Nat := 0x341009
/-- 0x3410.0A (Table 15-5). -/
@[reducible] def O.REPLAY_TARGET_DC : Nat := 0x34100A
/-- 0x3410.0B (Table 15-5). -/
@[reducible] def O.REPLAY_LOG_FILL : Nat := 0x34100B
/-- 0x3420.01 and on (Table 15-5). -/
@[reducible] def O.SLOT_STATUS (i : Nat) : Nat := (0x3420 + i) * 256 + 0x01
/-- 0x3420.02 and on (Table 15-5). -/
@[reducible] def O.SLOT_DC (i : Nat) : Nat := (0x3420 + i) * 256 + 0x02
/-- 0x3420.03 and on (Table 15-5). -/
@[reducible] def O.SLOT_TIME (i : Nat) : Nat := (0x3420 + i) * 256 + 0x03
/-- 0x3420.04 and on (Table 15-5). -/
@[reducible] def O.SLOT_CAUSE (i : Nat) : Nat := (0x3420 + i) * 256 + 0x04
/-- 0x3600.01 (Table 12-6). -/
@[reducible] def O.CORE_RUN : Nat := 0x360001
/-- 0x3600.02 (Table 12-6). -/
@[reducible] def O.REPLAY_STATE : Nat := 0x360002
/-- 0x3600.03 (Table 12-6). -/
@[reducible] def O.REPLAY_OLDEST_DC : Nat := 0x360003
/-- 0x3600.04 (Table 12-6). -/
@[reducible] def O.XPORT_TAKEN : Nat := 0x360004
/-- 0x3600.05 (Table 12-6). -/
@[reducible] def O.XPORT_OVERWRITES : Nat := 0x360005
/-- 0x3600.06 (Table 12-6). -/
@[reducible] def O.LOCK_FOREIGN : Nat := 0x360006
/-- 0x3610.01 and on (Table 12-6). -/
@[reducible] def O.RESET_VECTOR (i : Nat) : Nat := (0x3610 + i) * 256 + 0x01
/-- 0x3610.02 and on (Table 12-6). -/
@[reducible] def O.CORE_STATE (i : Nat) : Nat := (0x3610 + i) * 256 + 0x02
/-- 0x3610.03 and on (Table 12-6). -/
@[reducible] def O.WDT_PERIOD (i : Nat) : Nat := (0x3610 + i) * 256 + 0x03
/-- 0x3610.04 and on (Table 12-6). -/
@[reducible] def O.WDT_ACTION (i : Nat) : Nat := (0x3610 + i) * 256 + 0x04
/-- 0x3610.05 and on (Table 12-6). -/
@[reducible] def O.WDT_GRACE (i : Nat) : Nat := (0x3610 + i) * 256 + 0x05
/-- 0x3610.06 and on (Table 12-6). -/
@[reducible] def O.WDT_EXPIRIES (i : Nat) : Nat := (0x3610 + i) * 256 + 0x06
/-- 0x3640.01 (Table 13-7). -/
@[reducible] def O.THREADS_USED : Nat := 0x364001
/-- 0x3640.02 (Table 13-7). -/
@[reducible] def O.READY_TOTAL : Nat := 0x364002
/-- 0x3640.03 (Table 13-7). -/
@[reducible] def O.READY_TOTAL_MAX : Nat := 0x364003
/-- 0x3640.04 (Table 13-7). -/
@[reducible] def O.EXIT_LOCKS : Nat := 0x364004
/-- 0x3640.05 (Table 13-7). -/
@[reducible] def O.FREE_SETS : Nat := 0x364005
/-- 0x3640.06 (Table 13-7). -/
@[reducible] def O.THREAD_SEL : Nat := 0x364006
/-- 0x3640.07 (Table 13-7). -/
@[reducible] def O.THREAD_INFO : Nat := 0x364007
/-- 0x3640.08 (Table 13-7). -/
@[reducible] def O.THREAD_FLAGS_SET : Nat := 0x364008
/-- 0x3640.09 (Table 13-7). -/
@[reducible] def O.THREAD_MASK : Nat := 0x364009
/-- 0x3640.0A (Table 13-7). -/
@[reducible] def O.THREAD_CMD : Nat := 0x36400A
/-- 0x3640.0B (Table 13-7). -/
@[reducible] def O.THREAD_CMD_RESULT : Nat := 0x36400B
/-- 0x3640.0C (Table 13-7). -/
@[reducible] def O.THR_WAKES : Nat := 0x36400C
/-- 0x3644.01 and on (Table 13-7). -/
@[reducible] def O.READY_BY_PRIO (n : Nat) : Nat := 0x3644 * 256 + 0x01 + n
/-- 0x3645.01 and on (Table 13-7). -/
@[reducible] def O.READY_BY_PRIO_MAX (n : Nat) : Nat := 0x3645 * 256 + 0x01 + n
/-- 0x3650.01 and on (Table 13-7). -/
@[reducible] def O.PREEMPT (i : Nat) : Nat := (0x3650 + i) * 256 + 0x01
/-- 0x3650.02 and on (Table 13-7). -/
@[reducible] def O.HOMED (i : Nat) : Nat := (0x3650 + i) * 256 + 0x02
/-- 0x3650.03 and on (Table 13-7). -/
@[reducible] def O.READY (i : Nat) : Nat := (0x3650 + i) * 256 + 0x03
/-- 0x3650.04 and on (Table 13-7). -/
@[reducible] def O.READY_MAX (i : Nat) : Nat := (0x3650 + i) * 256 + 0x04
/-- 0x3650.05 and on (Table 13-7). -/
@[reducible] def O.RUNNING_TCX (i : Nat) : Nat := (0x3650 + i) * 256 + 0x05
/-- 0x3650.06 and on (Table 13-7). -/
@[reducible] def O.CYC_RUN (i : Nat) : Nat := (0x3650 + i) * 256 + 0x06
/-- 0x3650.07 and on (Table 13-7). -/
@[reducible] def O.CYC_IDLE (i : Nat) : Nat := (0x3650 + i) * 256 + 0x07
/-- 0x3650.08 and on (Table 13-7). -/
@[reducible] def O.CYC_SWITCH (i : Nat) : Nat := (0x3650 + i) * 256 + 0x08
/-- 0x3650.09 and on (Table 13-7). -/
@[reducible] def O.SWITCHES (i : Nat) : Nat := (0x3650 + i) * 256 + 0x09
/-- 0x3650.0A and on (Table 13-7). -/
@[reducible] def O.PREEMPTIONS (i : Nat) : Nat := (0x3650 + i) * 256 + 0x0A
/-- 0x3650.0B and on (Table 13-7). -/
@[reducible] def O.LOCK_DEFERRALS (i : Nat) : Nat := (0x3650 + i) * 256 + 0x0B
/-- 0x3680.01 and on (Table 13-7). -/
@[reducible] def O.WAIT_HIST (i n : Nat) : Nat := (0x3680 + i) * 256 + 0x01 + n
/-- 0x3800.01 (Table 16-7). -/
@[reducible] def O.FAB_ID : Nat := 0x380001
/-- 0x3800.02 (Table 16-7). -/
@[reducible] def O.FAB_STATE : Nat := 0x380002
/-- 0x3800.03 (Table 16-7). -/
@[reducible] def O.FAB_LOAD_CMD : Nat := 0x380003
/-- 0x3800.04 (Table 16-7). -/
@[reducible] def O.FAB_HOST_ADDR : Nat := 0x380004
/-- 0x3800.05 (Table 16-7). -/
@[reducible] def O.FAB_BYTES : Nat := 0x380005
/-- 0x3800.06 (Table 16-7). -/
@[reducible] def O.FAB_RESULT : Nat := 0x380006
/-- 0x3800.07 (Table 16-7). -/
@[reducible] def O.FAB_CHECK : Nat := 0x380007
/-- 0x3800.08 (Table 16-7). -/
@[reducible] def O.FAB_CHECK_DETAIL : Nat := 0x380008
/-- 0x3800.09 (Table 16-7). -/
@[reducible] def O.FAB_ABORT_RESULT : Nat := 0x380009
/-- 0x3800.0A (Table 16-7). -/
@[reducible] def O.FAB_HDR_CRC : Nat := 0x38000A
/-- 0x3800.0B (Table 16-7). -/
@[reducible] def O.FIN_LANE_MODE_LO : Nat := 0x38000B
/-- 0x3800.0C (Table 16-7). -/
@[reducible] def O.FIN_LANE_MODE_HI : Nat := 0x38000C
/-- 0x3800.0D (Table 16-7). -/
@[reducible] def O.FIN_OVERWRITES : Nat := 0x38000D
/-- 0x3800.0E (Table 16-7). -/
@[reducible] def O.SAFE_FORCE : Nat := 0x38000E
/-- 0x3800.0F (Table 16-7). -/
@[reducible] def O.SAFE_CAUSES : Nat := 0x38000F
/-- 0x3800.10 (Table 16-7). -/
@[reducible] def O.CLK_FORCED : Nat := 0x380010
/-- 0x3800.11 (Table 16-7). -/
@[reducible] def O.CLK_LOST : Nat := 0x380011
/-- 0x3800.12 (Table 16-7). -/
@[reducible] def O.CFG_CORRECTED : Nat := 0x380012
/-- 0x3800.13 (Table 16-7). -/
@[reducible] def O.FLASH_USER_WP : Nat := 0x380013
/-- 0x3801.01 and on (Table 16-7). -/
@[reducible] def O.RO_FREQ (n : Nat) : Nat := 0x3801 * 256 + 0x01 + n
/-- 0x3802.01 and on (Table 16-7). -/
@[reducible] def O.BANK_VDDIO (n : Nat) : Nat := 0x3802 * 256 + 0x01 + n
/-- 0x3803.01 and on (Table 16-7). -/
@[reducible] def O.REGION_FREQ (n : Nat) : Nat := 0x3803 * 256 + 0x01 + n
/-- 0x3804.01 and on (Table 16-7). -/
@[reducible] def O.TAP_FS (n : Nat) : Nat := 0x3804 * 256 + 0x01 + n
/-- 0x3A00.01 (Table 17-9). -/
@[reducible] def O.LINK_STATUS : Nat := 0x3A0001
/-- 0x3A00.02 and on (Table 17-9). -/
@[reducible] def O.ACCESS_ERR (n : Nat) : Nat := 0x3A00 * 256 + 0x02 + n
/-- 0x3A00.06 (Table 17-9). -/
@[reducible] def O.ACCESS_ERRORS : Nat := 0x3A0006
/-- 0x3A00.07 (Table 17-9). -/
@[reducible] def O.BAR2_ERR_ADDR : Nat := 0x3A0007
/-- 0x3A00.08 (Table 17-9). -/
@[reducible] def O.BAR2_ERR_STATUS : Nat := 0x3A0008
/-- 0x3A00.09 (Table 17-9). -/
@[reducible] def O.BAR2_ERRORS : Nat := 0x3A0009
/-- 0x3A00.0A (Table 17-9). -/
@[reducible] def O.CW_READS : Nat := 0x3A000A
/-- 0x3A00.0B (Table 17-9). -/
@[reducible] def O.CW_DROPPED : Nat := 0x3A000B
/-- 0x3A00.0C (Table 17-9). -/
@[reducible] def O.DB_DISCARDED : Nat := 0x3A000C
/-- 0x3A10.01 and on (Table 17-9). -/
@[reducible] def O.RING_BASE (i : Nat) : Nat := (0x3A10 + i) * 256 + 0x01
/-- 0x3A10.02 and on (Table 17-9). -/
@[reducible] def O.RING_ENTRIES (i : Nat) : Nat := (0x3A10 + i) * 256 + 0x02
/-- 0x3A10.03 and on (Table 17-9). -/
@[reducible] def O.PRODUCER (i : Nat) : Nat := (0x3A10 + i) * 256 + 0x03
/-- 0x3A10.04 and on (Table 17-9). -/
@[reducible] def O.CONSUMER (i : Nat) : Nat := (0x3A10 + i) * 256 + 0x04
/-- 0x3A10.05 and on (Table 17-9). -/
@[reducible] def O.CH_CMD (i : Nat) : Nat := (0x3A10 + i) * 256 + 0x05
/-- 0x3A10.06 and on (Table 17-9). -/
@[reducible] def O.CH_STATE (i : Nat) : Nat := (0x3A10 + i) * 256 + 0x06
/-- 0x3A10.07 and on (Table 17-9). -/
@[reducible] def O.CH_ERR (i : Nat) : Nat := (0x3A10 + i) * 256 + 0x07
/-- 0x3A10.08 and on (Table 17-9). -/
@[reducible] def O.CH_DONE (i : Nat) : Nat := (0x3A10 + i) * 256 + 0x08
/-- 0x3A10.09 and on (Table 17-9). -/
@[reducible] def O.STOP_RESULT (i : Nat) : Nat := (0x3A10 + i) * 256 + 0x09
/-- 0x3A20.01 (Table 17-9). -/
@[reducible] def O.NODE_ID : Nat := 0x3A2001
/-- 0x3A20.02 (Table 17-9). -/
@[reducible] def O.NOMINAL_RATE : Nat := 0x3A2002
/-- 0x3A20.03 (Table 17-9). -/
@[reducible] def O.DATA_RATE : Nat := 0x3A2003
/-- 0x3A20.04 (Table 17-9). -/
@[reducible] def O.FD_MODE : Nat := 0x3A2004
/-- 0x3A20.05 (Table 17-9). -/
@[reducible] def O.NMT_STATE : Nat := 0x3A2005
/-- 0x3A20.06 (Table 17-9). -/
@[reducible] def O.ERR_COUNTERS : Nat := 0x3A2006
/-- 0x3A20.07 (Table 17-9). -/
@[reducible] def O.BUS_OFFS : Nat := 0x3A2007
/-- 0x3A20.08 (Table 17-9). -/
@[reducible] def O.SDO_ABORTS : Nat := 0x3A2008
/-- 0x3C00.01 (Table 21-9). -/
@[reducible] def O.DEBUG_LEVEL : Nat := 0x3C0001
/-- 0x3C00.02 (Table 21-9). -/
@[reducible] def O.DHALT : Nat := 0x3C0002
/-- 0x3C00.03 (Table 21-9). -/
@[reducible] def O.HALTED_CORES : Nat := 0x3C0003
/-- 0x3C00.04 (Table 21-9). -/
@[reducible] def O.HALT_LINK : Nat := 0x3C0004
/-- 0x3C00.05 (Table 21-9). -/
@[reducible] def O.DESIGN_HALT_CORES : Nat := 0x3C0005
/-- 0x3C00.06 (Table 21-9). -/
@[reducible] def O.BROKE_LOCK_HALTS : Nat := 0x3C0006
/-- 0x3C00.07 (Table 21-9). -/
@[reducible] def O.VT_DROPPED : Nat := 0x3C0007
/-- 0x3C00.08 (Table 21-9). -/
@[reducible] def O.VT_BLOCK : Nat := 0x3C0008
/-- 0x3C01.01 (Table 21-9). -/
@[reducible] def O.FL_ADDR : Nat := 0x3C0101
/-- 0x3C01.02 (Table 21-9). -/
@[reducible] def O.FL_CMD : Nat := 0x3C0102
/-- 0x3C01.03 (Table 21-9). -/
@[reducible] def O.FL_STATE : Nat := 0x3C0103
/-- 0x3C01.04 (Table 21-9). -/
@[reducible] def O.FL_RESULT : Nat := 0x3C0104
/-- 0x3D00.01 (Table 20-4). -/
@[reducible] def O.RESET_CMD : Nat := 0x3D0001
/-- 0x3D00.02 (Table 20-4). -/
@[reducible] def O.RESET_KIND : Nat := 0x3D0002
/-- 0x3D00.03 (Table 20-4). -/
@[reducible] def O.RESET_SOURCE : Nat := 0x3D0003
/-- 0x3D00.04 (Table 20-4). -/
@[reducible] def O.WARM_RESETS : Nat := 0x3D0004
/-- 0x3D00.05 (Table 20-4). -/
@[reducible] def O.BOOT_STATE : Nat := 0x3D0005
/-- 0x3D00.06 (Table 20-4). -/
@[reducible] def O.BOOT_ERROR : Nat := 0x3D0006
/-- 0x3D00.07 (Table 20-4). -/
@[reducible] def O.BOOT_TIME : Nat := 0x3D0007
/-- 0x3E00.01 (Table 22-3). -/
@[reducible] def O.LC_STATE : Nat := 0x3E0001
/-- 0x3E00.02 (Table 22-3). -/
@[reducible] def O.LC_NONCE : Nat := 0x3E0002
/-- 0x3E00.03 (Table 22-3). -/
@[reducible] def O.LC_REQ : Nat := 0x3E0003
/-- 0x3E00.04 (Table 22-3). -/
@[reducible] def O.LC_RESULT : Nat := 0x3E0004
/-- 0x3E00.05 (Table 22-3). -/
@[reducible] def O.RETURNS_LEFT : Nat := 0x3E0005
/-- 0x3E00.06 (Table 22-3). -/
@[reducible] def O.OWNER_SET : Nat := 0x3E0006
/-- 0x3E00.07 (Table 22-3). -/
@[reducible] def O.REQUIRE_SIGNED : Nat := 0x3E0007
/-- 0x3E00.08 (Table 22-3). -/
@[reducible] def O.REQUIRE_ENCRYPTED : Nat := 0x3E0008
/-- 0x3E00.09 (Table 22-3). -/
@[reducible] def O.IMG_KEYS : Nat := 0x3E0009
/-- 0x3E00.0A (Table 22-3). -/
@[reducible] def O.SIG_KEYS : Nat := 0x3E000A
/-- 0x3E00.0B (Table 22-3). -/
@[reducible] def O.FW_SVN_MIN : Nat := 0x3E000B
/-- 0x3E01.01 and on (Table 22-3). -/
@[reducible] def O.LC_SIG (n : Nat) : Nat := 0x3E01 * 256 + 0x01 + n
/-- 0x3E02.01 and on (Table 22-3). -/
@[reducible] def O.KEY_DATA (n : Nat) : Nat := 0x3E02 * 256 + 0x01 + n
/-- 0x3E02.0D (Table 22-3). -/
@[reducible] def O.KEY_SLOT : Nat := 0x3E020D
/-- 0x3E02.0E (Table 22-3). -/
@[reducible] def O.KEY_KIND : Nat := 0x3E020E
/-- 0x3E02.0F (Table 22-3). -/
@[reducible] def O.KEY_CMD : Nat := 0x3E020F
/-- 0x3E02.10 (Table 22-3). -/
@[reducible] def O.KEY_RESULT : Nat := 0x3E0210
/-- 0x4000.01 (Table 18-9). -/
@[reducible] def O.FAULT_TOTAL : Nat := 0x400001
/-- 0x4000.02 (Table 18-9). -/
@[reducible] def O.FAULT_OLDEST : Nat := 0x400002
/-- 0x4000.03 (Table 18-9). -/
@[reducible] def O.FAULT_SEL : Nat := 0x400003
/-- 0x4000.04 and on (Table 18-9). -/
@[reducible] def O.FAULT_WORD (n : Nat) : Nat := 0x4000 * 256 + 0x04 + n
/-- 0x4000.0C (Table 18-9). -/
@[reducible] def O.FAULT_LATCHED : Nat := 0x40000C
/-- 0x4000.0D (Table 18-9). -/
@[reducible] def O.FAULT_ACK : Nat := 0x40000D
/-- 0x4000.0E (Table 18-9). -/
@[reducible] def O.FAULT_ACKED : Nat := 0x40000E
/-- 0x4000.0F (Table 18-9). -/
@[reducible] def O.FAULT_LOST : Nat := 0x40000F
/-- 0x4001.01 and on (Table 23-5). -/
@[reducible] def O.FAULT_COUNT (n : Nat) : Nat := 0x4001 * 256 + 0x01 + n
/-- 0x4002.01 (Table 23-5). -/
@[reducible] def O.RECOVERY_MODE : Nat := 0x400201
/-- 0x4002.02 (Table 23-5). -/
@[reducible] def O.RECOVERY_STATE : Nat := 0x400202
/-- 0x4002.03 (Table 23-5). -/
@[reducible] def O.RECOVERY_RESULT : Nat := 0x400203
/-- 0x4002.04 (Table 23-5). -/
@[reducible] def O.RECOVERY_TIME_LAST : Nat := 0x400204
/-- 0x4002.05 (Table 23-5). -/
@[reducible] def O.RECOVERIES : Nat := 0x400205
/-- 0x4002.06 (Table 23-5). -/
@[reducible] def O.STATE_VALID : Nat := 0x400206
/-- 0x4002.07 (Table 23-5). -/
@[reducible] def O.REMAP_LC : Nat := 0x400207
/-- 0x4002.08 (Table 23-5). -/
@[reducible] def O.ABANDON_LINES : Nat := 0x400208
/-- 0x4002.09 (Table 23-5). -/
@[reducible] def O.LAST_ABANDON_DC : Nat := 0x400209
/-- 0x4002.0A (Table 23-5). -/
@[reducible] def O.HORIZON : Nat := 0x40020A
/-- 0x4002.0B (Table 23-5). -/
@[reducible] def O.ATTEMPT_LIMIT : Nat := 0x40020B

end Sys2Proof.Machine
end

