-- ==== Sys2Proof/Machine/DictTable.lean ====
section
/-!
DEFINITION. The declared objects of the dictionary (R402, Table 18-1) with their type, access kind, default and range,
one row per line of the chapters' object tables. A default that the spec leaves to the part (straps, fuses, flash) is the
value of notes/assumptions/2.md.
-/

namespace Sys2Proof.Machine

/-- Objects 0x1000 (17_host_and_management.md, Table 17-12). -/
def dictGroup1000 : Group := ⟨0x1000, 0x1000, [
  ⟨0x00, 0x00, 32, .const, 0, 0, 0xffffffff, false⟩]⟩

/-- Objects 0x1001 (17_host_and_management.md, Table 17-12). -/
def dictGroup1001 : Group := ⟨0x1001, 0x1001, [
  ⟨0x00, 0x00, 8, .ro, 0, 0, 0xff, false⟩]⟩

/-- Objects 0x1003 (17_host_and_management.md, Table 17-12). -/
def dictGroup1003 : Group := ⟨0x1003, 0x1003, [
  ⟨0x00, 0x00, 8, .rw, 0, 0, 0x10, false⟩,
  ⟨0x01, 0x10, 32, .ro, 0, 0, 0xffffffff, false⟩]⟩

/-- Objects 0x1014 (17_host_and_management.md, Table 17-12). -/
def dictGroup1014 : Group := ⟨0x1014, 0x1014, [
  ⟨0x00, 0x00, 32, .rw, 0x80, 0, 0xffffffff, false⟩]⟩

/-- Objects 0x1015 (17_host_and_management.md, Table 17-12). -/
def dictGroup1015 : Group := ⟨0x1015, 0x1015, [
  ⟨0x00, 0x00, 16, .rw, 0, 0, 0xffff, false⟩]⟩

/-- Objects 0x1017 (17_host_and_management.md, Table 17-12). -/
def dictGroup1017 : Group := ⟨0x1017, 0x1017, [
  ⟨0x00, 0x00, 16, .rw, 0x3e8, 0, 0xffff, false⟩]⟩

/-- Objects 0x1018 (17_host_and_management.md, Table 17-12). -/
def dictGroup1018 : Group := ⟨0x1018, 0x1018, [
  ⟨0x00, 0x00, 8, .const, 4, 0, 0xff, false⟩,
  ⟨0x01, 0x01, 32, .const, 0x2e5, 0, 0xffffffff, false⟩,
  ⟨0x02, 0x02, 32, .const, 0xb04, 0, 0xffffffff, false⟩,
  ⟨0x03, 0x03, 32, .const, 0xb0, 0, 0xffffffff, false⟩,
  ⟨0x04, 0x04, 32, .const, 0, 0, 0xffffffff, false⟩]⟩

/-- Objects 0x1200 (17_host_and_management.md, Table 17-12). -/
def dictGroup1200 : Group := ⟨0x1200, 0x1200, [
  ⟨0x00, 0x00, 8, .const, 2, 0, 0xff, false⟩,
  ⟨0x01, 0x01, 32, .const, 0x600, 0, 0xffffffff, false⟩,
  ⟨0x02, 0x02, 32, .const, 0x580, 0, 0xffffffff, false⟩]⟩

/-- Objects 0x2000 (18_dictionary_map.md, Table 18-2). -/
def dictGroup2000 : Group := ⟨0x2000, 0x2000, [
  ⟨0x00, 0x00, 8, .const, 0x10, 0, 0xff, false⟩,
  ⟨0x01, 0x01, 64, .const, 0x1f, 0, 0xffffffffffffffff, false⟩,
  ⟨0x02, 0x04, 64, .const, 0, 0, 0xffffffffffffffff, false⟩,
  ⟨0x05, 0x05, 64, .rw, 1, 0, 0xffffffffffffffff, false⟩,
  ⟨0x06, 0x08, 64, .rw, 0, 0, 0xffffffffffffffff, false⟩,
  ⟨0x09, 0x09, 16, .rws, 0, 0, 0x3ff, false⟩,
  ⟨0x0A, 0x0A, 8, .const, 0xb0, 0, 0xff, false⟩,
  ⟨0x0B, 0x0B, 32, .const, 0xb04, 0, 0xffffffff, false⟩,
  ⟨0x0C, 0x0C, 8, .const, 0, 0, 1, false⟩,
  ⟨0x0D, 0x0D, 64, .const, 0, 0, 0xffffffffffffffff, false⟩,
  ⟨0x0E, 0x0E, 32, .ro, 0, 0, 0xffffffff, false⟩,
  ⟨0x0F, 0x0F, 32, .const, 0x10001, 0, 0xffffffff, false⟩,
  ⟨0x10, 0x10, 16, .const, 1, 0, 0xffff, false⟩]⟩

/-- Objects 0x2030 (04_schedule_and_interlock.md, Table 04-8). -/
def dictGroup2030 : Group := ⟨0x2030, 0x2030, [
  ⟨0x00, 0x00, 8, .const, 0xe, 0, 0xff, false⟩,
  ⟨0x01, 0x01, 16, .const, 2, 0, 0xffff, false⟩,
  ⟨0x02, 0x02, 16, .const, 3, 0, 0xffff, false⟩,
  ⟨0x03, 0x03, 16, .const, 5, 0, 0xffff, false⟩,
  ⟨0x04, 0x04, 16, .const, 9, 0, 0xffff, false⟩,
  ⟨0x05, 0x05, 16, .const, 1, 0, 0xffff, false⟩,
  ⟨0x06, 0x06, 16, .const, 0x28, 0, 0xffff, false⟩,
  ⟨0x07, 0x07, 16, .const, 0x96, 0, 0xffff, false⟩,
  ⟨0x08, 0x08, 16, .const, 8, 0, 0xffff, false⟩,
  ⟨0x09, 0x09, 16, .const, 1, 0, 0xffff, false⟩,
  ⟨0x0A, 0x0A, 16, .const, 4, 0, 0xffff, false⟩,
  ⟨0x0B, 0x0B, 16, .const, 0xac, 0, 0xffff, false⟩,
  ⟨0x0C, 0x0C, 16, .const, 1, 0, 0xffff, false⟩,
  ⟨0x0D, 0x0D, 16, .const, 1, 0, 0xffff, false⟩,
  ⟨0x0E, 0x0E, 16, .const, 2, 0, 0xffff, false⟩]⟩

/-- Objects 0x2100 (08_modes_and_run_control.md, Table 08-2). -/
def dictGroup2100 : Group := ⟨0x2100, 0x2100, [
  ⟨0x00, 0x00, 8, .const, 0x14, 0, 0xff, false⟩,
  ⟨0x01, 0x01, 8, .ro, 1, 0, 9, false⟩,
  ⟨0x02, 0x02, 8, .ro, 0, 0, 1, false⟩,
  ⟨0x03, 0x03, 8, .wo, 0, 1, 7, false⟩,
  ⟨0x04, 0x04, 32, .rw, 1, 0, 0xffffffff, false⟩,
  ⟨0x05, 0x05, 32, .ro, 0, 0, 0xffffffff, false⟩,
  ⟨0x06, 0x06, 8, .rws, 0, 0, 4, false⟩,
  ⟨0x07, 0x07, 8, .ro, 1, 0, 0xff, false⟩,
  ⟨0x08, 0x08, 8, .ro, 0, 0, 0xff, false⟩,
  ⟨0x09, 0x09, 8, .ro, 0, 0, 0xff, false⟩,
  ⟨0x0A, 0x0A, 8, .ro, 0, 0, 0xff, false⟩,
  ⟨0x0B, 0x0B, 8, .ro, 0, 0, 0xff, false⟩,
  ⟨0x0C, 0x0C, 8, .ro, 0, 0, 0xff, false⟩,
  ⟨0x0D, 0x0D, 16, .ro, 0, 0, 0xffff, false⟩,
  ⟨0x0E, 0x0E, 64, .ro, 0, 0, 0xffffffffffffffff, false⟩,
  ⟨0x0F, 0x0F, 64, .ro, 0, 0, 0xffffffffffffffff, false⟩,
  ⟨0x10, 0x10, 64, .ro, 0, 0, 0xffffffffffffffff, false⟩,
  ⟨0x11, 0x11, 8, .ro, 0, 0, 4, false⟩,
  ⟨0x12, 0x12, 32, .ro, 0, 0, 0xffffffff, false⟩,
  ⟨0x13, 0x13, 16, .rw, 0, 0, 0xffff, false⟩,
  ⟨0x14, 0x14, 32, .ro, 0, 0, 0xffffffff, false⟩]⟩

/-- Objects 0x2110 (04_schedule_and_interlock.md, Table 04-9). -/
def dictGroup2110 : Group := ⟨0x2110, 0x2110, [
  ⟨0x00, 0x00, 8, .const, 0xc, 0, 0xff, false⟩,
  ⟨0x01, 0x01, 64, .ro, 0, 0, 0xffffffffffffffff, false⟩,
  ⟨0x02, 0x02, 16, .ro, 0, 0x40, 0x400, false⟩,
  ⟨0x03, 0x03, 32, .ro, 0, 0, 0xffffffff, false⟩,
  ⟨0x04, 0x04, 32, .rw, 0, 0, 0xffffffff, true⟩,
  ⟨0x05, 0x05, 32, .ro, 0, 0, 0xffffffff, false⟩,
  ⟨0x06, 0x06, 64, .ro, 0, 0, 0xffffffffffffffff, false⟩,
  ⟨0x07, 0x07, 32, .rw, 0, 0, 0xffffffff, true⟩,
  ⟨0x08, 0x08, 64, .ro, 0, 0, 0xffffffffffffffff, false⟩,
  ⟨0x09, 0x09, 64, .ro, 0, 0, 0xffffffffffffffff, false⟩,
  ⟨0x0A, 0x0A, 8, .ro, 0, 0, 0, false⟩,
  ⟨0x0B, 0x0B, 16, .ro, 0, 0, 0xffff, false⟩,
  ⟨0x0C, 0x0C, 32, .ro, 0, 0, 0xffffffff, false⟩]⟩

/-- Objects 0x2120 (07_image_contract.md, Table 07-9). -/
def dictGroup2120 : Group := ⟨0x2120, 0x2120, [
  ⟨0x00, 0x00, 8, .const, 0xc, 0, 0xff, false⟩,
  ⟨0x01, 0x01, 8, .wo, 0, 1, 2, false⟩,
  ⟨0x02, 0x02, 64, .rw, 0, 0, 0xffffffffffffffff, false⟩,
  ⟨0x03, 0x03, 64, .rw, 0, 0x200, 0xc0000000, false⟩,
  ⟨0x04, 0x04, 8, .ro, 0, 0, 6, false⟩,
  ⟨0x05, 0x05, 16, .ro, 0, 0, 0xffff, false⟩,
  ⟨0x06, 0x06, 64, .ro, 0, 0, 0xffffffffffffffff, false⟩,
  ⟨0x07, 0x07, 8, .ro, 0, 0, 2, false⟩,
  ⟨0x08, 0x08, 64, .ro, 0, 0, 0xffffffffffffffff, false⟩,
  ⟨0x09, 0x09, 64, .ro, 0, 0, 0xffffffffffffffff, false⟩,
  ⟨0x0A, 0x0A, 16, .ro, 0xffff, 0, 0xff, false⟩,
  ⟨0x0B, 0x0B, 16, .ro, 0, 0, 0x100, false⟩,
  ⟨0x0C, 0x0C, 64, .ro, 0, 0, 0xffffffffffffffff, false⟩]⟩

/-- Objects 0x2121 (07_image_contract.md, Table 07-9). -/
def dictGroup2121 : Group := ⟨0x2121, 0x2121, [
  ⟨0x00, 0x00, 8, .const, 0x80, 0, 0xff, false⟩,
  ⟨0x01, 0x80, 16, .rw, 0xffff, 0, 0xffff, false⟩]⟩

/-- Objects 0x2122 (07_image_contract.md, Table 07-9). -/
def dictGroup2122 : Group := ⟨0x2122, 0x2122, [
  ⟨0x00, 0x00, 8, .const, 0x80, 0, 0xff, false⟩,
  ⟨0x01, 0x80, 16, .rw, 0xffff, 0, 0xffff, false⟩]⟩

/-- Objects 0x2200 (08_modes_and_run_control.md, Table 08-6). -/
def dictGroup2200 : Group := ⟨0x2200, 0x2200, [
  ⟨0x00, 0x00, 8, .const, 0xd, 0, 0xff, false⟩,
  ⟨0x01, 0x01, 8, .wo, 0, 1, 1, false⟩,
  ⟨0x02, 0x02, 8, .ro, 0, 0, 0xff, false⟩,
  ⟨0x03, 0x03, 8, .wo, 0, 1, 1, false⟩,
  ⟨0x04, 0x04, 64, .wo, 0, 0, 0xffffffffffffffff, false⟩,
  ⟨0x05, 0x05, 64, .wo, 0, 0, 0xffffffffffffffff, false⟩,
  ⟨0x06, 0x06, 8, .wo, 0, 1, 1, false⟩,
  ⟨0x07, 0x07, 8, .ro, 0, 0, 5, false⟩,
  ⟨0x08, 0x08, 64, .ro, 0, 0, 0xffffffffffffffff, false⟩,
  ⟨0x09, 0x09, 8, .ro, 0, 0, 0xff, false⟩,
  ⟨0x0A, 0x0A, 64, .ro, 0, 0, 0xffffffffffffffff, false⟩,
  ⟨0x0B, 0x0B, 64, .rw, 0, 0, 0xffffffffffffffff, false⟩,
  ⟨0x0C, 0x0C, 32, .rw, 0, 0, 0x10000, false⟩,
  ⟨0x0D, 0x0D, 8, .ro, 0, 0, 2, false⟩]⟩

/-- Objects 0x2400 (18_dictionary_map.md, Table 18-5). -/
def dictGroup2400 : Group := ⟨0x2400, 0x2400, [
  ⟨0x00, 0x00, 8, .const, 6, 0, 0xff, false⟩,
  ⟨0x01, 0x01, 16, .ro, 0x4444, 0, 0xffff, false⟩,
  ⟨0x02, 0x02, 16, .ro, 0, 0, 0x110, false⟩,
  ⟨0x03, 0x03, 16, .ro, 0, 0, 0x110, false⟩,
  ⟨0x04, 0x04, 32, .rw, 0, 0, 0xffffffff, true⟩,
  ⟨0x05, 0x05, 16, .wo, 0, 0, 0xffff, false⟩,
  ⟨0x06, 0x06, 16, .wo, 0, 0, 0xffff, false⟩]⟩

/-- Objects 0x2401–0x2404 (18_dictionary_map.md, R409). -/
def dictGroup2401 : Group := ⟨0x2401, 0x2404, [
  ⟨0x00, 0x00, 8, .const, 0x44, 0, 0xff, false⟩,
  ⟨0x01, 0x44, 16, .ro, 0, 0, 0xffff, false⟩]⟩

/-- Objects 0x2410–0x2413 (07_image_contract.md, R168). -/
def dictGroup2410 : Group := ⟨0x2410, 0x2413, [
  ⟨0x00, 0x00, 8, .const, 0x40, 0, 0xff, false⟩,
  ⟨0x01, 0x40, 8, .ro, 0xff, 0, 0xff, false⟩]⟩

/-- Objects 0x2420 (18_dictionary_map.md, Table 18-8). -/
def dictGroup2420 : Group := ⟨0x2420, 0x2420, [
  ⟨0x00, 0x00, 8, .const, 0xc, 0, 0xff, false⟩,
  ⟨0x01, 0x01, 16, .rw, 0, 0, 0xffff, false⟩,
  ⟨0x02, 0x0C, 64, .rw, 0, 0, 0xffffffffffffffff, true⟩]⟩

/-- Objects 0x2480 (06_design_memory.md, Table 06-6). -/
def dictGroup2480 : Group := ⟨0x2480, 0x2480, [
  ⟨0x00, 0x00, 8, .const, 0xa, 0, 0xff, false⟩,
  ⟨0x01, 0x01, 16, .rws, 0x800, 0, 0x1400, false⟩,
  ⟨0x02, 0x02, 16, .rws, 0x40, 0, 0x400, false⟩,
  ⟨0x03, 0x03, 16, .rws, 0x800, 0, 0x1000, false⟩,
  ⟨0x04, 0x04, 8, .rws, 0x10, 0, 0x40, false⟩,
  ⟨0x05, 0x05, 64, .ro, 0, 0, 0xffffffffffffffff, false⟩,
  ⟨0x06, 0x06, 64, .ro, 0x800000000, 0, 0xffffffffffffffff, false⟩,
  ⟨0x07, 0x07, 64, .ro, 0x840000000, 0, 0xffffffffffffffff, false⟩,
  ⟨0x08, 0x08, 64, .ro, 0x1040000000, 0, 0xffffffffffffffff, false⟩,
  ⟨0x09, 0x09, 64, .const, 0x1600000000, 0, 0xffffffffffffffff, false⟩,
  ⟨0x0A, 0x0A, 16, .ro, 0x530, 0, 0xffff, false⟩]⟩

/-- Objects 0x2481 (06_design_memory.md, Table 06-7). -/
def dictGroup2481 : Group := ⟨0x2481, 0x2481, [
  ⟨0x00, 0x00, 8, .const, 0xb, 0, 0xff, false⟩,
  ⟨0x01, 0x01, 64, .ro, 0, 0, 0xffffffffffffffff, false⟩,
  ⟨0x02, 0x02, 64, .ro, 0, 0, 0xffffffffffffffff, false⟩,
  ⟨0x03, 0x03, 64, .ro, 0, 0, 0xffffffffffffffff, false⟩,
  ⟨0x04, 0x04, 32, .rw, 0, 0, 0xffffffff, true⟩,
  ⟨0x05, 0x05, 64, .ro, 0, 0, 0xffffffffffffffff, false⟩,
  ⟨0x06, 0x06, 32, .ro, 0, 0, 0xffffffff, false⟩,
  ⟨0x07, 0x07, 32, .ro, 0, 0, 0xffffffff, false⟩,
  ⟨0x08, 0x08, 64, .ro, 0, 0, 0xffffffffffffffff, false⟩,
  ⟨0x09, 0x09, 64, .ro, 0, 0, 0xffffffffffffffff, false⟩,
  ⟨0x0A, 0x0A, 32, .ro, 0, 0, 0xffffffff, false⟩,
  ⟨0x0B, 0x0B, 32, .const, 0xf0, 0, 0xffffffff, false⟩]⟩

/-- Objects 0x2500–0x25FF (06_design_memory.md, R132). -/
def dictGroup2500 : Group := ⟨0x2500, 0x25FF, [
  ⟨0x00, 0x00, 8, .const, 4, 0, 0xff, false⟩,
  ⟨0x01, 0x04, 64, .rws, 0, 0, 0xffffffffffffffff, false⟩]⟩

/-- Objects 0x2800 (19_clocks_and_power.md, Table 19-6). -/
def dictGroup2800 : Group := ⟨0x2800, 0x2800, [
  ⟨0x00, 0x00, 8, .const, 0xe, 0, 0xff, false⟩,
  ⟨0x01, 0x01, 8, .rws, 2, 0, 3, false⟩,
  ⟨0x02, 0x02, 8, .ro, 2, 0, 3, false⟩,
  ⟨0x03, 0x03, 8, .ro, 0, 0, 2, false⟩,
  ⟨0x04, 0x04, 32, .rw, 0, 0, 0xffffffff, true⟩,
  ⟨0x05, 0x05, 8, .ro, 1, 0, 1, false⟩,
  ⟨0x06, 0x06, 16, .rw, 0x26c, 0xc8, 0x26c, false⟩,
  ⟨0x07, 0x07, 16, .ro, 0, 0, 0xffff, false⟩,
  ⟨0x08, 0x08, 16, .rw, 0, 0, 0xffff, true⟩,
  ⟨0x09, 0x09, 64, .ro, 0, 0, 0xffffffffffffffff, false⟩,
  ⟨0x0A, 0x0A, 32, .rw, 0xc8, 0x14, 0x3e8, false⟩,
  ⟨0x0B, 0x0B, 16, .ro, 0, 0, 0xffff, false⟩,
  ⟨0x0C, 0x0C, 16, .rw, 0x5c, 0x46, 0x5c, false⟩,
  ⟨0x0D, 0x0D, 32, .rw, 0x64, 0xa, 0x186a0, false⟩,
  ⟨0x0E, 0x0E, 16, .ro, 0, 0, 0x15f, false⟩]⟩

/-- Objects 0x2810 (19_clocks_and_power.md, Table 19-6). -/
def dictGroup2810 : Group := ⟨0x2810, 0x2810, [
  ⟨0x00, 0x00, 8, .const, 6, 0, 0xff, false⟩,
  ⟨0x01, 0x01, 16, .const, 0x3e8, 0, 0xffff, false⟩,
  ⟨0x02, 0x02, 16, .const, 0x258, 0, 0xffff, false⟩,
  ⟨0x03, 0x06, 16, .ro, 0x258, 0, 0xffff, false⟩]⟩

/-- Objects 0x2811 (19_clocks_and_power.md, Table 19-6). -/
def dictGroup2811 : Group := ⟨0x2811, 0x2811, [
  ⟨0x00, 0x00, 8, .const, 6, 0, 0xff, false⟩,
  ⟨0x01, 0x01, 16, .const, 0x4b0, 0, 0xffff, false⟩,
  ⟨0x02, 0x02, 16, .const, 0x28a, 0, 0xffff, false⟩,
  ⟨0x03, 0x06, 16, .ro, 0x28a, 0, 0xffff, false⟩]⟩

/-- Objects 0x2812 (19_clocks_and_power.md, Table 19-6). -/
def dictGroup2812 : Group := ⟨0x2812, 0x2812, [
  ⟨0x00, 0x00, 8, .const, 6, 0, 0xff, false⟩,
  ⟨0x01, 0x01, 16, .const, 0x5dc, 0, 0xffff, false⟩,
  ⟨0x02, 0x02, 16, .const, 0x2d0, 0, 0xffff, false⟩,
  ⟨0x03, 0x06, 16, .ro, 0x2d0, 0, 0xffff, false⟩]⟩

/-- Objects 0x2813 (19_clocks_and_power.md, Table 19-6). -/
def dictGroup2813 : Group := ⟨0x2813, 0x2813, [
  ⟨0x00, 0x00, 8, .const, 6, 0, 0xff, false⟩,
  ⟨0x01, 0x01, 16, .const, 0x7d0, 0, 0xffff, false⟩,
  ⟨0x02, 0x02, 16, .const, 0x352, 0, 0xffff, false⟩,
  ⟨0x03, 0x06, 16, .ro, 0x352, 0, 0xffff, false⟩]⟩

/-- Objects 0x2820 (19_clocks_and_power.md, R397). -/
def dictGroup2820 : Group := ⟨0x2820, 0x2820, [
  ⟨0x00, 0x00, 8, .const, 7, 0, 0xff, false⟩,
  ⟨0x01, 0x07, 8, .ro, 0, 0, 2, false⟩]⟩

/-- Objects 0x2821 (19_clocks_and_power.md, R397). -/
def dictGroup2821 : Group := ⟨0x2821, 0x2821, [
  ⟨0x00, 0x00, 8, .const, 7, 0, 0xff, false⟩,
  ⟨0x01, 0x07, 32, .rw, 0, 0, 0xffffffff, true⟩]⟩

/-- Objects 0x2822 (19_clocks_and_power.md, R397). -/
def dictGroup2822 : Group := ⟨0x2822, 0x2822, [
  ⟨0x00, 0x00, 8, .const, 7, 0, 0xff, false⟩,
  ⟨0x01, 0x07, 32, .rw, 0, 0, 0xffffffff, true⟩]⟩

/-- Objects 0x2823 (19_clocks_and_power.md, R397). -/
def dictGroup2823 : Group := ⟨0x2823, 0x2823, [
  ⟨0x00, 0x00, 8, .const, 7, 0, 0xff, false⟩,
  ⟨0x01, 0x07, 16, .ro, 0, 0, 0xffff, false⟩]⟩

/-- Objects 0x2830 (19_clocks_and_power.md, Table 19-6). -/
def dictGroup2830 : Group := ⟨0x2830, 0x2830, [
  ⟨0x00, 0x00, 8, .const, 7, 0, 0xff, false⟩,
  ⟨0x01, 0x01, 8, .wo, 0, 1, 1, false⟩,
  ⟨0x02, 0x02, 8, .ro, 0, 0, 1, false⟩,
  ⟨0x03, 0x03, 8, .ro, 0, 0, 4, false⟩,
  ⟨0x04, 0x04, 32, .ro, 0, 0, 0xffffffff, false⟩,
  ⟨0x05, 0x05, 32, .ro, 0, 0, 0xffffffff, false⟩,
  ⟨0x06, 0x06, 32, .ro, 0, 0, 0xffffffff, false⟩,
  ⟨0x07, 0x07, 16, .ro, 0, 0, 0xffff, false⟩]⟩

/-- Objects 0x2840–0x2843 (19_clocks_and_power.md, R397). -/
def dictGroup2840 : Group := ⟨0x2840, 0x2843, [
  ⟨0x00, 0x00, 8, .const, 0x44, 0, 0xff, false⟩,
  ⟨0x01, 0x44, 32, .ro, 0, 0, 0xffffffff, false⟩]⟩

/-- Objects 0x2A00 (19_clocks_and_power.md, Table 19-7). -/
def dictGroup2A00 : Group := ⟨0x2A00, 0x2A00, [
  ⟨0x00, 0x00, 8, .const, 0xa, 0, 0xff, false⟩,
  ⟨0x01, 0x01, 8, .ro, 3, 0, 0xff, false⟩,
  ⟨0x02, 0x02, 8, .ro, 0xf, 0, 0xff, false⟩,
  ⟨0x03, 0x03, 32, .ro, 0x1e848, 0, 0xffffffff, false⟩,
  ⟨0x04, 0x04, 32, .ro, 0x186a0, 0, 0xffffffff, false⟩,
  ⟨0x05, 0x05, 32, .rw, 0, 0, 0xffffffff, true⟩,
  ⟨0x06, 0x06, 8, .ro, 0, 0, 4, false⟩,
  ⟨0x07, 0x07, 32, .ro, 0, 0, 0xffffffff, false⟩,
  ⟨0x08, 0x08, 8, .rw, 0, 0, 0xff, false⟩,
  ⟨0x09, 0x09, 8, .ro, 4, 3, 0xc, false⟩,
  ⟨0x0A, 0x0A, 8, .ro, 0, 0, 0xff, false⟩]⟩

/-- Objects 0x2C00 (05_causeway.md, Table 05-12). -/
def dictGroup2C00 : Group := ⟨0x2C00, 0x2C00, [
  ⟨0x00, 0x00, 8, .const, 0xe, 0, 0xff, false⟩,
  ⟨0x01, 0x01, 16, .ro, 0x4000, 0, 0xffff, false⟩,
  ⟨0x02, 0x02, 64, .ro, 0x1000100010001000, 0, 0xffffffffffffffff, false⟩,
  ⟨0x03, 0x03, 16, .rw, 0, 0, 0xffff, true⟩,
  ⟨0x04, 0x04, 64, .ro, 0, 0, 0xffffffffffffffff, false⟩,
  ⟨0x05, 0x05, 32, .rw, 0xf4240, 0x2710, 0x3b9aca00, false⟩,
  ⟨0x06, 0x06, 32, .ro, 0, 0, 0xffffffff, false⟩,
  ⟨0x07, 0x07, 64, .ro, 0, 0, 0xffffffffffffffff, false⟩,
  ⟨0x08, 0x08, 64, .ro, 0, 0, 0xffffffffffffffff, false⟩,
  ⟨0x09, 0x09, 32, .ro, 0, 0, 0xffffffff, false⟩,
  ⟨0x0A, 0x0A, 32, .ro, 0, 0, 0xffffffff, false⟩,
  ⟨0x0B, 0x0B, 32, .ro, 0, 0, 0xffffffff, false⟩,
  ⟨0x0C, 0x0C, 32, .ro, 0, 0, 0xffffffff, false⟩,
  ⟨0x0D, 0x0D, 32, .ro, 0, 0, 0xffffffff, false⟩,
  ⟨0x0E, 0x0E, 32, .rw, 0x2710, 0xfa0, 0x186a0, false⟩]⟩

/-- Objects 0x2C10–0x2C13 (05_causeway.md, Table 05-12). -/
def dictGroup2C10 : Group := ⟨0x2C10, 0x2C13, [
  ⟨0x00, 0x00, 8, .const, 0x44, 0, 0xff, false⟩,
  ⟨0x01, 0x44, 8, .ro, 1, 0, 3, false⟩]⟩

/-- Objects 0x2E00 (09_seam_links.md, Table 09-7). -/
def dictGroup2E00 : Group := ⟨0x2E00, 0x2E00, [
  ⟨0x00, 0x00, 8, .const, 9, 0, 0xff, false⟩,
  ⟨0x01, 0x01, 32, .rws, 0, 0, 0xffffff, false⟩,
  ⟨0x02, 0x02, 32, .ro, 0, 0, 0xffffffff, false⟩,
  ⟨0x03, 0x03, 8, .rw, 8, 1, 0xff, false⟩,
  ⟨0x04, 0x04, 32, .rw, 0x7d0, 0x1f4, 0x186a0, false⟩,
  ⟨0x05, 0x05, 32, .rw, 0x4e20, 0x3e8, 0xf4240, false⟩,
  ⟨0x06, 0x06, 16, .rw, 0x100, 0x40, 0x1000, false⟩,
  ⟨0x07, 0x07, 64, .rw, 0, 0, 0xffffffffffffffff, true⟩,
  ⟨0x08, 0x08, 64, .rw, 0, 0, 0xffffffffffffffff, true⟩,
  ⟨0x09, 0x09, 32, .rw, 0, 0, 0xffffffff, true⟩]⟩

/-- Objects 0x2E10–0x2E27 (09_seam_links.md, Table 09-7). -/
def dictGroup2E10 : Group := ⟨0x2E10, 0x2E27, [
  ⟨0x00, 0x00, 8, .const, 0xb, 0, 0xff, false⟩,
  ⟨0x01, 0x01, 8, .ro, 0, 0, 3, false⟩,
  ⟨0x02, 0x02, 8, .ro, 0, 0, 0xff, false⟩,
  ⟨0x03, 0x03, 16, .ro, 0xffff, 0, 0x3ff, false⟩,
  ⟨0x04, 0x04, 8, .ro, 0xff, 0, 0x17, false⟩,
  ⟨0x05, 0x05, 8, .ro, 0xff, 0, 3, false⟩,
  ⟨0x06, 0x06, 32, .rw, 0, 0, 0xffffffff, true⟩,
  ⟨0x07, 0x07, 32, .rw, 0, 0, 0xffffffff, true⟩,
  ⟨0x08, 0x08, 32, .rw, 0, 0, 0xffffffff, true⟩,
  ⟨0x09, 0x09, 32, .rw, 0, 0, 0xffffffff, true⟩,
  ⟨0x0A, 0x0A, 16, .ro, 0, 0, 0xffff, false⟩,
  ⟨0x0B, 0x0B, 32, .rw, 0, 0, 0xffffffff, true⟩]⟩

/-- Objects 0x3000 (10_time_base.md, Table 10-3). -/
def dictGroup3000 : Group := ⟨0x3000, 0x3000, [
  ⟨0x00, 0x00, 8, .const, 0x15, 0, 0xff, false⟩,
  ⟨0x01, 0x01, 64, .ro, 0, 0, 0xffffffffffffffff, false⟩,
  ⟨0x02, 0x02, 32, .ro, 0, 0, 0xffffffff, false⟩,
  ⟨0x03, 0x03, 64, .rw, 0x400000000, 0x3fae147af, 0x4051eb851, false⟩,
  ⟨0x04, 0x04, 64, .wo, 0, 0, 0xffffffffffffffff, false⟩,
  ⟨0x05, 0x05, 8, .ro, 0, 0, 3, false⟩,
  ⟨0x06, 0x06, 8, .ro, 0, 0, 1, false⟩,
  ⟨0x07, 0x07, 8, .rw, 0x80, 0, 0xff, false⟩,
  ⟨0x08, 0x08, 16, .ro, 0xffff, 0, 0x3ff, false⟩,
  ⟨0x09, 0x09, 8, .ro, 0, 0, 0xff, false⟩,
  ⟨0x0A, 0x0A, 8, .ro, 0xff, 0, 0x17, false⟩,
  ⟨0x0B, 0x0B, 32, .ro, 0, 0, 0xffffffff, false⟩,
  ⟨0x0C, 0x0C, 32, .rw, 0xc8, 0xa, 0xf4240, false⟩,
  ⟨0x0D, 0x0D, 32, .rw, 0, 0, 0xffffffff, true⟩,
  ⟨0x0E, 0x0E, 8, .ro, 0, 0, 2, false⟩,
  ⟨0x0F, 0x0F, 32, .rw, 0x1e848, 0x3d09, 0xf4240, false⟩,
  ⟨0x10, 0x10, 32, .rw, 0xf4240, 0x1e848, 0x989680, false⟩,
  ⟨0x11, 0x11, 8, .wo, 0, 1, 1, false⟩,
  ⟨0x12, 0x12, 8, .rw, 0, 0, 3, false⟩,
  ⟨0x13, 0x13, 8, .ro, 0, 0, 4, false⟩,
  ⟨0x14, 0x14, 64, .ro, 0, 0, 0xffffffffffffffff, false⟩,
  ⟨0x15, 0x15, 32, .rw, 0x186a0, 0x64, 0x1dcd6500, false⟩]⟩

/-- Objects 0x3001 (10_time_base.md, Table 10-4). -/
def dictGroup3001 : Group := ⟨0x3001, 0x3001, [
  ⟨0x00, 0x00, 8, .const, 0x18, 0, 0xff, false⟩,
  ⟨0x01, 0x18, 32, .ro, 0xffffffff, 0, 0xffffffff, false⟩]⟩

/-- Objects 0x3010 (11_tied_mode.md, Table 11-4). -/
def dictGroup3010 : Group := ⟨0x3010, 0x3010, [
  ⟨0x00, 0x00, 8, .const, 0xa, 0, 0xff, false⟩,
  ⟨0x01, 0x01, 8, .ro, 0, 0, 2, false⟩,
  ⟨0x02, 0x02, 8, .rws, 1, 0, 2, false⟩,
  ⟨0x03, 0x03, 8, .rws, 0x10, 1, 0xff, false⟩,
  ⟨0x04, 0x04, 64, .rws, 0, 0, 0xffffffffffffffff, false⟩,
  ⟨0x05, 0x05, 64, .ro, 0, 0, 0xffffffffffffffff, false⟩,
  ⟨0x06, 0x06, 64, .ro, 0, 0, 0xffffffffffffffff, false⟩,
  ⟨0x07, 0x07, 8, .ro, 0, 0, 2, false⟩,
  ⟨0x08, 0x08, 8, .rws, 1, 0, 1, false⟩,
  ⟨0x09, 0x09, 64, .ro, 0, 0, 0xffffffffffffffff, false⟩,
  ⟨0x0A, 0x0A, 8, .ro, 0, 0, 1, false⟩]⟩

/-- Objects 0x3020–0x3027 (11_tied_mode.md, Table 11-5). -/
def dictGroup3020 : Group := ⟨0x3020, 0x3027, [
  ⟨0x00, 0x00, 8, .const, 0xe, 0, 0xff, false⟩,
  ⟨0x01, 0x01, 8, .ro, 0xff, 0, 0x3f, false⟩,
  ⟨0x02, 0x02, 32, .ro, 0, 0, 0xffffffff, false⟩,
  ⟨0x03, 0x03, 16, .ro, 0, 0, 0xffff, false⟩,
  ⟨0x04, 0x04, 32, .ro, 0, 0, 0xffffffff, false⟩,
  ⟨0x05, 0x05, 64, .ro, 0, 0, 0xffffffffffffffff, false⟩,
  ⟨0x06, 0x06, 64, .ro, 0, 0, 0xffffffffffffffff, false⟩,
  ⟨0x07, 0x07, 64, .ro, 0, 0, 0xffffffffffffffff, false⟩,
  ⟨0x08, 0x08, 32, .ro, 0, 0, 0xffffffff, false⟩,
  ⟨0x09, 0x09, 32, .rws, 0x100, 0, 0xf4240, false⟩,
  ⟨0x0A, 0x0A, 32, .rw, 0, 0, 0xffffffff, true⟩,
  ⟨0x0B, 0x0B, 32, .ro, 0, 0, 0xffffffff, false⟩,
  ⟨0x0C, 0x0C, 64, .ro, 0, 0, 0xffffffffffffffff, false⟩,
  ⟨0x0D, 0x0D, 64, .ro, 0, 0, 0xffffffffffffffff, false⟩,
  ⟨0x0E, 0x0E, 64, .ro, 0, 0, 0xffffffffffffffff, false⟩]⟩

/-- Objects 0x3200 (14_triggers.md, Table 14-8). -/
def dictGroup3200 : Group := ⟨0x3200, 0x3200, [
  ⟨0x00, 0x00, 8, .const, 0xb, 0, 0xff, false⟩,
  ⟨0x01, 0x01, 8, .rws, 0, 0, 1, false⟩,
  ⟨0x02, 0x02, 8, .wo, 0, 1, 1, false⟩,
  ⟨0x03, 0x03, 8, .ro, 0, 0, 0xf, false⟩,
  ⟨0x04, 0x04, 64, .ro, 0, 0, 0xffffffffffffffff, false⟩,
  ⟨0x05, 0x05, 64, .ro, 0, 0, 0xffffffffffffffff, false⟩,
  ⟨0x06, 0x06, 64, .ro, 0, 0, 0xffffffffffffffff, false⟩,
  ⟨0x07, 0x07, 64, .ro, 0, 0, 0xffffffffffffffff, false⟩,
  ⟨0x08, 0x08, 16, .rws, 0, 0, 0xffff, false⟩,
  ⟨0x09, 0x09, 16, .rws, 0, 0, 0xffff, false⟩,
  ⟨0x0A, 0x0A, 32, .rw, 0, 0, 0xffffffff, true⟩,
  ⟨0x0B, 0x0B, 32, .rw, 0, 0, 0xffffffff, true⟩]⟩

/-- Objects 0x3210–0x324F (14_triggers.md, Table 14-8). -/
def dictGroup3210 : Group := ⟨0x3210, 0x324F, [
  ⟨0x00, 0x00, 8, .const, 6, 0, 0xff, false⟩,
  ⟨0x01, 0x01, 64, .rws, 0, 0, 0xffffffffffffffff, false⟩,
  ⟨0x02, 0x02, 64, .rws, 0, 0, 0xffffffffffffffff, false⟩,
  ⟨0x03, 0x03, 64, .rws, 0, 0, 0xffffffffffffffff, false⟩,
  ⟨0x04, 0x04, 64, .rws, 0, 0, 0xffffffffffffffff, false⟩,
  ⟨0x05, 0x05, 8, .ro, 0, 0, 3, false⟩,
  ⟨0x06, 0x06, 32, .rw, 0, 0, 0xffffffff, true⟩]⟩

/-- Objects 0x3250–0x325F (14_triggers.md, Table 14-8). -/
def dictGroup3250 : Group := ⟨0x3250, 0x325F, [
  ⟨0x00, 0x00, 8, .const, 9, 0, 0xff, false⟩,
  ⟨0x01, 0x01, 64, .rws, 0, 0, 0xffffffffffffffff, false⟩,
  ⟨0x02, 0x02, 64, .rws, 0, 0, 0xffffffffffffffff, false⟩,
  ⟨0x03, 0x03, 64, .rws, 0, 0, 0xffffffffffffffff, false⟩,
  ⟨0x04, 0x04, 64, .rws, 0, 0, 0xffffffffffffffff, false⟩,
  ⟨0x05, 0x05, 64, .rws, 0, 0, 0xffffffffffffffff, false⟩,
  ⟨0x06, 0x06, 64, .rws, 0, 0, 0xffffffffffffffff, false⟩,
  ⟨0x07, 0x07, 64, .rws, 0, 0, 0xffffffffffffffff, false⟩,
  ⟨0x08, 0x08, 64, .rws, 0, 0, 0xffffffffffffffff, false⟩,
  ⟨0x09, 0x09, 16, .rws, 0, 0, 0xffff, false⟩]⟩

/-- Objects 0x3260 (14_triggers.md, R397). -/
def dictGroup3260 : Group := ⟨0x3260, 0x3260, [
  ⟨0x00, 0x00, 8, .const, 0x10, 0, 0xff, false⟩,
  ⟨0x01, 0x10, 64, .ro, 0, 0, 0xffffffffffff, false⟩]⟩

/-- Objects 0x3261 (14_triggers.md, R397). -/
def dictGroup3261 : Group := ⟨0x3261, 0x3261, [
  ⟨0x00, 0x00, 8, .const, 0x10, 0, 0xff, false⟩,
  ⟨0x01, 0x10, 64, .rws, 0, 0, 0xffffffffffff, false⟩]⟩

/-- Objects 0x3270 (14_triggers.md, Table 14-8). -/
def dictGroup3270 : Group := ⟨0x3270, 0x3270, [
  ⟨0x00, 0x00, 8, .const, 0xe, 0, 0xff, false⟩,
  ⟨0x01, 0x01, 8, .rws, 0, 0, 1, false⟩,
  ⟨0x02, 0x02, 8, .rws, 0, 0, 0xff, false⟩,
  ⟨0x03, 0x03, 8, .rws, 1, 1, 0x20, false⟩,
  ⟨0x04, 0x04, 64, .rws, 0, 0, 0xffffffffffffffff, false⟩,
  ⟨0x05, 0x05, 32, .rws, 0, 0, 0xffffffff, false⟩,
  ⟨0x06, 0x06, 32, .rw, 0, 0, 0xffffffff, false⟩,
  ⟨0x07, 0x07, 32, .ro, 0, 0, 0xffffffff, false⟩,
  ⟨0x08, 0x08, 8, .rws, 0, 0, 1, false⟩,
  ⟨0x09, 0x09, 64, .ro, 0, 0, 0xffffffffffffffff, false⟩,
  ⟨0x0A, 0x0A, 32, .rw, 0, 0, 0xffffffff, true⟩,
  ⟨0x0B, 0x0B, 64, .rw, 0, 0, 0xffffffffffffffff, false⟩,
  ⟨0x0C, 0x0C, 16, .rw, 0, 0, 0xffff, false⟩,
  ⟨0x0D, 0x0D, 32, .rw, 0, 0, 0xffffffff, true⟩,
  ⟨0x0E, 0x0E, 32, .rw, 0, 0, 0xffffffff, true⟩]⟩

/-- Objects 0x3280 (14_triggers.md, R397). -/
def dictGroup3280 : Group := ⟨0x3280, 0x3280, [
  ⟨0x00, 0x00, 8, .const, 5, 0, 0xff, false⟩,
  ⟨0x01, 0x04, 64, .rws, 0x3e80, 0, 0xffffffffffffffff, false⟩,
  ⟨0x05, 0x05, 8, .ro, 0, 0, 0xff, false⟩]⟩

/-- Objects 0x3290 (14_triggers.md, R397). -/
def dictGroup3290 : Group := ⟨0x3290, 0x3290, [
  ⟨0x00, 0x00, 8, .const, 0x80, 0, 0xff, false⟩,
  ⟨0x01, 0x80, 64, .ro, 0, 0, 0xffffffffffffffff, false⟩]⟩

/-- Objects 0x3291 (14_triggers.md, R397). -/
def dictGroup3291 : Group := ⟨0x3291, 0x3291, [
  ⟨0x00, 0x00, 8, .const, 0x80, 0, 0xff, false⟩,
  ⟨0x01, 0x80, 64, .ro, 0, 0, 0xffffffffffffffff, false⟩]⟩

/-- Objects 0x3400 (15_trace_and_snapshots.md, Table 15-4). -/
def dictGroup3400 : Group := ⟨0x3400, 0x3400, [
  ⟨0x00, 0x00, 8, .const, 0x12, 0, 0xff, false⟩,
  ⟨0x01, 0x01, 8, .rws, 0, 0, 1, false⟩,
  ⟨0x02, 0x02, 8, .rws, 0, 0, 1, false⟩,
  ⟨0x03, 0x03, 8, .rws, 0, 0, 1, false⟩,
  ⟨0x04, 0x04, 16, .rws, 0, 0, 0x3ff, false⟩,
  ⟨0x05, 0x05, 16, .rws, 0x400, 1, 0x400, false⟩,
  ⟨0x06, 0x06, 32, .rws, 0x400, 0, 0xffffffff, false⟩,
  ⟨0x07, 0x07, 32, .rws, 0x400, 0, 0xffffffff, false⟩,
  ⟨0x08, 0x08, 8, .wo, 0, 1, 2, false⟩,
  ⟨0x09, 0x09, 8, .ro, 0, 0, 4, false⟩,
  ⟨0x0A, 0x0A, 32, .ro, 0x2040, 0, 0xffffffff, false⟩,
  ⟨0x0B, 0x0B, 64, .ro, 0x3f80fe, 0, 0xffffffffffffffff, false⟩,
  ⟨0x0C, 0x0C, 64, .ro, 0, 0, 0xffffffffffffffff, false⟩,
  ⟨0x0D, 0x0D, 64, .rw, 0, 0, 0xffffffffffffffff, false⟩,
  ⟨0x0E, 0x0E, 64, .ro, 0xffffffffffffffff, 0, 0xffffffffffffffff, false⟩,
  ⟨0x0F, 0x0F, 64, .ro, 0, 0, 0xffffffffffffffff, false⟩,
  ⟨0x10, 0x10, 64, .rw, 0, 0, 0xffffffffffffffff, true⟩,
  ⟨0x11, 0x11, 64, .ro, 0, 0, 0xffffffffffffffff, false⟩,
  ⟨0x12, 0x12, 32, .rw, 0, 0, 0xffffffff, true⟩]⟩

/-- Objects 0x3410 (15_trace_and_snapshots.md, Table 15-5). -/
def dictGroup3410 : Group := ⟨0x3410, 0x3410, [
  ⟨0x00, 0x00, 8, .const, 0xb, 0, 0xff, false⟩,
  ⟨0x01, 0x01, 32, .rws, 0, 0, 0xffffffff, false⟩,
  ⟨0x02, 0x02, 64, .rws, 0, 0, 0xffffffffffffffff, false⟩,
  ⟨0x03, 0x03, 8, .ro, 0, 0, 0x3f, false⟩,
  ⟨0x04, 0x04, 8, .ro, 0, 0, 4, false⟩,
  ⟨0x05, 0x05, 32, .ro, 0, 0, 0xffffffff, false⟩,
  ⟨0x06, 0x06, 64, .rws, 0, 0, 0xffffffffffffffff, false⟩,
  ⟨0x07, 0x07, 8, .rws, 0, 0, 2, false⟩,
  ⟨0x08, 0x08, 8, .ro, 0, 0, 2, false⟩,
  ⟨0x09, 0x09, 32, .ro, 0, 0, 0xffffffff, false⟩,
  ⟨0x0A, 0x0A, 64, .ro, 0, 0, 0xffffffffffffffff, false⟩,
  ⟨0x0B, 0x0B, 64, .ro, 0, 0, 0xffffffffffffffff, false⟩]⟩

/-- Objects 0x3420–0x345F (15_trace_and_snapshots.md, Table 15-5). -/
def dictGroup3420 : Group := ⟨0x3420, 0x345F, [
  ⟨0x00, 0x00, 8, .const, 4, 0, 0xff, false⟩,
  ⟨0x01, 0x01, 8, .ro, 0, 0, 3, false⟩,
  ⟨0x02, 0x02, 64, .ro, 0, 0, 0xffffffffffffffff, false⟩,
  ⟨0x03, 0x03, 64, .ro, 0, 0, 0xffffffffffffffff, false⟩,
  ⟨0x04, 0x04, 8, .ro, 0, 0, 2, false⟩]⟩

/-- Objects 0x3600 (12_transactor_cores.md, Table 12-6). -/
def dictGroup3600 : Group := ⟨0x3600, 0x3600, [
  ⟨0x00, 0x00, 8, .const, 6, 0, 0xff, false⟩,
  ⟨0x01, 0x01, 32, .rw, 0, 0, 0xffffffff, false⟩,
  ⟨0x02, 0x02, 8, .ro, 0, 0, 1, false⟩,
  ⟨0x03, 0x03, 64, .ro, 0, 0, 0xffffffffffffffff, false⟩,
  ⟨0x04, 0x04, 64, .ro, 0, 0, 0xffffffffffffffff, false⟩,
  ⟨0x05, 0x05, 64, .ro, 0, 0, 0xffffffffffffffff, false⟩,
  ⟨0x06, 0x06, 32, .rw, 0, 0, 0xffffffff, true⟩]⟩

/-- Objects 0x3610–0x362F (12_transactor_cores.md, Table 12-6). -/
def dictGroup3610 : Group := ⟨0x3610, 0x362F, [
  ⟨0x00, 0x00, 8, .const, 6, 0, 0xff, false⟩,
  ⟨0x01, 0x01, 64, .rw, 0, 0, 0xffffffffffffffff, false⟩,
  ⟨0x02, 0x02, 8, .ro, 0, 0, 3, false⟩,
  ⟨0x03, 0x03, 32, .rw, 0, 0, 0xffffffff, false⟩,
  ⟨0x04, 0x04, 8, .rw, 1, 0, 1, false⟩,
  ⟨0x05, 0x05, 8, .rw, 0, 0, 1, false⟩,
  ⟨0x06, 0x06, 32, .rw, 0, 0, 0xffffffff, true⟩]⟩

/-- Objects 0x3640 (13_thread_scheduler.md, Table 13-7). -/
def dictGroup3640 : Group := ⟨0x3640, 0x3640, [
  ⟨0x00, 0x00, 8, .const, 0xc, 0, 0xff, false⟩,
  ⟨0x01, 0x01, 16, .ro, 0, 0, 0xffff, false⟩,
  ⟨0x02, 0x02, 16, .ro, 0, 0, 0xffff, false⟩,
  ⟨0x03, 0x03, 16, .rw, 0, 0, 0xffff, true⟩,
  ⟨0x04, 0x04, 32, .rw, 0, 0, 0xffffffff, true⟩,
  ⟨0x05, 0x05, 32, .rw, 0, 0, 0xffffffff, true⟩,
  ⟨0x06, 0x06, 16, .rw, 0, 0, 0x3fff, false⟩,
  ⟨0x07, 0x07, 64, .ro, 0, 0, 0xffffffffffffffff, false⟩,
  ⟨0x08, 0x08, 32, .wo, 0, 0, 0xffffffff, false⟩,
  ⟨0x09, 0x09, 32, .ro, 0, 0, 0xffffffff, false⟩,
  ⟨0x0A, 0x0A, 8, .wo, 0, 1, 2, false⟩,
  ⟨0x0B, 0x0B, 8, .ro, 0, 0, 0xff, false⟩,
  ⟨0x0C, 0x0C, 64, .ro, 0, 0, 0xffffffffffffffff, false⟩]⟩

/-- Objects 0x3644 (13_thread_scheduler.md, R397). -/
def dictGroup3644 : Group := ⟨0x3644, 0x3644, [
  ⟨0x00, 0x00, 8, .const, 0x20, 0, 0xff, false⟩,
  ⟨0x01, 0x20, 16, .ro, 0, 0, 0xffff, false⟩]⟩

/-- Objects 0x3645 (13_thread_scheduler.md, R397). -/
def dictGroup3645 : Group := ⟨0x3645, 0x3645, [
  ⟨0x00, 0x00, 8, .const, 0x20, 0, 0xff, false⟩,
  ⟨0x01, 0x20, 16, .rw, 0, 0, 0xffff, true⟩]⟩

/-- Objects 0x3650–0x366F (13_thread_scheduler.md, Table 13-7). -/
def dictGroup3650 : Group := ⟨0x3650, 0x366F, [
  ⟨0x00, 0x00, 8, .const, 0xb, 0, 0xff, false⟩,
  ⟨0x01, 0x01, 8, .rw, 1, 0, 1, false⟩,
  ⟨0x02, 0x02, 16, .ro, 0, 0, 0x200, false⟩,
  ⟨0x03, 0x03, 16, .ro, 0, 0, 0xffff, false⟩,
  ⟨0x04, 0x04, 16, .rw, 0, 0, 0xffff, true⟩,
  ⟨0x05, 0x05, 16, .ro, 0xffff, 0, 0xffff, false⟩,
  ⟨0x06, 0x06, 64, .rw, 0, 0, 0xffffffffffffffff, true⟩,
  ⟨0x07, 0x07, 64, .rw, 0, 0, 0xffffffffffffffff, true⟩,
  ⟨0x08, 0x08, 64, .rw, 0, 0, 0xffffffffffffffff, true⟩,
  ⟨0x09, 0x09, 64, .rw, 0, 0, 0xffffffffffffffff, true⟩,
  ⟨0x0A, 0x0A, 64, .rw, 0, 0, 0xffffffffffffffff, true⟩,
  ⟨0x0B, 0x0B, 32, .rw, 0, 0, 0xffffffff, true⟩]⟩

/-- Objects 0x3680–0x369F (13_thread_scheduler.md, R397). -/
def dictGroup3680 : Group := ⟨0x3680, 0x369F, [
  ⟨0x00, 0x00, 8, .const, 0x10, 0, 0xff, false⟩,
  ⟨0x01, 0x10, 32, .rw, 0, 0, 0xffffffff, true⟩]⟩

/-- Objects 0x3800 (16_edge_fabric.md, Table 16-7). -/
def dictGroup3800 : Group := ⟨0x3800, 0x3800, [
  ⟨0x00, 0x00, 8, .const, 0x13, 0, 0xff, false⟩,
  ⟨0x01, 0x01, 32, .const, 0x41a00, 0, 0xffffffff, false⟩,
  ⟨0x02, 0x02, 8, .ro, 0, 0, 2, false⟩,
  ⟨0x03, 0x03, 8, .wo, 0, 1, 3, false⟩,
  ⟨0x04, 0x04, 64, .rw, 0, 0, 0xffffffffffffffff, false⟩,
  ⟨0x05, 0x05, 32, .rw, 0, 0x100, 0x4000000, false⟩,
  ⟨0x06, 0x06, 8, .ro, 0, 0, 3, false⟩,
  ⟨0x07, 0x07, 16, .ro, 0, 0, 0xffff, false⟩,
  ⟨0x08, 0x08, 64, .ro, 0, 0, 0xffffffffffffffff, false⟩,
  ⟨0x09, 0x09, 8, .ro, 0, 0, 2, false⟩,
  ⟨0x0A, 0x0A, 32, .ro, 0, 0, 0xffffffff, false⟩,
  ⟨0x0B, 0x0B, 64, .rws, 0, 0, 0xffffffffffffffff, false⟩,
  ⟨0x0C, 0x0C, 64, .rws, 0, 0, 0xffffffffffffffff, false⟩,
  ⟨0x0D, 0x0D, 32, .rw, 0, 0, 0xffffffff, true⟩,
  ⟨0x0E, 0x0E, 8, .rw, 0, 0, 1, false⟩,
  ⟨0x0F, 0x0F, 8, .ro, 1, 0, 0xff, false⟩,
  ⟨0x10, 0x10, 16, .rw, 0, 0, 0xffff, true⟩,
  ⟨0x11, 0x11, 16, .ro, 0, 0, 0xffff, false⟩,
  ⟨0x12, 0x12, 32, .rw, 0, 0, 0xffffffff, true⟩,
  ⟨0x13, 0x13, 8, .rws, 1, 0, 1, false⟩]⟩

/-- Objects 0x3801 (16_edge_fabric.md, R397). -/
def dictGroup3801 : Group := ⟨0x3801, 0x3801, [
  ⟨0x00, 0x00, 8, .const, 8, 0, 0xff, false⟩,
  ⟨0x01, 0x08, 32, .ro, 0, 0, 0xffffffff, false⟩]⟩

/-- Objects 0x3802 (16_edge_fabric.md, R397). -/
def dictGroup3802 : Group := ⟨0x3802, 0x3802, [
  ⟨0x00, 0x00, 8, .const, 8, 0, 0xff, false⟩,
  ⟨0x01, 0x08, 16, .ro, 0, 0, 0xffff, false⟩]⟩

/-- Objects 0x3803 (16_edge_fabric.md, R397). -/
def dictGroup3803 : Group := ⟨0x3803, 0x3803, [
  ⟨0x00, 0x00, 8, .const, 0x10, 0, 0xff, false⟩,
  ⟨0x01, 0x10, 32, .ro, 0, 0, 0xffffffff, false⟩]⟩

/-- Objects 0x3804 (16_edge_fabric.md, R397). -/
def dictGroup3804 : Group := ⟨0x3804, 0x3804, [
  ⟨0x00, 0x00, 8, .const, 8, 0, 0xff, false⟩,
  ⟨0x01, 0x08, 16, .ro, 0xfa0, 0, 0xffff, false⟩]⟩

/-- Objects 0x3A00 (17_host_and_management.md, Table 17-9). -/
def dictGroup3A00 : Group := ⟨0x3A00, 0x3A00, [
  ⟨0x00, 0x00, 8, .const, 0xc, 0, 0xff, false⟩,
  ⟨0x01, 0x01, 16, .ro, 0, 0, 0xffff, false⟩,
  ⟨0x02, 0x05, 64, .ro, 0, 0, 0xffffffffffffffff, false⟩,
  ⟨0x06, 0x06, 32, .rw, 0, 0, 0xffffffff, true⟩,
  ⟨0x07, 0x07, 64, .ro, 0, 0, 0xffffffffffffffff, false⟩,
  ⟨0x08, 0x08, 8, .ro, 0, 0, 0xff, false⟩,
  ⟨0x09, 0x09, 32, .rw, 0, 0, 0xffffffff, true⟩,
  ⟨0x0A, 0x0A, 32, .rw, 0, 0, 0xffffffff, true⟩,
  ⟨0x0B, 0x0B, 32, .rw, 0, 0, 0xffffffff, true⟩,
  ⟨0x0C, 0x0C, 32, .rw, 0, 0, 0xffffffff, true⟩]⟩

/-- Objects 0x3A10–0x3A1F (17_host_and_management.md, Table 17-9). -/
def dictGroup3A10 : Group := ⟨0x3A10, 0x3A1F, [
  ⟨0x00, 0x00, 8, .const, 9, 0, 0xff, false⟩,
  ⟨0x01, 0x01, 64, .rw, 0, 0, 0xffffffffffffffff, false⟩,
  ⟨0x02, 0x02, 16, .rw, 0, 2, 0x1000, false⟩,
  ⟨0x03, 0x03, 16, .ro, 0, 0, 0xffff, false⟩,
  ⟨0x04, 0x04, 16, .ro, 0, 0, 0xffff, false⟩,
  ⟨0x05, 0x05, 8, .wo, 0, 1, 2, false⟩,
  ⟨0x06, 0x06, 8, .ro, 0, 0, 3, false⟩,
  ⟨0x07, 0x07, 8, .ro, 0, 0, 2, false⟩,
  ⟨0x08, 0x08, 64, .ro, 0, 0, 0xffffffffffffffff, false⟩,
  ⟨0x09, 0x09, 8, .ro, 0, 0, 2, false⟩]⟩

/-- Objects 0x3A20 (17_host_and_management.md, Table 17-9). -/
def dictGroup3A20 : Group := ⟨0x3A20, 0x3A20, [
  ⟨0x00, 0x00, 8, .const, 8, 0, 0xff, false⟩,
  ⟨0x01, 0x01, 8, .ro, 0, 0, 0x7f, false⟩,
  ⟨0x02, 0x02, 32, .rws, 0x7a120, 0x1e848, 0xf4240, false⟩,
  ⟨0x03, 0x03, 32, .rws, 0x1e8480, 0xf4240, 0x4c4b40, false⟩,
  ⟨0x04, 0x04, 8, .rws, 0, 0, 1, false⟩,
  ⟨0x05, 0x05, 8, .ro, 0x7f, 0, 0xff, false⟩,
  ⟨0x06, 0x06, 16, .ro, 0, 0, 0xffff, false⟩,
  ⟨0x07, 0x07, 32, .rw, 0, 0, 0xffffffff, true⟩,
  ⟨0x08, 0x08, 32, .rw, 0, 0, 0xffffffff, true⟩]⟩

/-- Objects 0x3C00 (21_debug.md, Table 21-9). -/
def dictGroup3C00 : Group := ⟨0x3C00, 0x3C00, [
  ⟨0x00, 0x00, 8, .const, 8, 0, 0xff, false⟩,
  ⟨0x01, 0x01, 8, .ro, 1, 0, 1, false⟩,
  ⟨0x02, 0x02, 8, .wo, 0, 1, 1, false⟩,
  ⟨0x03, 0x03, 32, .ro, 0, 0, 0xffffffff, false⟩,
  ⟨0x04, 0x04, 32, .rw, 0, 0, 0xffffffff, false⟩,
  ⟨0x05, 0x05, 32, .rw, 0, 0, 0xffffffff, false⟩,
  ⟨0x06, 0x06, 32, .rw, 0, 0, 0xffffffff, true⟩,
  ⟨0x07, 0x07, 32, .rw, 0, 0, 0xffffffff, true⟩,
  ⟨0x08, 0x08, 32, .rw, 0, 0, 0xffffffff, false⟩]⟩

/-- Objects 0x3C01 (21_debug.md, Table 21-9). -/
def dictGroup3C01 : Group := ⟨0x3C01, 0x3C01, [
  ⟨0x00, 0x00, 8, .const, 4, 0, 0xff, false⟩,
  ⟨0x01, 0x01, 32, .rw, 0, 0, 0x7fff00, false⟩,
  ⟨0x02, 0x02, 8, .wo, 0, 1, 2, false⟩,
  ⟨0x03, 0x03, 8, .ro, 0, 0, 1, false⟩,
  ⟨0x04, 0x04, 8, .ro, 0, 0, 3, false⟩]⟩

/-- Objects 0x3D00 (20_reset_and_boot.md, Table 20-4). -/
def dictGroup3D00 : Group := ⟨0x3D00, 0x3D00, [
  ⟨0x00, 0x00, 8, .const, 7, 0, 0xff, false⟩,
  ⟨0x01, 0x01, 16, .wo, 0, 0, 0xffff, false⟩,
  ⟨0x02, 0x02, 8, .ro, 0, 0, 2, false⟩,
  ⟨0x03, 0x03, 16, .ro, 1, 0, 0xffff, false⟩,
  ⟨0x04, 0x04, 32, .rw, 0, 0, 0xffffffff, true⟩,
  ⟨0x05, 0x05, 8, .ro, 0, 0, 7, false⟩,
  ⟨0x06, 0x06, 16, .ro, 0, 0, 3, false⟩,
  ⟨0x07, 0x07, 32, .ro, 0, 0, 0xffffffff, false⟩]⟩

/-- Objects 0x3E00 (22_lifecycle_and_keys.md, Table 22-3). -/
def dictGroup3E00 : Group := ⟨0x3E00, 0x3E00, [
  ⟨0x00, 0x00, 8, .const, 0xb, 0, 0xff, false⟩,
  ⟨0x01, 0x01, 8, .ro, 2, 0, 5, false⟩,
  ⟨0x02, 0x02, 64, .ro, 0, 0, 0xffffffffffffffff, false⟩,
  ⟨0x03, 0x03, 8, .wo, 0, 0, 5, false⟩,
  ⟨0x04, 0x04, 8, .ro, 0, 0, 7, false⟩,
  ⟨0x05, 0x05, 8, .ro, 4, 0, 4, false⟩,
  ⟨0x06, 0x06, 8, .ro, 0, 0, 1, false⟩,
  ⟨0x07, 0x07, 8, .rws, 0, 0, 1, false⟩,
  ⟨0x08, 0x08, 8, .rws, 0, 0, 1, false⟩,
  ⟨0x09, 0x09, 8, .ro, 0, 0, 0xff, false⟩,
  ⟨0x0A, 0x0A, 8, .ro, 0, 0, 0xff, false⟩,
  ⟨0x0B, 0x0B, 16, .ro, 0, 0, 0xffff, false⟩]⟩

/-- Objects 0x3E01 (22_lifecycle_and_keys.md, R397). -/
def dictGroup3E01 : Group := ⟨0x3E01, 0x3E01, [
  ⟨0x00, 0x00, 8, .const, 0xc, 0, 0xff, false⟩,
  ⟨0x01, 0x0C, 64, .rw, 0, 0, 0xffffffffffffffff, false⟩]⟩

/-- Objects 0x3E02 (22_lifecycle_and_keys.md, Table 22-3). -/
def dictGroup3E02 : Group := ⟨0x3E02, 0x3E02, [
  ⟨0x00, 0x00, 8, .const, 0x10, 0, 0xff, false⟩,
  ⟨0x01, 0x0C, 64, .wo, 0, 0, 0xffffffffffffffff, false⟩,
  ⟨0x0D, 0x0D, 8, .rw, 0, 1, 8, false⟩,
  ⟨0x0E, 0x0E, 8, .rw, 0, 0, 1, false⟩,
  ⟨0x0F, 0x0F, 8, .wo, 0, 1, 4, false⟩,
  ⟨0x10, 0x10, 8, .ro, 0, 0, 4, false⟩]⟩

/-- Objects 0x4000 (18_dictionary_map.md, Table 18-9). -/
def dictGroup4000 : Group := ⟨0x4000, 0x4000, [
  ⟨0x00, 0x00, 8, .const, 0xf, 0, 0xff, false⟩,
  ⟨0x01, 0x01, 32, .ro, 0, 0, 0xffffffff, false⟩,
  ⟨0x02, 0x02, 32, .ro, 0, 0, 0xffffffff, false⟩,
  ⟨0x03, 0x03, 32, .rw, 0, 0, 0xffffffff, false⟩,
  ⟨0x04, 0x0B, 64, .ro, 0, 0, 0xffffffffffffffff, false⟩,
  ⟨0x0C, 0x0C, 32, .ro, 0, 0, 0xffffffff, false⟩,
  ⟨0x0D, 0x0D, 32, .wo, 0, 0, 0xffffffff, false⟩,
  ⟨0x0E, 0x0E, 32, .ro, 0, 0, 0xffffffff, false⟩,
  ⟨0x0F, 0x0F, 32, .rw, 0, 0, 0xffffffff, true⟩]⟩

/-- Objects 0x4001 (23_faults_and_recovery.md, Table 23-5). -/
def dictGroup4001 : Group := ⟨0x4001, 0x4001, [
  ⟨0x00, 0x00, 8, .const, 0x14, 0, 0xff, false⟩,
  ⟨0x01, 0x14, 32, .rw, 0, 0, 0xffffffff, true⟩]⟩

/-- Objects 0x4002 (23_faults_and_recovery.md, Table 23-5). -/
def dictGroup4002 : Group := ⟨0x4002, 0x4002, [
  ⟨0x00, 0x00, 8, .const, 0xb, 0, 0xff, false⟩,
  ⟨0x01, 0x01, 8, .rws, 0, 0, 2, false⟩,
  ⟨0x02, 0x02, 8, .ro, 0, 0, 6, false⟩,
  ⟨0x03, 0x03, 8, .ro, 0, 0, 7, false⟩,
  ⟨0x04, 0x04, 32, .ro, 0, 0, 0xffffffff, false⟩,
  ⟨0x05, 0x05, 32, .rw, 0, 0, 0xffffffff, true⟩,
  ⟨0x06, 0x06, 8, .rw, 1, 0, 1, false⟩,
  ⟨0x07, 0x07, 16, .wo, 0, 0, 0xffff, false⟩,
  ⟨0x08, 0x08, 16, .rws, 0, 0, 0xffff, false⟩,
  ⟨0x09, 0x09, 64, .ro, 0, 0, 0xffffffffffffffff, false⟩,
  ⟨0x0A, 0x0A, 64, .ro, 0, 0, 0xffffffffffffffff, false⟩,
  ⟨0x0B, 0x0B, 8, .rw, 3, 1, 8, false⟩]⟩

/-- Part 1 of the dictionary. -/
def dictPart1 : List Group := [dictGroup1000, dictGroup1001, dictGroup1003, dictGroup1014, dictGroup1015, dictGroup1017, dictGroup1018, dictGroup1200, dictGroup2000, dictGroup2030, dictGroup2100, dictGroup2110, dictGroup2120, dictGroup2121, dictGroup2122, dictGroup2200, dictGroup2400, dictGroup2401, dictGroup2410, dictGroup2420]

/-- Part 2 of the dictionary. -/
def dictPart2 : List Group := [dictGroup2480, dictGroup2481, dictGroup2500, dictGroup2800, dictGroup2810, dictGroup2811, dictGroup2812, dictGroup2813, dictGroup2820, dictGroup2821, dictGroup2822, dictGroup2823, dictGroup2830, dictGroup2840, dictGroup2A00, dictGroup2C00, dictGroup2C10, dictGroup2E00, dictGroup2E10, dictGroup3000]

/-- Part 3 of the dictionary. -/
def dictPart3 : List Group := [dictGroup3001, dictGroup3010, dictGroup3020, dictGroup3200, dictGroup3210, dictGroup3250, dictGroup3260, dictGroup3261, dictGroup3270, dictGroup3280, dictGroup3290, dictGroup3291, dictGroup3400, dictGroup3410, dictGroup3420, dictGroup3600, dictGroup3610, dictGroup3640, dictGroup3644, dictGroup3645]

/-- Part 4 of the dictionary. -/
def dictPart4 : List Group := [dictGroup3650, dictGroup3680, dictGroup3800, dictGroup3801, dictGroup3802, dictGroup3803, dictGroup3804, dictGroup3A00, dictGroup3A10, dictGroup3A20, dictGroup3C00, dictGroup3C01, dictGroup3D00, dictGroup3E00, dictGroup3E01, dictGroup3E02, dictGroup4000, dictGroup4001, dictGroup4002]

/-- The whole dictionary (Table 18-1). -/
def dictGroups : List Group := dictPart1 ++ dictPart2 ++ dictPart3 ++ dictPart4

/-- The row that declares object `index.sub`, the key being `index * 256 + sub` (R398). -/
def rowOf (k : Nat) : Option Row :=
  match dictGroups.find? fun g => g.i0 ≤ k / 256 && k / 256 ≤ g.i1 with
  | none => none
  | some g => g.rows.find? fun r => r.s0 ≤ k % 256 && k % 256 ≤ r.s1

/-- The default of an object (R401). -/
def dflt (k : Nat) : Nat := match rowOf k with | some r => r.dflt | none => 0

/-- The width of an object's type in bits. -/
def widthOf (k : Nat) : Nat := match rowOf k with | some r => r.width | none => 64

end Sys2Proof.Machine
end

