-- ==== Sys2Proof/Machine/Bits.lean ====
section
/-!
DEFINITION. Bit fields of natural numbers, little-endian byte strings (R6), saturation (R400), the extended Hamming
code of R53–R55 and the CRC-32 of R158.
-/

namespace Sys2Proof.Machine

/-- The `w`-bit field of `n` whose lowest bit is bit `lo`. -/
def field (n lo w : Nat) : Nat := (n >>> lo) % 2 ^ w

/-- `n` with its `w`-bit field at `lo` replaced by the low bits of `v`. -/
def setField (n lo w v : Nat) : Nat :=
  n - (field n lo w) * 2 ^ lo + (v % 2 ^ w) * 2 ^ lo

/-- Bit `i` of `n`. -/
def bit (n i : Nat) : Bool := n.testBit i

/-- `n` with bit `i` set to `b`. -/
def setBit (n i : Nat) (b : Bool) : Nat := setField n i 1 b.toNat

/-- The addition that stops at the all-ones value of a `w`-bit type (R400). -/
def satAdd (w n m : Nat) : Nat := min (n + m) (2 ^ w - 1)

/-- A natural number read as a `w`-bit two's-complement integer. -/
def toSigned (w n : Nat) : Int :=
  let m := n % 2 ^ w
  if m < 2 ^ (w - 1) then (m : Int) else (m : Int) - 2 ^ w

/-- An integer as a `w`-bit two's-complement pattern. -/
def ofSigned (w : Nat) (i : Int) : Nat := (i % (2 ^ w : Int)).toNat

/-- The parity of the lowest `n` bits. -/
def parity : Nat → Nat → Bool
  | 0, _ => false
  | n + 1, v => xor (v.testBit n) (parity n v)

/-- The number of set bits among the lowest `n`. -/
def popcount : Nat → Nat → Nat
  | 0, _ => 0
  | n + 1, v => (v.testBit n).toNat + popcount n v

/-- The value of a little-endian byte string (R6). -/
def leNat : List Byte → Nat
  | [] => 0
  | b :: bs => b.toNat + 256 * leNat bs

/-- The `n` low bytes of a value, lowest first (R6). -/
def leBytes : Nat → Nat → List Byte
  | 0, _ => []
  | n + 1, v => BitVec.ofNat 8 v :: leBytes n (v / 256)

/-! ### Check bits -/

/-- The codeword positions that carry data: every position from 3 that is no power of two, ascending (R53). -/
def dataPositions : List Nat :=
  ((List.range 88).filter fun p => p ≥ 3 && ! (p &&& (p - 1) == 0))

/-- The exclusive or of the positions of the set bits among bits `i`, `i + 1`, … of `v`. -/
def synOf (v : Nat) : Nat → List Nat → Nat
  | _, [] => 0
  | i, p :: ps => (if v.testBit i then p else 0) ^^^ synOf v (i + 1) ps

/-- Check bits C7–C0 of an `n`-bit word, `n` = 80 for instructions and 64 for route entries and memory rows
(R53, R55, R138). -/
def checkBits (n v : Nat) : Nat :=
  let c := synOf v 0 (dataPositions.take n)
  c + 128 * (xor (parity n v) (parity 7 c)).toNat

/-- What the check of a stored word says (R54). -/
inductive EccResult where
  | clean (data : Nat)
  | corrected (data : Nat)
  | uncorrectable (syndrome : Nat)
deriving DecidableEq, Repr

/-- The check of an `n`-bit word `v` with stored check bits `ecc` (R54, R55). -/
def eccCheck (n v ecc : Nat) : EccResult :=
  let pos := dataPositions.take n
  let syn := synOf v 0 pos ^^^ (ecc % 128)
  let odd := xor (parity n v) (parity 8 ecc)
  if odd then
    if syn == 0 || (syn &&& (syn - 1)) == 0 then .corrected v
    else match pos.findIdx? (· == syn) with
      | some i => .corrected (v ^^^ 2 ^ i)
      | none => .uncorrectable syn
  else if syn == 0 then .clean v else .uncorrectable syn

/-- One bit step of the reflected CRC-32 (R158). -/
def crcBit (c : Nat) : Nat :=
  if c % 2 == 1 then (c / 2) ^^^ 0xEDB88320 else c / 2

/-- One byte step of the reflected CRC-32. -/
def crcByte (c : Nat) (b : Byte) : Nat :=
  crcBit (crcBit (crcBit (crcBit (crcBit (crcBit (crcBit (crcBit (c ^^^ b.toNat))))))))

/-- The register of the CRC-32 after a byte string. The cases of the register make each step a number before the next. -/
def crcFrom : List Byte → Nat → Nat
  | [], c => c
  | b :: bs, 0 => crcFrom bs (crcByte 0 b)
  | b :: bs, c + 1 => crcFrom bs (crcByte (c + 1) b)

/-- CRC-32 of a byte string (R158). -/
def crc32 (bs : List Byte) : Nat := crcFrom bs 0xFFFFFFFF ^^^ 0xFFFFFFFF

end Sys2Proof.Machine
end

