-- ==== Sys2Proof/Machine/Tab.lean ====
section
/-!
DEFINITION. Sparse tables: lists of (key, value) pairs in one canonical form (keys strictly rising, no entry equal to
what an unlisted key reads as), and the byte memories built of them (`Host.Cell`).
-/

namespace Sys2Proof.Machine

/-- A sparse table from natural-number keys. -/
abbrev Tab (α : Type) := List (Nat × α)

/-- The value at key `k`; an unlisted key reads as `d k`. -/
def tget {α : Type} (d : Nat → α) : Tab α → Nat → α
  | [], k => d k
  | (j, v) :: t, k => if j = k then v else tget d t k

/-- The table without key `k`. -/
def tdel {α : Type} (t : Tab α) (k : Nat) : Tab α := t.filter fun e => e.1 != k

/-- Insertion of a key that the table does not hold, before the first larger key. -/
def tins {α : Type} : Tab α → Nat → α → Tab α
  | [], k, v => [(k, v)]
  | (j, w) :: t, k, v => if k < j then (k, v) :: (j, w) :: t else (j, w) :: tins t k v

/-- The table with `v` at key `k`. Writing what an unlisted key reads as removes the entry. -/
def tput {α : Type} [DecidableEq α] (d : Nat → α) (t : Tab α) (k : Nat) (v : α) : Tab α :=
  if v = d k then tdel t k else tins (tdel t k) k v

/-- The table with the value at `k` changed by `f`. -/
def tupd {α : Type} [DecidableEq α] (d : Nat → α) (t : Tab α) (k : Nat) (f : α → α) : Tab α :=
  tput d t k (f (tget d t k))

/-- Every listed value changed by `f`; entries that then read as unlisted ones go. -/
def tmap {α : Type} [DecidableEq α] (d : Nat → α) (f : Nat → α → α) (t : Tab α) : Tab α :=
  (t.map fun e => (e.1, f e.1 e.2)).filter fun e => ! decide (e.2 = d e.1)

/-- Keys strictly rising from above `lo`. -/
def risingFrom {α : Type} : Option Nat → Tab α → Bool
  | _, [] => true
  | lo, (k, _) :: t => (match lo with | none => true | some l => decide (l < k)) && risingFrom (some k) t

/-- The canonical form: keys strictly rising, and no entry equal to what an unlisted key reads as. -/
def Tab.wf {α : Type} [DecidableEq α] (d : Nat → α) (t : Tab α) : Bool :=
  risingFrom none t && t.all fun e => ! decide (e.2 = d e.1)

/-! ### Byte memories -/

/-- A byte memory: sparse, an unlisted address reads 0. -/
abbrev Memory := List Host.Cell

/-- What an unlisted address reads as. -/
def Memory.blank : Nat → Byte := fun _ => 0

/-- The canonical form of a byte memory. -/
def Memory.wf (m : Memory) : Bool := Tab.wf Memory.blank m

/-- The byte at an address. -/
def mget (m : Memory) (a : Nat) : Byte := tget Memory.blank m a

/-- The memory with one byte written. -/
def mput (m : Memory) (a : Nat) (b : Byte) : Memory := tput Memory.blank m a b

/-- `n` bytes from an address upwards. -/
def mread (m : Memory) (a : Nat) : Nat → List Byte
  | 0 => []
  | n + 1 => mget m a :: mread m (a + 1) n

/-- A byte string stored from an address upwards. -/
def mwrite : Memory → Nat → List Byte → Memory
  | m, _, [] => m
  | m, a, b :: bs => mwrite (mput m a b) (a + 1) bs

/-- The little-endian value of `n` bytes (R6). -/
def mnat (m : Memory) (a n : Nat) : Nat := leNat (mread m a n)

/-- An `n`-byte value stored little-endian (R6). -/
def mputNat (m : Memory) (a n v : Nat) : Memory := mwrite m a (leBytes n v)

/-- Bit `i` of the bit string whose byte 0 lies at `a`. -/
def mbit (m : Memory) (a i : Nat) : Bool := (mget m (a + i / 8)).getLsbD (i % 8)

/-- The memory with bit `i` of that bit string set to `b`. -/
def mputBit (m : Memory) (a i : Nat) (b : Bool) : Memory :=
  mput m (a + i / 8) (BitVec.ofNat 8 (setBit (mget m (a + i / 8)).toNat (i % 8) b))

/-- The memory with every byte of [lo, hi) set to 0. -/
def mclear (m : Memory) (lo hi : Nat) : Memory := m.filter fun c => c.1 < lo || hi ≤ c.1

/-- The part of a memory in [lo, hi), its addresses counted from lo. -/
def mslice (m : Memory) (lo hi : Nat) : Memory :=
  (m.filter fun c => lo ≤ c.1 && c.1 < hi).map fun c => (c.1 - lo, c.2)

/-- A memory laid over another from address `a` upwards, byte for byte (only listed cells are written). -/
def mlay (m : Memory) (a : Nat) (img : Memory) : Memory :=
  img.foldl (fun acc c => mput acc (a + c.1) c.2) m

/-- Ranges without the part [a, a + n). -/
def cutRange (a n : Nat) (l : List (Nat × Nat × Nat)) : List (Nat × Nat × Nat) :=
  l.flatMap fun r =>
    if a + n ≤ r.1 || r.2.1 ≤ a then [r]
    else (if r.1 < a then [(r.1, a, r.2.2)] else []) ++ (if a + n < r.2.1 then [(a + n, r.2.1, r.2.2)] else [])

end Sys2Proof.Machine
end

