-- ==== Sys2Proof/Machine/State.lean ====
section
/-!
DEFINITION. The state of the module as plain data: every register, store, queue, counter, mode and pin the spec gives it,
and the queue of waiting commands. `State.reset` is the module right after a power-on reset.
-/

namespace Sys2Proof.Machine


/-! ### Clusters (02–06) -/

/-- The sequencer states of a cluster (Table 04-1). -/
inductive SeqState where
  | runStep | held | commit | exchange | drain | atEnd
deriving DecidableEq, Repr

/-- Where a pending delivery comes from (R27). -/
inductive DelivSrc where
  | own | group | route | memory | quarry
deriving DecidableEq, Repr

/-- A value on its way into LOCAL or INBOX: the period in which it lands, its place and its epoch stamp (R29, R33). -/
structure Deliv where
  due : Nat
  src : DelivSrc
  inbox : Bool
  bp : Nat
  idx : Nat
  val : Bool
  stamp : Bool
deriving DecidableEq, Repr

/-- One read queued at a route port (R77, R78): the entry, its place in the chain, the step and period of the op. -/
structure RouteRead where
  entry : Nat
  chain : Nat
  step : Nat
  issued : Nat
  val : Bool
  stamp : Bool
deriving DecidableEq, Repr

/-- One bit waiting at a landing port (R114); `own` marks a same-cluster route delivery, which goes first. -/
structure LandBit where
  ready : Nat
  own : Bool
  bp : Nat
  idx : Nat
  val : Bool
  stamp : Bool
deriving DecidableEq, Repr

/-- The gather buffer of one SLOT (R109, R110): leaving position, bits, which of them have been given, contributions so far, period of the
last bit. -/
structure Gather where
  pos : Nat
  bits : Nat
  named : Nat
  count : Nat
  last : Nat
  stamp : Bool
deriving DecidableEq, Repr

/-- A write to a design-memory row that other ports do not yet see (R136): `old` and `ecc` are the row before its step and that row's
check bits. -/
structure MemWrite where
  step : Nat
  port : Nat
  row : Nat
  mask : Nat
  data : Nat
  old : Nat
  ecc : Nat
deriving DecidableEq, Repr

/-- An entry of a Quarry queue (R142) and, after sending, the request its response tag stands for; `issued` counts periods from the
load. -/
structure QuarryReq where
  port : Nat
  write : Bool
  slot : Nat
  data : Nat
  width : Nat
  ret : Nat
  stamp : Bool
  dc : Nat
  issued : Nat
  waited : Bool
deriving DecidableEq, Repr

/-- A Quarry response that has reached its cluster router: the request, the value read, the period of arrival (R43). -/
structure QuarryRet where
  req : QuarryReq
  val : Nat
  arrived : Nat
deriving DecidableEq, Repr

/-- A value that an exchange or observation op gives to the hub (R63–R66). -/
inductive Drive where
  | xout (xport bit : Nat) (v : Bool)
  | fout (bit : Nat) (v : Bool)
  | trg (channel : Nat) (v : Bool)
  | prb (probe : Nat) (v : Bool)
  | evt (tcx flag : Nat)
  | asrt (n die lc bp : Nat)
deriving DecidableEq, Repr

/-- One physical cluster. `node` is the byte space of Table 05-10 (instruction stores, STATE, LOCAL and INBOX values and
tags, route table, slot and landing tables, design memory); `ecc` holds the check byte of each design-memory row. `done` are the BPs
whose op of the present step has executed, `memUse` one more than the last period in which its design memory was touched (R139), and
`retBus` for each port the last period, counted from the load, in which its return bus drives INBOX, with the bits it then carries (R137). -/
structure Cluster where
  seq : SeqState
  step : Nat
  period : Nat
  overrun : Nat
  endPeriod : Option Nat
  notice : Bool
  holdLen : Nat
  holdWhere : Nat
  stopped : List Nat
  done : List Nat
  node : Memory
  ecc : Memory
  written : Tab Bool
  staged : List (Nat × Bool)
  portAddr : Tab Nat
  portData : Tab Nat
  portUse : Tab Nat
  inflight : List Deliv
  routeQ : Tab (List RouteRead)
  routeLast : Tab Nat
  landQ : Tab (List LandBit)
  landLast : Tab Nat
  gather : Tab (Option Gather)
  arrived : List Flit
  recent : List MemWrite
  fixInstr : List Nat
  fixRoute : List Nat
  fixRows : List Nat
  quarryQ : List QuarryReq
  returns : List QuarryRet
  drives : List Drive
  wroteMem : Bool
  memUse : Nat
  retBus : Tab (Nat × Nat)
  scrubRow : Nat
  counters : Tab Nat
  mark : Nat
deriving DecidableEq, Repr

/-- A cluster after reset: stores all zero (R51: the zero word is a NOP), nothing in flight, at END. -/
def Cluster.blank : Cluster where
  seq := .atEnd
  step := 0
  period := 0
  overrun := 0
  endPeriod := none
  notice := false
  holdLen := 0
  holdWhere := 0
  stopped := []
  done := []
  node := []
  ecc := []
  written := []
  staged := []
  portAddr := []
  portData := []
  portUse := []
  inflight := []
  routeQ := []
  routeLast := []
  landQ := []
  landLast := []
  gather := []
  arrived := []
  recent := []
  fixInstr := []
  fixRoute := []
  fixRows := []
  quarryQ := []
  returns := []
  drives := []
  wroteMem := false
  memUse := 0
  retBus := []
  scrubRow := 0
  counters := []
  mark := 0

/-! ### The Sluice and the hub's domain unit (04) -/

/-- A DC-done token that has become visible: link, DC and period of visibility (R88). -/
structure Token where
  link : Nat
  dc : Nat
  visible : Nat
deriving DecidableEq, Repr

/-- The module-wide sequencer state. `base` is the number of periods from the load to the last opening. -/
structure Sluice where
  base : Nat
  tokens : List Token
  localDone : Option Nat
  exchanged : Bool
  latched : Bool
  waitCount : Nat
  enables : Nat
  nextEnables : Nat
  accs : Tab Nat
  domains : Tab Nat
  homes : Tab Nat
  asserts : Memory
  drives : List Drive
  seamSlots : List Nat
  xin : Tab Nat
  fin : Memory
deriving DecidableEq, Repr

def Sluice.blank : Sluice where
  base := 0
  tokens := []
  localDone := none
  exchanged := false
  latched := false
  waitCount := 0
  enables := 0
  nextEnables := 0
  accs := []
  domains := []
  homes := []
  asserts := []
  drives := []
  seamSlots := []
  xin := []
  fin := []

/-! ### Causeway (05) -/

/-- A packet on its way through a router: its length in flits, how many of them have come and how many have been sent on, and the link
that brings them (R108). -/
structure PacketRun where
  pkt : Packet
  flits : Nat
  come : Nat
  sent : Nat
  input : Nat
deriving DecidableEq, Repr

/-- A slot flit in a router: the first period in which it may leave, and the link that brought it (R108). -/
structure SlotWait where
  ready : Nat
  input : Nat
  flit : Flit
deriving DecidableEq, Repr

/-- One output link of a router (R107): slot flits, packets per virtual channel, the weighted round robin's position, and one more than
the period of the last word sent. -/
structure OutLink where
  slots : List SlotWait
  vc0 : List PacketRun
  vc1 : List PacketRun
  vc2 : List PacketRun
  vc3 : List PacketRun
  wrr : Nat
  last : Nat
deriving DecidableEq, Repr

def OutLink.blank : OutLink := ⟨[], [], [], [], [], 0, 0⟩

/-- Who sent an access to a cluster node through the system bus (R378, R461): a BAR2 read under its PCIe tag, a BAR2 write, the debug port;
`gone` where its sender no longer waits for it. -/
inductive BusWho where
  | hostRead (tag : Nat)
  | hostWrite
  | debug
  | gone
deriving DecidableEq, Repr

/-- One packet of a system-bus access (R377): sender, BAR2 offset of its first byte, bytes, and those still to be written: all of them while
a narrow write reads the words around it. -/
structure BusReq where
  who : BusWho
  off : Nat
  bytes : Nat
  data : List Byte
deriving DecidableEq, Repr

/-- Who holds a response tag (R120). -/
inductive TagOwner where
  | quarry (cid : Nat) (req : QuarryReq)
  | thread (core tcx flag : Nat) (write : Bool) (buf bytes : Nat)
  | bus (r : BusReq)
deriving DecidableEq, Repr

/-- An outstanding response tag: its generation and its owner. -/
structure TagUse where
  gen : Nat
  owner : TagOwner
deriving DecidableEq, Repr

/-- The network's state: router output links by `(die * 128 + node) * 16 + port`, packets that have reached their
destination node, outstanding tags and tag generations, packets held at waking ports, and responses whose tags are complete
but whose requesters (threads) have not yet taken them. -/
structure Net where
  links : Tab OutLink
  arrived : List Packet
  tags : Tab (Option TagUse)
  gens : Tab Nat
  held : Tab (List Packet)
  done : List (Nat × TagOwner × Packet)
deriving DecidableEq, Repr

def Net.blank : Net := ⟨[], [], [], [], [], []⟩

/-! ### HBM and the Quarry (06, 15) -/

/-- One overburden record (Table 06-4). -/
structure OvbRec where
  dc : Nat
  old : Nat
  addr : Nat
deriving DecidableEq, Repr

/-- The HBM contents and the positions of its rings. `bad` lists the addresses of uncorrectable 8-byte words; `open_`
the ranges [lo, hi) whose bytes are left open (R150, R161), each with the draw that names their free values; `zeroing` says that the boot is to write 0 to all of it (R441). -/
structure Hbm where
  mem : Memory
  bad : List Nat
  open_ : List (Nat × Nat × Nat)
  ovbHead : Nat
  ovb : List OvbRec
  refreshing : List Nat
  waited : List Nat
  selfRefresh : Bool
  replay : List (Nat × Nat × Nat)
  replayHead : Nat
  zeroing : Bool
deriving DecidableEq, Repr

/-- The retained copy (R161): by `64 * die + lc` the stores of each used cluster in node addresses (Table 05-10) with logical
destinations, the port descriptors by `4 * (64 * die + lc) + port`, and the relocation records. -/
structure Retained where
  stores : Tab Memory
  ports : Tab Nat
  relocs : List Nat
deriving DecidableEq, Repr

def Retained.blank : Retained := ⟨[], [], []⟩

/-- HBM after power-on: nothing says what it holds until boot has written 0 to all of it (R441). -/
def Hbm.blank : Hbm := ⟨[], [], [(0, 96 * 2 ^ 30, 2)], 0, [], [], [], false, [], 0, true⟩

/-! ### The Seam (09) -/

/-- One lane of a link. Its receiver: the run of identical line bits and the last bit (R207); one destuffed bit to skip, the
destuffed bits of the candidate block so far, lowest first, their number, whether a stuffing violation has marked it, and the time of its
first bit (R209, R216); the descrambler's last 31 line bits (R206); locked, consecutive valid headers in HUNT, the last 64 headers (newest
first, true for invalid); markers seen since lock, the transmit lane it carries, the number of its next unit and the skew its last
marker showed (R210); the blocks not yet reassembled, oldest first, with their times. Its transmitter: the scrambler's last 31 line
bits, its run, the bits by which stuffing, fillers and markers have delayed it (R208), and the blocks sent since its last marker. -/
structure SeamLane where
  rxRun : Nat
  rxLast : Bool
  slip : Bool
  acc : Nat
  got : Nat
  bad : Bool
  since : Nat
  rxHist : Nat
  locked : Bool
  good : Nat
  last64 : List Bool
  markers : Nat
  laneId : Nat
  unitNo : Nat
  skew : Nat
  rx : List (SeamBlock × Nat)
  txHist : Nat
  txRun : Nat
  txLast : Bool
  txLag : Nat
  txBlocks : Nat
deriving DecidableEq, Repr

def SeamLane.blank : SeamLane :=
  ⟨0, false, false, 0, 0, false, 0, 0, false, 0, [], 0, 0, 0, 0, [], 0, 0, false, 0, 0⟩

/-- A unit of the frame that a link is sending: the upstream link that has yet to vouch for it, and whether that link has withdrawn it
(R226). -/
structure OpenUnit where
  unit : SeamUnit
  upstream : Option Nat
  lost : Bool
deriving DecidableEq, Repr

/-- An unacknowledged frame (R220): its SEQ, its blocks with the trailer last, and how often it has been resent. -/
structure RetryFrame where
  seq : Nat
  blocks : List SeamBlock
  resent : Nat
deriving DecidableEq, Repr

/-- A slot flit waiting at a link's egress: tag, whether it came by its reserved position, that position, bits, DC, whether it
left a local cluster, and the upstream link whose frame with it is not yet checked (R226). -/
structure EgressSlot where
  tag : Nat
  onTime : Bool
  pos : Nat
  bits : Nat
  dc : Nat
  origin : Bool
  upstream : Option Nat
deriving DecidableEq, Repr

/-- What is sent outside frames on a link (Table 09-3). -/
inductive SeamMsg where
  | idle (b : IdleBlock)
  | ack (seq credits : Nat)
  | nak (seq : Nat)
  | sync (b : SyncBlock)
  | pdelayReq (seqId depart : Nat)
  | pdelayResp (seqId reqArrive depart : Nat)
deriving DecidableEq, Repr

/-- The link layer of one Seam link. `rxUnit` numbers the next unit to be reassembled and `rxQ` holds the units reassembled, oldest first,
with the times of their first bits; `rxSeq` and `txSeq` count frames received in order and closed; `nakAt` is when the last NAK went,
`ackFrom` when the wait for an acknowledgement began; `openUnits` is the frame being sent, `again` the own units of a killed frame;
`retry` the unacknowledged frames, `resend` the SEQs still to be resent, `resending` the blocks left of the one being resent; `pktOut`
and `pktIn` the flits left to send and those received of each VC's packet; `early` the tags, epochs and bits of R225; `relayed` the unit
numbers that RELAY_FORWARD has passed on from the frame being received; `originSent` the (DC, tag) of ORIGIN flits sent, `doneDue` the
DC-done tokens not yet sent with the period up to which they wait, `doneSent` the DC of the last sent; `expired` says that
RESUME_LIMIT has passed since the link left UP. -/
structure SeamLink where
  lanes : Tab SeamLane
  rxUnit : Nat
  rxQ : List (SeamBlock × Nat)
  idleRun : Nat
  idleSeen : Option (Nat × Nat)
  kept : Bool
  partnerKept : Bool
  downSince : Option Nat
  rxSeq : Nat
  nakSent : Bool
  nakAt : Nat
  ackDue : Nat
  ackCredits : Tab Nat
  ackFrom : Nat
  txSeq : Nat
  txUnit : Nat
  openUnits : List OpenUnit
  again : List OpenUnit
  retry : List RetryFrame
  resend : List Nat
  resending : List SeamBlock
  credits : Tab Nat
  slotQ : List EgressSlot
  ctrlQ : List SeamUnit
  msgQ : List SeamMsg
  pktQ : List Packet
  pktOut : Tab (List Nat)
  pktIn : Tab (List Nat)
  wrr : Nat
  early : List (Nat × Nat × Nat)
  relayed : List Nat
  originSent : List (Nat × Nat)
  doneDue : List (Nat × Nat)
  doneSent : Option Nat
  expired : Bool
deriving DecidableEq, Repr

def SeamLink.blank : SeamLink where
  lanes := []
  rxUnit := 0
  rxQ := []
  idleRun := 0
  idleSeen := none
  kept := false
  partnerKept := false
  downSince := none
  rxSeq := 0
  nakSent := false
  nakAt := 0
  ackDue := 0
  ackCredits := []
  ackFrom := 0
  txSeq := 0
  txUnit := 0
  openUnits := []
  again := []
  retry := []
  resend := []
  resending := []
  credits := []
  slotQ := []
  ctrlQ := []
  msgQ := []
  pktQ := []
  pktOut := []
  pktIn := []
  wrr := 0
  early := []
  relayed := []
  originSent := []
  doneDue := []
  doneSent := none
  expired := false

/-! ### The time base (10) -/

/-- A live grandmaster candidate heard on a link (R240). -/
structure Candidate where
  priority : Nat
  gmId : Nat
  steps : Nat
  expires : Nat
deriving DecidableEq, Repr

/-- The time base: the 96-bit counter, the latch of R236, the frequency term of R243 in units of 2^-48 ns, the nominal
increment, the candidates by link, the last accepted (SEQID, BOOT) by `gmId * 32 + link` and (XSEQ, BOOT) by origin, the path
measurements (in 2^-32 ns) and outstanding requests by link, the boot number of R229, the time of the last PPS edge, the time at
which TIME_PPS_OUT rose, the whole second it waits for and whether this tick has reached it (R248), when the next TIME_SYNC and path-delay measurements are due, and whether boot has
started the counter (R448). `stepBy` and `setTo` act in the next
tick, `setPps` at the next PPS edge (R247). -/
structure TimeBase where
  counter : Nat
  latch : Nat
  freq : Int
  nominal : Nat
  stepBy : Option Int
  setTo : Option Nat
  setPps : Option Nat
  candidates : Tab (Option Candidate)
  lastSync : Tab (Option (Nat × Nat))
  lastX : Tab (Option (Nat × Nat))
  seqId : Nat
  xseq : Nat
  boot : Nat
  pdelays : Tab (List Int)
  pdelayReq : Tab (Option (Nat × Nat))
  pdSeq : Nat
  ppsSeen : Option Nat
  ppsOut : Option Nat
  ppsNext : Nat
  ppsDue : Bool
  nextSync : Nat
  nextPdelay : Nat
  running : Bool
deriving DecidableEq, Repr

def TimeBase.blank : TimeBase where
  counter := 0
  latch := 0
  freq := 0
  nominal := 0x400000000
  stepBy := none
  setTo := none
  setPps := none
  candidates := []
  lastSync := []
  lastX := []
  seqId := 0
  xseq := 0
  boot := 0
  pdelays := []
  pdelayReq := []
  pdSeq := 0
  ppsSeen := none
  ppsOut := none
  ppsNext := 1000000000
  ppsDue := false
  nextSync := 0
  nextPdelay := 0
  running := false

/-! ### Run control, staging and faults (08, 23) -/

/-- The orders of RUN_CMD (Table 08-2). -/
inductive OrderKind where
  | run | step | tied | hold | snapshot | standby | diag
deriving DecidableEq, Repr

/-- An accepted order, with the master it counts for, the STEP count it carries (R185, R193) and its number among the orders; 0 for the
HOLD with which a replay ends. -/
structure Order where
  kind : OrderKind
  master : Master
  count : Nat
  seq : Nat
deriving DecidableEq, Repr

/-- A stop cause raised inside the module: code of Table 08-4, detail, master for a DEBUG cause. -/
structure StopCause where
  code : Nat
  detail : Nat
  master : Nat
deriving DecidableEq, Repr

/-- An abandon in progress (R491, R492): the DC to be abandoned, whether the module has first to open it itself, the
period of detection, the lowest record number, and a retreat's horizon (R507). -/
structure Abandon where
  dc : Nat
  opening : Bool
  period : Nat
  record : Nat
  retreat : Option Nat
  isFault : Bool
deriving DecidableEq, Repr

/-- What waits for the end of a commit pause, snapshot or restore. -/
inductive Pause where
  | commit (apply : Bool)
  | snapshot (slot : Nat) (cause : Nat) (start : Nat)
  | restore (slot : Nat) (kind : Nat) (start : Nat)
deriving DecidableEq, Repr

/-- A host write that waits for the management clock (R380): a dictionary write, a BAR2 write, or a doorbell. -/
inductive HeldWrite where
  | obj (key v : Nat)
  | bar2 (off : Nat) (data : List Byte)
  | thread (tcx v : Nat)
  | dma (chan v : Nat)
deriving DecidableEq, Repr

/-- An armed commit (R197, R198, R192). -/
inductive Arm where
  | none | now | closed | time (t : Nat) | dc (n : Nat)
deriving DecidableEq, Repr

/-- Run control and staging. `window` and `causes` belong to the open order window, `due` and `dueCauses` to the closed one;
`snaps` are the snapshot occasions of the next boundary (codes of SLOT_CAUSE); `snapOrders` the orders accepted in SNAPSHOT and
`nextMove` a move ordered during a move (R184); `serial` the number of the last order and `lastOrder` that of each master's;
`boundaryAt` the time at which the boundary the module stands at was reached; `checking` the shadows that a check works on (R196), `pauseWrites` the writes held
back by a commit pause (R192); `loadBinding` the binding that a load has chosen; `diagTest` the
self-test that a DIAG order named (R411); `runOnHold` the DC at whose boundary the module is to hold, and the
record that says so (R507). -/
structure Run where
  window : List Order
  causes : List StopCause
  due : List Order
  dueCauses : List StopCause
  snaps : List Nat
  dueSnaps : List Nat
  resumeMode : Nat
  moving : Option Nat
  nextMove : Option Order
  snapOrders : List Order
  pause : Option Pause
  queued : List Pause
  arm : Arm
  armMaster : Master
  stageList : List Byte
  checkDirty : Bool
  heldWrites : List HeldWrite
  restoreMaster : Master
  loadFrom : Nat
  loadBinding : List (Nat × Nat × Nat)
  diagTest : Nat
  abandon : Option Abandon
  retreated : Bool
  discarding : Bool
  runOnHold : Option (Nat × Nat)
  forwarded : Bool
  checking : Tab (Option Nat)
  pauseWrites : List (Nat × Nat)
  serial : Nat
  lastOrder : Tab Nat
  boundaryAt : Nat
deriving DecidableEq, Repr

def Run.blank : Run where
  window := []
  causes := []
  due := []
  dueCauses := []
  snaps := []
  dueSnaps := []
  resumeMode := 1
  moving := none
  nextMove := none
  snapOrders := []
  pause := none
  queued := []
  arm := .none
  armMaster := .fw
  stageList := []
  checkDirty := false
  heldWrites := []
  restoreMaster := .fw
  loadFrom := 1
  loadBinding := []
  diagTest := 0
  abandon := none
  retreated := false
  discarding := false
  runOnHold := none
  forwarded := false
  checking := []
  pauseWrites := []
  serial := 0
  lastOrder := []
  boundaryAt := 0

/-- A fault record (Table 23-3). -/
structure FaultRec where
  number : Nat
  code : Nat
  cls : Nat
  flags : Nat
  dc : Nat
  time : Nat
  mode : Nat
  die : Nat
  pc : Nat
  lc : Nat
  step : Nat
  d0 : Nat
  d1 : Nat
  d2 : Nat
deriving DecidableEq, Repr

def FaultRec.blank : FaultRec := ⟨0, 0, 0, 0, 0, 0, 0, 0, 0, 0, 0, 0, 0, 0⟩

/-- The fault ring (newest first), the latch of R414, and the recovery in progress (R503, R504): the DC abandoned, mode and remaining
STEP count at the fault, returns so far, logical clusters to remap, time of detection, dies to rewrite (R500), how often each cluster
was named in consecutive attempts (R499), whether it is the full sequence, whether a HOLD order ends it (R505), and
whether a fault sends it back (R504). -/
structure Faults where
  ring : List FaultRec
  latch : FaultRec
  target : Nat
  modeAtFault : Nat
  stepAtFault : Nat
  attempts : Nat
  failed : List Nat
  started : Nat
  rewrites : List Nat
  repeats : Tab Nat
  auto : Bool
  interrupt : Bool
  again : Bool
deriving DecidableEq, Repr

def Faults.blank : Faults := ⟨[], FaultRec.blank, 0, 0, 0, 0, [], 0, [], [], false, false, false⟩

/-! ### Outside interfaces -/

/-- What the module puts on its outside interfaces. -/
inductive Sent where
  | msix (vector : Nat)
  | emcy (code record : Nat)
  | can (cob : Nat) (data : List Byte)
  | seam (link lane : Nat) (bits : List Bool)
  | hostWrite (addr : Nat) (data : List Byte)
  | pin (name : Nat) (level : Bool)
  | fabric (port index value : Nat)
  | completion (tag : Nat) (data : List Byte)
  | value (m : Master) (key v : Nat)
  | avs (rail mv : Nat)
deriving DecidableEq, Repr

/-! ### Transactor cores and threads (12, 13, 21) -/

/-- The register part of a context slot (Table 13-1), and the privilege mode its thread runs in (3 M, 0 U). -/
structure Ctx where
  x : Tab Nat
  pc : Nat
  mstatus : Nat
  mepc : Nat
  mcause : Nat
  mtval : Nat
  mscratch : Nat
  mie : Nat
  mtvec : Nat
  priv : Nat
deriving DecidableEq, Repr

def Ctx.blank : Ctx := ⟨[], 0, 0, 0, 0, 0, 0, 0, 0, 3⟩

/-- The scheduler's part of a context: state of Table 13-2, SCHED, TSTAT, flags, mask and timeout, its slot's registers as last
written back, and whether the host has written the slot. -/
structure Thread where
  st : Nat
  prio : Nat
  home : Nat
  flags : Nat
  mask : Nat
  timeout : Nat
  all : Bool
  consume : Bool
  wake : Nat
  result : Nat
  status : Nat
  outstanding : Nat
  ctx : Ctx
  written : Bool
deriving DecidableEq, Repr

def Thread.blank : Thread := ⟨0, 0, 0, 0, 0, 0, false, false, 0, 0, 0, 0, Ctx.blank, false⟩

/-- An armed alarm unit (R294). -/
structure Alarm where
  tcx : Nat
  flag : Nat
  when_ : Nat
  period : Nat
deriving DecidableEq, Repr

/-- One transactor core: the loaded thread's registers, contexts on their way back to the store, TARG0–TARG2, the timer, interrupts pending,
the watchdog with the ticks since it last counted and whether it has reached 0 (R281), the reservation of an LR (its granule), the
OUT latches by XPORT (R278), alarm units, prefetch slots (TCX, filled), how many of `Hub.writes` its last FENCE.I covered (R270), the pc of the
instruction in execution, local SRAM, other CSRs, debug control (21) and the virtual terminal's FIFOs. -/
structure Core where
  ctx : Ctx
  writeback : List (Nat × Ctx)
  targ : Tab Nat
  mtimecmp : Nat
  mip : Nat
  wdt : Nat
  wdtTicks : Nat
  wdtDue : Bool
  warned : Bool
  resv : Option Nat
  latch : Tab (Nat × Nat)
  alarms : Tab (Option Alarm)
  prefetch : List (Nat × Bool)
  deferred : Bool
  fenced : Nat
  issuing : Option Nat
  sram : Memory
  csrs : Tab Nat
  haltReq : Bool
  haltBy : Nat
  deferring : Bool
  halted : Bool
  haltCause : Nat
  broke : Nat
  noThread : Bool
  haltTcx : Nat
  deferCycles : Nat
  step : Bool
  stepArm : Bool
  ebreakHalt : Bool
  vtTx : List Byte
  vtRx : List Byte
deriving DecidableEq, Repr

def Core.blank : Core where
  ctx := Ctx.blank
  writeback := []
  targ := []
  mtimecmp := 0
  mip := 0
  wdt := 0
  wdtTicks := 0
  wdtDue := false
  warned := false
  resv := none
  latch := []
  alarms := []
  prefetch := []
  deferred := false
  fenced := 0
  issuing := none
  sram := []
  csrs := []
  haltReq := false
  haltBy := 0
  deferring := false
  halted := false
  haltCause := 0
  broke := 0
  noThread := false
  haltTcx := 0
  deferCycles := 0
  step := false
  stepArm := false
  ebreakHalt := false
  vtTx := []
  vtRx := []

/-- One XPORT (Table 12-2): staged and pending input words as 512-bit values, the output, XCTL, and whether R277
took a post of it in the current DC. The input that XIN reads is `Sluice.xin`. -/
structure Xport where
  stage : Nat
  pend : Nat
  pending : Bool
  out : Nat
  inDc : Nat
  xctl : Nat
  overwrites : Nat
  foreign : Nat
  took : Bool
deriving DecidableEq, Repr

def Xport.blank : Xport := ⟨0, 0, false, 0, 0, 0, 0, 0, false⟩

/-- A request of a hub requester that waits for a response tag (R121): its owner and its packet. -/
structure WaitReq where
  owner : TagOwner
  pkt : Packet
deriving DecidableEq, Repr

/-- The transactor complex: cores, threads, ready lists by `core * 32 + priority`, flag sets that have arrived (R293), locks
with their owners, XPORTs, the DC whose XOUT values OUT holds (the same for every XPORT, R278), pacing credits, requests that wait for a tag, shared SRAM, and the
ranges of SRAM whose bytes are left open, each with the draw that names their free values: shared SRAM at its core address, the local
SRAM of core `c` at `2 ^ 40 + c * 2 ^ 21`. `writes` lists what cores, host and DMA have written there and to HBM (at its core address),
newest first: first and end address and the writing core, 32 for host and DMA; the caches may not show it (R270). -/
structure Hub where
  cores : Tab Core
  threads : Tab Thread
  ready : Tab (List Nat)
  flagQ : List (Nat × Nat)
  locks : Tab (Option Nat)
  xports : Tab Xport
  outDc : Nat
  pace : Tab Nat
  reqQ : List WaitReq
  sram : Memory
  sramOpen : List (Nat × Nat × Nat)
  writes : List (Nat × Nat × Nat)
deriving DecidableEq, Repr

/-- The transactor complex after power-on: nothing says what its SRAM then holds. -/
def Hub.blank : Hub :=
  ⟨[], [], [], [], [], [], 0, [], [], [], [(0x1000000, 0x9000000, 0), (2 ^ 40, 2 ^ 40 + 2 ^ 26, 1)], []⟩

/-! ### The edge fabric and the tie units (11, 16) -/

/-- A used pad: its pin entry (Table 16-2), the level and output enable it shows, whether a safe state is forced on it, and the
tap of its delay line. -/
structure Pad where
  entry : Nat
  level : Bool
  enable : Bool
  forced : Bool
  tap : Nat
deriving DecidableEq, Repr

def Pad.blank : Pad := ⟨0, false, false, false, 0⟩

/-- A fabric clock region: its entry (Table 16-1), the source in use, a switch in progress and a select that waits for it (R351), and
the edges its divider has counted. -/
structure Region where
  entry : Nat
  sel : Bool
  switching : Option Bool
  wanted : Option Bool
  count : Nat
deriving DecidableEq, Repr

def Region.blank : Region := ⟨0, false, none, none, 0⟩

/-- The edge fabric. `phase` is that of a fabric load (0 none, 1 fetch, 2 check, 3 write), `fetched` the container under load,
`fin` the FIN boundary, `pend` the lanes' pending registers, `fout` the FOUT boundary register, `foutDesign` the FOUT bits as
the design has last driven them, `tieSafe` the safe-state requests of tie slots, `conf` the CONFIG frames in force, `flops` and `ram` the
flip-flops and block RAM bits that differ from what the configuration gives them, `ramOut` what the block RAM ports last read. -/
structure Fabric where
  pads : Tab Pad
  regions : Tab Region
  fin : Memory
  pend : Tab (Option Nat)
  fout : Memory
  foutDesign : Memory
  foutSeq : Nat
  tieSafe : Nat
  cfgFault : Bool
  phase : Nat
  fetched : List Byte
  flashOp : Option (UserFlash × Nat)
  flashReply : Option (Bool × Nat)
  time : Nat
  conf : List Byte
  flops : Tab (Bool × Bool)
  ram : Tab Bool
  ramOut : Tab Nat
deriving DecidableEq, Repr

def Fabric.blank : Fabric := ⟨[], [], [], [], [], [], 0, 0, false, 0, [], none, none, 0, [], [], [], []⟩

/-- An output application on its way to the fabric (R258): due time, value, whether it arrived late, and the FOUT bits it is for. -/
structure Application where
  due : Nat
  value : Nat
  late : Bool
  first : Nat
  count : Nat
deriving DecidableEq, Repr

/-- A tie unit: the next edge to capture, the last capture, whether the domain is enabled in the current DC, the edge of that
DC and of the next, and pending applications. -/
structure TieUnit where
  capEdge : Nat
  capture : Nat
  edgeNow : Option Nat
  edgeNext : Option Nat
  apps : List Application
deriving DecidableEq, Repr

def TieUnit.blank : TieUnit := ⟨0, 0, none, none, []⟩

/-! ### Trigger and trace engines (14, 15) -/

/-- A comparator's memory beside CMP_STATE: the previous raw condition, the fire time, events counted in HOLDOFF, and a
hold-off in ns that has ended (R311). -/
structure CmpRun where
  prev : Bool
  fired : Nat
  events : Nat
  ended : Bool
deriving DecidableEq, Repr

def CmpRun.blank : CmpRun := ⟨false, 0, 0, false⟩

/-- The trigger engine: channel words, their values at the last evaluation, comparators, latches of R312, ball levels and pulses in progress, a re-arm that waits for
the next trigger instant, the mask-test record fetched ahead, the DCs whose comparison waits for one (with their words), and which of
MT_FAIL_DC (bit 0) and MT_FAIL_CHANNEL (bit 1) holds a first violation. -/
structure Trigger where
  words : Tab Nat
  seen : Tab Nat
  cmps : Tab CmpRun
  xlatch : Nat
  triglatch : Nat
  mtlatch : Bool
  pulses : Nat
  rearm : Bool
  mtRec : Option (List Byte)
  mtWait : List (Nat × List Nat)
  mtHeld : Nat
deriving DecidableEq, Repr

def Trigger.blank : Trigger := ⟨[], [], [], 0, 0, false, 0, false, none, [], 0⟩

/-- The trace engine: probe words, the buffer of records (sequence number and bytes), the next sequence number, a gap to report,
the words of the record last built, and whether a TRACE action
has marked the current DC. -/
structure Trace where
  probes : Tab Nat
  buffer : List (Nat × List Byte)
  nextSeq : Nat
  gap : Bool
  lastWords : Option (List Nat)
  marked : Bool
deriving DecidableEq, Repr

def Trace.blank : Trace := ⟨[], [], 0, false, none, false⟩

/-! ### Clocks, power, boot, keys, debug port, host interface (17, 19–22) -/

/-- Clocks and power. `sysStopped`: every clock that derives from SYS_REFCLK or the root PLL is gated; `hbmGated`: the HBM PLL is
gated; `halved` and `coreHalved`: the step and the core clock run at half speed; `stepMux` and `coreMux`: the divider (halving)
that a multiplexer is switching to or has been asked for meanwhile (R424); `above` and `under`: consecutive power samples above
the limit and below 95 % of it (R430, R431); `pointTo`: the point of a change in progress, `nextPoint` a target committed
meanwhile (R426); `railsAt`: rails that have reported the target written; `dividerDue`: the divider changes in the next opening;
`setpoint` and `oldpoint`: the last written target of each emulation-die rail and the one before it (R429); `shutdown`: a thermal
shutdown waits for its abandon (R432); `replan`: rails are to be rewritten for new voltages once the change in progress ends (R435). -/
structure Clocks where
  sysStopped : Bool
  hbmGated : Bool
  halved : Bool
  coreHalved : Bool
  stepMux : Option Nat
  coreMux : Option Bool
  above : Nat
  under : Nat
  pointTo : Option Nat
  nextPoint : Option Nat
  railsAt : Nat
  dividerDue : Bool
  setpoint : Tab Nat
  oldpoint : Tab Nat
  shutdown : Bool
  replan : Bool
deriving DecidableEq, Repr

def Clocks.blank : Clocks :=
  ⟨false, false, false, false, none, none, 0, 0, none, none, 0, false, [], [], false, false⟩

/-- The persistent store of the boot flash (R406, R436, R442): failure marks by cluster, voltage raises by die, P3 availability,
powered hours and those at the last plan, as last written. -/
structure Persist where
  marks : Tab Nat
  raises : Tab Nat
  p3 : Nat
  hours : Nat
  lastHours : Nat
deriving DecidableEq, Repr

def Persist.blank : Persist := ⟨[], [], 1, 0, 0⟩

/-- Key store and fuses beside the objects of 0x3E00 (22): image keys, signing keys, the owner key, the RETURN_PENDING mark,
the target of a transition in progress, and the draw of the entropy source that LC_NONCE shows (R479). -/
structure Keys where
  image : Tab (List Byte)
  signing : Tab (List Byte)
  owner : List Byte
  returnPending : Bool
  target : Option Nat
  nonce : Nat
deriving DecidableEq, Repr

def Keys.blank : Keys := ⟨[], [], [], false, none, 3⟩

/-- A debug access in progress (Table 21-2), and whether its packet is on its way. -/
structure DebugAccess where
  write : Bool
  consume : Bool
  space : Nat
  size : Nat
  addr : Nat
  data : Nat
  sent : Bool
deriving DecidableEq, Repr

/-- The TAP (21): instruction register, boundary register, the register that shows at TDO (its length and value), the access in
progress, whether an update has been ignored since the last capture, the last access's STATUS, CODE and DATA, and the flash page buffer
with the flash command in progress (command and address). -/
structure Tap where
  ir : Nat
  boundary : Nat
  drLen : Nat
  dr : Nat
  busy : Option DebugAccess
  ignored : Bool
  status : Nat
  code : Nat
  data : Nat
  page : Memory
  flOp : Option (Nat × Nat)
deriving DecidableEq, Repr

/-- The TAP after power-on: IDCODE in the instruction register (R454). -/
def Tap.blank : Tap := ⟨2, 0, 32, 0, none, false, 0, 0, 0, [], none⟩

/-- A DMA descriptor in progress on a channel (Table 17-8): its fields as a number, and whether DMA_NOTIFY was accepted at its start. -/
structure DmaRun where
  desc : Nat
  notify : Bool
deriving DecidableEq, Repr

/-- An outstanding BAR2 read: offset, bytes, packets still out, bytes received, and the first error met. -/
structure BusRead where
  off : Nat
  bytes : Nat
  left : Nat
  got : List Byte
  bad : Option Nat
deriving DecidableEq, Repr

/-- A host read that met a stopped clock (R380): an object, or a BAR2 read by tag and bytes. -/
inductive WaitRead where
  | obj (key : Nat)
  | bar2 (tag bytes : Nat)
deriving DecidableEq, Repr

/-- The host interface (17): the level of PERST_N, descriptors in progress, outstanding BAR2 reads by tag, reads that wait out a stopped
clock (oldest first), the SDO transfer in progress (object, bytes so far), bus-off, the sampled MGMT_ID strap, the level of MODULE_RESET_N, when the
reset in force was released (R452), and whether a boot has completed since the last power-on or warm reset. -/
structure HostIf where
  perstHigh : Bool
  dma : Tab (Option DmaRun)
  reads : Tab (Option BusRead)
  waitReads : List WaitRead
  sdo : Option (Nat × List Byte)
  busOff : Bool
  mgmtStrap : Nat
  resetHigh : Bool
  bootAt : Nat
  up : Bool
deriving DecidableEq, Repr

def HostIf.blank : HostIf := ⟨false, [], [], [], none, false, 0, false, 0, false⟩

/-! ### The whole state -/

/-- The reasons for which a step stops. -/
inductive Fault where
  /-- Raised by `USER_FLASH_ACCESS` outside 0x40_0000–0x7F_FFFF, an address the spec gives the fabric no part of (R363).
  Safe: the model stops where the spec describes no access. -/
  | noSuchFlashAddress (addr : Nat)
deriving DecidableEq, Repr

/-- The reasons for which a command is refused. -/
inductive Refusal where
  /-- Raised by the dispatcher for a command whose meaning is not written yet. Safe: nothing is claimed of it. -/
  | notModelled (mnemonic : String)
deriving DecidableEq, Repr

/-- The module. -/
structure State where
  pending : List Instr
  dict : Tab Nat
  shadow : Tab (Option Nat)
  clusters : Tab Cluster
  sluice : Sluice
  net : Net
  hbm : Hbm
  retained : Retained
  seam : Tab SeamLink
  tb : TimeBase
  run : Run
  faults : Faults
  hub : Hub
  fabric : Fabric
  ties : Tab TieUnit
  slipDone : Bool
  anchored : Bool
  trig : Trigger
  trace : Trace
  flash : Tab Byte
  clk : Clocks
  persist : Persist
  keys : Keys
  tap : Tap
  host : HostIf
  emcyQ : List (Nat × Nat)
  emcyDropped : Option Nat
  vecPending : List Nat
  vecMasked : List Nat
  sent : List Sent
  fresh : Nat
deriving DecidableEq, Repr

/-- The module right after a power-on reset: every dictionary object at its default, every store empty. -/
def State.reset : State where
  pending := []
  dict := []
  shadow := []
  clusters := []
  sluice := Sluice.blank
  net := Net.blank
  hbm := Hbm.blank
  retained := Retained.blank
  seam := []
  tb := { TimeBase.blank with boot := Config.entropy 4 % 65536 }
  run := Run.blank
  faults := Faults.blank
  hub := Hub.blank
  fabric := Fabric.blank
  ties := []
  slipDone := false
  anchored := false
  trig := Trigger.blank
  trace := Trace.blank
  flash := []
  clk := Clocks.blank
  persist := Persist.blank
  keys := Keys.blank
  tap := Tap.blank
  host := HostIf.blank
  emcyQ := []
  emcyDropped := none
  vecPending := []
  vecMasked := []
  sent := []
  fresh := 5

end Sys2Proof.Machine
end

