-- ==== Sys2Proof/Machine/Ops.lean ====
section
/-!
DEFINITION. The named operations every meaning is written with: reading and writing dictionary objects, clusters and links,
counting (R400), the time base's reading (R237), interrupts (R383), EMCY messages (R394), the binding (R168), free values.
-/

namespace Sys2Proof.Machine

/-- What a command answers. -/
abbrev Out := Host.Outcome State Fault Refusal

/-! ### The dictionary -/

/-- The value held at a dictionary key; an object never written holds its default (R401). -/
def State.obj (s : State) (k : Nat) : Nat := tget dflt s.dict k

/-- The state with a dictionary value. -/
def State.setObj (s : State) (k v : Nat) : State := { s with dict := tput dflt s.dict k v }

/-- The state with several dictionary values, written in order. -/
def State.setObjs (s : State) : List (Nat × Nat) → State
  | [] => s
  | (k, v) :: r => (s.setObj k v).setObjs r

/-- An event counter that saturates at its type's all-ones value (R400). -/
def State.bump (s : State) (k n : Nat) : State := s.setObj k (satAdd (widthOf k) (s.obj k) n)

/-- A maximum object raised to `v` (R400). -/
def State.raise (s : State) (k v : Nat) : State := if s.obj k < v then s.setObj k v else s

/-- A bit of a bitmap object. -/
def State.objBit (s : State) (k i : Nat) : Bool := (s.obj k).testBit i

/-- A bit of a bitmap object written. -/
def State.setObjBit (s : State) (k i : Nat) (b : Bool) : State := s.setObj k (setBit (s.obj k) i b)

/-- The bits of an object's value `v` that its table defines; the others are reserved and read as 0 (R7; Tables 06-2, 10-3, 14-1, 14-4,
14-7, R313). -/
def definedBits (k v : Nat) : Nat :=
  let i := k / 256
  let n := k % 256
  if 0x2500 ≤ i && i ≤ 0x25FF then 2 ^ 64 - 2 ^ 50 + (if v.testBit 62 then 2 ^ 34 - 1 else 2 ^ 16 - 1)
  else if 0x3210 ≤ i && i ≤ 0x324F && n = 1 then 2 ^ 40 - 2 ^ 14
  else if 0x3250 ≤ i && i ≤ 0x325F && (n = 3 || n = 7) then 2 ^ 64 - 2 ^ 14
  else if 0x3250 ≤ i && i ≤ 0x325F && (n = 4 || n = 8) then 2 ^ 64 - 2 ^ 32
  else if i = 0x3280 then 2 ^ 34 - 13
  else if k = O.PPS_CTRL then 3
  else 2 ^ 64 - 1

/-! ### Modes (Table 01-6, 0x2100.01) -/

abbrev mOff : Nat := 0
abbrev mStandby : Nat := 1
abbrev mLoad : Nat := 2
abbrev mReady : Nat := 3
abbrev mRun : Nat := 4
abbrev mStep : Nat := 5
abbrev mTied : Nat := 6
abbrev mHold : Nat := 7
abbrev mSnapshot : Nat := 8
abbrev mDiag : Nat := 9

/-- The present operating mode. Until a boot has completed the module is in OFF (Table 01-6, R448, R450); a management reset, after
which only the management core boots again, keeps the mode (Table 20-1). -/
def State.mode (s : State) : Nat := if s.host.up then s.obj O.MODE else mOff

/-- The module advances (R490). -/
def State.advancing (s : State) : Bool := s.mode == mRun || s.mode == mStep || s.mode == mTied

/-- The module is held at a boundary (R175). -/
def State.held (s : State) : Bool := s.mode == mReady || s.mode == mHold

/-- The current DC number (R24). -/
def State.dcNum (s : State) : Nat := s.obj O.DC_NUMBER

/-- The depth D of the loaded image. -/
def State.depth (s : State) : Nat := s.obj O.DEPTH

/-- The epoch stamp of the current DC (R33). -/
def State.stamp (s : State) : Bool := s.dcNum % 2 == 1

/-- The module's own identifier (R404). -/
def State.ownId (s : State) : Nat := s.obj O.MODULE_ID

/-- The module is replaying (R342). -/
def State.replaying (s : State) : Bool := s.obj O.REPLAY_STATE == 1

/-- CLOCK-WAIT holds (R18, R179): neither the design nor the transactors move. -/
def State.clockWait (s : State) : Bool := s.obj O.CLOCK_WAIT == 1

/-- The step clock runs: the module advances, nothing pauses it and no clock is waited for (R174, R179). -/
def State.stepping (s : State) : Bool :=
  s.advancing && s.obj O.CLOCK_WAIT == 0 && s.run.pause.isNone

/-! ### Latencies (Table 04-8) -/

/-- The latency table of a stepping, in the order of 0x2030.01–.0E. -/
def latencyTable (stepping : Nat) : List Nat :=
  if stepping == 0xA1 then [2, 3, 6, 9, 1, 36, 160, 8, 1, 4, 180, 1, 1, 2]
  else [2, 3, 5, 9, 1, 40, 150, 8, 1, 4, 172, 1, 1, 2]

/-- Entry `i` (1–14) of the module's own latency table (R95). -/
def State.lat (s : State) (i : Nat) : Nat := (latencyTable (s.obj O.STEPPING)).getD (i - 1) 0

/-! ### Time (10) -/

/-- The integer nanoseconds of the time base. -/
def State.nowNs (s : State) : Nat := s.tb.counter / 2 ^ 32

/-- The target `t` is reached (R237). -/
def State.reached (s : State) (t : Nat) : Bool := (s.nowNs + 2 ^ 64 - t % 2 ^ 64) % 2 ^ 64 < 2 ^ 63

/-! ### Free values -/

/-- The state with one more free value drawn. -/
def State.draw (s : State) : State := { s with fresh := s.fresh + 1 }

/-! ### Outside interfaces -/

/-- Something put on an outside interface. -/
def State.emit (s : State) (m : Sent) : State := { s with sent := m :: s.sent }

/-- An event of an MSI-X vector: a masked or already pending vector only sets the pending bit (R383). -/
def State.msix (s : State) (v : Nat) : State :=
  if s.vecMasked.contains v || s.vecPending.contains v then
    { s with vecPending := if s.vecPending.contains v then s.vecPending else s.vecPending ++ [v] }
  else s.emit (.msix v)

/-- An EMCY queued; with 16 queued it is dropped and the first drop remembered (R394). -/
def State.emcy (s : State) (code record : Nat) : State :=
  if s.emcyQ.length < 16 then { s with emcyQ := s.emcyQ ++ [(code, record)] }
  else match s.emcyDropped with
    | some _ => s
    | none => if s.emcyQ.any fun e => e.1 == 0xFFFF then s else { s with emcyDropped := some record }

/-- A change of mode: MODE_PREVIOUS is kept and the run-control vector raised (Table 08-2, Table 17-7). -/
def State.setMode (s : State) (m : Nat) : State :=
  if s.mode = m then s
  else ((s.setObj O.MODE_PREVIOUS s.mode).setObj O.MODE m).msix 0

/-! ### Clusters -/

/-- The number of a physical cluster. -/
def cidOf (die pc : Nat) : Nat := die * 68 + pc

/-- The state of a physical cluster. -/
def State.cl (s : State) (cid : Nat) : Cluster := tget (fun _ => Cluster.blank) s.clusters cid

/-- The state with a physical cluster replaced. -/
def State.setCl (s : State) (cid : Nat) (c : Cluster) : State :=
  { s with clusters := tput (fun _ => Cluster.blank) s.clusters cid c }

/-- One of the counters of Table 18-7, `i` = block offset / 8, saturating (R400). -/
def Cluster.count (c : Cluster) (i n : Nat) : Cluster :=
  { c with counters := tput (fun _ => 0) c.counters i (satAdd 64 (tget (fun _ => 0) c.counters i) n) }

/-- The bindings in force: (die, logical cluster, physical cluster), rising (R168). -/
def State.bound (s : State) : List (Nat × Nat × Nat) :=
  s.dict.filterMap fun e =>
    let i := e.1 / 256
    let n := e.1 % 256
    if 0x2410 ≤ i && i ≤ 0x2413 && 1 ≤ n && n ≤ 64 && e.2 < 68 then some (i - 0x2410, n - 1, e.2) else none

/-- The logical cluster that a physical cluster carries. -/
def State.lcOf (s : State) (cid : Nat) : Option Nat :=
  (s.bound.find? fun b => cidOf b.1 b.2.2 == cid).map fun b => b.2.1

/-- The state of a cluster's port (Table 05-8): 0 ACTIVE, 1 SLEEP, 2 WAKING, 3 ABSORB. -/
def State.port (s : State) (cid : Nat) : Nat := s.obj (O.PORT_STATE (cid / 68) (cid % 68))

/-- The state with a cluster port's state. -/
def State.setPort (s : State) (cid v : Nat) : State := s.setObj (O.PORT_STATE (cid / 68) (cid % 68)) v

/-- The Sluice set: the bound clusters that are not isolated (R85). -/
def State.sluiceSet (s : State) : List Nat :=
  (s.bound.map fun b => cidOf b.1 b.2.2).filter fun c => s.port c != 3

/-! ### Links -/

/-- The state of a Seam link. -/
def State.link (s : State) (l : Nat) : SeamLink := tget (fun _ => SeamLink.blank) s.seam l

/-- The state with a Seam link replaced. -/
def State.setLink (s : State) (l : Nat) (k : SeamLink) : State :=
  { s with seam := tput (fun _ => SeamLink.blank) s.seam l k }

/-- The numbers of the 24 links. -/
def allLinks : List Nat := List.range 24

/-- A link that is UP and enabled. -/
def State.linkOpen (s : State) (l : Nat) : Bool := s.objBit O.LINK_ENABLE l && s.objBit O.LINKS_UP l

/-- The configured Seam partners' links (R86). -/
def State.partners (s : State) : List Nat := allLinks.filter fun l => s.objBit O.LINK_ENABLE l

/-- The state with a change made to each of a list of links. -/
def State.onLinks (s : State) (ls : List Nat) (f : Nat → SeamLink → SeamLink) : State :=
  ls.foldl (fun s l => s.setLink l (f l (s.link l))) s

/-- A cross-trigger originated here: sent on every UP, enabled link with the next XSEQ (R228, R229), which counts as accepted from
the module's own ORIGIN (R320). -/
def State.sendXtrig (s : State) (lines originDc : Nat) : State :=
  let q := (s.tb.xseq + 1) % 65536
  let s := { s with tb := { s.tb with xseq := q, lastX := tput (fun _ => none) s.tb.lastX s.ownId (some (q, s.tb.boot)) } }
  let u := SeamUnit.xtrig s.ownId q lines originDc s.tb.boot
  s.onLinks (allLinks.filter s.linkOpen) fun _ k => { k with ctrlQ := k.ctrlQ ++ [u] }

/-- The run state that the module reports on the Seam (R180): 0 RUNNING, 1 HOLD, 2 STEP, 3 SNAPSHOT. -/
def State.runReport (s : State) : Nat :=
  if s.obj O.CLOCK_WAIT == 1 || s.run.abandon.any (fun a => ! a.opening) then 1
  else match s.run.pause with
    | some (.commit _) => 1
    | _ =>
      if s.mode == mRun || s.mode == mTied then 0
      else if s.mode == mStep then 2
      else if s.mode == mSnapshot then 3 else 1

/-! ### Response tags (R120) -/

/-- The tag pool of a requester's die: first tag and size; die 4 is the hub. -/
def tagPool (die : Nat) : Nat × Nat := if die < 4 then (16384 + 4096 * die, 4096) else (0, 16384)

/-- The lowest tag from `t` on, of the next `n`, that no request holds. -/
def freeTag (tags : Tab (Option TagUse)) (t : Nat) : Nat → Option Nat
  | 0 => none
  | n + 1 => if (tget (fun _ => none) tags t).isNone then some t else freeTag tags (t + 1) n

/-- The generation of a tag. -/
def State.tagGen (s : State) (t : Nat) : Nat := tget (fun _ => 0) s.net.gens t

/-- The number of outstanding tags of a pool. -/
def State.tagsHeld (s : State) (die : Nat) : Nat :=
  let p := tagPool die
  (s.net.tags.filter fun e => p.1 ≤ e.1 && e.1 < p.1 + p.2).length

/-- The free-tag counts of 0x2C00.01–.02 and the in-flight maximum of .03 brought up to date. -/
def State.tagObjs (s : State) : State :=
  let e := (List.range 4).foldl (fun n d => n + (4096 - s.tagsHeld d) * 2 ^ (16 * d)) 0
  ((s.setObj O.TAG_FREE_HUB (16384 - s.tagsHeld 4)).setObj O.TAG_FREE_E e).raise O.TAG_INFLIGHT_MAX s.net.tags.length

/-- A tag taken for a requester of `die` (4 the hub), or none free (R120, R121). -/
def State.takeTag (s : State) (die : Nat) (w : TagOwner) : Option (Nat × State) :=
  let p := tagPool die
  match freeTag s.net.tags p.1 p.2 with
  | none => none
  | some t =>
    some (t, State.tagObjs { s with net := { s.net with tags := tput (fun _ => none) s.net.tags t (some ⟨s.tagGen t, w⟩) } })

/-- A tag returned to its pool. -/
def State.freeTagNo (s : State) (t : Nat) : State :=
  State.tagObjs { s with net := { s.net with tags := tput (fun _ => none) s.net.tags t none } }

/-- A tag's generation advanced (R123, R127). -/
def State.nextGen (s : State) (t : Nat) : State :=
  { s with net := { s.net with gens := tput (fun _ => 0) s.net.gens t ((s.tagGen t + 1) % 4) } }

/-- The tags that a cluster's Quarry requests hold. -/
def State.quarryTags (s : State) (cid : Nat) : List Nat :=
  s.net.tags.filterMap fun e =>
    match e.2 with
    | some ⟨_, .quarry c _⟩ => if c == cid then some e.1 else none
    | _ => none

/-- All outstanding Quarry tags. -/
def State.anyQuarryTag (s : State) : Bool :=
  s.net.tags.any fun e => match e.2 with | some ⟨_, .quarry _ _⟩ => true | _ => false

end Sys2Proof.Machine
end

