-- ==== Sys2Proof/Machine/Faults.lean ====
section
/-!
DEFINITION. Fault records, fault classes and the start of an abandon (23): what raising a fault does at once.
-/

namespace Sys2Proof.Machine

/-- Where a fault was found (Table 23-3); 0xFF or 0xFFFF for none. -/
structure FaultLoc where
  die : Nat
  pc : Nat
  lc : Nat
  step : Nat
deriving DecidableEq, Repr

/-- No unit. -/
def FaultLoc.none : FaultLoc := ⟨255, 255, 255, 0xFFFF⟩

/-- The hub. -/
def FaultLoc.hub : FaultLoc := ⟨4, 255, 255, 0xFFFF⟩

/-- The STEP field for a cluster's present place: the step, or D plus the overhead step (R495). -/
def stepField (s : State) (c : Cluster) : Nat :=
  match c.seq with
  | .runStep => c.step
  | .held => c.step
  | .commit => s.depth + c.step
  | .exchange => s.depth + c.step
  | .drain => s.depth + 39
  | .atEnd => 0xFFFF

/-- A physical cluster at its present step. -/
def FaultLoc.cluster (s : State) (cid : Nat) : FaultLoc :=
  ⟨cid / 68, cid % 68, (s.lcOf cid).getD 255, stepField s (s.cl cid)⟩

/-- A physical cluster at the step its present period has already executed: a route port reads in the period of its op (R78,
Table 05-4), after the cluster's step count has moved on. -/
def FaultLoc.executed (s : State) (cid : Nat) : FaultLoc :=
  let c := s.cl cid
  ⟨cid / 68, cid % 68, (s.lcOf cid).getD 255,
    if c.seq = .runStep || c.seq = .commit || c.seq = .exchange then stepField s c - 1 else stepField s c⟩

/-- The class of a fault code (Table 23-2). -/
def faultClass (code : Nat) : Nat :=
  [0, 1, 2, 2, 2, 1, 1, 2, 1, 0, 0, 0, 0, 0, 0, 4, 0, 3, 0, 0, 0].getD code 0

/-- Whether a fault code produces an EMCY (Table 23-2). -/
def faultEmcy (code : Nat) : Bool := ! (code == 0x0A || code == 0x13)

/-- The FAIL_CAUSE with which a CLUSTER fault marks its cluster (R499). -/
def failCause (code : Nat) : Nat :=
  if code == 2 then 2 else if code == 3 then 3 else if code == 4 then 4 else if code == 7 then 5 else 7

/-- Any MWR GO with S0 = 1 has executed in the current DC (R492). -/
def State.anyWrite (s : State) : Bool := s.sluiceSet.any fun c => (s.cl c).wroteMem

/-- A record put into the ring, the counters advanced, vector 2 raised and the EMCY queued (R413, R490, R496). -/
def State.writeRecord (s : State) (r : FaultRec) : State :=
  let n := s.obj O.FAULT_TOTAL + 1
  let full := s.faults.ring.length ≥ 256
  let oldest := s.obj O.FAULT_OLDEST
  let s := if full && s.obj O.FAULT_ACKED < oldest then s.bump O.FAULT_LOST 1 else s
  let s := { s with faults := { s.faults with ring := ({ r with number := n } :: s.faults.ring).take 256 } }
  let s := (s.setObj O.FAULT_TOTAL n).setObj O.FAULT_OLDEST (if full then oldest + 1 else if oldest = 0 then 1 else oldest)
  let s := (s.bump (O.FAULT_COUNT (r.code - 1)) 1).msix 2
  if r.flags.testBit 0 then s.emcy (0xFF00 + r.code) n else s

/-- The key of a router's output link. -/
def linkKey (die node port : Nat) : Nat := (die * 128 + node) * 256 + port

/-- A packet that a spine router closes with a POISON tail where its sender is cut off before its own tail (R127). -/
def PacketRun.cut (f : Nat → Bool) (r : PacketRun) : PacketRun :=
  if f r.input && r.come < r.flits then { r with pkt := { r.pkt with poison := true }, flits := r.come + 1, come := r.come + 1 } else r

/-- What a link still holds of the packets that the links of `f` were bringing is cut off. -/
def OutLink.cut (f : Nat → Bool) (o : OutLink) : OutLink :=
  { o with vc0 := o.vc0.map (PacketRun.cut f), vc1 := o.vc1.map (PacketRun.cut f), vc2 := o.vc2.map (PacketRun.cut f)
           vc3 := o.vc3.map (PacketRun.cut f) }

/-- A cluster is isolated (R127): its port moves to ABSORB, its tags return to the pool with the next generation, packets
held at its port are answered there, what it was about to send is dropped, and what it was sending is cut off. -/
def State.isolate (s : State) (cid : Nat) : State :=
  let held := tget (fun _ => []) s.net.held cid
  let out := linkKey (cid / 68) (8 + cid % 68) 0
  let s := s.setPort cid 3
  let s := (s.quarryTags cid).foldl (fun s t => (s.nextGen t).freeTagNo t) s
  let links := tput (fun _ => OutLink.blank) s.net.links out OutLink.blank
  let s := { s with net := { s.net with
    held := tput (fun _ => []) s.net.held cid [], arrived := held ++ s.net.arrived
    links := tmap (fun _ => OutLink.blank) (fun _ o => o.cut (· == out)) links } }
  s.setCl cid { s.cl cid with quarryQ := [], gather := [], routeQ := [] }

/-- A cluster marked failed (R405): the first mark's cause stands. -/
def State.markFailed (s : State) (cid cause : Nat) : State :=
  let c := s.cl cid
  if c.mark = 0 then s.setCl cid { c with mark := cause } else s

/-- The abandon that follows a fault (R491): before the exchange instant the current DC is abandoned, at or after it the
next one, which the module first opens itself. A second fault keeps the lower record number and the abandon under way. An
abandon discards Seam traffic from then on (R531). -/
def State.startAbandon (s : State) (record : Nat) : State :=
  match s.run.abandon with
  | some a => { s with run := { s.run with abandon := some { a with record := if a.isFault then min a.record record else record, isFault := true } } }
  | none =>
    let opening := s.sluice.exchanged
    let dc := if opening then s.dcNum + 1 else s.dcNum
    let period := match s.sluiceSet with | [] => 0 | c :: r => r.foldl (fun p x => max p (s.cl x).period) (s.cl c).period
    { s with run := { s.run with abandon := some ⟨dc, opening, period, record, none, true⟩, discarding := s.run.discarding || ! opening } }

/-- A recovery is in progress (R505). -/
def State.recovering (s : State) : Bool := 1 ≤ s.obj O.RECOVERY_STATE && s.obj O.RECOVERY_STATE ≤ 4

/-- A cluster named by a fault of a recovery's attempt (R499): one named in three consecutive attempts gets FAIL_CAUSE 7. -/
def State.noteRepeat (s : State) (cid attempt : Nat) : State :=
  let v := tget (fun _ => 0) s.faults.repeats cid
  let n := if v / 16 = attempt then v else if v / 16 + 1 = attempt then attempt * 16 + v % 16 + 1 else attempt * 16 + 1
  let s := { s with faults := { s.faults with repeats := tput (fun _ => 0) s.faults.repeats cid n } }
  if n % 16 = 3 then s.setCl cid { s.cl cid with mark := 7 } else s

/-- What a CLUSTER fault does to its cluster (R499), and what RECOVERY_MODE then asks for (R502, R504). -/
def State.clusterFault (s : State) (cid code : Nat) (loc : FaultLoc) (abandons auto starts : Bool) : State :=
  let was := s.recovering
  let s := (s.markFailed cid (failCause code)).isolate cid
  let s := if starts then State.noteRepeat { s with faults := { s.faults with repeats := [] } } cid 1
           else if was then s.noteRepeat cid (s.faults.attempts + 1) else s
  let mode := s.obj O.RECOVERY_MODE
  let remaps := loc.lc < 64 && (was || auto || (mode ≠ 0 && (abandons || (s.held && (mode = 1 || s.obj O.MODULE_COUNT > 1)))))
  let s := if remaps then { s with faults := { s.faults with failed := s.faults.failed ++ [loc.die * 64 + loc.lc] } } else s
  if remaps && ! was && ! abandons then s.setObj O.RECOVERY_STATE 2 else s

/-- The start of an automatic recovery (R503). -/
def State.startRecovery (s : State) (mode : Nat) : State :=
  State.setObj { s with faults := { s.faults with
    target := if s.sluice.exchanged then s.dcNum + 1 else s.dcNum, modeAtFault := mode, attempts := 0, started := s.nowNs,
    auto := true, interrupt := false, again := false } } O.RECOVERY_STATE 1

/-- A fault raised (R490–R499). -/
def State.raiseFault (s : State) (code : Nat) (loc : FaultLoc) (d0 d1 d2 : Nat) : State :=
  let cls := faultClass code
  let cid := cidOf loc.die loc.pc
  let inSet := s.sluiceSet.contains cid
  let abandons := s.advancing && (cls = 1 || cls = 3 || cls = 4 || (cls = 2 && inSet))
  let single := s.obj O.MODULE_COUNT ≤ 1
  let auto := abandons && cls = 2 && single && s.obj O.RECOVERY_MODE == 2
  let starts := auto && ! s.recovering
  let writes := abandons && ! s.sluice.exchanged && s.anyWrite
  let flags := (faultEmcy code).toNat + 2 * abandons.toNat + 4 * writes.toNat + 8 * s.replaying.toNat + 16 * starts.toNat
  let r : FaultRec := ⟨0, code, cls, flags, s.dcNum, s.nowNs, s.mode, loc.die, loc.pc, loc.lc, loc.step, d0, d1, d2⟩
  let number := s.obj O.FAULT_TOTAL + 1
  let restoring := s.obj O.RECOVERY_STATE = 3 && (cls = 1 || cls = 2)
  let s := s.writeRecord r
  let s := if writes then s.setObj O.STATE_VALID 0 else s
  let s := if cls = 2 then s.clusterFault cid code loc abandons auto starts else s
  let s := if restoring then { s with faults := { s.faults with again := true } } else s
  if abandons then
    let fresh := s.run.abandon.isNone
    let s := s.startAbandon number
    let s := if starts then s.startRecovery r.mode else s
    if fresh && ! single && s.obj O.ABANDON_LINES ≠ 0 then
      match s.run.abandon with
      | some a => s.sendXtrig (s.obj O.ABANDON_LINES) a.dc
      | none => s
    else s
  else s

/-- The stop causes that are forwarded (R322). -/
def forwardedCause (code : Nat) : Bool := code == 1 || code == 3 || code == 4 || code == 5 || code == 7 || code == 8

/-- A forwarded cause sends XTRIG with STOP_FORWARD_LINES, once per order window (R322). -/
def State.forwardStop (s : State) (code : Nat) : State :=
  let lines := s.obj O.STOP_FORWARD_LINES
  if forwardedCause code && lines ≠ 0 && ! s.run.forwarded then
    State.bump { s.sendXtrig lines s.dcNum with run := { s.run with forwarded := true } } O.XTRIG_SENT 1
  else s

/-- A stop cause of Table 08-4 raised inside the module: it counts as a HOLD order of the open window (R183). A module that does
not advance has no window in which it could act. -/
def State.raiseStop (s : State) (code detail master : Nat) : State :=
  if s.advancing then
    State.forwardStop { s with run := { s.run with causes := s.run.causes ++ [⟨code, detail, master⟩] } } code
  else s

/-- A recovery, a remap or a die rewrite ends FAILED (R500, R502, R503): RECOVERY is raised. -/
def State.recoveryFails (s : State) (result : Nat) : State :=
  (State.setObjs { s with faults := { s.faults with failed := [], rewrites := [], auto := false, interrupt := false, again := false } }
     [(O.RECOVERY_STATE, 6), (O.RECOVERY_RESULT, result)]).raiseFault 0x14 FaultLoc.hub result 0 0

/-- The status word of a physical cluster (Table 18-6). -/
def State.statusWord (s : State) (cid : Nat) : Nat :=
  let lc := s.lcOf cid
  let m := (s.cl cid).mark
  (if cid % 68 ≥ 64 then 4096 else 0) + (match lc with | some n => 2048 + 32 * n | none => 0)
    + (if m = 0 then 0 else 16) + (if s.port cid = 3 then 8 else 0) + m

end Sys2Proof.Machine
end

