-- ==== Sys2Proof/Machine/Operands.lean ====
section
/-!
DEFINITION. The instruction word and its operand forms (03, 02): fields, selectors, dependence, and the values the
operands take from a cluster's stores.
-/

namespace Sys2Proof.Machine

/-! ### Node addresses (Table 05-10) -/

def nInstr (bp e : Nat) : Nat := (bp * 1024 + e) * 16
def nLive (bp : Nat) : Nat := 0x01000000 + bp * 64
def nNext (bp : Nat) : Nat := 0x01010000 + bp * 64
def nLocal (bp : Nat) : Nat := 0x01020000 + bp * 128
def nInbox (bp : Nat) : Nat := 0x01040000 + bp * 64
def nLocalTag (bp : Nat) : Nat := 0x01050000 + bp * 128
def nInboxTag (bp : Nat) : Nat := 0x01070000 + bp * 64
def nRoute (e : Nat) : Nat := 0x01080000 + e * 16
def nOutslot (slot : Nat) : Nat := 0x010C0000 + slot * 8
def nLandTable (key : Nat) : Nat := 0x010C2000 + key * 4
def nLandWord (i : Nat) : Nat := 0x010D0000 + i * 4
def nMem (row : Nat) : Nat := 0x02000000 + row * 8

/-! ### The instruction word (Table 03-1) -/

def iOpc (w : Nat) : Nat := field w 76 4
def iTt (w : Nat) : Nat := field w 60 16
def iDest (w : Nat) : Nat := field w 0 16

/-- Operand selector S0–S3. -/
def iSel (w i : Nat) : Nat := field w (49 - 11 * i) 11

/-- The op classes of Table 03-3. -/
inductive OpClass where
  | nop | lut | mrd | mwr | xin | xout | fin | fout | trg | prb | evt | asrt | cken | reserved | stop
deriving DecidableEq, Repr

/-- The class of an instruction (Table 03-3). -/
def iClass (w : Nat) : OpClass :=
  match iOpc w with
  | 0 => .nop | 1 => .lut | 2 => .mrd | 3 => .mwr | 4 => .xin | 5 => .xout | 6 => .fin | 7 => .fout
  | 8 => .trg | 9 => .prb | 10 => .evt | 11 => .asrt | 12 => .cken | 15 => .stop | _ => .reserved

/-- The forms of MRD and MWR (Table 03-4). -/
inductive MemForm where
  | addr | data | go | reserved
deriving DecidableEq, Repr

/-- The form of an MRD. -/
def mrdForm (w : Nat) : MemForm :=
  match field (iTt w) 12 2 with | 0 => .addr | 1 => .go | _ => .reserved

/-- The form of an MWR. -/
def mwrForm (w : Nat) : MemForm :=
  match field (iTt w) 12 2 with | 0 => .addr | 1 => .data | 2 => .go | _ => .reserved

/-- The port of an MRD or MWR. -/
def mPort (w : Nat) : Nat := field (iTt w) 14 2
/-- The number of bits an ADDR or DATA deposits. -/
def mCount (w : Nat) : Nat := field (iTt w) 4 2 + 1
/-- The nibble an ADDR or DATA deposits into. -/
def mNibble (w : Nat) : Nat := field (iTt w) 0 4

/-- The truth table depends on operand `i` (R31). -/
def lutDepends (tt i : Nat) : Bool :=
  (List.range 16).any fun x => ! x.testBit i && (tt.testBit x != tt.testBit (x + 2 ^ i))

/-- The dependent operands of an instruction, as selectors (Table 03-3, R31). -/
def dependents (w : Nat) : List Nat :=
  let first (n : Nat) := (List.range n).map (iSel w)
  match iClass w with
  | .lut => ((List.range 4).filter (lutDepends (iTt w))).map (iSel w)
  | .mrd => match mrdForm w with | .addr => first (mCount w) | _ => []
  | .mwr => match mwrForm w with | .addr => first (mCount w) | .data => first (mCount w) | .go => first 1 | .reserved => []
  | .xout => first 1
  | .fout => first 1
  | .trg => first 1
  | .prb => first 1
  | .evt => first 1
  | .asrt => first 1
  | _ => []

/-- The value a selector names (Table 02-2). -/
def selValue (c : Cluster) (bp sel : Nat) : Bool :=
  if sel < 0x400 then mbit c.node (nLocal bp) sel
  else if sel < 0x600 then mbit c.node (nInbox bp) (sel - 0x400)
  else mbit c.node (nLive bp) (sel - 0x600)

/-- A selector's tag; STATE never holds (Table 02-3). -/
def selReady (c : Cluster) (bp sel : Nat) : Bool :=
  if sel < 0x400 then mbit c.node (nLocalTag bp) sel
  else if sel < 0x600 then mbit c.node (nInboxTag bp) (sel - 0x400)
  else true

/-- Operand `i` of an instruction. -/
def operand (c : Cluster) (bp w i : Nat) : Bool := selValue c bp (iSel w i)

/-- A LUT's result: TT[{S3,S2,S1,S0}] (Table 03-3). -/
def lutResult (c : Cluster) (bp w : Nat) : Bool :=
  (iTt w).testBit ((operand c bp w 0).toNat + 2 * (operand c bp w 1).toNat + 4 * (operand c bp w 2).toNat
    + 8 * (operand c bp w 3).toNat)

/-- The value an ADDR or DATA deposits: S0 lowest (R59). -/
def depositValue (c : Cluster) (bp w : Nat) : Nat :=
  (List.range (mCount w)).foldl (fun n i => n + (operand c bp w i).toNat * 2 ^ i) 0

/-! ### Route entries (Table 03-7) and slot tables (Tables 05-3, 05-5) -/

def rKind (e : Nat) : Nat := field e 62 2
def rMod (e : Nat) : Nat := field e 52 10
def rDie (e : Nat) : Nat := field e 50 2
def rLc (e : Nat) : Nat := field e 44 6
def rBp (e : Nat) : Nat := field e 34 10
def rInbox (e : Nat) : Nat := field e 25 9
def rSlot (e : Nat) : Nat := field e 15 10
def rBit (e : Nat) : Nat := field e 7 8
def rChain (e : Nat) : Bool := e.testBit 6

/-- A route-table entry as its check bits correct it (R55); as stored where they cannot. -/
def routeWord (c : Cluster) (e : Nat) : Nat :=
  let v := mnat c.node (nRoute e) 9
  match eccCheck 64 (v % 2 ^ 64) (v / 2 ^ 64) with
  | .clean d => d
  | .corrected d => d
  | .uncorrectable _ => v % 2 ^ 64

/-- The number of entries a route through entry `e` uses (R77). -/
def chainLength (c : Cluster) (e : Nat) : Nat → Nat
  | 0 => 0
  | n + 1 =>
    let d := routeWord c (e % 16384)
    if rKind d ≠ 0 && rChain d then 1 + chainLength c (e + 1) n else 1

/-- Whether an instruction's result goes through a route (R57, R60, R62). -/
def usesRoute (w : Nat) : Bool :=
  iDest w / 16384 == 2 &&
    match iClass w with
    | .nop => false
    | .stop => false
    | .mrd => false
    | .reserved => false
    | .mwr => (mwrForm w) == .go
    | _ => true

/-! ### Fetch (R51, R54) -/

/-- The stored word of an instruction-store entry, checked. -/
def fetch (c : Cluster) (bp e : Nat) : EccResult :=
  let w := mnat c.node (nInstr bp e) 11
  eccCheck 80 (w % 2 ^ 80) (w / 2 ^ 80)

/-- The BPs whose entry `e` is not the all-zero word (a NOP with clean check bits, R51), without those past END, ascending. -/
def activeBps (c : Cluster) (e : Nat) : List Nat :=
  let bps := c.node.filterMap fun m =>
    if m.1 < 0x01000000 && (m.1 / 16) % 1024 == e && m.1 % 16 < 11 then some (m.1 / 16 / 1024) else none
  bps.eraseDups.filter fun b => ! c.stopped.contains b

/-- The word a fetch yields, if it is correctable. -/
def EccResult.word : EccResult → Option Nat
  | .clean d => some d
  | .corrected d => some d
  | .uncorrectable _ => none

/-! ### Design-memory rows (R138) -/

/-- A design-memory row as stored, checked (R138). -/
def Cluster.rowCheck (c : Cluster) (row : Nat) : EccResult :=
  eccCheck 64 (mnat c.node (nMem row) 8) (mget c.ecc row).toNat

/-- The cluster with a row written and its check bits made new (R138). -/
def Cluster.putRow (c : Cluster) (row v : Nat) : Cluster :=
  { c with node := mputNat c.node (nMem row) 8 v, ecc := mput c.ecc row (BitVec.ofNat 8 (checkBits 64 (v % 2 ^ 64))) }

end Sys2Proof.Machine
end

