-- ==== Sys2Proof/Machine/Hbm.lean ====
section
/-!
DEFINITION. HBM (06, 15, 23): the partition, uncorrectable words and their consequences (R498), the overburden log
(R147, R148), the replay log's ring (R343), and the snapshot slots' states (R339).
-/

namespace Sys2Proof.Machine

/-- A partition granule, 16 MiB (R150). -/
def granule : Nat := 2 ^ 24

/-- The size of the overburden log in records of 32 bytes. -/
def State.ovbCapacity (s : State) : Nat := s.obj O.OVB_SIZE * granule / 32

/-- The first and end address of the replay log's ring (R343). -/
def replayBase : Nat := 0x1780000000
def replayEnd : Nat := 0x17F0000000

/-- The exchange area of a slot (R337). -/
def exchangeArea (slot : Nat) : Nat := 0x17F0000000 + slot * 0x50000

/-- The peat region of a slot: 9 granules each (Table 06-5). -/
def State.peatSlot (s : State) (slot : Nat) : Nat := s.obj O.PEAT_BASE + slot * 9 * granule

/-- Snapshot slots in ascending order. -/
def allSlots : List Nat := List.range 64

/-- Every VALID slot that satisfies `f` of its DC becomes UNRESTORABLE (R339). -/
def State.voidSlots (s : State) (f : Nat → Bool) : State :=
  allSlots.foldl (fun s i =>
    if s.obj (O.SLOT_STATUS i) = 1 && f (s.obj (O.SLOT_DC i)) then s.setObj (O.SLOT_STATUS i) 2 else s) s

/-- The region value of Table 23-4 that holds an HBM address; 0 is the Quarry. -/
def State.hbmRegion (s : State) (a : Nat) : Nat :=
  let mtBase := s.obj O.MT_BASE
  let mtStride := 64 * ((16 * (s.obj O.MT_WORDS + 1) + 63) / 64)
  if a < s.obj O.QUARRY_SIZE * granule then 0
  else if a < s.obj O.OVB_BASE + s.obj O.OVB_SIZE * granule then 1
  else if a < s.obj O.SPOIL_BASE + s.obj O.SPOIL_SIZE * granule then 2
  else if a < s.obj O.PEAT_BASE + s.obj O.PEAT_COUNT * 9 * granule then 3
  else if replayBase ≤ a && a < replayEnd then 4
  else if 0x17F0000000 ≤ a && a < 0x17F1400000 then 3
  else if 0x1600000000 ≤ a && a < replayBase then 5
  else if s.obj O.MT_ENABLE = 1 && mtBase ≤ a && a < mtBase + s.obj O.MT_RECORDS * mtStride then 6
  else 7

/-- The snapshot slot whose peat region or exchange area holds an address. -/
def State.slotAt (s : State) (a : Nat) : Nat :=
  if a ≥ 0x17F0000000 then (a - 0x17F0000000) / 0x50000 else (a - s.obj O.PEAT_BASE) / (9 * granule)

/-- The replay-log entry that holds an address, by its DC. -/
def State.replayDcAt (s : State) (a : Nat) : Option Nat :=
  (s.hbm.replay.find? fun e => replayBase + e.2.1 ≤ a && a < replayBase + e.2.1 + e.2.2).map fun e => e.1

/-- The overburden record that holds an address, by its DC. -/
def State.ovbDcAt (s : State) (a : Nat) : Option Nat :=
  let n := s.hbm.ovb.length
  let pos := (a - s.obj O.OVB_BASE) / 32
  (List.range n).findSome? fun i =>
    if s.ovbCapacity ≠ 0 && (s.hbm.ovbHead + s.ovbCapacity - n % (s.ovbCapacity + 1) + i) % s.ovbCapacity = pos
    then s.hbm.ovb[i]?.map OvbRec.dc else none

/-- An uncorrectable HBM word is met (R141, R498): counted, remembered as bad, and outside the Quarry reported with the
consequences of Table 23-4. -/
def State.hbmBad (s : State) (a : Nat) : State :=
  let w := a / 8 * 8
  let s := s.bump O.HBM_UNCORRECTED 1
  let s := { s with hbm := { s.hbm with bad := if s.hbm.bad.contains w then s.hbm.bad else s.hbm.bad ++ [w] } }
  let r := s.hbmRegion a
  if r = 0 then s
  else
    let s := s.raiseFault 0x12 FaultLoc.hub r w 0
    if r = 1 then match s.ovbDcAt a with | some d => s.voidSlots (· ≤ d) | none => s
    else if r = 3 then s.setObj (O.SLOT_STATUS (s.slotAt a)) 3
    else if r = 4 then match s.replayDcAt a with | some d => s.voidSlots (· ≤ d) | none => s
    else s

/-- Whether some 8-byte word of [a, a + n) is uncorrectable. -/
def State.hbmDamaged (s : State) (a n : Nat) : Bool := s.hbm.bad.any fun b => a < b + 8 && b < a + n

/-- The first uncorrectable word of [a, a + n). -/
def State.firstBad (s : State) (a n : Nat) : Option Nat := s.hbm.bad.find? fun b => a < b + 8 && b < a + n

/-- HBM bytes written; a full overwrite of a word makes its check bits new. -/
def State.hbmWrite (s : State) (a : Nat) (data : List Byte) : State :=
  { s with hbm := { s.hbm with
      mem := mwrite s.hbm.mem a data
      open_ := cutRange a data.length s.hbm.open_
      bad := s.hbm.bad.filter fun b => ! (a ≤ b && b + 8 ≤ a + data.length) } }

/-- The contents of [lo, hi) become unpredictable. -/
def State.hbmOpen (s : State) (lo hi : Nat) : State :=
  if hi ≤ lo then s
  else { s with
    hbm := { s.hbm with mem := mclear s.hbm.mem lo hi, open_ := cutRange lo (hi - lo) s.hbm.open_ ++ [(lo, hi, s.fresh)] }
    fresh := s.fresh + 1 }

/-- The byte at an HBM address: a free value where the contents are left open. -/
def Hbm.byteAt (h : Hbm) (a : Nat) : Byte :=
  match h.open_.find? fun r => r.1 ≤ a && a < r.2.1 with
  | some r => Config.freeByte r.2.2 a
  | none => mget h.mem a

/-- HBM bytes as a requester reads them. -/
def State.hbmRead (s : State) (a n : Nat) : List Byte := (List.range n).map fun i => s.hbm.byteAt (a + i)

/-- The first address of the retained copy (Table 07-7). -/
def retainedBase : Nat := 0x16C0000000

/-! ### The overburden log (R147, R148) -/

/-- The objects that show the log's extent. -/
def State.ovbObjs (s : State) : State :=
  s.setObjs [(O.OVB_RECORDS, s.hbm.ovb.length), (O.OVB_OLDEST_DC, match s.hbm.ovb with | [] => 0 | r :: _ => r.dc)]

/-- The log with room for one more record, and the records it keeps: a full log loses its oldest record, and every VALID slot that
needs it is void (R339). -/
def State.ovbRoom (s : State) : State × List OvbRec :=
  match s.hbm.ovb with
  | [] => (s, [])
  | r :: rest => if s.hbm.ovb.length ≥ s.ovbCapacity then (s.voidSlots (· ≤ r.dc), rest) else (s, r :: rest)

/-- A record appended (Table 06-4). -/
def State.ovbAppend (s : State) (dc old addr : Nat) : State :=
  if s.obj O.PEAT_COUNT = 0 then s
  else if s.ovbCapacity = 0 then s.voidSlots (· ≤ dc)
  else
    let kept := s.ovbRoom.2
    let s := s.ovbRoom.1
    let a := s.obj O.OVB_BASE + 32 * s.hbm.ovbHead
    let s := s.hbmWrite a (leBytes 8 0 ++ leBytes 8 addr ++ leBytes 8 old ++ leBytes 8 dc)
    State.ovbObjs { s with hbm := { s.hbm with
      ovb := kept ++ [⟨dc, old, addr⟩], ovbHead := (s.hbm.ovbHead + 1) % s.ovbCapacity } }

/-- The log undone back to DC `j` (R148): newest first, every record of DC `j` or later written back and removed. -/
def State.ovbUndo (s : State) (j : Nat) : State :=
  let undo := s.hbm.ovb.filter fun r => r.dc ≥ j
  let keep := s.hbm.ovb.filter fun r => r.dc < j
  let s := undo.reverse.foldl (fun s r => s.hbmWrite r.addr (leBytes 8 r.old)) s
  let cap := s.ovbCapacity
  State.ovbObjs { s with hbm := { s.hbm with
    ovb := keep, ovbHead := if cap = 0 then 0 else (s.hbm.ovbHead + cap - undo.length % cap) % cap } }

/-! ### The replay log's ring (R343) -/

/-- The objects that show the replay log's extent. -/
def State.replayObjs (s : State) : State :=
  s.setObjs [(O.REPLAY_LOG_FILL, s.hbm.replay.foldl (fun n e => n + e.2.2) 0),
    (O.REPLAY_OLDEST_DC, match s.hbm.replay with | [] => 0 | e :: _ => e.1)]

/-- Oldest entries dropped until none overlaps [lo, hi) of the ring. -/
def dropOverlap (lo hi : Nat) : List (Nat × Nat × Nat) → List (Nat × Nat × Nat)
  | [] => []
  | e :: r => if (e :: r).any (fun x => x.2.1 < hi && lo < x.2.1 + x.2.2) then dropOverlap lo hi r else e :: r

/-- An entry appended to the ring; an entry that would run over the end starts at the base. Overwritten entries go, and
VALID slots older than the oldest entry become UNRESTORABLE (R339, R343). -/
def State.replayAppend (s : State) (dc : Nat) (data : List Byte) : State :=
  let size := replayEnd - replayBase
  let at0 := if s.hbm.replayHead + data.length > size then 0 else s.hbm.replayHead
  let kept := dropOverlap at0 (at0 + data.length) s.hbm.replay
  let dropped := kept.length < s.hbm.replay.length
  let s := s.hbmWrite (replayBase + at0) data
  let s := State.replayObjs { s with hbm := { s.hbm with
    replay := kept ++ [(dc, at0, data.length)], replayHead := (at0 + data.length + 7) / 8 * 8 } }
  if dropped then s.voidSlots (· < s.obj O.REPLAY_OLDEST_DC) else s

/-- The replay-log entry of a DC as bytes. -/
def State.replayEntry (s : State) (dc : Nat) : Option (List Byte) :=
  (s.hbm.replay.find? fun e => e.1 == dc).map fun e => mread s.hbm.mem (replayBase + e.2.1) e.2.2

/-- The replay log emptied (R166). -/
def State.replayEmpty (s : State) : State :=
  State.replayObjs { s with hbm := { s.hbm with replay := [], replayHead := 0 } }

/-- Entries of DC `j` and later discarded (R341). -/
def State.replayCut (s : State) (j : Nat) : State :=
  let keep := s.hbm.replay.filter fun e => e.1 < j
  State.replayObjs { s with hbm := { s.hbm with
    replay := keep, replayHead := match keep.getLast? with | none => 0 | some e => (e.2.1 + e.2.2 + 7) / 8 * 8 } }

end Sys2Proof.Machine
end

