-- ==== Sys2Proof/Machine/Astray.lean ====
section
/-!
DEFINITION. The unpredictable result of an error the module does not detect (R8): what it may touch is left open, and the command that
met it goes on.
-/

namespace Sys2Proof.Machine

/-- `n` free bytes of a draw. -/
def freeBytes (draw a n : Nat) : List Byte := (List.range n).map fun i => Config.freeByte draw (a + i)

/-- A list whose items each take a free bit, from draw `f` on. -/
def freed {α : Type} (f : Nat) (g : Bool → α → α) (l : List α) : List α := l.zipIdx.map fun e => g (Config.freeBit (f + e.2)) e.1

/-- A cluster whose design-memory rows are left open, each a whole codeword. -/
def Cluster.openRows (c : Cluster) (draw : Nat) : Cluster :=
  (List.range 65536).foldl (fun c r => c.putRow r (leNat (freeBytes draw (nMem r) 8))) c

/-- A cluster whose design state is left open: STATE, LOCAL and INBOX with their tags (0x0100_0000–0x0107_FFFF of Table 05-10), design
memory, the port registers, and the values on their way. `f` is the first of its draws. -/
def Cluster.astray (c : Cluster) (f : Nat) : Cluster :=
  let num (i : Nat) : Nat := Config.freeNat (f + i)
  let c := { c with
    node := mwrite c.node (nLive 0) (freeBytes f (nLive 0) 0x80000)
    portAddr := (List.range 4).foldl (fun t p => tput (fun _ => 0) t p (num p % 2 ^ 64)) c.portAddr
    portData := (List.range 4).foldl (fun t p => tput (fun _ => 0) t p (num (4 + p) % 2 ^ 64)) c.portData
    staged := freed (f + 2 ^ 20) (fun b e => (e.1, b)) c.staged
    inflight := freed (f + 2 ^ 21) (fun b (d : Deliv) => { d with val := b }) c.inflight
    routeQ := tmap (fun _ => []) (fun g q => freed (f + 2 ^ 22 + 256 * g) (fun b (r : RouteRead) => { r with val := b }) q) c.routeQ
    landQ := tmap (fun _ => []) (fun g q => freed (f + 2 ^ 23 + 65536 * g) (fun b (x : LandBit) => { x with val := b }) q) c.landQ
    gather := tmap (fun _ => none) (fun i g => g.map fun (x : Gather) => { x with bits := num (2 ^ 26 + i) % 2 ^ 256 }) c.gather
    drives := [] }
  c.openRows (f + 1)

/-- The unpredictable result of an error the module does not detect, within the bounds of R8: the emulated design state, the Quarry, the
trace, the snapshots and the outputs are left open. Nothing else changes: the module, its life-cycle state, debug access and other modules
stay as they are. -/
def State.astray (s : State) : State :=
  let f := s.fresh
  let num (i w : Nat) : Nat := Config.freeNat (f + i) % 2 ^ w
  let s := { s with fresh := f + 2 ^ 40 }
  let s := s.bound.foldl (fun s b => let cid := cidOf b.1 b.2.2; s.setCl cid ((s.cl cid).astray (f + 2 ^ 30 * (cid + 1)))) s
  let s := { s with
    sluice := { s.sluice with
      accs := (List.range 64).foldl (fun t d => tput (fun _ => 0) t d (num (10 + d) 17)) []
      enables := num 80 64
      xin := (List.range 4096).foldl (fun t x => tput (fun _ => 0) t x (num (5000 + x) 512)) []
      fin := mwrite [] 0 (freeBytes (f + 1) 0 1024)
      drives := [] }
    hub := { s.hub with
      xports := (List.range 4096).foldl (fun t x =>
        tupd (fun _ => Xport.blank) t x fun p => { p with out := num (10000 + x) 512 }) s.hub.xports }
    fabric := { s.fabric with
      fout := mwrite [] 0 (freeBytes (f + 2) 0 1024), foutDesign := mwrite [] 0 (freeBytes (f + 3) 0 1024) }
    trig := { s.trig with words := (List.range 256).foldl (fun t i => tput (fun _ => 0) t i (num (20000 + i) 64)) [] }
    trace := { s.trace with
      probes := (List.range 1024).foldl (fun t i => tput (fun _ => 0) t i (num (30000 + i) 64)) []
      buffer := s.trace.buffer.map fun (e : Nat × List Byte) => (e.1, freeBytes (f + 4) (4096 * e.1) e.2.length) } }
  let s := s.hbmOpen 0 (s.obj O.QUARRY_SIZE * granule)
  let s := s.hbmOpen (s.obj O.SPOIL_BASE) (s.obj O.SPOIL_BASE + s.obj O.SPOIL_SIZE * granule)
  let s := s.hbmOpen (s.obj O.PEAT_BASE) (s.obj O.PEAT_BASE + s.obj O.PEAT_COUNT * 9 * granule)
  s.hbmOpen 0x17F0000000 0x17F1400000

end Sys2Proof.Machine
end

