-- ==== Sys2Proof/Machine/LineCode.lean ====
section
/-!
DEFINITION. The line code of a Seam lane and the layout of its blocks (09): scrambling (R206), stuffing (R207), the receiver's block
lock (R209), control blocks (Table 09-3), trailers (Table 09-4) and packet flits (Table 05-7).
-/

namespace Sys2Proof.Machine

/-! ### Scrambling (R206): a register of the last 31 line bits, the newest lowest -/

/-- What the scrambler adds to a payload bit: the line bits 28 and 31 before it. -/
def scrambleBit (h : Nat) : Bool := xor (h.testBit 27) (h.testBit 30)

/-- A line bit shifted into the register. -/
def pushBit (h : Nat) (b : Bool) : Nat := (2 * h + b.toNat) % 2 ^ 31

/-- Payload bits scrambled, with the register they leave. -/
def scramble : List Bool → Nat → List Bool × Nat
  | [], h => ([], h)
  | d :: r, h =>
    let s := xor d (scrambleBit h)
    let o := scramble r (pushBit h s)
    (s :: o.1, o.2)

/-- Line bits descrambled, with the register they leave. -/
def descramble : List Bool → Nat → List Bool × Nat
  | [], h => ([], h)
  | s :: r, h =>
    let o := descramble r (pushBit h s)
    (xor s (scrambleBit h) :: o.1, o.2)

/-! ### Stuffing (R207) -/

/-- Line bits with an opposite bit after every run of 40, the run counter and the last bit they leave. -/
def stuff : List Bool → Nat → Bool → List Bool × Nat × Bool
  | [], run, last => ([], run, last)
  | b :: r, run, last =>
    let n := if b == last then run + 1 else 1
    if n = 40 then
      let o := stuff r 1 (! b)
      (b :: (! b) :: o.1, o.2)
    else
      let o := stuff r n b
      (b :: o.1, o.2)

/-! ### Blocks on a lane (R205, R209) -/

/-- The lowest `n` bits of a number, lowest first. -/
def bitsOf (n v : Nat) : List Bool := (List.range n).map v.testBit

/-- A data block and a control block. -/
def dataBlock (p : Nat) : SeamBlock := ⟨1, p⟩
def ctrlBlock (p : Nat) : SeamBlock := ⟨2, p⟩

/-- A block put on a transmit lane: the lane after it and the line bits. -/
def SeamLane.encode (v : SeamLane) (b : SeamBlock) : SeamLane × List Bool :=
  let p := scramble (bitsOf 256 b.payload) v.txHist
  let o := stuff (bitsOf 2 b.header ++ p.1) v.txRun v.txLast
  ({ v with txHist := p.2, txRun := o.2.1, txLast := o.2.2, txLag := v.txLag + (o.1.length - 258), txBlocks := v.txBlocks + 1 }, o.1)

/-- What a receive lane finds: a stuffing violation, the lock gained or lost, a block of a locked lane with the time of its first bit. -/
inductive LaneEvent where
  | violation
  | locked
  | lost
  | block (b : SeamBlock) (time : Nat)
deriving DecidableEq, Repr

/-- The header of a candidate block examined (Table 09-1). -/
def SeamLane.endBlock (v : SeamLane) : SeamLane × List LaneEvent :=
  let h := if v.bad then 0 else v.acc % 4
  let valid := h == 1 || h == 2
  let w := { v with got := 0, acc := 0, bad := false }
  if v.locked then
    let l := ((! valid) :: v.last64).take 64
    if (l.filter id).length ≥ 16 then ({ w with locked := false, good := 0, last64 := [], markers := 0, rx := [] }, [.lost])
    else ({ w with last64 := l }, [.block ⟨h, v.acc / 4⟩ v.since])
  else if ! valid then ({ w with good := 0, slip := true }, [])
  else if v.good + 1 ≥ 64 then ({ w with locked := true, good := 0, last64 := [], markers := 0, rx := [] }, [.locked])
  else ({ w with good := v.good + 1 }, [])

/-- A destuffed bit at time `t`: in HUNT one is skipped after an invalid header; the others fill the candidate block. -/
def SeamLane.blockBit (v : SeamLane) (t : Nat) (b : Bool) : SeamLane × List LaneEvent :=
  if v.slip then ({ v with slip := false }, [])
  else
    let d := if v.got < 2 then b else xor b (scrambleBit v.rxHist)
    let w := { v with
      since := if v.got = 0 then t else v.since
      rxHist := if v.got < 2 then v.rxHist else pushBit v.rxHist b
      acc := v.acc + d.toNat * 2 ^ v.got
      got := v.got + 1 }
    if w.got ≥ 258 then w.endBlock else (w, [])

/-- A line bit (R207): the bit after 40 identical ones is removed. -/
def SeamLane.lineBit (v : SeamLane) (t : Nat) (b : Bool) : SeamLane × List LaneEvent :=
  if v.rxRun ≥ 40 then
    let w := { v with rxRun := 1, rxLast := b }
    if b == v.rxLast then ({ w with bad := true }, [.violation]) else (w, [])
  else { v with rxRun := if b == v.rxLast then v.rxRun + 1 else 1, rxLast := b }.blockBit t b

/-- Line bits, the first of them first. -/
def SeamLane.lineBits (v : SeamLane) (t : Nat) (bits : List Bool) : SeamLane × List LaneEvent :=
  bits.foldl (fun e b => let o := e.1.lineBit t b; (o.1, e.2 ++ o.2)) (v, [])

/-! ### CRCs (R158, R215, Table 09-4) -/

/-- The CRC-32 register after the lowest `n` bits of `v`, lowest first. -/
def crcBits : Nat → Nat → Nat → Nat
  | 0, _, c => c
  | n + 1, v, c => crcBits n (v / 2) (crcBit (c ^^^ (v % 2)))

/-- The CRC of an unsequenced control block over its bits [255:32]. -/
def blockCrc (p : Nat) : Nat := crcBits 224 (p / 2 ^ 32) 0xFFFFFFFF ^^^ 0xFFFFFFFF

/-- A payload with its CRC in bits [31:0]. -/
def sealed (p : Nat) : SeamBlock := ctrlBlock (p + blockCrc p)

/-- An unsequenced block's CRC holds. -/
def crcGood (p : Nat) : Bool := p % 2 ^ 32 == blockCrc p

/-- The CRC of a frame: its units, each with its header bits first, then the trailer's bits [255:32]. -/
def frameCrc (units : List SeamBlock) (trailer : Nat) : Nat :=
  crcBits 224 (trailer / 2 ^ 32) (units.foldl (fun c b => crcBits 256 b.payload (crcBits 2 b.header c)) 0xFFFFFFFF) ^^^ 0xFFFFFFFF

/-! ### Control blocks (Table 09-3) -/

/-- CTYPE. -/
def ctype (p : Nat) : Nat := field p 248 8

abbrev ctIdle : Nat := 0x00
abbrev ctMarker : Nat := 0x01
abbrev ctAck : Nat := 0x02
abbrev ctNak : Nat := 0x03
abbrev ctFrameEnd : Nat := 0x10
abbrev ctDcDone : Nat := 0x20
abbrev ctXtrig : Nat := 0x21
abbrev ctTimeSync : Nat := 0x30
abbrev ctPdelayReq : Nat := 0x31
abbrev ctPdelayResp : Nat := 0x32

/-- A payload from values and the lowest bits of their fields. -/
def packed (l : List (Nat × Nat)) : Nat := l.foldl (fun n e => n + e.1 * 2 ^ e.2) 0

/-- An IDLE block. -/
def idleBlock (b : IdleBlock) : SeamBlock :=
  sealed (packed [(ctIdle, 248), (b.moduleId % 1024, 238), (b.link % 32, 233), (b.rxState % 8, 230), (b.run % 4, 228), (b.llKept.toNat, 227)])

/-- The fields of an IDLE block. -/
def readIdle (p : Nat) : IdleBlock := ⟨field p 238 10, field p 233 5, field p 230 3, field p 228 2, p.testBit 227⟩

/-- A LANE_MARKER. -/
def markerBlock (lane unit : Nat) : SeamBlock := sealed (packed [(ctMarker, 248), (lane % 8, 245), (unit % 2 ^ 32, 213)])

/-- The fields of a TIME_SYNC block. -/
def readSync (p : Nat) : SyncBlock :=
  ⟨field p 232 16, field p 224 8, field p 214 10, field p 206 8, field p 190 16, field p 40 96⟩

/-- A block sent outside frames; `t` is its departure time (R216). -/
def SeamMsg.block (m : SeamMsg) (t : Nat) : SeamBlock :=
  match m with
  | .idle b => idleBlock b
  | .ack seq credits => sealed (packed [(ctAck, 248), (seq % 4096, 236), (credits % 2 ^ 32, 204)])
  | .nak seq => sealed (packed [(ctNak, 248), (seq % 4096, 236)])
  | .sync b => sealed (packed [(ctTimeSync, 248), (b.seqId % 2 ^ 16, 232), (b.priority % 256, 224), (b.gmId % 1024, 214),
      (b.steps % 256, 206), (b.boot % 2 ^ 16, 190), (t % 2 ^ 96, 40)])
  | .pdelayReq q _ => sealed (packed [(ctPdelayReq, 248), (q % 2 ^ 16, 232), (t % 2 ^ 96, 40)])
  | .pdelayResp q a _ => sealed (packed [(ctPdelayResp, 248), (q % 2 ^ 16, 232), (a % 2 ^ 96, 136), (t % 2 ^ 96, 40)])

/-- A unit of a frame (R214, R217). A sequenced block leaves bits [31:0] reserved (R215). -/
def unitBlock : SeamUnit → SeamBlock
  | .slot _ _ bits => dataBlock (bits % 2 ^ 256)
  | .flit _ bits => dataBlock (bits % 2 ^ 256)
  | .dcDone dc => ctrlBlock (packed [(ctDcDone, 248), (dc % 2 ^ 64, 184)])
  | .xtrig origin xseq lines originDc boot => ctrlBlock (packed [(ctXtrig, 248), (origin % 1024, 238), (xseq % 2 ^ 16, 222),
      (lines % 2 ^ 16, 206), (originDc % 2 ^ 64, 142), (boot % 2 ^ 16, 126)])

/-- A sequenced control block as it is received; one of another type is none. -/
def readSequenced (p : Nat) : Option SeamUnit :=
  if ctype p = ctDcDone then some (.dcDone (field p 184 64))
  else if ctype p = ctXtrig then some (.xtrig (field p 238 10) (field p 222 16) (field p 206 16) (field p 142 64) (field p 126 16))
  else none

/-- A received block that is no part of a frame's units: its type is that of an unsequenced block or a trailer. Any other block counts
as a unit, so that damage shows in the trailer's check. -/
def isApart (b : SeamBlock) : Bool :=
  b.header == 2 &&
    [ctIdle, ctAck, ctNak, ctFrameEnd, ctTimeSync, ctPdelayReq, ctPdelayResp].contains (ctype b.payload)

/-- A LANE_MARKER. -/
def isMarker (b : SeamBlock) : Bool := b.header == 2 && ctype b.payload == ctMarker

/-- An IDLE. -/
def isIdle (b : SeamBlock) : Bool := b.header == 2 && ctype b.payload == ctIdle

/-! ### Trailers (R218, Table 09-4) -/

/-- The KIND codes and the explicit entries of a frame's units; `prev` is the tag and EPOCH that SLOT_NEXT stands for. -/
def unitKinds : Option (Nat × Nat) → List SeamUnit → List Nat × List Nat
  | _, [] => ([], [])
  | prev, .slot t e _ :: r =>
    let o := unitKinds (some (t + 1, e)) r
    if prev = some (t, e) then (0 :: o.1, o.2) else (1 :: o.1, (e * 2048 + t) :: o.2)
  | prev, .flit vc _ :: r => let o := unitKinds prev r; ((4 + vc % 4) :: o.1, o.2)
  | prev, .dcDone _ :: r => let o := unitKinds prev r; (2 :: o.1, o.2)
  | prev, .xtrig _ _ _ _ _ :: r => let o := unitKinds prev r; (2 :: o.1, o.2)

/-- The trailer of a frame. -/
def trailerBlock (seq run : Nat) (ack : Option Nat) (units : List SeamUnit) (kill : Bool) : SeamBlock :=
  let k := unitKinds none units
  let p := packed ([(ctFrameEnd, 248), (seq % 4096, 236), (units.length % 64, 230), (run % 4, 228), (ack.isSome.toNat, 227),
      (ack.getD 0 % 4096, 215), (kill.toNat, 32)]
    ++ (k.1.zipIdx.map fun e => (e.1 % 8, 212 - 3 * e.2)) ++ k.2.zipIdx.map fun e => (e.1 % 8192, 85 - 13 * e.2))
  ctrlBlock (p + frameCrc (units.map unitBlock) p)

/-- A frame's units read by its trailer `t`: unit `i` and the rest, the explicit entries left, and what SLOT_NEXT stands for. None where
the frame breaks a rule of R218, or holds a unit of another kind than the trailer says. -/
def readUnits (t : Nat) : Nat → List SeamBlock → List Nat → Option (Nat × Nat) → Option (List SeamUnit)
  | _, [], _, _ => some []
  | i, b :: r, es, prev =>
    let slot (tag e : Nat) (es : List Nat) : Option (List SeamUnit) :=
      if b.header ≠ 1 || tag > 1063 then none
      else (readUnits t (i + 1) r es (some (tag + 1, e))).map fun l => .slot tag e b.payload :: l
    match field t (212 - 3 * i) 3 with
    | 0 => match prev with | none => none | some (tag, e) => slot tag e es
    | 1 => match es with | [] => none | x :: es => slot (x % 2048) (x / 2048) es
    | 2 =>
      if b.header ≠ 2 then none
      else match readSequenced b.payload with
        | none => none
        | some u => (readUnits t (i + 1) r es prev).map fun l => u :: l
    | 3 => none
    | k => if b.header ≠ 1 then none else (readUnits t (i + 1) r es prev).map fun l => .flit (k - 4) b.payload :: l

/-- The units of a received frame, if its trailer's CRC and shape hold. -/
def readFrame (units : List SeamBlock) (t : Nat) : Option (List SeamUnit) :=
  let n := field t 230 6
  if t % 2 ^ 32 ≠ frameCrc units t || units.length ≠ n || n = 0 || n > 39 then none
  else readUnits t 0 units ((List.range 5).map fun j => field t (85 - 13 * j) 13) none

/-! ### Packets (Table 05-7) -/

/-- The flits of a packet: its header and its payload, 32 bytes a flit. -/
def packetWords (p : Packet) : List Nat :=
  let n := (p.payload.length + 31) / 32
  packed [(p.op % 16, 252), (n % 16, 248), (p.dstMod % 1024, 238), (p.dstDie % 8, 235), (p.dstNode % 256, 227), (p.srcMod % 1024, 217),
      (p.srcDie % 8, 214), (p.srcNode % 256, 206), (p.tag % 2 ^ 15, 191), (p.gen % 4, 189), (p.status % 256, 181), (p.bytes % 512, 172),
      (p.addr % 2 ^ 64, 0)]
    :: (List.range n).map fun i => leNat ((p.payload.drop (32 * i)).take 32)

/-- The payload flits that a header flit announces (R227). -/
def headerLen (h : Nat) : Nat := field h 248 4

/-- A packet read from its flits on a VC. -/
def readPacket (vc h : Nat) (data : List Nat) : Packet :=
  let bytes := field h 172 9
  { vc := vc, op := field h 252 4, dstMod := field h 238 10, dstDie := field h 235 3, dstNode := field h 227 8
    srcMod := field h 217 10, srcDie := field h 214 3, srcNode := field h 206 8, tag := field h 191 15, gen := field h 189 2
    status := field h 181 8, bytes := bytes, addr := field h 0 64
    payload := (data.flatMap fun v => leBytes 32 v).take bytes, poison := false }

end Sys2Proof.Machine
end

