-- ==== Sys2Proof/Machine/Memory.lean ====
section
/-!
DEFINITION. Design memory and the Quarry queue as the ops see them (06): port descriptors, packing, the order of accesses
(R136), check bits (R138), and reading route entries with their check bits (R55).
-/

namespace Sys2Proof.Machine

/-- The address register of a port (R59). -/
def Cluster.paddr (c : Cluster) (p : Nat) : Nat := tget (fun _ => 0) c.portAddr p
/-- The write-data register of a port (R59). -/
def Cluster.pdata (c : Cluster) (p : Nat) : Nat := tget (fun _ => 0) c.portData p

/-! ### Port descriptors (Table 06-2) -/

def dValid (d : Nat) : Bool := d.testBit 63
def dQuarry (d : Nat) : Bool := d.testBit 62
def dWidth (d : Nat) : Nat := field d 56 6 + 1
def dAw (d : Nat) : Nat := field d 50 6
def dBase (d : Nat) : Nat := if dQuarry d then field d 0 34 else field d 0 16

/-- The descriptor of a port of a physical cluster: it belongs to the logical cluster (R132). -/
def State.portDesc (s : State) (cid p : Nat) : Nat :=
  match s.lcOf cid with
  | some n => s.obj (O.PORT_DESC (64 * (cid / 68) + n) p)
  | none => 0

/-- The word address a port uses: bits [AW − 1:0] of its address register (R133). -/
def wordAddr (d a : Nat) : Nat := a % 2 ^ dAw d

/-- The smallest power of two not less than W. -/
def packWidth (w : Nat) : Nat := 2 ^ ([1, 2, 4, 8, 16, 32, 64].findIdx fun p => w ≤ p)

/-- Row and bit offset of a word on a cluster-memory port (R135). -/
def rowOfWord (d a : Nat) : Nat × Nat :=
  let p := packWidth (dWidth d)
  ((dBase d + a / (64 / p)) % 65536, p * (a % (64 / p)))

/-- A row of 64 bits with the bits of `mask` taken from `data`. -/
def mergeRow (row mask data : Nat) : Nat := (row &&& (2 ^ 64 - 1 - mask % 2 ^ 64)) ||| (data &&& mask)

/-- The writes to a row that some port does not see yet. -/
def Cluster.unseen (c : Cluster) (row : Nat) : List MemWrite := c.recent.filter fun w => w.row == row && w.step + 1 ≥ c.step

/-- A row without the writes that other ports do not see yet, checked (R136, R138). -/
def Cluster.rowBefore (c : Cluster) (row : Nat) : EccResult :=
  match c.unseen row with
  | [] => c.rowCheck row
  | w :: _ => eccCheck 64 w.old w.ecc

/-- The row as port `p` sees it in the cluster's present step, from the row without the unseen writes: with its own writes up to the step
before, those of other ports up to two steps before (R136). -/
def Cluster.rowView (c : Cluster) (p row before : Nat) : Nat :=
  ((c.unseen row).filter fun x => x.port == p && x.step + 1 == c.step).foldl (fun r x => mergeRow r x.mask x.data) before

/-- A write by port `p` in the present step over the row `cur` with the check bits `ecc`. Bits that a higher-numbered port writes in this
step stay, though `p` reads its own in the next (R136). -/
def Cluster.portWrite (c : Cluster) (p row cur ecc mask data : Nat) : Cluster :=
  let same := c.recent.filter fun w => w.row == row && w.step == c.step
  let before := match same with | [] => (cur, ecc) | w :: _ => (w.old, w.ecc)
  let taken := (same.filter fun w => w.port > p).foldl (fun m w => m ||| w.mask) 0
  let c := c.putRow row (mergeRow cur (mask &&& (2 ^ 64 - 1 - taken)) data)
  { c with recent := c.recent ++ [⟨c.step, p, row, mask, data &&& mask, before.1, before.2⟩], memUse := c.period + 1 }

/-- A corrected read of a row: counted each time, the rewrite noted once (R138). -/
def Cluster.noteRow (c : Cluster) (row : Nat) : Cluster :=
  let c := c.count 9 1
  { c with fixRows := if c.fixRows.contains row then c.fixRows else c.fixRows ++ [row] }

/-- No port touches the design memory in the cluster's present period (R138, R139). -/
def Cluster.memFree (c : Cluster) : Bool := c.memUse == 0 || c.memUse < c.period

/-- A route-table entry read through its check bits (R55): corrected and counted once per entry and DC, or an
uncorrectable-route fault recorded at `loc` (R495). -/
def State.readRouteAt (s : State) (cid e : Nat) (loc : FaultLoc) : State × Option Nat :=
  let c := s.cl cid
  let v := mnat c.node (nRoute (e % 16384)) 9
  match eccCheck 64 (v % 2 ^ 64) (v / 2 ^ 64) with
  | .clean d => (s, some d)
  | .corrected d =>
    if c.fixRoute.contains (e % 16384) then (s, some d)
    else (s.setCl cid { c.count 8 1 with fixRoute := c.fixRoute ++ [e % 16384] }, some d)
  | .uncorrectable syn =>
    (s.raiseFault 3 loc (e % 16384 + syn * 2 ^ 16) 0 0, none)

/-- A route-table entry read while a step executes. -/
def State.readRoute (s : State) (cid e : Nat) : State × Option Nat := s.readRouteAt cid e (FaultLoc.cluster s cid)

/-- The bits of a memory return sent to INBOX through the return map from entry `e` on (R60, R76, R137). An entry that is
not of the return kind is an unchecked error (R80). -/
def State.returnBits (s : State) (cid e val due : Nat) (src : DelivSrc) (stamp : Bool) : Nat → State
  | 0 => s
  | n + 1 =>
    match s.readRoute cid e with
    | (s, none) => s
    | (s, some d) =>
      let s := if rKind d ≠ 2 then s.astray else s
      let c := s.cl cid
      let v : Deliv := ⟨due, src, true, rBp d, rInbox d, val.testBit 0, stamp⟩
      (s.setCl cid { c with inflight := c.inflight ++ [v] }).returnBits cid (e + 1) (val / 2) due src stamp n

/-- A GO on a Quarry port enqueues a request; a full queue raises a Quarry fault with cause QUEUE (R142, R146). -/
def State.quarryGo (s : State) (cid : Nat) (r : QuarryReq) : State :=
  let c := s.cl cid
  if c.quarryQ.length ≥ 128 then s.raiseFault 5 (FaultLoc.cluster s cid) (4 + r.port * 256) r.slot 0
  else s.setCl cid { c with quarryQ := c.quarryQ ++ [r] }

/-- An MRD GO (R60, R134–R136, R138, R142). A DEST kind that is not that of a return map is an unchecked error (R80). -/
def State.mrdGo (s : State) (cid w : Nat) : State :=
  let s := if iDest w / 16384 ≠ 2 then s.astray else s
  let c := s.cl cid
  let p := mPort w
  let d := s.portDesc cid p
  let a := wordAddr d (c.paddr p)
  let e := iDest w % 16384
  let give (s : State) (v : Nat) : State := s.returnBits cid e v (c.period + s.lat 10) .memory s.stamp (dWidth d)
  if ! dValid d then give s 0
  else if dQuarry d then s.quarryGo cid ⟨p, false, dBase d + a, 0, dWidth d, e, s.stamp, s.dcNum, s.sluice.base + c.period, false⟩
  else
    let (row, off) := rowOfWord d a
    let used : Cluster := { c with memUse := c.period + 1 }
    match c.rowBefore row with
    | .uncorrectable _ => s.raiseFault 4 (FaultLoc.cluster s cid) (row + p * 2 ^ 16) 0 0
    | .clean v => give (s.setCl cid used) (field (c.rowView p row v) off (dWidth d))
    | .corrected v =>
      give (s.setCl cid (if c.unseen row = [] then used.noteRow row else used.count 9 1)) (field (c.rowView p row v) off (dWidth d))

/-- An MWR GO whose enable is 1 (R61, R134–R136, R140, R142). Its DC has executed a write (R492). A word of less than a whole row is merged
into the row as read and corrected (R138). -/
def State.mwrGo (s : State) (cid w : Nat) : State :=
  let c := s.cl cid
  let p := mPort w
  let d := s.portDesc cid p
  let a := wordAddr d (c.paddr p)
  let data := c.pdata p % 2 ^ dWidth d
  let did (s : State) : State := s.setCl cid { s.cl cid with wroteMem := true }
  if ! dValid d then did s
  else if dQuarry d then
    did (s.quarryGo cid ⟨p, true, dBase d + a, data, dWidth d, 0, s.stamp, s.dcNum, s.sluice.base + c.period, false⟩)
  else
    let (row, off) := rowOfWord d a
    let mask := (2 ^ dWidth d - 1) * 2 ^ off
    let put (c : Cluster) (v : Nat) : State := did (s.setCl cid (c.portWrite p row v (checkBits 64 v) mask (data * 2 ^ off)))
    if dWidth d = 64 then
      did (s.setCl cid (c.portWrite p row (mnat c.node (nMem row) 8) (mget c.ecc row).toNat mask data))
    else match c.rowCheck row with
      | .uncorrectable _ => s.raiseFault 4 (FaultLoc.cluster s cid) (row + p * 2 ^ 16) 0 0
      | .clean v => put c v
      | .corrected v => put (c.count 9 1) v

/-- An ADDR: the deposited bits enter the address register of the port (R59). -/
def Cluster.deposit (c : Cluster) (bp w : Nat) (data : Bool) : Cluster :=
  let p := mPort w
  let put (n : Nat) : Nat := setField n (4 * mNibble w) (mCount w) (depositValue c bp w)
  if data then { c with portData := tput (fun _ => 0) c.portData p (put (c.pdata p)) }
  else { c with portAddr := tput (fun _ => 0) c.portAddr p (put (c.paddr p)) }

end Sys2Proof.Machine
end

