-- ==== Sys2Proof/Machine/Cluster.lean ====
section
/-!
DEFINITION. The Boolean processors and the schedule sequencer of a cluster (02, 03, 04): the op classes, one step-clock
period of a cluster, deliveries, route ports, and the commands for them.
-/

namespace Sys2Proof.Machine

/-! ### Deliveries -/

/-- One delivery lands (R28, R33): written with its tag set when its stamp is that of the current DC, else discarded and
counted. A second delivery to one INBOX entry in one DC leaves a free value (R50). -/
def State.landOne (s : State) (cid : Nat) (d : Deliv) : State :=
  let c := s.cl cid
  if d.stamp != s.stamp then s.setCl cid (c.count 2 1)
  else if d.inbox then
    let twice := mbit c.node (nInboxTag d.bp) d.idx
    let v := if twice then Config.freeBit s.fresh else d.val
    let node := mputBit (mputBit c.node (nInbox d.bp) d.idx v) (nInboxTag d.bp) d.idx true
    (if twice then s.draw else s).setCl cid { c with node := node }
  else
    s.setCl cid { c with node := mputBit (mputBit c.node (nLocal d.bp) d.idx d.val) (nLocalTag d.bp) d.idx true }

/-- The deliveries of a cluster that are due in its present period and satisfy `f`, landed in order. -/
def State.landDue (s : State) (cid : Nat) (f : Deliv → Bool) : State :=
  let c := s.cl cid
  let (now, later) := c.inflight.partition fun d => d.due ≤ c.period && f d
  now.foldl (fun s d => s.landOne cid d) (s.setCl cid { c with inflight := later })

/-! ### One op -/

/-- A group delivery (Table 03-2). Two to one lane in one step leave both values free (R46, R50). -/
def State.groupSend (s : State) (cid bp w : Nat) (r : Bool) : State :=
  let c := s.cl cid
  let target := bp / 32 * 32 + field (iDest w) 9 5
  let due := c.period + s.lat 2
  let clash (d : Deliv) : Bool := d.src == .group && d.due == due && d.bp == target
  let new : Deliv := ⟨due, .group, true, target, field (iDest w) 0 9, r, s.stamp⟩
  if c.inflight.any clash then
    let old := c.inflight.map fun d => if clash d then { d with val := Config.freeBit s.fresh } else d
    (s.setCl cid { c with inflight := old ++ [{ new with val := Config.freeBit (s.fresh + 1) }] }).draw.draw
  else s.setCl cid { c with inflight := c.inflight ++ [new] }

/-- The reads of a route chain put into the group's route port (R77, R78). -/
def State.routeSend (s : State) (cid bp w : Nat) (r : Bool) : State :=
  let c := s.cl cid
  let e := iDest w % 16384
  let reads := (List.range (chainLength c e 8)).map fun k => (⟨(e + k) % 16384, k, c.step, c.period, r, s.stamp⟩ : RouteRead)
  s.setCl cid { c with routeQ := tupd (fun _ => []) c.routeQ (bp / 32) (· ++ reads) }

/-- The result written to the next half of STATE with its written bit (R35). -/
def State.stateSend (s : State) (cid bp w : Nat) (r : Bool) : State :=
  let c := s.cl cid
  let i := field (iDest w) 0 9
  s.setCl cid { c with node := mputBit c.node (nNext bp) i r, written := tput (fun _ => false) c.written (bp * 512 + i) true }

/-- A result delivered as DEST directs (Table 03-2, R57). -/
def State.deliver (s : State) (cid bp w : Nat) (r : Bool) : State :=
  match iDest w / 16384 with
  | 1 => s.groupSend cid bp w r
  | 2 => s.routeSend cid bp w r
  | 3 => s.stateSend cid bp w r
  | _ => s

/-- A result on its way to LOCAL entry s, readable two periods later (R26, Table 03-6). -/
def State.landLocal (s : State) (cid bp : Nat) (r : Bool) : State :=
  let c := s.cl cid
  s.setCl cid { c with inflight := c.inflight ++ [⟨c.period + s.lat 1, .own, false, bp, c.step, r, s.stamp⟩] }

/-- A value given to the hub, passed on in the commit steps (R63–R66). -/
def State.drive (s : State) (cid : Nat) (d : Drive) : State :=
  let c := s.cl cid
  s.setCl cid { c with drives := c.drives ++ [d] }

/-- The cluster carries the home of an XPORT or fabric bit (R63): home words are kept as Table 07-4's HOMES lays them out. -/
def State.isHome (s : State) (cid key : Nat) : Bool :=
  let h := tget (fun _ => 0) s.sluice.homes key
  h.testBit 15 && field h 6 2 == cid / 68 && s.lcOf cid == some (field h 0 6)

/-- The value of FIN bit `b` in effect for the current DC. -/
def State.finBit (s : State) (b : Nat) : Bool := mbit s.sluice.fin 0 b

/-- Bit `b` of the XPORT input in effect for the current DC (R15). -/
def State.xinBit (s : State) (x b : Nat) : Bool := (tget (fun _ => 0) s.sluice.xin x).testBit b

/-- A port used by an op in the present period; a second op on it is an unchecked error (R44, R50). -/
def State.usePort (s : State) (cid p : Nat) : State :=
  let c := s.cl cid
  if tget (fun _ => 0) c.portUse p = c.period + 1 then s.astray
  else s.setCl cid { c with portUse := tput (fun _ => 0) c.portUse p (c.period + 1) }

/-- A result written to LOCAL and delivered. -/
def State.result (s : State) (cid bp w : Nat) (r : Bool) : State := (s.landLocal cid bp r).deliver cid bp w r

def State.opLut (s : State) (cid bp w : Nat) : State := s.result cid bp w (lutResult (s.cl cid) bp w)

/-- ADDR of MRD or MWR (R59, R62): LOCAL takes 0, DEST is ignored. -/
def State.opAddr (s : State) (cid bp w : Nat) : State :=
  let s := s.usePort cid (mPort w)
  (s.setCl cid ((s.cl cid).deposit bp w false)).landLocal cid bp false

/-- MWR DATA (R59, R62). -/
def State.opData (s : State) (cid bp w : Nat) : State :=
  let s := s.usePort cid (mPort w)
  (s.setCl cid ((s.cl cid).deposit bp w true)).landLocal cid bp false

/-- MRD GO (R60, R62). -/
def State.opMrdGo (s : State) (cid bp w : Nat) : State := ((s.usePort cid (mPort w)).landLocal cid bp false).mrdGo cid w

/-- MWR GO (R61, R62): the enable is the result. -/
def State.opMwrGo (s : State) (cid bp w : Nat) : State :=
  let en := operand (s.cl cid) bp w 0
  let s := s.usePort cid (mPort w)
  (if en then s.mwrGo cid w else s).result cid bp w en

/-- An op at the boundary of the design outside the home of its XPORT or fabric bit, an unchecked error (R63, R80): its result is a free
value, and what it does else is unpredictable. -/
def State.opForeign (s : State) (cid bp w : Nat) : State := s.draw.astray.result cid bp w (Config.freeBit s.fresh)

/-- XIN (R63). -/
def State.opXin (s : State) (cid bp w : Nat) : State :=
  let x := field (iTt w) 0 12
  if s.isHome cid x then s.result cid bp w (s.xinBit x (field (iSel w 3) 0 9)) else s.opForeign cid bp w

/-- XOUT (R63). -/
def State.opXout (s : State) (cid bp w : Nat) : State :=
  let x := field (iTt w) 0 12
  let v := operand (s.cl cid) bp w 0
  if s.isHome cid x then (s.drive cid (.xout x (field (iSel w 3) 0 9) v)).result cid bp w v else s.opForeign cid bp w

/-- FIN (R63). -/
def State.opFin (s : State) (cid bp w : Nat) : State :=
  let b := field (iTt w) 0 13
  if s.isHome cid (4096 + b) then s.result cid bp w (s.finBit b) else s.opForeign cid bp w

/-- FOUT (R63). -/
def State.opFout (s : State) (cid bp w : Nat) : State :=
  let b := field (iTt w) 0 13
  let v := operand (s.cl cid) bp w 0
  if s.isHome cid (4096 + 8192 + b) then (s.drive cid (.fout b v)).result cid bp w v else s.opForeign cid bp w

/-- TRG (R64). -/
def State.opTrg (s : State) (cid bp w : Nat) : State :=
  let v := operand (s.cl cid) bp w 0
  (s.drive cid (.trg (cid / 68 * 4096 + field (iTt w) 0 12) v)).result cid bp w v

/-- PRB (R64). -/
def State.opPrb (s : State) (cid bp w : Nat) : State :=
  let v := operand (s.cl cid) bp w 0
  (s.drive cid (.prb (cid / 68 * 16384 + field (iTt w) 0 14) v)).result cid bp w v

/-- EVT (R65): a result of 0 sets no flag. -/
def State.opEvt (s : State) (cid bp w : Nat) : State :=
  let v := operand (s.cl cid) bp w 0
  (if v then s.drive cid (.evt (field (iTt w) 0 14) (field (iSel w 3) 0 5)) else s).result cid bp w v

/-- ASRT (R66): a result of 1 records a failure. -/
def State.opAsrt (s : State) (cid bp w : Nat) : State :=
  let v := operand (s.cl cid) bp w 0
  (if v then s.drive cid (.asrt (iTt w) (cid / 68) ((s.lcOf cid).getD 0) bp) else s).result cid bp w v

/-- CKEN (R68). -/
def State.opCken (s : State) (cid bp w : Nat) : State :=
  s.result cid bp w (s.sluice.enables.testBit (field (iTt w) 0 6))

/-- END (R69). -/
def State.opEnd (s : State) (cid bp : Nat) : State :=
  let s := s.landLocal cid bp false
  s.setCl cid { s.cl cid with stopped := (s.cl cid).stopped ++ [bp] }

/-- One op executes (R56–R70). Reserved classes and forms are unchecked errors (R80). -/
def State.execOp (s : State) (cid bp w : Nat) : State :=
  match iClass w with
  | .nop => s
  | .lut => s.opLut cid bp w
  | .mrd => match mrdForm w with
    | .addr => s.opAddr cid bp w
    | .go => s.opMrdGo cid bp w
    | _ => s.astray
  | .mwr => match mwrForm w with
    | .addr => s.opAddr cid bp w
    | .data => s.opData cid bp w
    | .go => s.opMwrGo cid bp w
    | .reserved => s.astray
  | .xin => s.opXin cid bp w
  | .xout => s.opXout cid bp w
  | .fin => s.opFin cid bp w
  | .fout => s.opFout cid bp w
  | .trg => s.opTrg cid bp w
  | .prb => s.opPrb cid bp w
  | .evt => s.opEvt cid bp w
  | .asrt => s.opAsrt cid bp w
  | .cken => s.opCken cid bp w
  | .stop => s.opEnd cid bp
  | .reserved => s.astray

/-! ### One period of a cluster (R81–R84) -/

/-- Upsets applied to a cluster's stores before a period. -/
def Cluster.upset (c : Cluster) (us : List Upset) : Cluster :=
  us.foldl (fun c u =>
    if u.addr < 0x04000000 then { c with node := mput c.node u.addr (mget c.node u.addr ^^^ BitVec.ofNat 8 (2 ^ (u.bit % 8))) }
    else { c with ecc := mput c.ecc (u.addr - 0x04000000) (mget c.ecc (u.addr - 0x04000000) ^^^ BitVec.ofNat 8 (2 ^ (u.bit % 8))) }) c

/-- The first operand that a step waits for: BP and selector, lowest BP and operand first (R30, R93). -/
def waitingOperand (c : Cluster) : List (Nat × Nat) → Option (Nat × Nat)
  | [] => none
  | (bp, w) :: r =>
    match (dependents w).find? fun sel => ! selReady c bp sel with
    | some sel => some (bp, sel)
    | none => waitingOperand c r

/-- Some group's route port would go beyond 256 pending reads (R78). -/
def routeOverflow (c : Cluster) (ops : List (Nat × Nat)) : Bool :=
  (List.range 32).any fun g =>
    (tget (fun _ => []) c.routeQ g).length
      + (ops.filter fun o => o.1 / 32 == g && usesRoute o.2).foldl (fun n o => n + chainLength c (iDest o.2 % 16384) 8) 0 > 256

/-- HOLD_MAX_WHERE of a hold (Table 04-10). -/
def holdWhereOf (s : State) (cid step : Nat) (w : Option (Nat × Nat)) : Nat :=
  let lc := (s.lcOf cid).getD 0
  match w with
  | some (bp, sel) => cid / 68 * 2 ^ 38 + lc * 2 ^ 32 + bp * 2 ^ 22 + step * 2 ^ 11 + sel
  | none => cid / 68 * 2 ^ 38 + lc * 2 ^ 32 + 2 ^ 21 + step * 2 ^ 11

/-- A count of periods as a U32 object holds it. -/
def u32 (n : Nat) : Nat := min n (2 ^ 32 - 1)

/-- A held period (R30, R78, R84): only the counts move (R99, R100, Table 18-7). Where the waiting operand changes during one hold,
HOLD_MAX_WHERE takes the one of the latest held period. -/
def State.holdPeriod (s : State) (cid : Nat) (w : Option (Nat × Nat)) : State :=
  let c := s.cl cid
  let len := if c.seq = .held then c.holdLen + 1 else 1
  let wh := holdWhereOf s cid c.step w
  let c := (c.count 0 1).count 1 (if w.isNone then 1 else 0)
  let s := s.setCl cid { c with seq := .held, holdLen := len, holdWhere := wh, period := c.period + 1 }
  let s := s.bump O.HOLD_TOTAL 1
  if s.obj O.HOLD_MAX < u32 len then s.setObjs [(O.HOLD_MAX, u32 len), (O.HOLD_MAX_WHERE, wh), (O.HOLD_MAX_DC, s.dcNum)] else s

/-- The ops of a step executed in ascending BP order. -/
def State.execAll (s : State) (cid : Nat) : List (Nat × Nat) → State
  | [] => s
  | (bp, w) :: r => (s.execOp cid bp w).execAll cid r

/-- The corrected entries of a step noted and counted, once per entry and DC (R54). -/
def Cluster.noteFixes (c : Cluster) (bps : List Nat) : Cluster :=
  bps.foldl (fun c bp =>
    match fetch c bp c.step with
    | .corrected _ =>
      let a := bp * 1024 + c.step
      if c.fixInstr.contains a then c else { c.count 7 1 with fixInstr := c.fixInstr ++ [a] }
    | _ => c) c

/-- The ops of a cluster's present step that have still to execute, as BP and word. -/
def Cluster.ops (c : Cluster) : List (Nat × Nat) :=
  ((activeBps c c.step).filter fun bp => ! c.done.contains bp).filterMap fun bp => ((fetch c bp c.step).word).map fun w => (bp, w)

/-- The first BP whose fetch in the present step is uncorrectable (R54), with the syndrome. -/
def Cluster.badFetch (c : Cluster) : Option (Nat × Nat) :=
  (activeBps c c.step).findSome? fun bp => match fetch c bp c.step with | .uncorrectable y => some (bp, y) | _ => none

/-- Nothing keeps the cluster's present step from executing: no fetch, no operand of any BP, no route port (R30, R54, R78). -/
def Cluster.goes (c : Cluster) : Bool := c.badFetch.isNone && (waitingOperand c c.ops).isNone && ! routeOverflow c c.ops

/-- A scheduled step (R30, R54, R78, R81). Every BP fetches first. -/
def State.scheduledStep (s : State) (cid : Nat) : State :=
  let c := (s.cl cid).noteFixes (activeBps (s.cl cid) (s.cl cid).step)
  let s := s.setCl cid c
  match c.badFetch with
  | some (bp, syn) =>
    let s := s.raiseFault 2 (FaultLoc.cluster s cid) (bp + c.step * 2 ^ 16 + syn * 2 ^ 32) 0 0
    s.setCl cid { s.cl cid with period := c.period + 1 }
  | none =>
    match waitingOperand c c.ops with
    | some w => s.holdPeriod cid (some w)
    | none =>
      if routeOverflow c c.ops then s.holdPeriod cid none
      else
        let s := s.execAll cid c.ops
        let c := s.cl cid
        let last := c.step + 1 ≥ s.depth
        s.setCl cid { c with
          seq := if last then .commit else .runStep
          step := if last then 0 else c.step + 1
          period := c.period + 1
          done := []
          holdLen := 0 }

/-- The STATE entries of a cluster whose written bit is set, with their next values (R36). -/
def Cluster.stage (c : Cluster) : List (Nat × Bool) :=
  c.written.filterMap fun e => if e.2 then some (e.1, mbit c.node (nNext (e.1 / 512)) (e.1 % 512)) else none

/-- The Sluice notice is up: the END period is known and at most 24 periods away (R87). -/
def Cluster.noticeUp (c : Cluster) : Bool := match c.endPeriod with | some e => decide (e ≤ c.period + 24) | none => false

/-- The longest queue of a cluster's route ports. -/
def Cluster.longestPort (c : Cluster) : Nat := c.routeQ.foldl (fun n e => max n e.2.length) 0

/-- An overhead step: commit steps 0–7 stage STATE and pass the observed values to the hub, exchange steps 8–39 follow
(R36, R66, R82). The END period is known at overhead step 0 (R87). -/
def State.overheadStep (s : State) (cid : Nat) : State :=
  let c := s.cl cid
  let c := if c.step = 0 then
      { c with staged := c.stage, endPeriod := some (max (c.period + 40) (c.period + c.longestPort)) } else c
  let pass := if c.step = 7 then c.drives else []
  let c := { c with
    drives := if c.step = 7 then [] else c.drives
    seq := if c.step ≥ 39 then .drain else if c.step ≥ 7 then .exchange else .commit
    step := if c.step ≥ 39 then 39 else c.step + 1
    period := c.period + 1 }
  let c := { c with notice := c.noticeUp }
  let s := s.setCl cid c
  { s with sluice := { s.sluice with drives := s.sluice.drives ++ pass } }

/-- A partner counts as running (R92). -/
def State.partnerRunning (s : State) (l : Nat) : Bool :=
  let r := s.obj (O.PARTNER_RUN l)
  r != 1 && r != 3 ||
    (match (s.link l).downSince with | some t => t + s.obj O.RESUME_LIMIT ≤ s.nowNs | none => false)

/-- Every configured partner counts as running (R91). -/
def State.partnersRunning (s : State) : Bool := s.partners.all s.partnerRunning

/-- No abandon keeps the cluster from acting in its present period (R491, R492). -/
def State.mayAct (s : State) (cid : Nat) : Bool :=
  match s.run.abandon with
  | none => true
  | some a => a.opening || (s.cl cid).period ≤ a.period

/-- CLUSTER_STEP (R81): one step-clock period of a cluster. -/
def execClusterStep (die : Die) (pc : Pc) (upsets : List Upset) (s : State) : Out :=
  let cid := cidOf die pc
  let s := s.setCl cid ((s.cl cid).upset upsets)
  if s.stepping && s.sluiceSet.contains cid && s.mayAct cid then
    let run := s.partnersRunning
    let first := s.sluiceSet.head? == some cid
    let s := s.landDue cid fun _ => true
    let c := s.cl cid
    let c := { c with recent := c.recent.filter fun w => w.step + 1 ≥ c.step }
    let s := s.setCl cid { c with overrun := if run && c.seq != .atEnd then c.overrun + 1 else c.overrun }
    let s := if run && first && s.sluice.localDone.isSome then
        { s with sluice := { s.sluice with waitCount := s.sluice.waitCount + 1 } } else s
    let c := s.cl cid
    let next : Cluster := { c with period := c.period + 1 }
    match c.seq with
    | .runStep => .next (s.scheduledStep cid)
    | .held => .next (s.scheduledStep cid)
    | .commit => .next (s.overheadStep cid)
    | .exchange => .next (s.overheadStep cid)
    | .drain => .next (s.setCl cid { next with notice := next.noticeUp })
    | .atEnd => .next (s.setCl cid next)
  else .next s

/-! ### Single ops -/

/-- The cluster executes its present step in this period (R30, R78, R81). -/
def State.executes (s : State) (cid : Nat) : Bool :=
  let c := s.cl cid
  s.stepping && s.sluiceSet.contains cid && s.mayAct cid && (c.seq == .runStep || c.seq == .held) && c.goes

/-- The op that BP `bp` has at its cluster's present step executes, if it satisfies `f` and nothing holds the cluster (R30, R72). The rest of
the step follows at CLUSTER_STEP, which does not execute it again. -/
def State.opAt (s : State) (die pc bp : Nat) (f : Nat → Bool) : Out :=
  let cid := cidOf die pc
  match (s.cl cid).ops.find? fun o => o.1 == bp with
  | none => .next s
  | some (_, w) =>
    if s.executes cid && f w then
      let s := s.setCl cid { s.cl cid with done := (s.cl cid).done ++ [bp] }
      .next (s.execOp cid bp w)
    else .next s

/-- NOP (R70). -/
def execNop (die : Die) (pc : Pc) (bp : BpIx) (s : State) : Out := s.opAt die pc bp fun w => iClass w == .nop
/-- LUT (R31). -/
def execLut (die : Die) (pc : Pc) (bp : BpIx) (s : State) : Out := s.opAt die pc bp fun w => iClass w == .lut
/-- MRD ADDR (R59). -/
def execMrdAddr (die : Die) (pc : Pc) (bp : BpIx) (s : State) : Out :=
  s.opAt die pc bp fun w => iClass w == .mrd && mrdForm w == .addr
/-- MRD GO (R60). -/
def execMrdGo (die : Die) (pc : Pc) (bp : BpIx) (s : State) : Out :=
  s.opAt die pc bp fun w => iClass w == .mrd && mrdForm w == .go
/-- MWR ADDR (R59). -/
def execMwrAddr (die : Die) (pc : Pc) (bp : BpIx) (s : State) : Out :=
  s.opAt die pc bp fun w => iClass w == .mwr && mwrForm w == .addr
/-- MWR DATA (R59). -/
def execMwrData (die : Die) (pc : Pc) (bp : BpIx) (s : State) : Out :=
  s.opAt die pc bp fun w => iClass w == .mwr && mwrForm w == .data
/-- MWR GO (R61). -/
def execMwrGo (die : Die) (pc : Pc) (bp : BpIx) (s : State) : Out :=
  s.opAt die pc bp fun w => iClass w == .mwr && mwrForm w == .go
/-- XIN (R63). -/
def execXin (die : Die) (pc : Pc) (bp : BpIx) (s : State) : Out := s.opAt die pc bp fun w => iClass w == .xin
/-- XOUT (R63). -/
def execXout (die : Die) (pc : Pc) (bp : BpIx) (s : State) : Out := s.opAt die pc bp fun w => iClass w == .xout
/-- FIN (R63). -/
def execFin (die : Die) (pc : Pc) (bp : BpIx) (s : State) : Out := s.opAt die pc bp fun w => iClass w == .fin
/-- FOUT (R63). -/
def execFout (die : Die) (pc : Pc) (bp : BpIx) (s : State) : Out := s.opAt die pc bp fun w => iClass w == .fout
/-- TRG (R64). -/
def execTrg (die : Die) (pc : Pc) (bp : BpIx) (s : State) : Out := s.opAt die pc bp fun w => iClass w == .trg
/-- PRB (R64). -/
def execPrb (die : Die) (pc : Pc) (bp : BpIx) (s : State) : Out := s.opAt die pc bp fun w => iClass w == .prb
/-- EVT (R65). -/
def execEvt (die : Die) (pc : Pc) (bp : BpIx) (s : State) : Out := s.opAt die pc bp fun w => iClass w == .evt
/-- ASRT (R66). -/
def execAsrt (die : Die) (pc : Pc) (bp : BpIx) (s : State) : Out := s.opAt die pc bp fun w => iClass w == .asrt
/-- CKEN (R68). -/
def execCken (die : Die) (pc : Pc) (bp : BpIx) (s : State) : Out := s.opAt die pc bp fun w => iClass w == .cken
/-- END (R69). -/
def execEnd (die : Die) (pc : Pc) (bp : BpIx) (s : State) : Out := s.opAt die pc bp fun w => iClass w == .stop

/-! ### Landing, memory returns, rewrites, END -/

/-- DELIVERY_LAND (R33): the first due delivery of a cluster lands. -/
def execDeliveryLand (die : Die) (pc : Pc) (s : State) : Out :=
  let cid := cidOf die pc
  let c := s.cl cid
  match c.inflight.find? fun d => d.due ≤ c.period with
  | none => .next s
  | some d => .next ((s.setCl cid { c with inflight := c.inflight.erase d }).landOne cid d)

/-- MEMORY_RETURN (R60, R137): the due return bits of a cluster's design memory land. -/
def execMemoryReturn (die : Die) (pc : Pc) (s : State) : Out :=
  .next (s.landDue (cidOf die pc) fun d => d.src == .memory)

/-- ECC_REWRITE (R54, R55): in the exchange steps the corrected instruction and route entries of the DC are rewritten. -/
def execEccRewrite (die : Die) (pc : Pc) (s : State) : Out :=
  if s.clockWait then .next s else
  let cid := cidOf die pc
  let c := s.cl cid
  if c.seq = .exchange then
    let node := c.fixInstr.foldl (fun m a =>
      let v := mnat m (a * 16) 11
      match eccCheck 80 (v % 2 ^ 80) (v / 2 ^ 80) with
      | .corrected d => mputNat m (a * 16) 11 (d + checkBits 80 d * 2 ^ 80)
      | _ => m) c.node
    let node := c.fixRoute.foldl (fun m e =>
      let v := mnat m (nRoute e) 9
      match eccCheck 64 (v % 2 ^ 64) (v / 2 ^ 64) with
      | .corrected d => mputNat m (nRoute e) 9 (d + checkBits 64 d * 2 ^ 64)
      | _ => m) node
    .next (s.setCl cid { c with node := node, fixInstr := [], fixRoute := [] })
  else .next s

/-- ROW_REWRITE (R138): a corrected row is rewritten once, in a period in which no port touches the memory. -/
def execRowRewrite (die : Die) (pc : Pc) (s : State) : Out :=
  if s.clockWait then .next s else
  let cid := cidOf die pc
  let c := s.cl cid
  match c.fixRows with
  | [] => .next s
  | row :: r =>
    if ! c.memFree || s.port cid ≠ 0 then .next s else
    let c := { c with fixRows := r }
    match c.rowCheck row with
    | .corrected d => .next (s.setCl cid (c.putRow row d))
    | _ => .next (s.setCl cid c)

/-- MEMORY_SCRUB (R139): in a period in which nothing touches a powered cluster's memory, one row is read, corrected and rewritten. -/
def execMemoryScrub (die : Die) (pc : Pc) (s : State) : Out :=
  if s.clockWait then .next s else
  let cid := cidOf die pc
  let c := s.cl cid
  if ! c.memFree || s.port cid ≠ 0 then .next s else
  let row := c.scrubRow
  let c := { c with scrubRow := (row + 1) % 65536 }
  let c := if row = 65535 then c.count 10 1 else c
  match c.rowCheck row with
  | .clean _ => .next (s.setCl cid c)
  | .corrected d => .next (s.setCl cid { (c.count 9 1).putRow row d with fixRows := c.fixRows.filter (· != row) })
  | .uncorrectable _ =>
    .next ((s.setCl cid c).raiseFault 4 (FaultLoc.cluster s cid) (row + 2 ^ 18) 0 0)

/-- The flit of a gather buffer is complete and its SLOT has an entry by which it leaves (R109, R110). -/
def Cluster.flitWhole (c : Cluster) (slot : Nat) (g : Gather) : Bool :=
  let o := mnat c.node (nOutslot slot) 8
  o.testBit 39 && field o 30 9 ≤ g.count

/-- CLUSTER_END (R79, R82, R112): overhead steps done and route ports empty; what is left in the gather buffers without being a whole flit
is discarded and counted, bits without a VALID entry among it. -/
def execClusterEnd (die : Die) (pc : Pc) (s : State) : Out :=
  let cid := cidOf die pc
  let c := s.cl cid
  if c.seq = .drain && c.longestPort = 0 && s.stepping then
    let lost := (c.gather.filter fun g => g.2.any fun x => ! c.flitWhole g.1 x).length
    let keep := c.gather.filter fun g => g.2.any fun x => c.flitWhole g.1 x
    .next ((s.setCl cid { c with seq := .atEnd, gather := keep, endPeriod := some c.period, notice := true }).bump
      O.SLOT_DISCARDS lost)
  else .next s

end Sys2Proof.Machine
end

