-- ==== Sys2Proof/Machine/Routes.lean ====
section
/-!
DEFINITION. The floor plan and the fixed routes of Causeway (R102–R105, Table 05-1) and putting flits and packets into router
queues. Routers are named by die and node: spine routers SP0–SP7 are nodes 0–7 of dies 0–3, hub crossing units HX0–HX3 are
nodes 0–3 of die 4. Ports of a spine router: 0 towards SP0, 1 towards SP7, 2 neighbour bridge, 3 hub bridge, 4 + n the rib of
PCn. Ports of HXd: 0–3 to HX0–HX3, 4 and 5 the hub bridges 0 and 1 of die Ed, 6 the hub endpoints. Node 8 + n of dies 0–3 is the router of
PCn and node 8 + d of die 4 the side of the hub endpoints at HXd, each with its one output link, port 0.
-/

namespace Sys2Proof.Machine

/-- The spine router of a physical cluster (R102). -/
def spineOf (pc : Nat) : Nat := if pc < 64 then pc / 2 % 8 else if pc < 66 then 0 else 7

/-- The spine-hop count between two clusters of one die (R103). -/
def spineHops (a b : Nat) : Nat := max (spineOf a) (spineOf b) - min (spineOf a) (spineOf b)

/-- The output port a router uses towards a destination (R104, R108); `ddie` is 4 for the hub and other modules. -/
def nextPort (die node ddie dpc : Nat) : Nat :=
  if node ≥ 8 then 0
  else if die < 4 then
    if ddie = die then
      let j := spineOf dpc
      if node = j then 4 + dpc else if node < j then 1 else 0
    else if ddie < 4 && ddie = (die + 1) % 4 then if node = 7 then 2 else 1
    else if ddie < 4 && ddie = (die + 3) % 4 then if node = 0 then 2 else 0
    else if node ≤ 3 then if node = 3 then 3 else 1
    else if node = 4 then 3 else 0
  else if ddie ≥ 4 then 6
  else if ddie ≠ node then ddie
  else if spineOf dpc ≤ 3 then 4 else 5

/-- Where an output port of a router leads: a router, a cluster (its number), or the hub endpoints. -/
inductive Hop where
  | router (die node : Nat)
  | cluster (cid : Nat)
  | endpoints
deriving DecidableEq, Repr

/-- The far end of a router's output port (Table 05-1, R104). -/
def hopOf (die node port : Nat) : Hop :=
  if node ≥ 8 then if die < 4 then .router die (spineOf (node - 8)) else .router 4 ((node - 8) % 4)
  else if die < 4 then
    if port = 0 then .router die (node - 1)
    else if port = 1 then .router die (node + 1)
    else if port = 2 then if node = 7 then .router ((die + 1) % 4) 0 else .router ((die + 3) % 4) 7
    else if port = 3 then .router 4 die
    else .cluster (cidOf die (port - 4))
  else if port < 4 then .router 4 port
  else if port = 4 then .router node 3
  else if port = 5 then .router node 4
  else .endpoints

/-- An output link's queues. -/
def State.outLink (s : State) (k : Nat) : OutLink := tget (fun _ => OutLink.blank) s.net.links k

/-- The state with an output link's queues replaced. -/
def State.setOutLink (s : State) (k : Nat) (o : OutLink) : State :=
  { s with net := { s.net with links := tput (fun _ => OutLink.blank) s.net.links k o } }

/-- The die a flit or packet heads for as the routers see it: the hub for other modules. -/
def headDie (s : State) (dmod ddie : Nat) : Nat := if dmod = s.ownId then ddie else 4

/-- The first period in which a flit that has come to a router may leave it: an on-time one waits in the bridge router into its
destination die until what is left of its path takes it there at its nominal crossing (R105). -/
def readyAt (die node port now : Nat) (f : Flit) : Nat :=
  let hops (entry : Nat) : Nat := max entry (spineOf f.dpc) - min entry (spineOf f.dpc)
  let entry : Option Nat :=
    if node ≥ 8 then none
    else if die < 4 then if port = 2 then some (if node = 7 then 0 else 7) else none
    else if port = 4 then some 3 else if port = 5 then some 4 else none
  match entry with
  | some e => if f.onTime then max now (f.due - 1 - hops e) else now
  | none => now

/-- A slot flit that the link `input` brings to a router, in the queue of its next output link from period `now` on. -/
def State.putFlit (s : State) (die node now input : Nat) (f : Flit) : State :=
  let port := nextPort die node (headDie s f.dmod f.ddie) f.dpc
  let k := linkKey die node port
  let o := s.outLink k
  s.setOutLink k { o with slots := o.slots ++ [⟨readyAt die node port now f, input, f⟩] }

/-- The packet's length in flits: header and payload (R117, R118). -/
def packetFlits (p : Packet) : Nat := 1 + (p.payload.length + 31) / 32

/-- A virtual channel's queue of a link. -/
def OutLink.queue (o : OutLink) (vc : Nat) : List PacketRun :=
  match vc with | 0 => o.vc0 | 1 => o.vc1 | 2 => o.vc2 | _ => o.vc3

/-- A link with a virtual channel's queue replaced. -/
def OutLink.setQueue (o : OutLink) (vc : Nat) (l : List PacketRun) : OutLink :=
  match vc with | 0 => { o with vc0 := l } | 1 => { o with vc1 := l } | 2 => { o with vc2 := l } | _ => { o with vc3 := l }

/-- A packet appended to its virtual channel's queue. -/
def OutLink.push (o : OutLink) (r : PacketRun) : OutLink := o.setQueue r.pkt.vc (o.queue r.pkt.vc ++ [r])

/-- A whole packet put into the queue of an output link. -/
def State.putWhole (s : State) (k input : Nat) (p : Packet) : State :=
  s.setOutLink k ((s.outLink k).push ⟨p, packetFlits p, packetFlits p, 0, input⟩)

/-- The output link of a packet's source: of its cluster's router, or of the hub endpoints at the crossing unit that faces its
destination. -/
def State.sourceLink (s : State) (p : Packet) : Nat :=
  if p.srcMod = s.ownId && p.srcDie < 4 then linkKey p.srcDie (8 + p.srcNode) 0
  else linkKey 4 (8 + (if p.dstMod = s.ownId && p.dstDie < 4 then p.dstDie else 0)) 0

/-- A packet entering Causeway at its source (R118). -/
def State.inject (s : State) (p : Packet) : State := s.putWhole (s.sourceLink p) (s.sourceLink p) p

/-- A packet that a cluster's port itself sends, from its spine router (Table 05-8). -/
def State.portSends (s : State) (p : Packet) : State :=
  let sp := spineOf p.srcNode
  s.putWhole (linkKey p.srcDie sp (nextPort p.srcDie sp (headDie s p.dstMod p.dstDie) p.dstNode)) (linkKey p.srcDie sp (4 + p.srcNode)) p

/-- The response to a request (R118, R120): source and destination exchanged, the request's tag and generation. -/
def responseTo (p : Packet) (op status : Nat) (data : List Byte) : Packet :=
  { vc := 1, op := op, dstMod := p.srcMod, dstDie := p.srcDie, dstNode := p.srcNode, srcMod := p.dstMod, srcDie := p.dstDie,
    srcNode := p.dstNode, tag := p.tag, gen := p.gen, status := status, bytes := data.length, addr := p.addr, payload := data,
    poison := false }

/-- RESP_ERR with a status of Table 05-9. -/
def errorTo (p : Packet) (status : Nat) : Packet := responseTo p 0xA status []

/-- The target of a request can send its response (R122): nothing waits on VC1 of the link by which it leaves. -/
def State.canAnswer (s : State) (p : Packet) : Bool := (s.outLink (s.sourceLink (errorTo p 0))).vc1 == []

/-- The periods since the module's last opening: those of the Sluice set's most advanced cluster. -/
def State.period (s : State) : Nat := (s.sluiceSet.map fun c => (s.cl c).period).foldl max 0

end Sys2Proof.Machine
end

