-- ==== Sys2Proof/Machine/Egress.lean ====
section
/-!
DEFINITION. The way onto a Seam link (09): SEAMSLOT records (Table 09-6), the identification of slot flits (R223), and queueing
the blocks that travel outside frames.
-/

namespace Sys2Proof.Machine

/-! ### SEAMSLOT records (Table 09-6) -/

def ssIngress (r : Nat) : Bool := r.testBit 127
def ssOrigin (r : Nat) : Bool := r.testBit 126
def ssLink (r : Nat) : Nat := field r 118 8
def ssTag (r : Nat) : Nat := field r 107 11
def ssPos (r : Nat) : Nat := field r 96 11
def ssDmod (r : Nat) : Nat := field r 86 10
def ssDdie (r : Nat) : Nat := field r 84 2
def ssDlc (r : Nat) : Nat := field r 78 6
def ssKey (r : Nat) : Nat := field r 68 10

/-- The records of one direction with a tag on a link. -/
def State.tagRecords (s : State) (ingress : Bool) (l tag : Nat) : List Nat :=
  s.sluice.seamSlots.filter fun r => ssIngress r == ingress && ssLink r == l && ssTag r == tag

/-- The egress records of an identity (R223). -/
def State.identityRecords (s : State) (dmod ddie dlc key : Nat) : List Nat :=
  s.sluice.seamSlots.filter fun r =>
    ! ssIngress r && ssDmod r == dmod && ssDdie r == ddie && ssDlc r == dlc && ssKey r == key

/-- The egress record of an identity (R223). -/
def State.egressRecord (s : State) (dmod ddie dlc key : Nat) : Option Nat := (s.identityRecords dmod ddie dlc key).head?

/-- The ingress record of a tag on a link (R225). -/
def State.ingressRecord (s : State) (l tag : Nat) : Option Nat := (s.tagRecords true l tag).head?

/-- Records that R233 leaves undetected: an identity on more than one link, or a tag twice on one link. -/
def State.egressTwice (s : State) (r : Nat) : Bool :=
  (s.identityRecords (ssDmod r) (ssDdie r) (ssDlc r) (ssKey r)).any (fun x => ssLink x != ssLink r) ||
    decide ((s.tagRecords false (ssLink r) (ssTag r)).length > 1)

/-- The link has sent DC_DONE for a DC (R224). -/
def SeamLink.sentDone (k : SeamLink) (dc : Nat) : Bool :=
  match k.doneSent with | none => false | some n => dc ≤ n

/-- A slot flit at the Seam egress (R223): queued under its record's tag. One that matches no record, or an ORIGIN flit whose DC's
DC_DONE has been sent, is discarded and counted (R224). An identity or tag that two records name has an unpredictable result (R233). -/
def State.seamEgress (s : State) (upstream : Option Nat) (dmod ddie dlc key bits dc : Nat) : State :=
  match s.egressRecord dmod ddie dlc key with
  | none => s.bump O.SLOT_UNMATCHED 1
  | some r =>
    let s := if s.egressTwice r then s.astray else s
    let l := ssLink r
    let k := s.link l
    if ssOrigin r && k.sentDone dc then s.bump O.SLOT_UNMATCHED 1
    else
      let e : EgressSlot := ⟨ssTag r, dc == s.dcNum && decide (s.period ≤ ssPos r + 1), ssPos r, bits, dc, ssOrigin r, upstream⟩
      s.setLink l { k with slotQ := k.slotQ ++ [e] }

/-- An unsequenced control block queued on a link. -/
def State.sendMsg (s : State) (l : Nat) (m : SeamMsg) : State :=
  s.setLink l { s.link l with msgQ := (s.link l).msgQ ++ [m] }

/-- Unsequenced control blocks queued on every UP, enabled link but those of `except`. -/
def State.sendAll (s : State) (skip : Option Nat) (m : SeamMsg) : State :=
  s.onLinks (allLinks.filter fun l => s.linkOpen l && skip != some l) fun _ k => { k with msgQ := k.msgQ ++ [m] }

/-- A block or frame whose CRC failed (R215, R219). -/
def State.crcFailed (s : State) (l : Nat) : State := s.bump (O.CRC_FAILS l) 1

/-! ### What has been heard on a link -/

/-- The oldest unit received that is no frame unit, if its type is `c`: its payload and the time of its first bit, and the link
without it. -/
def SeamLink.heard (k : SeamLink) (c : Nat) : Option ((Nat × Nat) × SeamLink) :=
  match k.rxQ.findIdx? fun e => isApart e.1 with
  | none => none
  | some i => match k.rxQ[i]? with
    | none => none
    | some e => if ctype e.1.payload = c then some ((e.1.payload, e.2), { k with rxQ := k.rxQ.eraseIdx i }) else none

/-- The unsequenced block of type `c` that stands first on a link acts: `f` takes its payload and its arrival time. One whose CRC fails is discarded
and counted, with no other action (R215). -/
def State.hear (s : State) (l c : Nat) (f : Nat → Nat → State → State) : State :=
  match (s.link l).heard c with
  | none => s
  | some (e, k) =>
    let s := s.setLink l k
    if crcGood e.1 then f e.1 e.2 s else s.crcFailed l

end Sys2Proof.Machine
end

