-- ==== Sys2Proof/Machine/Causeway.lean ====
section
/-!
DEFINITION. Causeway's commands (05): route ports, gather buffers, link words, landing, packets at their targets, response
tags, wakes and the idle gate. Within a step-clock period a cluster's own command comes first, so a command of period P finds
the cluster's period counter at P + 1.
-/

namespace Sys2Proof.Machine

/-- The period whose CLUSTER_STEP a cluster has last executed. -/
def Cluster.now (c : Cluster) : Nat := c.period - 1

/-- The network's present period. -/
def State.netNow (s : State) : Nat := s.period - 1

/-- A cluster takes part in the current period: it is in the Sluice set and no abandon has stopped it. -/
def State.active (s : State) (cid : Nat) : Bool := s.stepping && s.sluiceSet.contains cid && s.mayAct cid

/-! ### Route ports (R75–R79, R109) -/

/-- The nominal latency of a slot path without its chain term (Table 03-6): by spine hops on one die, fixed between dies. -/
def State.pathLatency (s : State) (cid ddie dpc : Nat) : Nat :=
  if cid / 68 = ddie then s.lat 4 + s.lat 5 * spineHops (cid % 68) dpc else s.lat 6

/-- The leaving position of the flit that a read feeds (R111). -/
def RouteRead.leave (r : RouteRead) : Nat := r.step + r.chain + 2

/-- A bit placed in a gather buffer (R109, R110). Where two reads name one bit, the later stands. -/
def gatherBit (g : Option Gather) (r : RouteRead) (bitIx now : Nat) : Gather :=
  let first : Gather := ⟨r.leave, setBit 0 bitIx r.val, 2 ^ bitIx, 1, now + 1, r.stamp⟩
  match g with
  | some x =>
    if x.stamp = r.stamp then
      { x with bits := setBit x.bits bitIx r.val, named := x.named ||| 2 ^ bitIx, count := x.count + 1, last := now + 1 }
    else first
  | none => first

/-- A read that the outbound slot table and the gather buffer do not agree with (R131): another destination than its entry's, more
contributions than COUNT, a bit given twice, or leaving positions 1,024 apart. -/
def State.gatherBad (s : State) (cid : Nat) (r : RouteRead) (d : Nat) : Bool :=
  let c := s.cl cid
  let o := mnat c.node (nOutslot (rSlot d)) 8
  let dpc := if rMod d = s.ownId then ((s.bound.find? fun b => b.1 == rDie d && b.2.1 == rLc d).map fun b => b.2.2).getD 127 else rLc d
  let apart := field o 10 10 != rMod d || field o 8 2 != rDie d || field o 1 7 != dpc
  o.testBit 39 && (apart || match tget (fun _ => none) c.gather (rSlot d) with
    | some g => g.stamp == r.stamp && (g.count ≥ field o 30 9 || g.pos != r.leave || g.named.testBit (rBit d))
    | none => false)

/-- A module of the loaded system (R163). -/
def State.inSystem (s : State) (m : Nat) : Bool :=
  (List.range (min 256 (s.obj O.MODULE_COUNT))).any fun i => s.obj (if i < 128 then O.LO_MODMAP i else O.HI_MODMAP (i - 128)) == m

/-- The target of a delivery entry is no part of the loaded configuration (R80): a module that is not of the system, or a logical cluster of
this one that the image does not use. -/
def State.noTarget (s : State) (d : Nat) : Bool :=
  if rMod d = s.ownId then ! s.bound.any (fun b => b.1 == rDie d && b.2.1 == rLc d) else ! s.inSystem (rMod d)

/-- The effect of one route read: a same-cluster delivery joins its group's landing port (R114), any other joins the gather
buffer of its SLOT. An entry of no delivery kind, one without a target, or one that disagrees with the slot table, is an unchecked error
(R80, R131). -/
def State.routeRead (s : State) (cid : Nat) (r : RouteRead) : State :=
  let now := (s.cl cid).now
  match s.readRouteAt cid r.entry (FaultLoc.executed s cid) with
  | (s, none) => s
  | (s, some d) =>
    if rKind d = 0 then s
    else if rKind d ≠ 1 || s.noTarget d then s.astray
    else if rMod d = s.ownId && rDie d = cid / 68 && s.lcOf cid = some (rLc d) then
      let c := s.cl cid
      let g := rBp d / 32
      let b : LandBit := ⟨now + s.lat 3 - 1, true, rBp d, rInbox d, r.val, r.stamp⟩
      s.setCl cid { c with landQ := tupd (fun _ => []) c.landQ g (· ++ [b]) }
    else
      let s := if s.gatherBad cid r d then s.astray else s
      let c := s.cl cid
      let g := gatherBit (tget (fun _ => none) c.gather (rSlot d)) r (rBit d) now
      s.setCl cid { c with gather := tput (fun _ => none) c.gather (rSlot d) (some g) }

/-- ROUTE_PORT_READ (R78): one queued entry of a group's route port is read; one per period. -/
def execRoutePortRead (die : Die) (pc : Pc) (g : GroupIx) (s : State) : Out :=
  let cid := cidOf die pc
  let c := s.cl cid
  if s.active cid && c.seq != .atEnd && tget (fun _ => 0) c.routeLast g != c.period then
    match tget (fun _ => []) c.routeQ g with
    | [] => .next s
    | r :: rest =>
      if r.issued > c.now then .next s
      else .next ((s.setCl cid { c with
        routeQ := tput (fun _ => []) c.routeQ g rest
        routeLast := tput (fun _ => 0) c.routeLast g c.period }).routeRead cid r)
  else .next s

/-! ### Slot flits (R109–R112) -/

/-- The flit of a full gather buffer, leaving in period `now` (R110, R111, Table 05-3). -/
def State.flitOf (s : State) (cid slot now : Nat) (g : Gather) : Flit :=
  let o := mnat (s.cl cid).node (nOutslot slot) 8
  let dmod := field o 10 10
  let ddie := field o 8 2
  let dpc := field o 1 7
  let crossing := if dmod = s.ownId then now + s.pathLatency cid ddie dpc - 7 else now
  { stamp := g.stamp, key := field o 20 10, dmod := dmod, ddie := ddie, dpc := dpc, bits := g.bits
    onTime := now == g.pos && decide (g.last + 1 ≤ g.pos), due := crossing, dc := if g.stamp = s.stamp then s.dcNum else s.dcNum - 1 }

/-- A gather buffer of `cid` from which a flit may leave in period `now`, with the period from which it has waited (R109, R110). -/
def Cluster.flitWaits (c : Cluster) (now slot : Nat) : Option Nat :=
  let o := mnat c.node (nOutslot slot) 8
  match tget (fun _ => none) c.gather slot with
  | some g => if o.testBit 39 && field o 30 9 ≤ g.count && g.last < now && g.pos ≤ now then some (max (g.last + 1) g.pos) else none
  | none => none

/-- A slot flit of `cid` may leave in period `now`. -/
def Cluster.anyFlit (c : Cluster) (now : Nat) : Bool := c.gather.any fun e => (c.flitWaits now e.1).isSome

/-- The SLOT whose flit the cluster's router sends in period `now` (R107): one that is on time, else the one that has waited longest. -/
def Cluster.firstFlit (c : Cluster) (now : Nat) : Option Nat :=
  let l := c.gather.filterMap fun e => (c.flitWaits now e.1).map fun w => (e.1, w)
  match l.find? fun e => e.2 == now with
  | some e => some e.1
  | none => (l.foldl (fun (b : Option (Nat × Nat)) e => match b with
    | none => some e
    | some x => if e.2 < x.2 then some e else b) none).map fun e => e.1

/-! ### What a link's far end has room for (R106–R108) -/

/-- The output port as a fault record's 5-bit field names it: ribs by their place in the row of Table 05-1. -/
def portField (die port : Nat) : Nat := if die = 4 || port < 4 then port else 4 + (port - 4) / 16 * 2 + port % 2

/-- D0 of a CAUSEWAY_LINK fault (Table 23-2). -/
def linkWhere (die node port kind : Nat) : Nat := die + 8 * node + 2048 * portField die port + 65536 * kind

/-- A word of an output link carries an error that its check bits do not correct (R106): counted, and a CAUSEWAY_LINK fault. -/
def State.linkFault (s : State) (die node port kind : Nat) : State :=
  (s.bump O.LINK_FAULTS 1).raiseFault 6 ⟨die, 255, 255, 0xFFFF⟩ (linkWhere die node port kind) 0 0

/-- The output links of a router. -/
def State.linksOf (s : State) (die node : Nat) : List OutLink :=
  (s.net.links.filter fun (e : Nat × OutLink) => e.1 / 256 == die * 128 + node).map fun (e : Nat × OutLink) => e.2

/-- The displaced slot flits that a router holds at one input (R108). -/
def State.displacedAt (s : State) (die node input now : Nat) : Nat :=
  (s.linksOf die node).foldl (fun n o => n + (o.slots.filter fun w => w.input == input && (! w.flit.onTime || w.ready < now)).length) 0

/-- The packet flits of a virtual channel that a router holds at one input (R108). -/
def State.flitsAt (s : State) (die node input vc : Nat) : Nat :=
  (s.linksOf die node).foldl (fun n o => (o.queue vc).foldl (fun n r => if r.input = input then n + (r.come - r.sent) else n) n) 0

/-- A landing port of a cluster is full (R114). -/
def Cluster.landingFull (c : Cluster) : Bool := c.landQ.any fun e => e.2.length ≥ 64

/-- The far end of a link refuses a slot flit: a router a displaced one, a cluster any (R108, R114). -/
def State.refusesFlit (s : State) (h : Hop) (input now : Nat) (onTime : Bool) : Bool :=
  match h with
  | .router d n => ! onTime && s.displacedAt d n input now ≥ 8
  | .cluster cid => s.port cid == 0 && (s.cl cid).landingFull
  | .endpoints => false

/-- The far end of a link has a credit for a packet flit (R107, R108, R125). -/
def State.hasCredit (s : State) (h : Hop) (input vc : Nat) : Bool :=
  match h with
  | .router d n => s.flitsAt d n input vc < 16
  | .cluster cid => ! (s.port cid == 2) || (tget (fun _ => []) s.net.held cid).length < 1
  | .endpoints => true

/-- An abandon has stopped the clusters and waits for the Quarry (R492): the periods of the DC count no further. -/
def State.abandonWaits (s : State) : Bool :=
  match s.run.abandon with
  | some a => ! a.opening
  | none => false

/-- A link has carried its word of the present period (R106). -/
def State.linkBusy (s : State) (k : Nat) : Bool :=
  s.stepping && ! s.abandonWaits && (s.outLink k).last == s.period && s.period != 0

/-- SLOT_FLIT_LEAVE (R110): the flit of a SLOT whose bits are all gathered leaves on its cluster router's output link at its position, or
displaced after it, when R107 lets it go. The flit of an entry that is not VALID does not leave. -/
def execSlotFlitLeave (die : Die) (pc : Pc) (slot : SlotIx) (check : WordCheck) (s : State) : Out :=
  let cid := cidOf die pc
  let c := s.cl cid
  let k := linkKey die (8 + pc) 0
  match tget (fun _ => none) c.gather slot with
  | none => .next s
  | some g =>
    if s.active cid && ! s.linkBusy k && c.firstFlit c.now == some slot.val then
      let f := s.flitOf cid slot c.now g
      let s := s.setOutLink k { s.outLink k with last := s.period }
      if s.refusesFlit (.router die (spineOf pc)) k c.now f.onTime then .next s
      else
        let s := s.setCl cid { c with gather := tput (fun _ => none) c.gather slot none }
        let s := if f.onTime then s else s.bump O.DISPLACED 1
        match check with
        | .clean => .next (s.putFlit die (spineOf pc) (c.now + 2) k f)
        | .corrected => .next ((s.bump O.LINK_CORRECTED 1).putFlit die (spineOf pc) (c.now + 2) k f)
        | .uncorrectable => .next (s.linkFault die (8 + pc) 0 0)
    else .next s

/-! ### Link words (R104–R108, R114, R116) -/

/-- The slot flit that goes first in period `now`: an on-time one, else the displaced one waiting longest (R107). Its index. -/
def pickSlot (now : Nat) (l : List SlotWait) : Option (Nat × Bool) :=
  match l.findIdx? fun w => w.ready == now && w.flit.onTime with
  | some i => some (i, true)
  | none =>
    (l.zipIdx.foldl (fun (b : Option (Nat × Nat)) e =>
      if e.1.ready ≤ now then
        match b with
        | none => some (e.2, e.1.ready)
        | some x => if e.1.ready < x.2 then some (e.2, e.1.ready) else b
      else b) none).map fun x => (x.1, false)

/-- A flit that a link has delivered to its far end. -/
def State.flitArrives (s : State) (h : Hop) (k now : Nat) (f : Flit) : State :=
  match h with
  | .router d n => s.putFlit d n (now + 1) k f
  | .cluster cid =>
    if s.port cid = 0 then
      let c := s.cl cid
      s.setCl cid { c with arrived := c.arrived ++ [{ f with due := now }] }
    else s.bump O.SLOT_DISCARDS 1
  | .endpoints => s.seamEgress none f.dmod f.ddie f.dpc f.key f.bits f.dc

/-- One slot flit of a link sent with its check (R106, R107): refused and displaced where the far end has no room, which uses the link's
period. A flit counts in DISPLACED (0x2C00.07) once, when it first misses its reserved position. -/
def State.sendSlot (s : State) (die node port i : Nat) (onTime : Bool) (w : SlotWait) (check : WordCheck) : State :=
  let k := linkKey die node port
  let now := s.netNow
  let h := hopOf die node port
  let o := s.outLink k
  let f := w.flit
  let late (s : State) : State := if f.onTime && (s.refusesFlit h k now onTime || ! onTime) then s.bump O.DISPLACED 1 else s
  if s.refusesFlit h k now onTime then
    let s := (late s).setOutLink k { o with slots := o.slots.set i { w with flit := { f with onTime := false } }, last := s.period }
    match h with
    | .cluster cid => s.setCl cid ((s.cl cid).count 3 1)
    | _ => s
  else
    let s := (late s).setOutLink k { o with slots := o.slots.eraseIdx i, last := s.period }
    match check with
    | .clean => s.flitArrives h k now { f with onTime := onTime }
    | .corrected => (s.bump O.LINK_CORRECTED 1).flitArrives h k now { f with onTime := onTime }
    | .uncorrectable => s.linkFault die node port 0

/-- The virtual channel that the weighted round robin serves at position `w`: weights 4 : 2 : 1 (R107). -/
def wrrOrder (w : Nat) : List Nat :=
  let l := [0, 0, 0, 0, 2, 2, 3]
  (l.drop (w % 7) ++ l.take (w % 7))

/-- The virtual channel that may send on a link: VC1 first, else the round robin's choice, with the position it leaves (R107). A packet
whose next flit has not come yet keeps its channel. -/
def State.pickVc (s : State) (h : Hop) (k : Nat) : Option (Nat × Nat) :=
  let o := s.outLink k
  let ok (vc : Nat) : Bool := match o.queue vc with | [] => false | r :: _ => r.sent < r.come && s.hasCredit h k vc
  if ok 1 then some (1, o.wrr)
  else ((wrrOrder o.wrr).zipIdx.find? fun e => ok e.1).map fun e => (e.1, (o.wrr + e.2 + 1) % 7)

/-- The runs of a channel with one more flit of the packet that the link `k` is bringing. -/
def growRun (k : Nat) (tail poison : Bool) : List PacketRun → List PacketRun
  | [] => []
  | r :: rest =>
    if r.input = k && r.come < r.flits then
      { r with pkt := { r.pkt with poison := r.pkt.poison || poison }, come := r.come + 1, flits := if tail then r.come + 1 else r.flits } :: rest
    else r :: growRun k tail poison rest

/-- A packet flit that the link `k` brings to a router: its head opens a run on the next output link, the others follow it (R108). -/
def State.flitComes (s : State) (die node k : Nat) (p : Packet) (head tail : Bool) : State :=
  let l := linkKey die node (nextPort die node (headDie s p.dstMod p.dstDie) p.dstNode)
  let o := s.outLink l
  if head then s.setOutLink l (o.push ⟨p, if tail then 1 else packetFlits p, 1, 0, k⟩)
  else s.setOutLink l (o.setQueue p.vc (growRun k tail p.poison (o.queue p.vc)))

/-- A packet flit that a link has delivered to its far end. A packet is at a cluster or an endpoint once its tail is. -/
def State.packetFlitArrives (s : State) (h : Hop) (k : Nat) (p : Packet) (head tail : Bool) : State :=
  match h with
  | .router d n => s.flitComes d n k p head tail
  | _ => if tail then { s with net := { s.net with arrived := s.net.arrived ++ [p] } } else s

/-- One packet flit of a link sent with its check (R106, R107): one in error poisons its packet. -/
def State.sendFlit (s : State) (die node port vc wrr : Nat) (r : PacketRun) (rest : List PacketRun) (check : WordCheck) : State :=
  let k := linkKey die node port
  let p := { r.pkt with poison := r.pkt.poison || check == .uncorrectable }
  let tail := r.sent + 1 ≥ r.flits
  let o := s.outLink k
  let s := s.setOutLink k { o.setQueue vc (if tail then rest else { r with pkt := p, sent := r.sent + 1 } :: rest) with
    wrr := wrr, last := s.period }
  let s := match check with
    | .clean => s
    | .corrected => s.bump O.LINK_CORRECTED 1
    | .uncorrectable => s.linkFault die node port 1
  s.packetFlitArrives (hopOf die node port) k p (r.sent == 0) tail

/-- A slot flit of a cluster's gather buffers goes before the packets of its router (R107). -/
def State.flitFirst (s : State) (die node : Nat) : Bool :=
  let cid := cidOf die (node - 8)
  die < 4 && node ≥ 8 && s.active cid && (s.cl cid).anyFlit (s.cl cid).now

/-- LINK_WORD_SEND (R107): one output link of a router sends the first of what it holds; one word per period of a DC. -/
def execLinkWordSend (die : Fin 5) (node : Fin 76) (port : Fin 72) (check : WordCheck) (s : State) : Out :=
  if s.clockWait then .next s else
  let k := linkKey die node port
  let o := s.outLink k
  let h := hopOf die node port
  if s.linkBusy k || s.flitFirst die node then .next s
  else match pickSlot s.netNow o.slots with
    | some (i, onTime) =>
      match o.slots[i]? with
      | some w => .next (s.sendSlot die node port i onTime w check)
      | none => .next s
    | none =>
      match s.pickVc h k with
      | none => .next s
      | some (vc, wrr) =>
        match o.queue vc with
        | [] => .next s
        | r :: rest => .next (s.sendFlit die node port vc wrr r rest check)

/-! ### Landing (R113–R115) -/

/-- The landing words of a flit with KEY, in landing-store order. -/
def landingWords (c : Cluster) (key : Nat) : List Nat :=
  let e := mnat c.node (nLandTable key) 4
  (List.range (field e 23 8 + 1)).map fun i => mnat c.node (nLandWord ((field e 0 14 + i) % 16384)) 4

/-- The bits of an arrived flit put into the landing ports (R113). A flit accepted by a port that has room for some of its words only puts
all of them there. -/
def Cluster.landFlit (c : Cluster) (f : Flit) : Cluster :=
  (landingWords c f.key).foldl (fun c w =>
    let b : LandBit := ⟨f.due + 4, false, field w 14 10, field w 5 9, f.bits.testBit (field w 24 8), f.stamp⟩
    { c with landQ := tupd (fun _ => []) c.landQ (b.bp / 32) (· ++ [b]) }) c

/-- SLOT_FLIT_LAND (R113): the first arrived flit's landing words are read. A flit whose KEY has no VALID entry lands nowhere. -/
def execSlotFlitLand (die : Die) (pc : Pc) (s : State) : Out :=
  let cid := cidOf die pc
  let c := s.cl cid
  match c.arrived with
  | [] => .next s
  | f :: rest =>
    let c := { c with arrived := rest }
    .next (s.setCl cid (if (mnat c.node (nLandTable f.key) 4).testBit 31 then c.landFlit f else c))

/-- The next bit of a landing port: same-cluster deliveries first, then in order (R114). -/
def nextLanding (now : Nat) (q : List LandBit) : Option LandBit :=
  match q.find? fun b => b.own && b.ready ≤ now with
  | some b => some b
  | none => q.find? fun b => b.ready ≤ now

/-- LANDING_PORT_WRITE (R114): a group's landing port writes one INBOX bit, once per period. -/
def execLandingPortWrite (die : Die) (pc : Pc) (g : GroupIx) (s : State) : Out :=
  let cid := cidOf die pc
  let c := s.cl cid
  let q := tget (fun _ => []) c.landQ g
  if s.active cid && tget (fun _ => 0) c.landLast g != c.period then
    match nextLanding c.now q with
    | none => .next s
    | some b =>
      .next ((s.setCl cid { c with
        landQ := tput (fun _ => []) c.landQ g (q.erase b)
        landLast := tput (fun _ => 0) c.landLast g c.period }).landOne cid ⟨c.now, .route, true, b.bp, b.idx, b.val, b.stamp⟩)
  else .next s

end Sys2Proof.Machine
end

