-- ==== Sys2Proof/Machine/Cores.lean ====
section
/-!
DEFINITION. Transactor cores (12): memories, atomics, locks, XPORT windows, pacing, watchdogs and timers, traps and
interrupts, and what a core's entry into reset does (R274, R288, R464, R470). A command of a core acts while the core runs a
thread and is not debug-halted.
-/

namespace Sys2Proof.Machine

/-! ### Access to the parts of the complex -/

def State.core (s : State) (c : Nat) : Core := tget (fun _ => Core.blank) s.hub.cores c
def State.setCore (s : State) (c : Nat) (k : Core) : State :=
  { s with hub := { s.hub with cores := tput (fun _ => Core.blank) s.hub.cores c k } }
def State.thread (s : State) (t : Nat) : Thread := tget (fun _ => Thread.blank) s.hub.threads t
def State.setThread (s : State) (t : Nat) (k : Thread) : State :=
  { s with hub := { s.hub with threads := tput (fun _ => Thread.blank) s.hub.threads t k } }
def State.xport (s : State) (x : Nat) : Xport := tget (fun _ => Xport.blank) s.hub.xports x
def State.setXport (s : State) (x : Nat) (k : Xport) : State :=
  { s with hub := { s.hub with xports := tput (fun _ => Xport.blank) s.hub.xports x k } }

/-- The thread RUNNING on a core. -/
def State.running (s : State) (c : Nat) : Option Nat :=
  let t := s.obj (O.RUNNING_TCX c)
  if t = 0xFFFF then none else some t

/-- The owner of a lock. -/
def State.lockOwner (s : State) (n : Nat) : Option Nat := tget (fun _ => none) s.hub.locks n
def State.setLock (s : State) (n : Nat) (o : Option Nat) : State :=
  { s with hub := { s.hub with locks := tput (fun _ => none) s.hub.locks n o } }

/-- The locks a thread owns. -/
def State.locksOf (s : State) (t : Nat) : List Nat := (s.hub.locks.filter fun e => e.2 == some t).map fun e => e.1

/-- The core is in a locked sequence (R274). -/
def State.lockedSequence (s : State) (c : Nat) : Bool :=
  (s.core c).resv.isSome || (match s.running c with | some t => ! (s.locksOf t).isEmpty | none => false)

/-- The core executes instructions: it runs, its clock is not gated (R421, R432), it is neither debug-halted nor kept from issuing by a
halt request that nothing defers (R464, R465), and a thread is loaded. -/
def State.executing (s : State) (c : Nat) : Option Nat :=
  let k := s.core c
  if s.obj (O.CORE_STATE c) = 1 && ! k.halted && ! (k.haltReq && ! s.lockedSequence c) && ! s.clockWait && ! s.clk.shutdown then
    s.running c
  else none

/-- Integer register `r` of the loaded thread; x0 reads 0. -/
def Core.getX (k : Core) (r : Nat) : Nat := if r = 0 then 0 else tget (fun _ => 0) k.ctx.x r

/-- A write of an integer register; x0 discards it. -/
def Core.setX (k : Core) (r v : Nat) : Core :=
  if r = 0 then k else { k with ctx := { k.ctx with x := tput (fun _ => 0) k.ctx.x r (v % 2 ^ 64) } }

/-- A 32-bit value sign-extended to 64 bits. -/
def sext32 (v : Nat) : Nat := ofSigned 64 (toSigned 32 v)

/-! ### Traps and interrupts (R267, R268; Volume II) -/

/-- Trap entry: the pc (of the instruction in execution, else of the next one) and cause saved, MIE moved to MPIE, the mode to MPP, the
handler entered in M-mode. A trap ends the reservation (R272). -/
def Core.enterTrap (k : Core) (cause tval pc : Nat) : Core :=
  let m := k.ctx.mstatus
  let m := setField (setBit (setBit m 7 (m.testBit 3)) 3 false) 11 2 k.ctx.priv
  { k with resv := none, ctx := { k.ctx with mepc := k.issuing.getD k.ctx.pc, mcause := cause, mtval := tval, mstatus := m, pc := pc, priv := 3 } }

/-- An exception taken by the loaded thread. -/
def State.trap (s : State) (c cause tval : Nat) : State :=
  let k := s.core c
  s.setCore c (k.enterTrap cause tval (k.ctx.mtvec / 4 * 4))

/-- A pending interrupt that the running thread has enabled in its own mie and mstatus is taken: the lowest of those pending.
An idle core leaves it pending. -/
def State.takeIrq (s : State) (c : Nat) : State :=
  let k := s.core c
  match s.executing c with
  | none => s
  | some _ =>
    if k.ctx.priv = 3 && ! k.ctx.mstatus.testBit 3 then s
    else match (List.range 64).find? fun i => k.mip.testBit i && k.ctx.mie.testBit i with
      | none => s
      | some i =>
        let base := k.ctx.mtvec / 4 * 4
        s.setCore c (k.enterTrap (2 ^ 63 + i) 0 (if k.ctx.mtvec % 4 = 1 then base + 4 * i else base))

/-! ### Memories (R269, Table 12-1) -/

/-- The ranges of a core's address map. -/
inductive CoreRange where
  | localSram | sharedSram | locks | xports | pace | block | hbm | none
deriving DecidableEq, Repr

/-- The range that holds an address. -/
def coreRange (a : Nat) : CoreRange :=
  if a < 0x200000 then .localSram
  else if 0x1000000 ≤ a && a < 0x9000000 then .sharedSram
  else if 0x10000000 ≤ a && a < 0x10000800 then .locks
  else if 0x11000000 ≤ a && a < 0x11100000 then .xports
  else if 0x12000000 ≤ a && a < 0x12000200 then .pace
  else if 0x12010000 ≤ a && a < 0x12010100 then .block
  else if 0x1000000000 ≤ a && a < 0x2800000000 then .hbm
  else .none

/-- The ranges that atomics may use (R271). -/
def CoreRange.atomics : CoreRange → Bool
  | .localSram => true
  | .sharedSram => true
  | _ => false

/-! ### Physical memory protection (R267; Volume II): 16 entries, TOR and NAPOT -/

/-- The configuration byte of entry `i`. -/
def Core.pmpCfg (k : Core) (i : Nat) : Nat := field (tget (fun _ => 0) k.csrs (0x3A0 + 2 * (i / 8))) (8 * (i % 8)) 8

/-- The number of set bits below the lowest clear one. -/
def trailingOnes : Nat → Nat → Nat
  | 0, _ => 0
  | n + 1, v => if v % 2 = 1 then 1 + trailingOnes n (v / 2) else 0

/-- The addresses [lo, hi) of an entry that is not off. -/
def Core.pmpRange (k : Core) (i : Nat) : Option (Nat × Nat) :=
  let reg (j : Nat) : Nat := tget (fun _ => 0) k.csrs (0x3B0 + j) % 2 ^ 54
  match field (k.pmpCfg i) 3 2 with
  | 1 => some (if i = 0 then 0 else 4 * reg (i - 1), 4 * reg i)
  | 3 =>
    let ones := trailingOnes 54 (reg i)
    let lo := reg i / 2 ^ (ones + 1) * 2 ^ (ones + 1) * 4
    some (lo, lo + 2 ^ (ones + 3))
  | _ => none

/-- An access of `n` bytes in mode `priv` is refused: `right` is 0 for a read, 1 for a write, 2 for execution. The lowest entry that holds any byte
of it decides. -/
def Core.pmpDenies (k : Core) (priv a n right : Nat) : Bool :=
  match (List.range 16).findSome? fun i => (k.pmpRange i).bind fun r => if a < r.2 && r.1 < a + n then some (i, r) else none with
  | none => priv != 3
  | some (i, r) =>
    if a < r.1 || r.2 < a + n then true
    else if priv = 3 && ! (k.pmpCfg i).testBit 7 then false
    else ! (k.pmpCfg i).testBit right

/-- The mode in which loads and stores are judged (mstatus.MPRV). -/
def Core.dataPriv (k : Core) : Nat := if k.ctx.priv = 3 && k.ctx.mstatus.testBit 17 then field k.ctx.mstatus 11 2 else k.ctx.priv

/-- A load (or a store) of a core is refused by its protection. -/
def State.coreDenied (s : State) (c : Nat) (store : Bool) (a n : Nat) : Bool :=
  (s.core c).pmpDenies (s.core c).dataPriv a n store.toNat

/-- The place of an SRAM address among the ranges of `Hub.sramOpen`. -/
def sramKey (c a : Nat) : Nat := if a < 0x1000000 then 2 ^ 40 + c * 2 ^ 21 + a else a

/-- A byte of SRAM as core `c` sees it: a free value where the contents are left open. -/
def State.sramByte (s : State) (c a : Nat) : Byte :=
  match s.hub.sramOpen.find? fun r => r.1 ≤ sramKey c a && sramKey c a < r.2.1 with
  | some r => Config.freeByte r.2.2 (sramKey c a)
  | none => if a < 0x1000000 then mget (s.core c).sram a else mget s.hub.sram (a - 0x1000000)

/-- The value of `n` bytes of SRAM as a core sees it. -/
def State.sramRead (s : State) (c a n : Nat) : Nat := leNat ((List.range n).map fun i => s.sramByte c (a + i))

/-- Reservations of some cores on the granules of `n` bytes end, but for the writer's own (R272). -/
def State.breakResv (s : State) (cores : List Nat) (writer : Option Nat) (a n : Nat) : State :=
  let granules := (List.range ((a % 64 + n + 63) / 64)).map fun i => a / 64 + i
  cores.foldl (fun s c =>
    if writer ≠ some c && (s.core c).resv.any granules.contains then s.setCore c { s.core c with resv := none } else s) s

/-- A write that the caches of others may not show (R270), noted. -/
def State.noteWrite (s : State) (lo n : Nat) (writer : Option Nat) : State :=
  { s with hub := { s.hub with writes := (lo, lo + n, writer.getD 32) :: s.hub.writes } }

/-- Bytes written to SRAM at an address of core `c`; the write ends reservations of others (R272). -/
def State.sramPut (s : State) (c a : Nat) (data : List Byte) (writer : Option Nat) : State :=
  let s := { s with hub := { s.hub with sramOpen := cutRange (sramKey c a) data.length s.hub.sramOpen } }
  let s := s.noteWrite (sramKey c a) data.length writer
  if a < 0x1000000 then (s.setCore c { s.core c with sram := mwrite (s.core c).sram a data }).breakResv [c] writer a data.length
  else State.breakResv { s with hub := { s.hub with sram := mwrite s.hub.sram (a - 0x1000000) data } } (List.range 32) writer a data.length

/-- A store of `n` bytes to SRAM by a core. -/
def State.sramWrite (s : State) (c a n v : Nat) : State := s.sramPut c a (leBytes n v) (some c)

/-- The exception of an atomic at an address, if any: misaligned, outside the ranges that take atomics (R271), or refused by the protection. -/
def State.atomicFault (s : State) (c : Nat) (load : Bool) (a n : Nat) : Option Nat :=
  if a % n ≠ 0 then some (if load then 4 else 6)
  else if (coreRange a).atomics && ! s.coreDenied c (! load) a n then none
  else some (if load then 5 else 7)

/-- The result of an AMO on `n`-byte values. -/
def amoResult (op : AmoOp) (n old v : Nat) : Nat :=
  let w := 8 * n
  let a := old % 2 ^ w
  let b := v % 2 ^ w
  match op with
  | .swap => b
  | .add => (a + b) % 2 ^ w
  | .xor => a ^^^ b
  | .and => a &&& b
  | .or => a ||| b
  | .min => if toSigned w a ≤ toSigned w b then a else b
  | .max => if toSigned w a ≤ toSigned w b then b else a
  | .minu => if a ≤ b then a else b
  | .maxu => if a ≤ b then b else a

/-- The register value of an `n`-byte load by LR or AMO. -/
def loadValue (n v : Nat) : Nat := if n = 4 then sext32 v else v % 2 ^ 64

/-- LR (R271, R272). -/
def execLr (core : CoreIx) (wide : Bool) (rd : Fin 32) (addr : BitVec 64) (s : State) : Out :=
  let n := if wide then 8 else 4
  let a := addr.toNat
  match s.executing core with
  | none => .next s
  | some _ =>
    match s.atomicFault core true a n with
    | some cause => .next (s.trap core cause a)
    | none =>
      let k := (s.core core).setX rd (loadValue n (s.sramRead core a n))
      .next (s.setCore core { k with resv := some (a / 64) })

/-- SC (R271, R272): it stores and gives 0 while the reservation holds, else it gives 1. It ends the reservation. -/
def execSc (core : CoreIx) (wide : Bool) (rd : Fin 32) (addr value : BitVec 64) (s : State) : Out :=
  let n := if wide then 8 else 4
  let a := addr.toNat
  match s.executing core with
  | none => .next s
  | some _ =>
    match s.atomicFault core false a n with
    | some cause => .next (s.trap core cause a)
    | none =>
      let ok := (s.core core).resv = some (a / 64)
      let s := if ok then s.sramWrite core a n value.toNat else s
      .next (s.setCore core { (s.core core).setX rd (if ok then 0 else 1) with resv := none })

/-- AMO (R271). -/
def execAmo (core : CoreIx) (op : AmoOp) (wide : Bool) (rd : Fin 32) (addr value : BitVec 64) (s : State) : Out :=
  let n := if wide then 8 else 4
  let a := addr.toNat
  match s.executing core with
  | none => .next s
  | some _ =>
    match s.atomicFault core false a n with
    | some cause => .next (s.trap core cause a)
    | none =>
      let old := s.sramRead core a n
      let s := s.sramWrite core a n (amoResult op n old value.toNat)
      .next (s.setCore core ((s.core core).setX rd (loadValue n old)))

/-- FENCE.I (R270): the core's caches hold nothing older than this. -/
def execFenceI (core : CoreIx) (s : State) : Out :=
  match s.executing core with
  | none => .next s
  | some _ => .next (s.setCore core { s.core core with fenced := s.hub.writes.length })

/-- RESERVATION_EXPIRY (R272): 4,096 core cycles end a reservation. -/
def execReservationExpiry (core : CoreIx) (s : State) : Out :=
  if s.clockWait then .next s else
  .next (s.setCore core { s.core core with resv := none })

/-! ### Locks (R273) -/

/-- LOCK_LOAD (R273). -/
def execLockLoad (core : CoreIx) (n : Fin 256) (width : Width) (rd : Fin 32) (s : State) : Out :=
  match s.executing core with
  | none => .next s
  | some t =>
    if width ≠ .double || s.coreDenied core false (0x10000000 + 8 * n) 8 then .next (s.trap core 5 (0x10000000 + 8 * n))
    else match s.lockOwner n with
      | none => .next ((s.setLock n (some t)).setCore core ((s.core core).setX rd 0))
      | some o => .next (s.setCore core ((s.core core).setX rd (2 ^ 63 + o)))

/-- The last lock of a thread is freed: a deferral of its preemption ends (R297). -/
def State.lockFreed (s : State) (c t : Nat) : State :=
  if (s.locksOf t).isEmpty then s.setCore c { s.core c with deferred := false } else s

/-- LOCK_STORE (R273). -/
def execLockStore (core : CoreIx) (n : Fin 256) (width : Width) (s : State) : Out :=
  match s.executing core with
  | none => .next s
  | some t =>
    if width ≠ .double || s.coreDenied core true (0x10000000 + 8 * n) 8 then .next (s.trap core 7 (0x10000000 + 8 * n))
    else if s.lockOwner n = some t then .next ((s.setLock n none).lockFreed core t)
    else .next (s.bump O.LOCK_FOREIGN 1)

/-! ### XPORTs (R275, R276, R278) -/

/-- XSTAT (Table 12-2). -/
def Xport.xstat (p : Xport) : Nat := p.overwrites * 2 ^ 48 + p.foreign * 2 ^ 32 + p.pending.toNat

/-- The owner core of an XPORT (Table 12-3). -/
def Xport.owner (p : Xport) : Nat := field p.xctl 35 5

/-- An XCTL value without its reserved bits (Table 12-3, R7). -/
def xctlOf (v : Nat) : Nat := v &&& (2 ^ 40 - 2 ^ 14)

/-- A post (R276). -/
def State.post (s : State) (x : Nat) : State :=
  let p := s.xport x
  let s := s.setXport x { p with
    pend := p.stage, pending := true, overwrites := if p.pending then satAdd 16 p.overwrites 1 else p.overwrites }
  if p.pending then s.bump O.XPORT_OVERWRITES 1 else s

/-- A store into the window of an XPORT by a core (R275, R276): `off` is its offset in the 256 bytes. -/
def State.xportStore (s : State) (core x off n v : Nat) : State :=
  let p := s.xport x
  let a := 0x11000000 + 256 * x + off
  if off % n ≠ 0 then s.trap core 6 a
  else if s.coreDenied core true a n then s.trap core 7 a
  else if off < 0x40 then
    if p.owner = core then s.setXport x { p with stage := setField p.stage (8 * off) (8 * n) v }
    else s.setXport x { p with foreign := satAdd 16 p.foreign 1 }
  else if 0x80 ≤ off && off < 0x88 then s.setXport x { p with xctl := xctlOf (setField p.xctl (8 * (off - 0x80)) (8 * n) v) }
  else if 0x90 ≤ off && off < 0x98 then
    if p.owner = core then s.post x
    else s.setXport x { p with foreign := satAdd 16 p.foreign 1 }
  else s.trap core 7 a

/-- POST (R276): a store to POST. -/
def execPost (core : CoreIx) (x : XportIx) (s : State) : Out :=
  match s.executing core with
  | none => .next s
  | some _ => .next (s.xportStore core x 0x90 8 0)

/-- IN_STAGE_STORE (R276): a store into the XPORT's window, IN_STAGE being its offsets 0x00–0x3F. -/
def execInStageStore (core : CoreIx) (x : XportIx) (off : Fin 256) (width : Width) (value : BitVec 64) (s : State) : Out :=
  match s.executing core with
  | none => .next s
  | some _ => .next (s.xportStore core x off width.bytes value.toNat)

/-- The value a core's load of an XPORT's window returns (Table 12-2); POST is write-only and its read value is open. -/
def State.xportValue (s : State) (core x off n : Nat) : Nat :=
  let p := s.xport x
  let l := tget (fun _ => (0, 0)) (s.core core).latch x
  if off < 0x40 then field p.stage (8 * off) (8 * n)
  else if off < 0x80 then field l.1 (8 * (off - 0x40)) (8 * n)
  else if off < 0x88 then field p.xctl (8 * (off - 0x80)) (8 * n)
  else if off < 0x90 then field p.xstat (8 * (off - 0x88)) (8 * n)
  else if off < 0x98 then Config.freeNat s.fresh % 2 ^ (8 * n)
  else if off < 0xA0 then field l.2 (8 * (off - 0x98)) (8 * n)
  else field p.inDc (8 * (off - 0xA0)) (8 * n)

/-- OUT_LOAD (R275, R278): a load from the XPORT's window; one that touches word 0 of OUT latches OUT and OUT_DC. -/
def execOutLoad (core : CoreIx) (x : XportIx) (off : Fin 256) (width : Width) (rd : Fin 32) (s : State) : Out :=
  let n := width.bytes
  let a := 0x11000000 + 256 * x.val + off.val
  match s.executing core with
  | none => .next s
  | some _ =>
    if off.val % n ≠ 0 then .next (s.trap core 4 a)
    else if off.val ≥ 0xA8 || s.coreDenied core false a n then .next (s.trap core 5 a)
    else
      let k := s.core core
      let s := if 0x40 ≤ off.val && off.val < 0x48 then
          s.setCore core { k with latch := tput (fun _ => (0, 0)) k.latch x ((s.xport x).out, s.hub.outDc) }
        else s
      let v := s.xportValue core x off n
      let s := if 0x90 ≤ off.val && off.val < 0x98 then s.draw else s
      .next (s.setCore core ((s.core core).setX rd v))

/-! ### Pacing (R280) -/

/-- A domain's descriptor kind (Table 07-6): 1 ratio, 2 tied, 3 transactor-paced. -/
def domKind (d : Nat) : Nat := field d 126 2

/-- PACE_STORE (R280). -/
def execPaceStore (core : CoreIx) (d : Fin 64) (value : BitVec 64) (s : State) : Out :=
  let dom := tget (fun _ => 0) s.sluice.domains d
  match s.executing core with
  | none => .next s
  | some _ =>
    if s.coreDenied core true (0x12000000 + 8 * d) 8 then .next (s.trap core 7 (0x12000000 + 8 * d))
    else if domKind dom = 3 && field dom 0 5 = core.val then
      let n := satAdd 16 (tget (fun _ => 0) s.hub.pace d) (value.toNat % 65536)
      .next { s with hub := { s.hub with pace := tput (fun _ => 0) s.hub.pace d n } }
    else .next s

/-! ### Reset, watchdogs and timers (R268, R274, R281, R288) -/

/-- The contexts homed on a core. -/
def State.homed (s : State) (c : Nat) : List Nat :=
  (s.hub.threads.filter fun e => e.2.st != 0 && e.2.home == c).map fun e => e.1

/-- The scheduler's counts of a core and of the module brought up to date, and their maxima raised (Table 13-7). -/
def State.schedObjs (s : State) (c : Nat) : State :=
  let depth (s : State) (c : Nat) : Nat :=
    (s.hub.ready.filter fun e => e.1 / 32 == c).foldl (fun n e => n + e.2.length) 0
  let total := s.hub.ready.foldl (fun n e => n + e.2.length) 0
  let used := (s.hub.threads.filter fun e => e.2.st != 0).length
  let s := s.setObjs [(O.THREADS_USED, used), (O.READY_TOTAL, total), (O.HOMED c, (s.homed c).length), (O.READY c, depth s c)]
  let s := (s.raise O.READY_TOTAL_MAX total).raise (O.READY_MAX c) (depth s c)
  (List.range 32).foldl (fun s p =>
    let n := (s.hub.ready.filter fun e => e.1 % 32 == p).foldl (fun n e => n + e.2.length) 0
    (s.setObj (O.READY_BY_PRIO p) n).raise (O.READY_BY_PRIO_MAX p) n) s

/-- A core enters reset, leaving it in `state` (0 RESET, 3 WDT_RESET): its contexts become FREE, its alarms are disarmed, the
locks of its threads are freed, its halt and requests end, its terminals are emptied. A context that has migrated away is still
written back (R298). -/
def State.resetCore (s : State) (c state : Nat) : State :=
  let homed := s.homed c
  let hub := { s.hub with
    threads := s.hub.threads.filter fun e => ! homed.contains e.1
    ready := s.hub.ready.filter fun e => e.1 / 32 != c
    locks := s.hub.locks.filter fun e => match e.2 with | some t => ! homed.contains t | none => true }
  let k := s.core c
  let k := { Core.blank with
    writeback := k.writeback.filter fun e => ! homed.contains e.1, fenced := s.hub.writes.length
    mtimecmp := k.mtimecmp, sram := k.sram, step := k.step, ebreakHalt := k.ebreakHalt, broke := k.broke
    deferCycles := k.deferCycles, haltCause := k.haltCause, haltTcx := k.haltTcx, latch := k.latch }
  let s := State.setCore { s with hub := hub } c k
  State.schedObjs ((s.setObjs [(O.CORE_STATE c, state), (O.RUNNING_TCX c, 0xFFFF)]).setObjBit O.HALTED_CORES c false) c

/-- A core is released: its boot thread runs at priority 16 from RESET_VECTOR (R288). -/
def State.releaseCore (s : State) (c : Nat) : State :=
  let t := 512 * c
  let ctx := { Ctx.blank with pc := s.obj (O.RESET_VECTOR c) }
  let s := s.setThread t { Thread.blank with st := 2, prio := 16, home := c, ctx := ctx }
  let s := s.setCore c { s.core c with ctx := ctx, wdt := s.obj (O.WDT_PERIOD c), wdtTicks := 0, wdtDue := false, warned := false }
  State.schedObjs (s.setObjs [(O.CORE_STATE c, 1), (O.RUNNING_TCX c, t)]) c

/-- WDT_KICK (R281). -/
def execWdtKick (core : CoreIx) (value : Byte) (s : State) : Out :=
  match s.executing core with
  | none => .next s
  | some _ =>
    if s.coreDenied core true 0x12010008 8 then .next (s.trap core 7 0x12010008)
    else if value.toNat = 0xA5 then
      .next (s.setCore core { s.core core with wdt := s.obj (O.WDT_PERIOD core), wdtTicks := 0, wdtDue := false, warned := false })
    else .next s

/-- A core's clock runs with a thread on it: it is not debug-halted, not idle, and no gating stops it (R282, R296, R432). -/
def State.coreRuns (s : State) (c : Nat) : Bool :=
  s.obj (O.CORE_STATE c) = 1 && ! (s.core c).halted && ! s.clockWait && ! s.clk.shutdown && (s.running c).isSome

/-- A tick of the time base for a core's watchdog, which counts once every 3,000 core cycles, 250 ticks (R281). -/
def State.wdtTick (s : State) (c : Nat) : State :=
  let k := s.core c
  if ! s.coreRuns c || s.obj (O.WDT_PERIOD c) = 0 || k.wdt = 0 then s
  else if k.wdtTicks + 1 < 250 then s.setCore c { k with wdtTicks := k.wdtTicks + 1 }
  else s.setCore c { k with wdtTicks := 0, wdt := k.wdt - 1, wdtDue := k.wdt == 1 }

/-- WDT_EXPIRY (R281): the watchdog of a running core has reached 0. -/
def execWdtExpiry (core : CoreIx) (s : State) : Out :=
  let k := s.core core
  if s.coreRuns core && k.wdtDue then
    let s := s.setCore core { k with wdtDue := false }
    let k := s.core core
    let s := s.bump (O.WDT_EXPIRIES core) 1
    if s.obj (O.WDT_ACTION core) = 1 && ! k.warned then
      .next ((s.setCore core { k with mip := setBit k.mip 16 true, wdt := s.obj (O.WDT_PERIOD core), warned := true }).takeIrq core)
    else
      let d0 := core.val + (s.obj (O.RUNNING_TCX core) % 16384) * 65536
      .next ((s.raiseFault 0x0B FaultLoc.hub d0 0 0).resetCore core 3)
  else .next s

/-- The machine timer interrupt is pending while the time base has reached MTIMECMP (R268). -/
def State.timerIrq (s : State) (c : Nat) : State :=
  let k := s.core c
  (s.setCore c { k with mip := setBit k.mip 7 (s.reached k.mtimecmp) }).takeIrq c

/-- MTIMECMP_REACHED (R268). -/
def execMtimecmpReached (core : CoreIx) (s : State) : Out := if s.clockWait then .next s else .next (s.timerIrq core)

/-! ### The virtual terminal (R470) -/

/-- VTTX (R470): CSR 0x808 written; the register read returns the free bytes before the write. -/
def execVttx (core : CoreIx) (rd : Fin 32) (value : Byte) (s : State) : Out :=
  let k := s.core core
  match s.executing core with
  | none => .next s
  | some _ =>
    let k' := k.setX rd (64 - k.vtTx.length)
    if k.vtTx.length < 64 then .next (s.setCore core { k' with vtTx := k.vtTx ++ [value] })
    else if s.objBit O.VT_BLOCK core then .next s
    else .next ((s.setCore core k').bump O.VT_DROPPED 1)

/-- VTRX (R470): CSR 0x809 read. -/
def execVtrx (core : CoreIx) (rd : Fin 32) (s : State) : Out :=
  let k := s.core core
  match s.executing core with
  | none => .next s
  | some _ =>
    match k.vtRx with
    | [] => .next (s.setCore core (k.setX rd 0))
    | b :: rest => .next (s.setCore core { k.setX rd (256 + b.toNat) with vtRx := rest })

end Sys2Proof.Machine
end

