-- ==== Sys2Proof/Machine/Threads.lean ====
section
/-!
DEFINITION. The hardware thread scheduler (13): contexts, ready lists, flags, waits, alarms, dispatch, preemption, migration,
and the requests of threads (R300).
-/

namespace Sys2Proof.Machine

/-! ### Ready lists (R296) -/

def State.readyList (s : State) (c p : Nat) : List Nat := tget (fun _ => []) s.hub.ready (c * 32 + p)
def State.setReadyList (s : State) (c p : Nat) (l : List Nat) : State :=
  { s with hub := { s.hub with ready := tput (fun _ => []) s.hub.ready (c * 32 + p) l } }

/-- The READY threads of a core in dispatch order: most urgent list first, each list from its head (R296). -/
def State.dispatchOrder (s : State) (c : Nat) : List Nat := (List.range 32).flatMap fun p => s.readyList c p

/-- The prefetch slots of a core follow its dispatch order; a slot that holds another thread than before is empty again (R297). -/
def State.refill (s : State) (c : Nat) : State :=
  let k := s.core c
  let want := (s.dispatchOrder c).take 2
  s.setCore c { k with prefetch := want.map fun t => (t, k.prefetch.contains (t, true)) }

/-- What follows a change of a core's ready lists. -/
def State.readyChanged (s : State) (c : Nat) : State := (s.refill c).schedObjs c

/-- A thread becomes READY at the tail of its list, or at its head (R296). -/
def State.makeReady (s : State) (t : Nat) (head : Bool) : State :=
  let th := s.thread t
  let l := s.readyList th.home th.prio
  let s := (s.setThread t { th with st := 1 }).setReadyList th.home th.prio (if head then t :: l else l ++ [t])
  s.readyChanged th.home

/-- A READY thread leaves its list. -/
def State.dropReady (s : State) (t : Nat) : State :=
  let th := s.thread t
  (s.setReadyList th.home th.prio ((s.readyList th.home th.prio).erase t)).readyChanged th.home

/-- The RUNNING thread of a core is switched out into another state: its context is written back in the background and an LR
reservation ends (R272, R297). -/
def State.switchOut (s : State) (c st : Nat) : State :=
  match s.running c with
  | none => s
  | some t =>
    let k := s.core c
    let s := s.setCore c { k with writeback := k.writeback ++ [(t, k.ctx)], resv := none, deferred := false }
    (s.setThread t { s.thread t with st := st }).setObj (O.RUNNING_TCX c) 0xFFFF

/-- The running thread's RESULT (Table 13-5). -/
def State.result4 (s : State) (t code : Nat) : State := s.setThread t { s.thread t with result := code }

/-! ### Flags (R291, R293, R295) -/

/-- A flag set arrives; one aimed at a FREE context is discarded and counted. -/
def State.flagArrives (s : State) (t f : Nat) : State :=
  if (s.thread t).st = 0 then s.bump O.FREE_SETS 1
  else { s with hub := { s.hub with flagQ := s.hub.flagQ ++ [(t, f)] } }

/-- The wait condition of a thread holds (R293). -/
def Thread.holds (th : Thread) : Bool :=
  th.mask != 0 && (if th.all then th.flags &&& th.mask == th.mask else th.flags &&& th.mask != 0)

/-- The flags of a thread after a wake or immediate continuation by FLAGS (R293). -/
def Thread.consumed (th : Thread) : Thread :=
  if th.consume then { th with flags := th.flags - (th.flags &&& th.mask) } else th

/-- WAKES: by TIMEOUT in the upper half, by FLAGS in the lower, each wrapping. -/
def State.countWake (s : State) (timeout : Bool) : State :=
  let v := s.obj O.THR_WAKES
  s.setObj O.THR_WAKES (if timeout then setField v 32 32 (field v 32 32 + 1) else setField v 0 32 (field v 0 32 + 1))

/-- A WAITING thread is woken (R293): 1 FLAGS, 2 TIMEOUT. -/
def State.wake (s : State) (t : Nat) (timeout : Bool) : State :=
  let th := s.thread t
  let th := if timeout then { th with wake := 2 } else { th.consumed with wake := 1 }
  ((s.setThread t th).makeReady t false).countWake timeout

/-- The WAITING thread homed on a core that wakes next: the lowest TCX whose condition holds (R293). -/
def State.nextWake (s : State) (c : Nat) : Option Nat :=
  (s.hub.threads.find? fun e => e.2.st == 3 && e.2.home == c && e.2.holds).map fun e => e.1

/-- The arrived flag sets applied. -/
def State.applyFlags (s : State) : State :=
  let q := s.hub.flagQ
  q.foldl (fun s e =>
    if (s.thread e.1).st = 0 then s.bump O.FREE_SETS 1
    else s.setThread e.1 { s.thread e.1 with flags := setBit (s.thread e.1).flags e.2 true })
    { s with hub := { s.hub with flagQ := [] } }

/-- FLAG_APPLY (R293): a scheduler cycle: the arrived flag sets, then one wake for each core. -/
def execFlagApply (s : State) : Out :=
  if s.clockWait then .next s else
  .next ((List.range 32).foldl (fun s c => match s.nextWake c with | some t => s.wake t false | none => s) s.applyFlags)

/-- THREAD_TIMEOUT (R293): a WAITING thread's timeout is reached; a condition that holds in that cycle goes first. -/
def execThreadTimeout (t : Tcx) (s : State) : Out :=
  if s.clockWait then .next s else
  let th := s.thread t
  if th.st = 3 && th.timeout ≠ 0 && s.reached th.timeout then .next (s.wake t (! th.holds)) else .next s

/-! ### Commands of a thread (R292, Table 13-5) -/

/-- YIELD and the wait of R293 without a condition. -/
def State.yield (s : State) (c t : Nat) : State := (s.switchOut c 1).makeReady t false

/-- TCMD_WAIT (R293), with the values that TWAITMASK and TTIMEOUT hold. -/
def execTcmdWait (core : CoreIx) (mask : BitVec 32) (timeout : BitVec 64) (s : State) : Out :=
  match s.executing core with
  | none => .next s
  | some t =>
    let s := s.setThread t { s.thread t with mask := mask.toNat, timeout := timeout.toNat, result := 0 }
    let th := s.thread t
    if th.mask = 0 && th.timeout = 0 then .next (s.yield core t)
    else if th.holds then .next (s.setThread t th.consumed)
    else if th.timeout ≠ 0 && s.reached th.timeout then .next (s.setThread t { th with wake := 2 })
    else .next (State.schedObjs (s.switchOut core 3) core)

/-- TCMD_YIELD. -/
def execTcmdYield (core : CoreIx) (s : State) : Out :=
  match s.executing core with
  | none => .next s
  | some t => .next ((s.result4 t 0).yield core t)

/-- TCMD_EXIT: the context is FREE and its locks are freed and counted. -/
def execTcmdExit (core : CoreIx) (s : State) : Out :=
  match s.executing core with
  | none => .next s
  | some t =>
    let locks := s.locksOf t
    let s := (locks.foldl (fun s n => s.setLock n none) s).bump O.EXIT_LOCKS locks.length
    let s := (s.switchOut core 0).setThread t Thread.blank
    let k := s.core core
    .next (State.schedObjs (s.setCore core { k with writeback := k.writeback.filter fun e => e.1 != t }) core)

/-- TCMD_SIGNAL. -/
def execTcmdSignal (core : CoreIx) (tcx : Tcx) (flag : FlagIx) (s : State) : Out :=
  match s.executing core with
  | none => .next s
  | some t => .next ((s.result4 t 0).flagArrives tcx flag)

/-- TARG0–TARG2 (Table 13-3). -/
def Core.setTarg (k : Core) (i v : Nat) : Core := { k with targ := tput (fun _ => 0) k.targ i v }

/-- TCMD_SPAWN, with the values of TARG0–TARG2: entry point, stack, argument. -/
def execTcmdSpawn (core : CoreIx) (tcx : Tcx) (home : CoreIx) (prio : Fin 32) (targ0 targ1 targ2 : BitVec 64) (s : State) :
    Out :=
  match s.executing core with
  | none => .next s
  | some t =>
    let s := s.setCore core ((((s.core core).setTarg 0 targ0.toNat).setTarg 1 targ1.toNat).setTarg 2 targ2.toNat)
    if (s.thread tcx).st ≠ 0 || tcx.val % 512 = 0 then .next (s.result4 t 1)
    else if (s.homed home).length ≥ 512 then .next (s.result4 t 2)
    else
      let regs := tput (fun _ => 0) (tput (fun _ => 0) [] 2 targ1.toNat) 10 targ2.toNat
      let th := { Thread.blank with prio := prio, home := home, ctx := { Ctx.blank with pc := targ0.toNat, x := regs } }
      .next (((s.result4 t 0).setThread tcx th).makeReady tcx false)

/-- A context is stopped: READY, WAITING, or RUNNING on core `c` (self). -/
def State.stopThread (s : State) (c : Option Nat) (t : Nat) : State × Nat :=
  let th := s.thread t
  if th.st = 1 then ((s.dropReady t).setThread t { th with st := 4 }, 0)
  else if th.st = 3 then (s.setThread t { th with st := 4 }, 0)
  else if th.st = 2 && c = some th.home then (State.schedObjs (s.switchOut th.home 4) th.home, 0)
  else (s, 1)

/-- A STOPPED context is made READY with WAKE_CAUSE START. -/
def State.startThread (s : State) (t : Nat) : State × Nat :=
  let th := s.thread t
  if th.st = 4 then ((s.setThread t { th with wake := 3 }).makeReady t false, 0) else (s, 1)

/-- TCMD_STOP. -/
def execTcmdStop (core : CoreIx) (tcx : Tcx) (s : State) : Out :=
  match s.executing core with
  | none => .next s
  | some t =>
    let r := s.stopThread (if tcx.val = t then some core.val else none) tcx
    .next (r.1.result4 t r.2)

/-- TCMD_START. -/
def execTcmdStart (core : CoreIx) (tcx : Tcx) (s : State) : Out :=
  match s.executing core with
  | none => .next s
  | some t =>
    let r := s.startThread tcx
    .next (r.1.result4 t r.2)

/-- TCMD_MIGRATE (R298). -/
def execTcmdMigrate (core : CoreIx) (tcx : Tcx) (home : CoreIx) (s : State) : Out :=
  match s.executing core with
  | none => .next s
  | some t =>
    let th := s.thread tcx
    let self := tcx.val = t
    if tcx.val % 512 = 0 || th.st = 0 || (th.st = 2 && ! self) then .next (s.result4 t 1)
    else if th.home ≠ home.val && (s.homed home).length ≥ 512 then .next (s.result4 t 2)
    else
      let s := s.result4 t 0
      if self then
        let s := s.switchOut core 1
        .next (State.schedObjs ((s.setThread tcx { s.thread tcx with home := home }).makeReady tcx false) core)
      else if th.st = 1 then
        let s := s.dropReady tcx
        .next (((s.setThread tcx { th with home := home }).makeReady tcx false).schedObjs th.home)
      else .next ((s.setThread tcx { th with home := home }).schedObjs home |>.schedObjs th.home)

/-- TCMD_ALARM (R294), with the values of TARG0 (instant) and TARG1 (period). -/
def execTcmdAlarm (core : CoreIx) (unit : Fin 8) (tcx : Tcx) (flag : FlagIx) (targ0 targ1 : BitVec 64) (s : State) : Out :=
  match s.executing core with
  | none => .next s
  | some t =>
    let k := s.core core
    let k := (k.setTarg 0 targ0.toNat).setTarg 1 targ1.toNat
    if 1 ≤ targ1.toNat && targ1.toNat ≤ 999 then .next ((s.setCore core k).result4 t 3)
    else
      let a : Option Alarm := if targ0.toNat = 0 then none else some ⟨tcx, flag, targ0.toNat, targ1.toNat⟩
      .next ((s.setCore core { k with alarms := tput (fun _ => none) k.alarms unit a }).result4 t 0)

/-- The first instant of a periodic alarm still ahead of `now` (R294); times wrap at 2^64 (R237). -/
def nextInstant (when_ period now : Nat) : Nat :=
  let gone := (now + 2 ^ 64 - when_ % 2 ^ 64) % 2 ^ 64
  (when_ + period * (gone / period + 1)) % 2 ^ 64

/-- ALARM_FIRE (R294): an armed unit's instant is reached. -/
def execAlarmFire (core : CoreIx) (unit : Fin 8) (s : State) : Out :=
  if s.clockWait then .next s else
  let k := s.core core
  match tget (fun _ => none) k.alarms unit with
  | none => .next s
  | some a =>
    if s.reached a.when_ then
      let next : Option Alarm := if a.period = 0 then none else some { a with when_ := nextInstant a.when_ a.period s.nowNs }
      .next ((s.setCore core { k with alarms := tput (fun _ => none) k.alarms unit next }).flagArrives a.tcx a.flag)
    else .next s

/-! ### Own CSRs (Table 13-3) -/

/-- TFLAGS_WRITE (R291): CSRRS sets, CSRRC clears, CSRRW replaces. Clears act at once; sets arrive like any other source's and so
outlast a clear of the same cycle. -/
def execTflagsWrite (core : CoreIx) (op : CsrOp) (value : BitVec 32) (s : State) : Out :=
  match s.executing core with
  | none => .next s
  | some t =>
    let th := s.thread t
    let v := value.toNat
    let sets := match op with | .clear => 0 | _ => v
    let keep := match op with | .replace => th.flags &&& v | .set => th.flags | .clear => th.flags - (th.flags &&& v)
    let s := s.setThread t { th with flags := keep }
    .next ((List.range 32).foldl (fun s f => if sets.testBit f then s.flagArrives t f else s) s)

/-- Some core still writes a thread's context back. -/
def State.writingBack (s : State) (t : Nat) : Bool := s.hub.cores.any fun e => e.2.writeback.any fun w => w.1 == t

/-- The thread that a core dispatches next, if its prefetch slot is filled and its context is wholly in the store. -/
def State.dispatchable (s : State) (c : Nat) : Option Nat :=
  match s.dispatchOrder c with
  | [] => none
  | t :: _ => if (s.core c).prefetch.contains (t, true) && ! s.writingBack t then some t else none

/-- The thread that is to preempt the running one (R297). -/
def State.preemptor (s : State) (c r : Nat) : Option Nat :=
  match s.dispatchable c with
  | none => none
  | some t => if s.obj (O.PREEMPT c) = 1 && (s.thread t).prio < (s.thread r).prio then some t else none

/-- The running thread judged against the ready lists: while it owns a lock its preemption is deferred, and the deferral counted. -/
def State.judgeRunning (s : State) (c r : Nat) : State :=
  if (s.preemptor c r).isSome && ! (s.locksOf r).isEmpty && ! (s.core c).deferred then
    (s.setCore c { s.core c with deferred := true }).bump (O.LOCK_DEFERRALS c) 1
  else s

/-- TCTL_WRITE (R290, R297): a thread that changes its own PRIO is judged at once. -/
def execTctlWrite (core : CoreIx) (value : BitVec 64) (s : State) : Out :=
  let v := value.toNat
  match s.executing core with
  | none => .next s
  | some t =>
    .next ((s.setThread t { s.thread t with prio := field v 0 5, all := v.testBit 8, consume := v.testBit 9 }).judgeRunning core t)

/-! ### Dispatch (R296–R298, R302) -/

/-- The histogram bin of a ready wait (R302). -/
def waitBin (w : Nat) : Nat := if w < 2 then 0 else min 15 (Nat.log2 w)

/-- A READY thread starts on its core from a filled prefetch slot; `wait` is its ready wait in core cycles. -/
def State.switchIn (s : State) (c t wait : Nat) : State :=
  let th := s.thread t
  let s := s.dropReady t
  let s := (s.setThread t { th with st := 2 }).setCore c { s.core c with ctx := th.ctx, deferred := false }
  let s := s.setObj (O.RUNNING_TCX c) t
  let s := ((s.bump (O.SWITCHES c) 1).bump (O.CYC_SWITCH c) 12).bump (O.WAIT_HIST c (waitBin wait)) 1
  s.readyChanged c

/-- DISPATCH (R296): an idle core takes the head of its most urgent list. `ran` and `idle` are the core cycles it has executed a
thread and idled since its last dispatch or release. -/
def execDispatch (core : CoreIx) (wait ran idle : Nat) (s : State) : Out :=
  if s.clockWait then .next s else
  let k := s.core core
  if s.obj (O.CORE_STATE core) = 1 && ! k.halted && ! k.haltReq && (! k.stepArm || k.noThread) && ! s.clk.shutdown
      && s.running core = none then
    match s.dispatchable core with
    | none => .next s
    | some t =>
      let s := s.setCore core { k with noThread := false }
      .next ((((s.bump (O.CYC_RUN core) ran).bump (O.CYC_IDLE core) idle).switchIn core t wait).takeIrq core)
  else .next s

/-- PREFETCH_FILL (R297): the first slot that is still empty is filled. -/
def execPrefetchFill (core : CoreIx) (s : State) : Out :=
  if s.clockWait then .next s else
  let k := s.core core
  match k.prefetch.findIdx? fun e => ! e.2 with
  | none => .next s
  | some i =>
    match k.prefetch[i]? with
    | none => .next s
    | some e => .next (s.setCore core { k with prefetch := k.prefetch.set i (e.1, true) })

/-- PREEMPTION (R297): a more urgent READY thread in a filled slot takes the core, unless the running thread owns a lock. -/
def execPreemption (core : CoreIx) (wait ran : Nat) (s : State) : Out :=
  match s.executing core with
  | none => .next s
  | some r => match s.preemptor core r with
    | none => .next s
    | some t =>
      if ! (s.locksOf r).isEmpty then .next (s.judgeRunning core r)
      else
        let s := (s.switchOut core 1).makeReady r true
        .next ((((s.switchIn core t wait).bump (O.PREEMPTIONS core) 1).bump (O.CYC_RUN core) ran).takeIrq core)

/-- CONTEXT_WRITEBACK (R297, R298): the oldest context on its way to the store arrives there. -/
def execContextWriteback (core : CoreIx) (s : State) : Out :=
  if s.clockWait then .next s else
  let k := s.core core
  match k.writeback with
  | [] => .next s
  | (t, x) :: rest =>
    .next ((s.setCore core { k with writeback := rest }).setThread t { s.thread t with ctx := x })

/-! ### Requests (R300) -/

/-- The hub endpoint of the transactor complex. -/
def nodeCores : Nat := 0x10

/-- Sends the waiting requests of threads for which the hub's pool has a tag, oldest first. -/
def State.sendThreadReqs (s : State) : Nat → State
  | 0 => s
  | n + 1 =>
    match s.hub.reqQ with
    | [] => s
    | r :: rest =>
      match s.takeTag 4 r.owner with
      | none => s
      | some (tag, s) =>
        let p := { r.pkt with tag := tag, gen := s.tagGen tag }
        State.sendThreadReqs (State.inject { s with hub := { s.hub with reqQ := rest } } p) n

/-- A request of a hub requester; it waits when no tag is free, which is counted (R121). -/
def State.hubRequest (s : State) (w : WaitReq) : State :=
  let waiting := s.hub.reqQ.length
  let s := State.sendThreadReqs { s with hub := { s.hub with reqQ := s.hub.reqQ ++ [w] } } (waiting + 1)
  if s.hub.reqQ.isEmpty then s else s.bump O.TAG_WAITS 1

/-- A buffer lies in the issuing core's local SRAM or in shared SRAM (R300). -/
def bufferOk (a n : Nat) : Bool :=
  (coreRange a).atomics && coreRange (a + n - 1) == coreRange a

/-- REQ_READ and REQ_WRITE. The request waits when no tag is free (R121). -/
def State.threadReq (s : State) (core : Nat) (write : Bool) (buf addr dmod ddie dnode words flag : Nat) : Out :=
  let n := 4 * (words + 1)
  match s.executing core with
  | none => .next s
  | some t =>
    let s := s.setCore core ((((s.core core).setTarg 0 buf).setTarg 1 addr).setTarg 2
      (dmod + 2 ^ 10 * ddie + 2 ^ 13 * dnode + 2 ^ 21 * n))
    let th := s.thread t
    if th.outstanding ≥ 8 then .next (s.result4 t 4)
    else
      let ok := bufferOk buf n
      let data := if ! write then [] else if ok then leBytes n (s.sramRead core buf n) else freeBytes s.fresh buf n
      let s := if ok then s else s.draw.astray
      let p : Packet := { vc := 0, op := if write then 2 else 1, dstMod := dmod, dstDie := ddie, dstNode := dnode, srcMod := s.ownId
                          srcDie := 4, srcNode := nodeCores, tag := 0, gen := 0, status := 0, bytes := n, addr := addr, payload := data
                          poison := false }
      let s := s.setThread t { th with outstanding := th.outstanding + 1, result := 0 }
      .next (s.hubRequest ⟨.thread core t flag write buf n, p⟩)

/-- TCMD_REQ_READ (R300), with the values of TARG0–TARG2; the transfer is 4 × (words + 1) bytes. -/
def execTcmdReqRead (core : CoreIx) (buf addr : BitVec 64) (dmod : Fin 1024) (ddie : Fin 8) (dnode : Fin 256) (words : Fin 64)
    (flag : FlagIx) (s : State) : Out :=
  s.threadReq core false buf.toNat addr.toNat dmod ddie dnode words flag

/-- TCMD_REQ_WRITE (R300). -/
def execTcmdReqWrite (core : CoreIx) (buf addr : BitVec 64) (dmod : Fin 1024) (ddie : Fin 8) (dnode : Fin 256) (words : Fin 64)
    (flag : FlagIx) (s : State) : Out :=
  s.threadReq core true buf.toNat addr.toNat dmod ddie dnode words flag

/-- REQUEST_COMPLETION (R300): the oldest completed request of a thread: read data to the buffer, STATUS to TSTAT, the flag. -/
def execRequestCompletion (s : State) : Out :=
  if s.clockWait then .next s else
  match s.net.done with
  | [] => .next s
  | (_, .thread core t flag write buf bytes, p) :: rest =>
    let s := { s with net := { s.net with done := rest } }
    let s := if ! write && p.status = 0 && p.op = 8 then s.sramWrite core buf bytes (leNat p.payload) else s
    let th := s.thread t
    let s := if th.st = 0 then s else s.setThread t { th with status := p.status, outstanding := th.outstanding - 1 }
    .next (s.flagArrives t flag)
  | _ :: rest => .next { s with net := { s.net with done := rest } }

end Sys2Proof.Machine
end

