-- ==== Sys2Proof/Machine/Access.lean ====
section
/-!
DEFINITION. Dictionary accesses as the engine serves them (R189, R372–R374, R399): which accesses are refused whatever the
object, the record of a refusal, and a served write.
-/

namespace Sys2Proof.Machine

/-- The ranges served before boot completes and after a failed boot (R450). -/
def bootRange (k : Nat) : Bool :=
  let i := k / 256
  i == 0x2000 || (0x3C00 ≤ i && i ≤ 0x3DFF) || (0x3E00 ≤ i && i ≤ 0x3FFF)

/-- The number of a master as STOP_MASTER and SLOT objects name it: 1 debug, 2 PCIe, 3 CAN FD, 4 firmware. -/
def Master.number : Master → Nat
  | .debug => 1
  | .pcie => 2
  | .can => 3
  | .fw => 4

/-- The place of a master's object among ACCESS_ERR_PCIE, _CAN, _DBG, _FW (Table 17-9). -/
def errPlace : Master → Nat
  | .pcie => 0
  | .can => 1
  | .debug => 2
  | .fw => 3

/-- Access error codes (Table 17-3). -/
abbrev eNone : Nat := 0
abbrev eReadOnly : Nat := 1
abbrev eRange : Nat := 2
abbrev eSize : Nat := 3
abbrev eMode : Nat := 4
abbrev eDenied : Nat := 5

/-- A refusal recorded (R374). -/
def State.refuse (s : State) (m : Master) (k code : Nat) : State :=
  let s := s.setObj (O.ACCESS_ERR (errPlace m)) (k * 2 ^ 40 + code)
  let s := s.bump O.ACCESS_ERRORS 1
  if (s.obj O.ACCEPTED_0).testBit 4 then s.msix 4 else s

/-- The refusal that no object's own rule gives: in SCRAPPED every write is DENIED (R487), and until boot is complete only the
ranges of R450 are served. -/
def State.gate (s : State) (k : Nat) (write : Bool) : Nat :=
  if write && s.obj O.LC_STATE = 5 then eDenied
  else if s.obj O.BOOT_STATE ≠ 6 && ! bootRange k then eMode
  else eNone

/-- The dictionary engine has no clock (R179, R421). -/
def State.engineStopped (s : State) : Bool := s.clk.sysStopped

/-- A write by a master of value `v` to object `k`, whose effect is `f`. A refused write changes nothing but its record and
what `f` names beside its code: the ORDER_RESULT of an undefined RUN_CMD (R373) and the nonce of an LC_REQ (R479). While the
engine has no clock a PCIe write is held, up to 64 of them, and is discarded and counted beyond (R380); another master's
access is not served. -/
def State.access (s : State) (m : Master) (k v : Nat) (f : State → State × Nat) : State × Nat :=
  if s.engineStopped then
    match m with
    | .pcie =>
      if s.run.heldWrites.length < 64 then ({ s with run := { s.run with heldWrites := s.run.heldWrites ++ [.obj k v] } }, eNone)
      else (s.bump O.CW_DROPPED 1, eNone)
    | _ => (s, eMode)
  else
    let g := s.gate k true
    if g ≠ eNone then (s.refuse m k g, g)
    else
      let r := f s
      if r.2 = eNone then r else (r.1.refuse m k r.2, r.2)

/-- A read that meets the stopped engine: a host's waits for its completion (R380), another master's is not served. -/
def State.readStopped (s : State) (m : Master) (k : Nat) : State :=
  match m with
  | .pcie => { s with host := { s.host with waitReads := s.host.waitReads ++ [.obj k] } }
  | _ => s

/-- The outcome of a command that is one write. -/
def State.write (s : State) (m : Master) (k v : Nat) (f : State → State × Nat) : Out := .next (s.access m k v f).1

end Sys2Proof.Machine
end

