-- ==== Sys2Proof/Machine/Crypto.lean ====
section
/-!
DEFINITION. The cryptography of images, containers, firmware and life-cycle requests (R158, R159, R479, R481, R484): SHA-384 (FIPS 180-4),
ECDSA verification on P-384 (FIPS 186-5) and AES-256-GCM decryption (FIPS 197, NIST SP 800-38D).
-/

namespace Sys2Proof.Machine

/-! ### SHA-384 -/

/-- A number from its bytes, the first of them the most significant. -/
def beNat (l : List Byte) : Nat := l.foldl (fun n b => 256 * n + b.toNat) 0

/-- A number as `n` bytes, the most significant first. -/
def beBytes (n v : Nat) : List Byte := (leBytes n v).reverse

/-- The greatest number of 80 bits whose `k`-th power is at most `n`. -/
def rootOf (k n : Nat) : Nat := (List.range 80).reverse.foldl (fun r i => if (r + 2 ^ i) ^ k ≤ n then r + 2 ^ i else r) 0

/-- The first 80 primes. -/
def shaPrimes : List Nat := (List.range 410).filter fun n => 2 ≤ n && (List.range n).all fun d => d < 2 || n % d ≠ 0

/-- The round constants: the first 64 bits of the fractions of the primes' cube roots. -/
def shaRounds : List (BitVec 64) := shaPrimes.map fun p => BitVec.ofNat 64 (rootOf 3 (p * 2 ^ 192))

/-- The initial hash value of SHA-384: the first 64 bits of the fractions of the square roots of the ninth to the sixteenth prime. -/
def sha384Start : List (BitVec 64) := ((shaPrimes.drop 8).take 8).map fun p => BitVec.ofNat 64 (rootOf 2 (p * 2 ^ 128))

def shaSigma (a b c : Nat) (x : BitVec 64) : BitVec 64 := x.rotateRight a ^^^ x.rotateRight b ^^^ x.rotateRight c
def shaShift (a b c : Nat) (x : BitVec 64) : BitVec 64 := x.rotateRight a ^^^ x.rotateRight b ^^^ (x >>> c)

/-- The message schedule of a block of 16 words, the last word first. -/
def shaSchedule (w : List (BitVec 64)) : List (BitVec 64) :=
  (List.range 64).foldl (fun l _ =>
    let x (i : Nat) : BitVec 64 := l.getD (i - 1) 0
    (shaShift 19 61 6 (x 2) + x 7 + shaShift 1 8 7 (x 15) + x 16) :: l) w.reverse

/-- One round on the eight working variables. -/
def shaRound (v : List (BitVec 64)) (kw : BitVec 64) : List (BitVec 64) :=
  let x (i : Nat) : BitVec 64 := v.getD i 0
  let t1 := x 7 + shaSigma 14 18 41 (x 4) + ((x 4 &&& x 5) ^^^ (~~~(x 4) &&& x 6)) + kw
  let t2 := shaSigma 28 34 39 (x 0) + ((x 0 &&& x 1) ^^^ (x 0 &&& x 2) ^^^ (x 1 &&& x 2))
  [t1 + t2, x 0, x 1, x 2, x 3 + t1, x 4, x 5, x 6]

/-- A hash value with one 128-byte block taken in. -/
def shaBlock (h : List (BitVec 64)) (block : List Byte) : List (BitVec 64) :=
  let w := (List.range 16).map fun i => BitVec.ofNat 64 (beNat ((block.drop (8 * i)).take 8))
  List.zipWith (· + ·) h ((List.zipWith (· + ·) shaRounds (shaSchedule w).reverse).foldl shaRound h)

/-- A message padded to whole blocks. -/
def shaPadded (m : List Byte) : List Byte :=
  m ++ [0x80] ++ List.replicate ((239 - m.length % 128) % 128) 0 ++ beBytes 16 (8 * m.length)

/-- SHA-384: 48 bytes. -/
def sha384 (m : List Byte) : List Byte :=
  let p := shaPadded m
  let h := (List.range (p.length / 128)).foldl (fun h i => shaBlock h ((p.drop (128 * i)).take 128)) sha384Start
  (h.take 6).flatMap fun x => beBytes 8 x.toNat

/-! ### P-384 -/

def p384Prime : Nat := 2 ^ 384 - 2 ^ 128 - 2 ^ 96 + 2 ^ 32 - 1
def p384B : Nat := 0xb3312fa7e23ee7e4988e056be3f82d19181d9c6efe8141120314088f5013875ac656398d8a2ed19d2a85c8edd3ec2aef
def p384Order : Nat := 0xffffffffffffffffffffffffffffffffffffffffffffffffc7634d81f4372ddf581a0db248b0a77aecec196accc52973
def p384Base : Nat × Nat :=
  (0xaa87ca22be8b05378eb1c71ef320ad746e1d3b628ba79b9859f741e082542a385502f25dbf55296c3a545e3872760ab7,
   0x3617de4a96262c6f5d9e98bf9292dc29f8f41dbd289a147ce9da3113b5f0b8c00a60b1ce1d7e819d7a431d7c90ea0e5f)

/-- The inverse of `x` modulo a prime of at most 384 bits, by Fermat. -/
def invMod (m x : Nat) : Nat :=
  (List.range 384).reverse.foldl (fun r i =>
    let r := r * r % m
    if (m - 2).testBit i then r * x % m else r) 1

/-- The sum of two points; none is the point at infinity. -/
def pointAdd (a b : Option (Nat × Nat)) : Option (Nat × Nat) :=
  let p := p384Prime
  match a, b with
  | none, q => q
  | q, none => q
  | some (x, y), some (u, v) =>
    if x = u && (y + v) % p = 0 then none
    else
      let s := if x = u then (3 * x * x + p - 3) * invMod p (2 * y % p) % p else (v + p - y) * invMod p ((u + p - x) % p) % p
      let z := (s * s + 2 * p - x - u) % p
      some (z, (s * (x + p - z) + p - y) % p)

/-- A multiple of a point. -/
def pointMul (k : Nat) (a : Option (Nat × Nat)) : Option (Nat × Nat) :=
  (List.range 384).reverse.foldl (fun r i =>
    let r := pointAdd r r
    if k.testBit i then pointAdd r a else r) none

/-- A pair of 48-byte little-endian numbers (R479, R481). -/
def pair384 (l : List Byte) : Nat × Nat := (leNat (l.take 48), leNat ((l.drop 48).take 48))

/-- A 96-byte public key lies on P-384 (R481). -/
def onCurve (key : List Byte) : Bool :=
  let q := pair384 key
  let p := p384Prime
  q.1 < p && q.2 < p && q.2 * q.2 % p == (q.1 ^ 3 + (p - 3) * q.1 + p384B) % p

/-- An ECDSA P-384 signature over the SHA-384 digest of a message verifies (R159, R479, R484). -/
def ecdsaOk (key message sig : List Byte) : Bool :=
  let rs := pair384 sig
  let n := p384Order
  let inverse := invMod n rs.2
  let e := beNat (sha384 message)
  1 ≤ rs.1 && rs.1 < n && 1 ≤ rs.2 && rs.2 < n &&
    match pointAdd (pointMul (e * inverse % n) (some p384Base)) (pointMul (rs.1 * inverse % n) (some (pair384 key))) with
    | none => false
    | some q => q.1 % n == rs.1

/-! ### AES-256 -/

/-- A product in the field of AES. -/
def gf8 (a b : Nat) : Nat :=
  ((List.range 8).foldl (fun (r : Nat × Nat) i =>
    (if b.testBit i then r.1 ^^^ r.2 else r.1, if r.2 ≥ 128 then (2 * r.2 ^^^ 0x11B) else 2 * r.2)) (0, a)).1

/-- The S-box: the inverse (0 for 0), then the affine map. -/
def aesSub (b : Byte) : Byte :=
  let x := b.toNat
  let inv := (List.range 254).foldl (fun r _ => gf8 r x) 1
  let v := BitVec.ofNat 8 inv
  v ^^^ v.rotateLeft 1 ^^^ v.rotateLeft 2 ^^^ v.rotateLeft 3 ^^^ v.rotateLeft 4 ^^^ 0x63

/-- The 60 words of the key schedule, the last first. -/
def aesSchedule (key : List Byte) : List (List Byte) :=
  let start := ((List.range 8).map fun i => (key.drop (4 * i)).take 4).reverse
  (List.range 52).foldl (fun l j =>
    let i := j + 8
    let t := l.headD []
    let t :=
      if i % 8 = 0 then List.zipWith (· ^^^ ·) ((t.drop 1 ++ t.take 1).map aesSub) [BitVec.ofNat 8 (2 ^ (i / 8 - 1)), 0, 0, 0]
      else if i % 8 = 4 then t.map aesSub
      else t
    List.zipWith (· ^^^ ·) (l.getD 7 []) t :: l) start

/-- ShiftRows: byte `4c + r` comes from column `c + r`. -/
def aesShift (b : List Byte) : List Byte := (List.range 16).map fun i => b.getD ((i + 4 * (i % 4)) % 16) 0

/-- MixColumns. -/
def aesMix (b : List Byte) : List Byte :=
  (List.range 16).map fun i =>
    let x (r : Nat) : Nat := (b.getD (i / 4 * 4 + (i + r) % 4) 0).toNat
    BitVec.ofNat 8 (gf8 (x 0) 2 ^^^ gf8 (x 1) 3 ^^^ x 2 ^^^ x 3)

/-- One block encrypted under a key schedule. -/
def aesEncrypt (sched : List (List Byte)) (b : List Byte) : List Byte :=
  let words := sched.reverse
  let roundKey (r : Nat) : List Byte := ((words.drop (4 * r)).take 4).flatten
  let add (r : Nat) (b : List Byte) : List Byte := List.zipWith (· ^^^ ·) b (roundKey r)
  let b := (List.range 13).foldl (fun b r => add (r + 1) (aesMix (aesShift (b.map aesSub)))) (add 0 b)
  add 14 (aesShift (b.map aesSub))

/-! ### GCM -/

/-- A product in the field of GCM, bit 127 the coefficient of 1. -/
def gf128 (x y : Nat) : Nat :=
  ((List.range 128).foldl (fun (r : Nat × Nat) i =>
    (if x.testBit (127 - i) then r.1 ^^^ r.2 else r.1, if r.2.testBit 0 then r.2 / 2 ^^^ 0xE1 * 2 ^ 120 else r.2 / 2)) (0, y)).1

/-- Bytes padded with zeros to whole blocks. -/
def padded16 (l : List Byte) : List Byte := l ++ List.replicate ((16 - l.length % 16) % 16) 0

/-- GHASH of whole blocks. -/
def ghash (h : Nat) (l : List Byte) : Nat :=
  (List.range (l.length / 16)).foldl (fun y i => gf128 (y ^^^ beNat ((l.drop (16 * i)).take 16)) h) 0

/-- AES-256-GCM decryption with a 96-bit IV and a 128-bit tag (R159): the plaintext, or none on a tag mismatch. -/
def gcmOpen (key iv aad cipher tag : List Byte) : Option (List Byte) :=
  let sched := aesSchedule key
  let block (n : Nat) : List Byte := aesEncrypt sched (iv ++ beBytes 4 n)
  let h := beNat (aesEncrypt sched (List.replicate 16 0))
  let s := ghash h (padded16 aad ++ padded16 cipher ++ beBytes 8 (8 * aad.length) ++ beBytes 8 (8 * cipher.length))
  if beBytes 16 (s ^^^ beNat (block 1)) = tag then
    some (List.zipWith (· ^^^ ·) cipher ((List.range ((cipher.length + 15) / 16)).flatMap fun i => block (i + 2)))
  else none

end Sys2Proof.Machine
end

