-- ==== Sys2Proof/Machine/Fabric.lean ====
section
/-!
DEFINITION. The edge fabric (16): regional clocks, pads and safe states, the exchange lanes, user flash, and
fabric loads with the consistency check of Table 16-6. What the logic of a container does is outside the spec.
-/

namespace Sys2Proof.Machine

/-! ### Cells (R346) -/

/-- A cell in WHOLE mode: OA and OB from the table and the inputs I5–I0 as one number. -/
def cellWhole (t i : Nat) : Bool × Bool := (t.testBit (i % 64), false)

/-- A cell in SPLIT mode. -/
def cellSplit (t i : Nat) : Bool × Bool := (t.testBit (i % 32), t.testBit (32 + i % 32))

/-! ### Entries (Tables 16-1, 16-2) -/

def pinPad (e : Nat) : Nat := field e 55 9
def pinMode (e : Nat) : Nat := field e 52 3
def pinSafe (e : Nat) : Nat := field e 50 2
def pinOreg (e : Nat) : Bool := e.testBit 48
def pinDdr (e : Nat) : Bool := e.testBit 47
def pinDelay (e : Nat) : Nat := field e 38 9
def pinDyn (e : Nat) : Bool := e.testBit 37
def pinRegion (e : Nat) : Nat := field e 33 4
def pinTie (e : Nat) : Nat := field e 29 4
def pinHard (e : Nat) : Nat := field e 17 8

def regSrcA (e : Nat) : Nat := field e 58 6
def regSrcB (e : Nat) : Nat := field e 52 6
def regDiv (e : Nat) : Nat := field e 44 8 + 1
def regByLogic (e : Nat) : Bool := e.testBit 43
def regSelInit (e : Nat) : Bool := e.testBit 42
def regLossWindow (e : Nat) : Nat := field e 26 16
def regEnable (e : Nat) : Bool := e.testBit 25

def State.pad (s : State) (p : Nat) : Pad := tget (fun _ => Pad.blank) s.fabric.pads p
def State.setPad (s : State) (p : Nat) (v : Pad) : State :=
  { s with fabric := { s.fabric with pads := tput (fun _ => Pad.blank) s.fabric.pads p v } }
def State.region (s : State) (r : Nat) : Region := tget (fun _ => Region.blank) s.fabric.regions r
def State.setRegion (s : State) (r : Nat) (v : Region) : State :=
  { s with fabric := { s.fabric with regions := tput (fun _ => Region.blank) s.fabric.regions r v } }

/-! ### Safe states (R355–R357) -/

/-- The causes of Table 16-3 that apply to a pad, as bits. -/
def State.padCauses (s : State) (e : Nat) : Nat :=
  (if s.obj O.FAB_STATE ≠ 2 then 1 else 0)
    + (if s.obj O.CLOCK_WAIT = 1 then 2 else 0)
    + (if s.objBit O.CLK_LOST (pinRegion e) then 4 else 0)
    + (if 1 ≤ pinTie e && pinTie e ≤ 8 && s.fabric.tieSafe.testBit (pinTie e - 1) then 8 else 0)
    + (if s.obj O.SAFE_FORCE = 1 then 16 else 0)
    + (if s.fabric.cfgFault then 32 else 0)

/-- A pad entry with an output driver: output, bidirectional or hard block. -/
def pinDrives (e : Nat) : Bool := pinMode e == 2 || pinMode e == 3 || pinMode e == 4

/-- SAFE_CAUSES: the causes that apply to at least one pad. Causes 0, 1, 4 and 5 apply to every pad, used or not. -/
def State.safeCauses (s : State) : Nat :=
  s.fabric.pads.foldl (fun n e => n ||| s.padCauses e.2.entry) (s.padCauses 0 &&& 0x33)

/-- SAFE_CAUSES kept in step with the causes. -/
def State.fabObjs (s : State) : State := s.setObj O.SAFE_CAUSES s.safeCauses

/-- The level and output enable of a safe state, given those the pad had when the first cause began (R356). -/
def safeLevel (safe : Nat) (level enable : Bool) : Bool × Bool :=
  match safe with
  | 0 => (level, enable)
  | 1 => (false, true)
  | 2 => (true, true)
  | _ => (level, false)

/-- SAFE_STATE_BEGIN (R356): every output or bidirectional pad to which a cause applies takes its safe state. `levels` and
`enables` are what the pads' logic drives as the first cause begins. -/
def execSafeStateBegin (levels enables : BitVec 384) (s : State) : Out :=
  let pads := s.fabric.pads.map fun e =>
    let p := e.2
    if pinDrives p.entry && ! p.forced && s.padCauses p.entry != 0 then
      let v := safeLevel (pinSafe p.entry) (levels.getLsbD e.1) (enables.getLsbD e.1)
      (e.1, { p with level := v.1, enable := v.2, forced := true })
    else e
  .next (State.fabObjs { s with fabric := { s.fabric with pads := pads } })

/-- The output enable that a pad shows: an I²C signal drives open-drain (R355). -/
def pinDriven (e : Nat) (level enable : Bool) : Bool := enable && ! (pinMode e == 4 && pinHard e / 8 == 8 && level)

/-- PAD_RELEASE (R357): at the second rising edge of its region's clock a pad to which no cause applies leaves its safe state and
shows what its logic drives. -/
def execPadRelease (pad : Fin 384) (level enable : Bool) (s : State) : Out :=
  let p := s.pad pad
  if p.forced && s.padCauses p.entry = 0 then
    .next (State.fabObjs (s.setPad pad { p with level := level, enable := pinDriven p.entry level enable, forced := false }))
  else .next s

/-- SAFE_FORCE (R356): a write of 0x3800.0E. -/
def State.writeSafeForce (s : State) (v : Nat) : State × Nat :=
  if v > 1 then (s, eRange) else (State.fabObjs (s.setObj O.SAFE_FORCE v), eNone)

def execSafeForce (m : Master) (v : Byte) (s : State) : Out :=
  s.write m O.SAFE_FORCE v.toNat fun s => s.writeSafeForce v.toNat

/-! ### Regional clocks (R351, R352) -/

/-- REGION_SELECT_CHANGE (R351): fabric logic changes the select of a region. `alive`: the current source still gives edges. -/
def execRegionSelectChange (region : RegionIx) (sel alive : Bool) (s : State) : Out :=
  let r := s.region region
  if regEnable r.entry && regByLogic r.entry then
    match r.switching with
    | some _ => .next (s.setRegion region { r with wanted := some sel })
    | none =>
      if sel = r.sel then .next s
      else if alive then .next (s.setRegion region { r with sel := sel, count := 0 })
      else .next (s.setRegion region { r with switching := some sel })
  else .next s

/-- REGION_FORCED_SWITCH (R351): 16 cycles of the new source without an edge of the current one. A select change that has arrived meanwhile
is then acted on; the source that it leaves gives edges. -/
def execRegionForcedSwitch (region : RegionIx) (s : State) : Out :=
  let r := s.region region
  match r.switching with
  | none => .next s
  | some sel =>
    .next ((s.setRegion region { r with sel := r.wanted.getD sel, switching := none, wanted := none, count := 0 }).setObjBit
      O.CLK_FORCED region true)

/-- REGION_LOSS (R352): the loss window has passed without a rising edge. -/
def execRegionLoss (region : RegionIx) (s : State) : Out :=
  let r := s.region region
  if regEnable r.entry && regLossWindow r.entry ≠ 0 then .next (State.fabObjs (s.setObjBit O.CLK_LOST region true)) else .next s

/-- REGION_LOSS_END (R352): the next rising edge of a lost region. -/
def execRegionLossEnd (region : RegionIx) (s : State) : Out :=
  .next (State.fabObjs (s.setObjBit O.CLK_LOST region false))

/-- REGION_FREQ_MEASURE (R370). -/
def execRegionFreqMeasure (region : RegionIx) (khz : BitVec 32) (s : State) : Out :=
  .next (s.setObj (O.REGION_FREQ region) khz.toNat)

/-- RO_FREQ_MEASURE (R364): no measurement while the base clock is stopped. -/
def execRoFreqMeasure (osc : Fin 8) (khz : BitVec 32) (s : State) : Out :=
  if s.obj O.CLOCK_WAIT = 1 then .next s else .next (s.setObj (O.RO_FREQ osc) khz.toNat)

/-- TAP_FS_MEASURE (R354). -/
def execTapFsMeasure (bank : Fin 8) (fs : BitVec 16) (s : State) : Out := .next (s.setObj (O.TAP_FS bank) fs.toNat)

/-- DELAY_TAP_STEP (R354): one tap up or down, saturating at 0 and 511. -/
def execDelayTapStep (pad : Fin 384) (up : Bool) (s : State) : Out :=
  let p := s.pad pad
  if pinDyn p.entry && pinMode p.entry ≠ 0 then
    .next (s.setPad pad { p with tap := if up then min 511 (p.tap + 1) else p.tap - 1 })
  else .next s

/-! ### Exchange lanes (R358) -/

/-- A lane's mode: POSTED or SAMPLED. -/
def State.lanePosted (s : State) (lane : Nat) : Bool :=
  if lane < 64 then s.objBit O.FIN_LANE_MODE_LO lane else s.objBit O.FIN_LANE_MODE_HI (lane - 64)

/-- FIN_LANE_POST (R358): fabric logic drives a lane's boundary and asserts POST for one base cycle. In a POSTED lane the value
becomes pending; an unconfigured fabric drives 0. -/
def execFinLanePost (lane : Fin 128) (value : BitVec 64) (s : State) : Out :=
  if s.obj O.FAB_STATE ≠ 2 || s.obj O.CLOCK_WAIT = 1 then .next s
  else
    let s := { s with fabric := { s.fabric with fin := mputNat s.fabric.fin (8 * lane) 8 value.toNat } }
    if s.lanePosted lane then
      let again := (tget (fun _ => none) s.fabric.pend lane).isSome
      let s := { s with fabric := { s.fabric with pend := tput (fun _ => none) s.fabric.pend lane (some value.toNat) } }
      .next (if again then s.bump O.FIN_OVERWRITES 1 else s)
    else .next s

/-! ### User flash (R363) -/

/-- A byte of the flash; an unlisted byte is erased. -/
def flashByte (f : Tab Byte) (a : Nat) : Byte := tget (fun _ => 0xFF) f a

/-- Bytes of the flash. -/
def flashRead (f : Tab Byte) (a n : Nat) : List Byte := (List.range n).map fun i => flashByte f (a + i)

/-- Bytes programmed into the flash. -/
def flashWrite (f : Tab Byte) (a : Nat) : List Byte → Tab Byte
  | [] => f
  | b :: bs => flashWrite (tput (fun _ => 0xFF) f a b) (a + 1) bs

/-- A range of the flash erased. -/
def flashErase (f : Tab Byte) (lo n : Nat) : Tab Byte := f.filter fun e => e.1 < lo || lo + n ≤ e.1

/-- USER_FLASH_ACCESS (R363): fabric logic starts a read, program or erase in 0x40_0000–0x7F_FFFF. -/
def execUserFlashAccess (op : UserFlash) (addr : BitVec 23) (s : State) : Out :=
  let a := addr.toNat
  if a < 0x400000 then .fault (.noSuchFlashAddress a)
  else if s.obj O.FAB_STATE ≠ 2 || s.fabric.flashOp.isSome then .next s
  else
    let reply (ok : Bool) (v : Nat) : Out :=
      .next ((State.emit { s with fabric := { s.fabric with flashReply := some (ok, v) } } (.fabric 3 ok.toNat v)))
    let start (o : UserFlash) : Out := .next { s with fabric := { s.fabric with flashOp := some (o, a) } }
    match op with
    | .read => start .read
    | .program data => if s.obj O.FLASH_USER_WP = 1 then reply false 0 else start (.program data)
    | .erase => if s.obj O.FLASH_USER_WP = 1 then reply false 0 else start .erase

/-- USER_FLASH_DONE (R363): the access in progress completes, unless a management access suspends it. -/
def execUserFlashDone (s : State) : Out :=
  if s.obj O.FL_STATE = 1 then .next s
  else match s.fabric.flashOp with
  | none => .next s
  | some (op, a) =>
    let done (s : State) (v : Nat) : Out :=
      .next (State.emit { s with fabric := { s.fabric with flashOp := none, flashReply := some (true, v) } } (.fabric 3 1 v))
    match op with
    | .read => done s (leNat (flashRead s.flash (a / 4 * 4) 4))
    | .program data => done { s with flash := flashWrite s.flash (a / 256 * 256) (data.take 256) } 0
    | .erase => done { s with flash := flashErase s.flash (a / 4096 * 4096) 4096 } 0

/-- CONFIG_SCRUB (R367). -/
def execConfigScrub (check : WordCheck) (frame : BitVec 32) (s : State) : Out :=
  if s.obj O.FAB_STATE ≠ 2 then .next s
  else match check with
  | .clean => .next s
  | .corrected => .next (s.bump O.CFG_CORRECTED 1)
  | .uncorrectable =>
    .next (State.fabObjs (State.raiseFault { s with fabric := { s.fabric with cfgFault := true } } 0x0C FaultLoc.hub frame.toNat 0 0))

/-! ### Containers (R365, Table 16-5) -/

/-- A little-endian field of a byte string. -/
def bytesNat (b : List Byte) (off n : Nat) : Nat := leNat ((b.drop off).take n)

/-- A section of a container: kind, CRC, offset, size. -/
structure FabSection where
  kind : Nat
  crc : Nat
  off : Nat
  size : Nat
  reserved : Nat
deriving DecidableEq, Repr

/-- The section table. -/
def fabSections (b : List Byte) : List FabSection :=
  (List.range (bytesNat b 6 2)).map fun i =>
    let o := 0x100 + 16 * i
    ⟨bytesNat b o 2, bytesNat b (o + 4) 4, bytesNat b (o + 8) 4, bytesNat b (o + 12) 4, bytesNat b (o + 2) 2⟩

/-- The bytes of the first section of a kind. -/
def fabBody (b : List Byte) (kind : Nat) : List Byte :=
  match (fabSections b).find? fun x => x.kind == kind with
  | none => []
  | some x => (b.drop x.off).take x.size

/-- The number of the first section of a kind. -/
def fabIndex (b : List Byte) (kind : Nat) : Nat := (fabSections b).findIdx fun x => x.kind == kind

/-- `n` 8-byte entries from an offset. -/
def entries8 (b : List Byte) (off n : Nat) : List Nat := (List.range n).map fun i => bytesNat b (off + 8 * i) 8

/-- The pin entries of a container. -/
def fabPins (b : List Byte) : List Nat := let p := fabBody b 3; entries8 p 4 (bytesNat p 0 4)
/-- The region entries. -/
def fabClocks (b : List Byte) : List Nat := entries8 (fabBody b 5) 0 16
/-- The driver records: (resource, source). -/
def fabDrivers (b : List Byte) : List (Nat × Nat) :=
  let p := fabBody b 2
  (entries8 p 4 (bytesNat p 0 4)).map fun e => (e / 2 ^ 32, e % 2 ^ 32)
/-- The bank declarations. -/
def fabBanks (b : List Byte) : List Nat := (List.range 8).map fun i => bytesNat (fabBody b 4) (2 * i) 2 % 4

/-- The bytes with [lo, lo + n) taken as zero. -/
def zeroed (b : List Byte) (lo n : Nat) : List Byte := b.take lo ++ List.replicate (min n (b.length - lo)) 0 ++ b.drop (lo + n)

/-- The first element of a list that fails a test, with its place. -/
def firstBadIx {α : Type} (l : List α) (bad : Nat → α → Bool) : Option (Nat × α) :=
  (l.zipIdx.find? fun e => bad e.2 e.1).map fun e => (e.2, e.1)

/-- The sections are known, present once, aligned, apart, within the container, with counts that agree with sizes (0x0009). -/
def fabSectionFault (b : List Byte) : Option Nat :=
  let l := fabSections b
  let known (k : Nat) : Bool := (1 ≤ k && k ≤ 5) || k == 0xF0
  let total := bytesNat b 0x10 8
  let overlap (i : Nat) (x : FabSection) : Bool :=
    l.zipIdx.any fun y => y.2 < i && y.1.off < x.off + x.size && x.off < y.1.off + y.1.size
  let size (x : FabSection) : Bool :=
    let n := bytesNat b x.off 4
    match x.kind with
    | 2 => x.size != 4 + 8 * n
    | 3 => x.size != 4 + 8 * n
    | 4 => x.size != 16
    | 5 => x.size != 128
    | _ => false
  match firstBadIx l fun i x =>
      ! known x.kind || x.off % 64 != 0 || x.off < 0x100 + 16 * l.length || x.off + x.size > total || overlap i x || size x
        || (x.kind != 0xF0 && l.zipIdx.any fun y => y.2 < i && y.1.kind == x.kind) with
  | some (i, _) => some i
  | none => if [1, 2, 3, 4, 5].all fun k => l.any fun x => x.kind == k then none else some 0xFFFF

/-- A HARD signal number of Table 16-4. -/
def hardOk (h : Nat) : Bool := h < 0x20 || (0x20 ≤ h && h < 0x20 + 28) || (0x40 ≤ h && h < 0x48)

/-- A pin entry that Table 16-6 refuses with PIN. -/
def pinBad (l : List Nat) (i e : Nat) : Bool :=
  pinPad e > 383 || (l.zipIdx.any fun y => y.2 < i && pinPad y.1 == pinPad e) || pinMode e > 4 || pinTie e > 8
    || (pinMode e == 4 && ! hardOk (pinHard e)) || (pinMode e != 4 && pinHard e != 0)
    || (pinMode e == 1 && (pinDdr e || pinOreg e))

/-- The declared voltage of a bank in mV. -/
def bankMv (d : Nat) : Nat := if d = 0 then 1200 else if d = 1 then 1500 else 1800

/-- A bank that Table 16-6 refuses with BANK. -/
def bankBad (pins banks vddio : List Nat) (b : Nat) : Bool :=
  let d := banks.getD b 3
  let used := pins.any fun e => pinMode e != 0 && pinPad e / 48 == b
  let mv := vddio.getD b 0
  if d = 3 then used else mv * 20 < bankMv d * 19 || mv * 20 > bankMv d * 21

/-- A legal clock source number. -/
def sourceOk (v : Nat) : Bool := v ≤ 24 || (32 ≤ v && v ≤ 47)

/-- The regions that region `r` depends on, followed through `n` links, meet `r` again. -/
def regionLoop (l : List Nat) (r : Nat) : Nat → List Nat → Bool
  | 0, _ => false
  | n + 1, front =>
    let next := front.flatMap fun x =>
      [regSrcA (l.getD x 0), regSrcB (l.getD x 0)].filterMap fun v => if 32 ≤ v && v ≤ 47 then some (v - 32) else none
    next.contains r || regionLoop l r n next.eraseDups

/-- A region that Table 16-6 refuses with CLOCK: reserved source, ring oscillator undivided, a loop, a clock pin that is no input. -/
def clockBad (pins l : List Nat) (r : Nat) : Bool :=
  let e := l.getD r 0
  let src := [regSrcA e, regSrcB e]
  let pinOk (v : Nat) : Bool :=
    let j := v - 9
    let pad := 48 * (j / 2) + j % 2
    pins.any fun e => pinPad e == pad && pinMode e == 1
  (src.any fun v => ! sourceOk v || (1 ≤ v && v ≤ 8 && regDiv e == 1) || (9 ≤ v && v ≤ 24 && ! pinOk v)) || regionLoop l r 16 [r]

/-- The consistency check (R366, Table 16-6): code and detail of the first failure in table order, 0 on PASS. `inImage`: the
container is an image's FABRIC section. `policy` and `key` are the life-cycle's demands on a stand-alone container. -/
def fabCheck (b : List Byte) (fabId fabBytes : Nat) (inImage policyBad : Bool) (key : List Byte) (vddio : List Nat) : Nat × Nat :=
  let flags := bytesNat b 0x0C 4
  let signed := flags.testBit 0
  let sec (k r : Nat) : Nat := fabIndex b k * 2 ^ 48 + r
  let total := bytesNat b 0x10 8
  let pins := fabPins b
  let banks := fabBanks b
  let clocks := fabClocks b
  let drivers := fabDrivers b
  let conflict := firstBadIx drivers fun i d => drivers.zipIdx.any fun y => y.2 < i && y.1.1 == d.1 && y.1.2 != d.2
  let claimed := pins.find? fun e =>
    pinMode e == 4 && drivers.any fun d => d.1 == Config.padOutput (pinPad e) || d.1 == Config.padEnable (pinPad e)
  let hardTwice := firstBadIx pins fun i e =>
    pinMode e == 4 && pins.zipIdx.any fun y => y.2 < i && pinMode y.1 == 4 && pinHard y.1 == pinHard e
  if ! inImage && (fabBytes ≠ total || fabBytes > 2 ^ 26) then (0x0003, 0)
  else if bytesNat b 0 4 ≠ 0x46425354 || bytesNat b 4 2 ≠ 1 || bytesNat b 6 2 < 5 || bytesNat b 6 2 > 16 || flags ≥ 2
      || (! inImage && ! signed && bytesNat b 0x1C 4 ≠ 0) || (b.drop 0x80 |>.take 128).any (· != 0)
      || (fabSections b).any (fun x => x.reserved != 0) then (0x0004, 0)
  else if crc32 (zeroed (zeroed (b.take 256) 0x18 4) 0x20 96) ≠ bytesNat b 0x18 4 then (0x0005, 0)
  else if bytesNat b 0x08 4 ≠ fabId then (0x0006, 0)
  else if ! inImage && policyBad then (0x0007, 0)
  else if ! inImage && signed && ! ecdsaOk key (zeroed b 0x20 96) ((b.drop 0x20).take 96) then (0x0008, 0)
  else match fabSectionFault b with
  | some i => (0x0009, i * 2 ^ 48)
  | none =>
    match firstBadIx (fabSections b) fun _ x => crc32 ((b.drop x.off).take x.size) != x.crc with
    | some (i, _) => (0x000A, i * 2 ^ 48)
    | none =>
      match Config.fabFrameFault (fabBody b 1) with
      | some r => (0x000B, sec 1 r)
      | none =>
        match conflict with
        | some (_, d) => (0x000C, sec 2 d.1)
        | none =>
          match claimed.orElse fun _ => hardTwice.map (·.2) with
          | some e => (0x000C, sec 3 (pinPad e))
          | none =>
            match Config.fabDriverFault (fabBody b 1) (fabBody b 2) with
            | some r => (0x000D, sec 1 r)
            | none =>
              match firstBadIx pins (pinBad pins) with
              | some (_, e) => (0x000E, sec 3 (pinPad e))
              | none =>
                match (List.range 8).find? (bankBad pins banks vddio) with
                | some k => (0x000F, sec 4 k)
                | none =>
                  match (List.range 16).find? (clockBad pins clocks) with
                  | some r => (0x0010, sec 5 r)
                  | none =>
                    match pins.find? fun e => pinMode e != 0 && ! regEnable (clocks.getD (pinRegion e) 0) with
                    | some e => (0x0010, sec 3 (pinPad e))
                    | none => (0, 0)

/-! ### Fabric loads (R368, R369) -/

/-- The fabric becomes UNCONFIGURED: its pads, lanes and regions are as an empty configuration leaves them. -/
def State.fabClear (s : State) : State :=
  State.fabObjs (State.setObjs { s with fabric := { s.fabric with
    pads := [], regions := [], fin := [], pend := [], cfgFault := false, flashOp := none, conf := [], flops := [], ram := [], ramOut := [] } } [(O.FAB_STATE, 0), (O.CLK_LOST, 0)])

/-- The write of a container has completed (R347, R368): flip-flops at INIT, block RAM at its contents, pads, regions and boundary start as configured. Pads stay in their safe
states until they are released (R357). -/
def State.fabConfigure (s : State) (b : List Byte) : State :=
  let pads := (fabPins b).foldl (fun t e =>
    if pinMode e = 0 then t else
      let v := safeLevel (pinSafe e) false false
      tput (fun _ => Pad.blank) t (pinPad e) ⟨e, v.1, v.2, pinDrives e, pinDelay e⟩) []
  let regions := (fabClocks b).zipIdx.foldl (fun t e => tput (fun _ => Region.blank) t e.2 ⟨e.1, regSelInit e.1, none, none, 0⟩) []
  let s := { s with fabric := { s.fabric with
    pads := pads, regions := regions, cfgFault := false, conf := fabBody b 1, flops := [], ram := [], ramOut := [] } }
  State.fabObjs (s.setObjs [(O.FAB_STATE, 2), (O.FAB_HDR_CRC, bytesNat b 0x18 4), (O.CLK_LOST, 0)])

/-- STANDBY, READY and HOLD. -/
def State.fabModes (s : State) : Bool := s.mode == mStandby || s.mode == mReady || s.mode == mHold

/-- FAB_LOAD_CMD ← 1 (R368): fetch begins; outside STANDBY, READY and HOLD the load is refused with FAB_CHECK MODE. -/
def State.fabLoadOrder (s : State) : State × Nat :=
  if s.fabric.phase ≠ 0 then (s, eMode)
  else if s.fabModes then ({ s with fabric := { s.fabric with phase := 1, fetched := [] } }, eNone)
  else ((s.setObjs [(O.FAB_RESULT, 2), (O.FAB_CHECK, 1), (O.FAB_CHECK_DETAIL, 0)]).msix 3, eNone)

/-- FAB_LOAD_CMD ← 2 (R368). -/
def State.fabAbortOrder (s : State) : State × Nat :=
  if s.fabric.phase = 0 then (s.setObj O.FAB_ABORT_RESULT 2, eNone)
  else
    let writing := s.fabric.phase = 3
    let s := { s with fabric := { s.fabric with phase := 0, fetched := [] } }
    let s := if writing then s.fabClear else s
    ((s.setObjs [(O.FAB_RESULT, 3), (O.FAB_ABORT_RESULT, 1)]).msix 3, eNone)

/-- FAB_LOAD_CMD ← 3 (R368). -/
def State.fabUnconfigOrder (s : State) : State × Nat :=
  if s.fabModes && s.fabric.phase ≠ 3 then (s.fabClear, eNone) else (s, eMode)

/-- FAB_LOAD_CMD_LOAD. -/
def execFabLoadCmdLoad (m : Master) (s : State) : Out := s.write m O.FAB_LOAD_CMD 1 State.fabLoadOrder
/-- FAB_LOAD_CMD_ABORT. -/
def execFabLoadCmdAbort (m : Master) (s : State) : Out := s.write m O.FAB_LOAD_CMD 2 State.fabAbortOrder
/-- FAB_LOAD_CMD_UNCONFIGURE. -/
def execFabLoadCmdUnconfigure (m : Master) (s : State) : Out := s.write m O.FAB_LOAD_CMD 3 State.fabUnconfigOrder

/-- A fabric load ends refused. -/
def State.fabRefuse (s : State) (code detail : Nat) : State :=
  State.msix (State.setObjs { s with fabric := { s.fabric with phase := 0, fetched := [] } }
    [(O.FAB_RESULT, 2), (O.FAB_CHECK, code), (O.FAB_CHECK_DETAIL, detail)]) 3

/-- FAB_FETCH_DONE (R368): the container has been fetched, or the fetch has ended in a PCIe error (none). -/
def execFabFetchDone (data : Option (List Byte)) (s : State) : Out :=
  if s.fabric.phase ≠ 1 then .next s
  else match data with
  | none => .next (s.fabRefuse 2 0)
  | some b => .next { s with fabric := { s.fabric with phase := 2, fetched := b } }

/-- A stand-alone container is refused by the life-cycle's policy (R475, R483). -/
def State.fabPolicyBad (s : State) (b : List Byte) : Bool :=
  let signed := (bytesNat b 0x0C 4).testBit 0
  let id := bytesNat b 0x1C 4
  let lc := s.obj O.LC_STATE
  lc == 0 || (lc == 3 && ! signed) || (lc == 2 && s.obj O.REQUIRE_SIGNED == 1 && ! signed)
    || (signed && ! (1 ≤ id && id ≤ 8 && (s.obj O.SIG_KEYS).testBit (id - 1)))

/-- FAB_CHECK_DONE (R366): the check of the fetched container; `vddio` are the measured bank voltages. -/
def execFabCheckDone (vddio : List Nat) (s : State) : Out :=
  if s.fabric.phase ≠ 2 then .next s
  else
    let b := s.fabric.fetched
    let s := s.setObjs ((List.range 8).map fun i => (O.BANK_VDDIO i, vddio.getD i 0))
    let key := tget (fun _ => []) s.keys.signing (bytesNat b 0x1C 4)
    let r := fabCheck b (s.obj O.FAB_ID) (s.obj O.FAB_BYTES) false (s.fabPolicyBad b) key vddio
    if r.1 ≠ 0 then .next (s.fabRefuse r.1 r.2)
    else
      let s := s.setObjs [(O.FAB_CHECK, 0), (O.FAB_CHECK_DETAIL, 0), (O.FAB_STATE, 1)]
      .next (State.fabObjs { s with fabric := { s.fabric with phase := 3 } })

/-- FAB_WRITE_DONE (R368): the completion point. -/
def execFabWriteDone (s : State) : Out :=
  if s.fabric.phase ≠ 3 then .next s
  else
    let b := s.fabric.fetched
    let s := { s with fabric := { s.fabric with phase := 0, fetched := [], fin := [], pend := [] } }
    .next (((s.fabConfigure b).setObj O.FAB_RESULT 1).msix 3)

end Sys2Proof.Machine
end

