-- ==== Sys2Proof/Machine/Clocks.lean ====
section
/-!
DEFINITION. Clocks, power and ageing (19): CLOCK-WAIT, the glitch-free multiplexers, operating points, halvings, the margin plan.
-/

namespace Sys2Proof.Machine

/-! ### CLOCK-WAIT (R418–R423) -/

/-- CLOCK-WAIT entered: counted, bit 7 of ERROR_REGISTER set, and the design stands still (R179, R421). -/
def State.enterClockWait (s : State) (cause : Nat) : State :=
  if s.clockWait then s.setObj O.CW_LAST_CAUSE (if cause = 4 then s.obj O.CW_LAST_CAUSE else cause)
  else State.fabObjs (((s.setObjs [(O.CLOCK_WAIT, 1), (O.CW_LAST_CAUSE, cause)]).setObjBit O.ERROR_REGISTER 7 true).bump O.CW_ENTRIES 1)

/-- A reference is lost (R419–R421): 0 is SYS_REFCLK, whose loss gates every clock but those of PCIe; 1 is PCIE_REFCLK. A reference lost during
boot holds boot in CLOCKS (R448). -/
def State.loseReference (s : State) (ref : Nat) : State :=
  let s := s.setObjBit O.REF_STATE ref false
  let s := if 1 ≤ s.obj O.BOOT_STATE && s.obj O.BOOT_STATE ≤ 5 then s.setObj O.BOOT_STATE 1 else s
  let cause := match s.obj O.REF_STATE % 4 with | 0 => 3 | 1 => 2 | _ => 1
  let s := s.enterClockWait cause
  if ref = 0 then { s with clk := { s.clk with sysStopped := true } } else s

/-- A PLL becomes unstable (R419): an unstable root PLL gates every clock that derives from it. -/
def State.losePll (s : State) (pll : Nat) : State :=
  let s := (s.setObjBit O.PLL_STATE pll false).enterClockWait 4
  if pll = 0 then { s with clk := { s.clk with sysStopped := true } } else s

/-- REFERENCE_LOST (R418, R419): PCIE_REFCLK is not judged while PERST_N is low (R447). -/
def execReferenceLost (ref : Fin 2) (s : State) : Out :=
  if ref = 1 && ! s.host.perstHigh then .next s else .next (s.loseReference ref)

/-- PLL_UNSTABLE (R418, R419): PLL 0 root, 1 SerDes, 2 HBM, 3 PCIe. -/
def execPllUnstable (pll : Fin 4) (s : State) : Out := .next (s.losePll pll)

/-- HBM_PLL_GATE (R420): 2 µs after the loss of what it derives from, with every stack in self-refresh. -/
def execHbmPllGate (s : State) : Out :=
  if s.clockWait && (! s.objBit O.REF_STATE 0 || ! s.objBit O.PLL_STATE 2) then
    .next { s with clk := { s.clk with hbmGated := true }, hbm := { s.hbm with selfRefresh := true } }
  else .next s

/-- PLL_RELOCK_FAIL (R423): a PLL is not stable after three attempts of 1 ms. The module stays in CLOCK-WAIT. -/
def execPllRelockFail (pll : Fin 4) (s : State) : Out :=
  if s.clockWait then
    let s := s.setObjBit O.PLL_STATE pll false
    .next (s.raiseFault 0x0D FaultLoc.hub (s.obj O.CW_LAST_CAUSE + 256 * s.obj O.PLL_STATE) 0 0)
  else .next s

/-- A count within 2 % of nominal. -/
def inWindow (khz nominal : Nat) : Bool := 98 * nominal ≤ 100 * khz && 100 * khz ≤ 102 * nominal

/-- A reference as a judging window finds it: out of window it is lost. -/
def State.judgeReference (s : State) (ref : Nat) (good : Bool) : State :=
  if good then s.setObjBit O.REF_STATE ref true else if s.objBit O.REF_STATE ref then s.loseReference ref else s

/-- A PLL output as a judging window finds it: out of window it is unstable where its reference is in window. -/
def State.judgePll (s : State) (good : Nat) (pll : Nat) : State :=
  if good.testBit pll then s.setObjBit O.PLL_STATE pll true
  else if s.objBit O.PLL_STATE pll && s.objBit O.REF_STATE (if pll = 3 then 1 else 0) then s.losePll pll
  else s.setObjBit O.PLL_STATE pll false

/-- JUDGING_WINDOW_END (R418, R447): the references' frequencies and which PLL outputs are in window. -/
def execJudgingWindowEnd (sysKhz pcieKhz : BitVec 32) (plls : BitVec 4) (s : State) : Out :=
  let s := (s.setObj O.SYS_REF_FREQ sysKhz.toNat).judgeReference 0 (inWindow sysKhz.toNat 125000)
  let s := if s.host.perstHigh then
      (s.setObj O.PCIE_REF_FREQ pcieKhz.toNat).judgeReference 1 (inWindow pcieKhz.toNat 100000)
    else s
  .next ((if s.host.perstHigh then [0, 1, 2, 3] else [0, 1, 2]).foldl (fun s p => s.judgePll plls.toNat p) s)

/-- Every clock restarts in one root cycle (R423): what CLOCK-WAIT gated runs on from where it stood. -/
def State.clocksRestart (s : State) (us : Nat) : State :=
  let s := State.setObjs { s with clk := { s.clk with sysStopped := false, hbmGated := false },
                                  hbm := { s.hbm with selfRefresh := s.mode == mStandby } }
    [(O.CLOCK_WAIT, 0), (O.CW_LAST_LENGTH, us)]
  s.fabObjs

/-! ### Multiplexers and dividers (R424, R431) -/

/-- The divider of an operating point (Table 19-2). -/
def pointDiv (p : Nat) : Nat := [6, 5, 4, 3].getD p 4

/-- A new step divider asked of the STEP multiplexer. One asked for during a switch takes effect when that switch completes. -/
def State.askDiv (s : State) (d : Nat) : State :=
  if s.clk.stepMux.isNone then
    if s.obj O.STEP_DIV = d then s else State.setObj { s with clk := { s.clk with stepMux := some d } } O.STEP_DIV d
  else { s with clk := { s.clk with stepMux := some d } }

/-- The step divider that the point and the halving ask for. -/
def State.applyDiv (s : State) : State := s.askDiv (pointDiv (s.obj O.OP_CURRENT) * (if s.clk.halved then 2 else 1))

/-- The core clock halved or at full speed, by the CORE multiplexer. -/
def State.askCore (s : State) (half : Bool) : State :=
  if s.clk.coreMux.isNone then
    if s.clk.coreHalved = half then s else { s with clk := { s.clk with coreMux := some half, coreHalved := half } }
  else { s with clk := { s.clk with coreMux := some half } }

/-- STEP_MUX_SWITCH (R424): a switch of STEP (`core` false) or CORE completes; `forced`: the old path showed no edge within 16
cycles of the new one. A change asked for meanwhile begins. -/
def execStepMuxSwitch (core forced : Bool) (s : State) : Out :=
  if core then
    match s.clk.coreMux with
    | none => .next s
    | some h =>
      let s := if forced then s.setObjBit O.CLK_FORCED_HUB 1 true else s
      if h = s.clk.coreHalved then .next { s with clk := { s.clk with coreMux := none } }
      else .next { s with clk := { s.clk with coreHalved := h } }
  else
    match s.clk.stepMux with
    | none => .next s
    | some d =>
      let s := if forced then s.setObjBit O.CLK_FORCED_HUB 0 true else s
      if d = s.obj O.STEP_DIV then .next { s with clk := { s.clk with stepMux := none } } else .next (s.setObj O.STEP_DIV d)

/-- The step clock at the speed that the present causes allow. -/
def State.applyHalving (s : State) : State :=
  State.applyDiv { s with clk := { s.clk with halved := s.obj O.HALVE_CAUSES != 0 } }

/-! ### Operating points (R425–R428) -/

/-- The voltage of a die's rail at a point. -/
def State.pointMv (s : State) (p die : Nat) : Nat := s.obj (O.VOLT_E p die)

/-- The voltages of a point written to the regulators. -/
def State.writeRails (s : State) (p : Nat) : State :=
  (List.range 4).foldl (fun s d =>
    let v := s.pointMv p d
    let c := s.clk
    State.emit { s with clk := { c with
      setpoint := tput (fun _ => 720) c.setpoint d v
      oldpoint := tput (fun _ => 720) c.oldpoint d (tget (fun _ => 720) c.setpoint d)
      railsAt := 0 } } (.avs d v)) s

/-- The divider of the change in progress comes into force (R426): a raise is then complete, a lowering goes on to the rails. -/
def State.changeDivider (s : State) : State :=
  match s.clk.pointTo with
  | none => { s with clk := { s.clk with dividerDue := false } }
  | some p =>
    let s := State.applyDiv (State.setObj { s with clk := { s.clk with dividerDue := false } } O.OP_CURRENT p)
    if s.obj O.OP_STATE = 1 then
      State.bump (State.setObj { s with clk := { s.clk with pointTo := none } } O.OP_STATE 0) O.OP_CHANGES 1
    else (s.setObj O.OP_STATE 2).writeRails p

/-- A divider change that has fallen due: at once while the step clock is stopped in READY or HOLD, else in the next opening. -/
def State.dividerFalls (s : State) : State :=
  if s.advancing || (s.mode == mSnapshot && (s.run.resumeMode == mRun || s.run.resumeMode == mStep || s.run.resumeMode == mTied)) then
    { s with clk := { s.clk with dividerDue := true } }
  else s.changeDivider

/-- The point sequencer takes up a target (R426); one committed during a change waits for it. -/
def State.pointTarget (s : State) (p : Nat) : State :=
  if s.clk.pointTo.isSome then { s with clk := { s.clk with nextPoint := some p } }
  else if p = s.obj O.OP_CURRENT then s
  else
    let t := { s with clk := { s.clk with pointTo := some p } }
    if p > s.obj O.OP_CURRENT then (t.setObj O.OP_STATE 1).writeRails p else t.dividerFalls

/-- The voltages of the present point written again, as a raise without a divider change (R436). -/
def State.rewriteRails (s : State) : State :=
  let p := s.obj O.OP_CURRENT
  State.writeRails (State.setObj { s with clk := { s.clk with pointTo := some p, replan := false } } O.OP_STATE 1) p

/-- The change in progress has ended: a target committed meanwhile, or a voltage table, is acted on. -/
def State.pointNext (s : State) : State :=
  if s.clk.pointTo.isSome then s
  else
    let s' := match s.clk.nextPoint with
      | none => s
      | some p => State.pointTarget { s with clk := { s.clk with nextPoint := none } } p
    if s'.clk.replan && s'.clk.pointTo.isNone then s'.rewriteRails else { s' with clk := { s'.clk with replan := false } }

/-- All four rails have reported (R426). -/
def State.railsDone (s : State) : State :=
  match s.clk.pointTo with
  | none => s
  | some p =>
    if s.obj O.OP_STATE = 2 then
      State.bump (State.setObj { s with clk := { s.clk with pointTo := none } } O.OP_STATE 0) O.OP_CHANGES 1
    else if p = s.obj O.OP_CURRENT then State.setObj { s with clk := { s.clk with pointTo := none } } O.OP_STATE 0
    else s.dividerFalls

/-- RAIL_TARGET_REACHED (R426): a regulator reports its voltage transition complete. -/
def execRailTargetReached (rail : Fin 4) (s : State) : Out :=
  if s.obj O.OP_STATE = 0 || s.clk.railsAt.testBit rail then .next s
  else
    let s := { s with clk := { s.clk with railsAt := setBit s.clk.railsAt rail true } }
    .next (if s.clk.railsAt % 16 = 15 then s.railsDone.pointNext else s)

/-- RAMP_LIMIT_EXPIRY (R427): a rail has not reported within RAMP_LIMIT. The divider in force stays. -/
def execRampLimitExpiry (rail : Fin 4) (s : State) : Out :=
  if s.obj O.OP_STATE = 0 || s.clk.railsAt.testBit rail then .next s
  else
    let s := s.raiseFault 0x0E FaultLoc.hub rail 0 0
    .next (State.pointNext (State.setObj { s with clk := { s.clk with pointTo := none, dividerDue := false } } O.OP_STATE 0))

/-- AVSBUS_POLL (R428): a master reads its rail's current and status, `fails` frames failing first; `mv` is the rail's voltage. -/
def execAvsbusPoll (rail : Fin 4) (mv : BitVec 16) (fails : Nat) (s : State) : Out :=
  if s.engineStopped then .next s
  else if fails > 3 then .next (s.raiseFault 0x0E FaultLoc.hub (rail + 256) 0 0)
  else .next (s.setObj (O.RAIL_MV rail) mv.toNat)

/-! ### Halving (R429–R431) -/

/-- The setpoint of a rail (Table 19-3): for an emulation die the last written target, or the lower of it and the one before while
a change is in progress. -/
def State.setpointOf (s : State) (rail : Nat) : Nat :=
  if rail < 4 then
    let v := tget (fun _ => 720) s.clk.setpoint rail
    if s.obj O.OP_STATE = 0 || s.clk.railsAt.testBit rail then v else min v (tget (fun _ => 720) s.clk.oldpoint rail)
  else if rail = 6 then 800 else 750

/-- BROWN_OUT_WARNING (R429, R430): a rail has stayed at `mv`, below 95 % of its setpoint, for the filter. -/
def execBrownOutWarning (rail : RailIx) (mv : BitVec 16) (s : State) : Out :=
  let s := s.setObj (O.RAIL_MV rail) mv.toNat
  if rail = 6 || 100 * mv.toNat ≥ 95 * s.setpointOf rail || s.obj (O.BO_STATE rail) ≠ 0 then .next s
  else
    let s := ((s.setObj (O.BO_STATE rail) 1).bump (O.BO_WARNINGS rail) 1).setObjBit O.HALVE_CAUSES 0 true
    let s := s.applyHalving
    .next (if rail ≥ 4 then s.askCore true else s)

/-- BROWN_OUT_WARNING_END (R429, R431): a rail has stayed at or above 96 % of its setpoint for 50 µs. The core clock returns with
its last warning, the step clock in the next opening. A rail that recovers from its reset level rearms at 91 %. -/
def execBrownOutWarningEnd (rail : RailIx) (mv : BitVec 16) (s : State) : Out :=
  let s := s.setObj (O.RAIL_MV rail) mv.toNat
  if s.obj (O.BO_STATE rail) = 0 || 100 * mv.toNat < 91 * s.setpointOf rail then .next s
  else if 100 * mv.toNat < 96 * s.setpointOf rail then .next (s.setObj (O.BO_STATE rail) 1)
  else
    let s := s.setObj (O.BO_STATE rail) 0
    let warned := (List.range 6).filter fun r => s.obj (O.BO_STATE r) != 0
    let s := s.setObjBit O.HALVE_CAUSES 0 (warned != [])
    .next (if warned.any (· ≥ 4) then s else s.askCore false)

/-- POWER_SAMPLE (R430, R431): the power of the last 10 µs. Three samples in a row above the limit start the power halving; 1 ms
below 95 % of it ends it. -/
def execPowerSample (watts : BitVec 16) (s : State) : Out :=
  let w := watts.toNat
  let limit := s.obj O.POWER_LIMIT
  let above := if w > limit then min 3 (s.clk.above + 1) else 0
  let under := if 100 * w < 95 * limit then min 100 (s.clk.under + 1) else 0
  let s := (State.setObj { s with clk := { s.clk with above := above, under := under } } O.POWER_NOW w).raise O.POWER_MAX w
  .next (if above = 3 then s.setObjBit O.HALVE_CAUSES 1 true
         else if under = 100 then s.setObjBit O.HALVE_CAUSES 1 false else s)

/-- THERMAL_SAMPLE (R430): the hottest junction sensor, in °C. -/
def execThermalSample (temp : BitVec 16) (s : State) : Out :=
  let s := s.setObj O.TJ_HOT temp.toNat
  .next (if toSigned 16 temp.toNat ≥ toSigned 16 (s.obj O.TJ_THROTTLE) then s.setObjBit O.HALVE_CAUSES 2 true else s)

/-- The module is in the opening period of its current DC. -/
def State.inOpening (s : State) : Bool :=
  s.stepping && s.sluiceSet.all fun c => (s.cl c).step == 0 && (s.cl c).period == 0

/-- HALVE_END (R431): the thermal cause ends, the hottest sensor having stayed 3 °C below TJ_THROTTLE for 1 ms. In an opening
period with no cause left the step clock returns to full speed. -/
def execHalveEnd (s : State) : Out :=
  let cool := toSigned 16 (s.obj O.TJ_HOT) + 3 ≤ toSigned 16 (s.obj O.TJ_THROTTLE)
  let s := if cool then s.setObjBit O.HALVE_CAUSES 2 false else s
  .next (if s.obj O.HALVE_CAUSES = 0 && s.inOpening then s.applyHalving else s)

/-- What the clocks do in an opening period (R426, R430, R431): a divider change that is due, halving or full speed. -/
def State.clockOpening (s : State) : State :=
  let s := if s.clk.dividerDue then s.changeDivider.pointNext else s
  let s := s.applyHalving
  if s.clk.halved then s.bump O.HALVED_DCS 1 else s

/-! ### Ageing (R435, R436) -/

/-- The highest reading over unmarked clusters, with its cluster. -/
def State.ageWorst (s : State) : Nat × Nat :=
  (List.range 272).foldl (fun b c =>
    let v := s.obj (O.AGE_PPM (c / 68) (c % 68))
    if (s.cl c).mark = 0 && v > b.1 then (v, c / 68 * 256 + c % 68) else b) (0, 0)

/-- AGEING_SENSOR_REPORT (R435): the four sensors of a cluster report. -/
def execAgeingSensorReport (die : Die) (pc : Pc) (a b c d : BitVec 32) (s : State) : Out :=
  let s := s.setObj (O.AGE_PPM die pc) (max (max a.toNat b.toNat) (max c.toNat d.toNat))
  let w := s.ageWorst
  .next (s.setObjs [(O.AGE_WORST, w.1), (O.AGE_WORST_WHERE, w.2)])

/-- AGE_PLAN (R435): a write of 1 starts the margin plan. -/
def writeAgePlan (v : Nat) (s : State) : State × Nat :=
  if v ≠ 1 then (s, eRange) else (s.setObj O.AGE_STATE 1, eNone)

/-- AGE_PLAN (R435): a master writes AGE_PLAN, or (no master) a powered hour has passed; each multiple of 1,000 starts a plan. -/
def execAgePlan (by_ : Option Master) (v : Byte) (s : State) : Out :=
  match by_ with
  | some m => s.write m O.AGE_PLAN v.toNat (writeAgePlan v.toNat)
  | none =>
    if s.engineStopped then .next s
    else
      let s := s.bump O.POWER_HOURS 1
      .next (if s.obj O.POWER_HOURS % 1000 = 0 then s.setObj O.AGE_STATE 1 else s)

/-- The largest reading over a die's unmarked clusters. -/
def State.dieWorst (s : State) (d : Nat) : Nat :=
  (List.range 68).foldl (fun n p => if (s.cl (cidOf d p)).mark = 0 then max n (s.obj (O.AGE_PPM d p)) else n) 0

/-- The raise that a reading asks for, in mV. -/
def raiseFor (ppm : Nat) : Nat := 5 * ((ppm - 2000 + 999) / 1000)

/-- A die's present raise: what its voltage at P3, which no ceiling holds, has above the base. -/
def State.raiseNow (s : State) (d : Nat) : Nat := s.pointMv 3 d - 850

/-- The base voltages and the ceilings of the points (Table 19-2). -/
def baseMv (p : Nat) : Nat := [600, 650, 720, 850].getD p 720
def ceilingMv (p : Nat) : Nat := [660, 710, 780, 900].getD p 780

/-- The voltages of a die at the four points for a raise; P0 to P2 stop at their ceilings. -/
def State.setRaise (s : State) (d raise_ : Nat) : State :=
  s.setObjs ((List.range 4).map fun p =>
    (O.VOLT_E p d, if p = 3 then baseMv 3 + raise_ else min (baseMv p + raise_) (ceilingMv p)))

/-- The point sequencer acts on a new table (R436), a change in progress ended. -/
def State.planPoint (s : State) (withdrawn : Bool) : State :=
  if withdrawn && (s.obj O.OP_CURRENT = 3 || s.clk.pointTo = some 3) then (s.setObj O.OP_TARGET 2).pointTarget 2
  else if s.clk.pointTo.isSome then { s with clk := { s.clk with replan := true } }
  else s.rewriteRails

/-- AGE_PLAN_COMMIT (R435, R436): the plan commits its voltage table. -/
def execAgePlanCommit (s : State) : Out :=
  if s.obj O.AGE_STATE ≠ 1 || s.engineStopped then .next s
  else
    let plan := (List.range 4).map fun d => (d, max (s.raiseNow d) (raiseFor (s.dieWorst d)))
    let changed := plan.any fun e => e.2 != s.raiseNow e.1
    let withdrawn := s.obj O.P3_AVAILABLE = 1 && plan.any fun e => 850 + e.2 > 900
    let spent := plan.filter fun e => 720 + e.2 > 780
    let s := s.setObjs [(O.AGE_STATE, 0), (O.AGE_LAST_HOURS, s.obj O.POWER_HOURS),
      (O.AGE_RESULT, if spent ≠ [] then 4 else if withdrawn then 3 else if changed then 2 else 1)]
    let s := if withdrawn then s.setObj O.P3_AVAILABLE 0 else s
    let s := plan.foldl (fun s e => s.setRaise e.1 e.2) s
    let s := spent.foldl (fun s e => s.raiseFault 0x10 FaultLoc.hub (e.1 + 65536 * (720 + e.2)) 0 0) s
    .next (if changed || withdrawn then s.planPoint withdrawn else s)

/-- What PERSISTENT_STORE_WRITE does (R406, R436): the marks, the raises, P3 and the hours written to the boot flash. -/
def State.persistWrite (s : State) : State :=
  { s with persist :=
    { marks := (s.clusters.filter fun e => e.2.mark != 0).map fun e => (e.1, e.2.mark)
      raises := ((List.range 4).map fun d => (d, s.raiseNow d)).filter fun e => e.2 != 0
      p3 := s.obj O.P3_AVAILABLE
      hours := s.obj O.POWER_HOURS
      lastHours := s.obj O.AGE_LAST_HOURS } }

/-- PERSISTENT_STORE_WRITE. -/
def execPersistentStoreWrite (s : State) : Out :=
  if s.engineStopped then .next s else .next s.persistWrite

end Sys2Proof.Machine
end

