-- ==== Sys2Proof/Machine/TimeBase.lean ====
section
/-!
DEFINITION. The time base (10): the tick, path delays, the election, joining and rate correction, pulse per second. Times are in
units of 2^-32 ns unless a name says otherwise; frequency terms in units of 2^-48 ns.
-/

namespace Sys2Proof.Machine

/-- One nanosecond. -/
abbrev ns : Nat := 2 ^ 32

/-- The signed difference of two 96-bit times. -/
def timeDiff (a b : Nat) : Int := toSigned 96 (a + 2 ^ 96 - b % 2 ^ 96)

/-- Synchronisation states (0x3000.05). -/
abbrev tbFree : Nat := 0
abbrev tbGrandmaster : Nat := 1
abbrev tbFollower : Nat := 2
abbrev tbHoldover : Nat := 3

/-- The first multiple of 1,000,000,000 ns after a time in nanoseconds; the integer part wraps at 2^64. -/
def nextSecond (t : Nat) : Nat := let n := (t / 1000000000 + 1) * 1000000000; if n < 2 ^ 64 then n else 0

/-- The whole second that TIME_PPS_OUT waits for, once reached (R238, R248): a second passed by a step is reached in that tick, and one acted
on is not acted on again. -/
def State.ppsTarget (s : State) : State :=
  let due := s.reached s.tb.ppsNext
  { s with tb := { s.tb with ppsDue := due, ppsNext := if due then nextSecond s.nowNs else s.tb.ppsNext } }

/-- A tick of the 250 MHz time-base clock (R234), which a power-on boot starts at the end of CLOCKS (R448), with the step or the set that falls due in it (R242, R246, R247). -/
def State.tick (s : State) : State :=
  if s.clk.sysStopped || ! s.tb.running then s
  else
    let base := match s.tb.setTo with
      | some v => v * ns
      | none =>
        let step := match s.tb.stepBy with | some d => d | none => 0
        ofSigned 96 ((s.tb.counter + s.obj O.INCREMENT : Int) + step)
    State.ppsTarget { s with tb := { s.tb with counter := base % 2 ^ 96, setTo := none, stepBy := none } }

/-! ### Path delay (R239) -/

/-- The mean of a list of measurements. -/
def meanOf (l : List Int) : Int := if l = [] then 0 else l.foldl (· + ·) 0 / l.length

/-- The path delay of a link, once valid. -/
def State.pathDelay (s : State) (l : Nat) : Option Int :=
  match tget (fun _ => []) s.tb.pdelays l with | [] => none | m => some (meanOf m)

/-- A link's path delay becomes invalid when it leaves UP. -/
def State.dropDelay (s : State) (l : Nat) : State :=
  State.setObj { s with tb := { s.tb with
    pdelays := tput (fun _ => []) s.tb.pdelays l [], pdelayReq := tput (fun _ => none) s.tb.pdelayReq l none } }
    (O.PATH_DELAY l) 0xFFFFFFFF

/-- A path-delay measurement started on a link: t1 is taken as the block departs. -/
def State.startDelay (s : State) (l : Nat) : State :=
  let q := (s.tb.pdSeq + 1) % 65536
  State.sendMsg { s with tb := { s.tb with pdSeq := q } } l (.pdelayReq q 0)

/-- PDELAY_INTERVAL_EXPIRY (R239): a measurement on every UP, enabled link, when the interval has passed. -/
def execPdelayIntervalExpiry (s : State) : Out :=
  if s.reached s.tb.nextPdelay then
    let s := { s with tb := { s.tb with nextPdelay := (s.nowNs + s.obj O.PDELAY_INTERVAL) % 2 ^ 64 } }
    .next ((allLinks.filter s.linkOpen).foldl State.startDelay s)
  else .next s

/-- A PDELAY_REQ received at `arrive`: answered (R239). -/
def State.delayAsked (s : State) (l p arrive : Nat) : State :=
  if s.linkOpen l then s.sendMsg l (.pdelayResp (field p 232 16) arrive 0) else s

/-- PDELAY_REQ (R239): a request received is answered. -/
def execPdelayReq (link : LinkIx) (s : State) : Out := .next (s.hear link ctPdelayReq fun p t s => s.delayAsked link p t)

/-- One measurement of a link's path delay (R239): one outside 0 to 1,000 ns is discarded. -/
def State.delayMeasured (s : State) (l : Nat) (d : Int) : State :=
  if d < 0 || d > 1000 * ns then s
  else
    let m := (d :: tget (fun _ => []) s.tb.pdelays l).take 8
    let s := { s with tb := { s.tb with pdelays := tput (fun _ => []) s.tb.pdelays l m } }
    s.setObj (O.PATH_DELAY l) ((meanOf m * 1000 / ns).toNat % 2 ^ 32)

/-- A PDELAY_RESP received at `arrive`: the answer to the outstanding request yields one measurement (R239). -/
def State.delayAnswered (s : State) (l p arrive : Nat) : State :=
  match tget (fun _ => none) s.tb.pdelayReq l with
  | none => s
  | some (q, t1) =>
    if ! s.linkOpen l || q ≠ field p 232 16 then s
    else
      let s := { s with tb := { s.tb with pdelayReq := tput (fun _ => none) s.tb.pdelayReq l none } }
      s.delayMeasured l ((timeDiff arrive t1 - timeDiff (field p 40 96) (field p 136 96)) / 2)

/-- PDELAY_RESP (R239): the answer to the outstanding request yields one measurement. -/
def execPdelayResp (link : LinkIx) (s : State) : Out := .next (s.hear link ctPdelayResp fun p t s => s.delayAnswered link p t)

/-! ### Rate and state (R242, R243) -/

/-- The rate correction of R243 by an offset; `span` is the interval in ns, 4 × ticks. -/
def State.correctRate (s : State) (theta : Int) (span : Nat) : State :=
  let t := theta * 2 ^ 16
  let f := s.tb.freq - t / (4 * span)
  let inc := (s.tb.nominal * 2 ^ 16 + f - t / span + 2 ^ 15) / 2 ^ 16
  let inc := max 0x3FAE147AF (min 0x4051EB851 inc)
  State.setObj { s with tb := { s.tb with freq := f } } O.INCREMENT inc.toNat

/-- The grandmaster is steered by its PPS input. -/
def State.disciplined (s : State) : Bool := s.obj O.TB_STATE == tbGrandmaster && (s.obj O.PPS_CTRL).testBit 0

/-- PPS_STATE after a change of STATE, JOINED or PPS_CTRL (Table 10-3): OFF where nothing disciplines, ALIGNING while JOINED is 0 and until an
edge has been judged. -/
def State.ppsShown (s : State) : State :=
  let n := s.obj O.PPS_STATE
  s.setObj O.PPS_STATE (if ! s.disciplined then 0 else if s.obj O.JOINED = 0 then 1 else if n = 0 then 1 else n)

/-- The module is in a tied run, a pause of it among them (R242, R254). -/
def State.tiedRun (s : State) : Bool := s.mode == mTied || s.obj O.TIED_STATE != 0

/-- An offset in picoseconds, saturating (0x3000.0B). -/
def offsetPs (theta : Int) : Int := max (-2 ^ 31) (min (2 ^ 31 - 1) (theta * 1000 / ns))

/-- HOLDOVER entered with a cause (R240, R242): vector 5, and a time-base record for a lost sync. -/
def State.holdover (s : State) (cause : Nat) : State :=
  let was := s.obj O.TB_STATE
  let s := s.setObjs [(O.TB_STATE, tbHoldover), (O.HOLDOVER_CAUSE, cause)]
  if was = tbHoldover then s else s.msix 5

/-- A jump refusal (R242, R246): counted, recorded, vector 5. -/
def State.refuseJump (s : State) (theta : Int) : State :=
  ((s.bump O.JUMP_REFUSALS 1).raiseFault 0x0A FaultLoc.hub 2 (ofSigned 64 (theta * 1000 / ns)) 0).msix 5

/-- The judgement of an offset by a FOLLOWER (R242). -/
def State.judge (s : State) (theta : Int) : State :=
  let s := s.setObj O.OFFSET_LAST (ofSigned 32 (offsetPs theta))
  let joined := s.obj O.JOINED == 1
  if ! joined && ! s.tiedRun then
    State.setObjs { s with tb := { s.tb with stepBy := some (-theta), freq := 0 } }
      [(O.JOINED, 1), (O.TB_STATE, tbFollower), (O.HOLDOVER_CAUSE, 0)]
  else if theta.natAbs ≤ s.obj O.JUMP_THRESHOLD * ns then
    (s.setObjs [(O.JOINED, 1), (O.TB_STATE, tbFollower), (O.HOLDOVER_CAUSE, 0)]).correctRate theta (max 1 (s.obj O.SYNC_INTERVAL))
  else
    let s := (s.setObjs [(O.TB_STATE, tbHoldover), (O.HOLDOVER_CAUSE, 2)])
    s.refuseJump theta

/-! ### Election (R240) -/

/-- Whether one candidate (priority, identifier, steps, link) beats another. -/
def better (a b : Nat × Nat × Nat × Nat) : Bool :=
  if a.1 ≠ b.1 then a.1 < b.1
  else if a.2.1 ≠ b.2.1 then a.2.1 < b.2.1
  else if a.2.2.1 ≠ b.2.2.1 then a.2.2.1 < b.2.2.1
  else a.2.2.2 < b.2.2.2

/-- The live candidate of a link as it is compared: one is live for 4 × SYNC_INTERVAL. -/
def State.candidate (s : State) (l : Nat) : Option (Nat × Nat × Nat × Nat) :=
  match tget (fun _ => none) s.tb.candidates l with
  | none => none
  | some a => if s.reached a.expires then none else some (a.priority, a.gmId, a.steps + 1, l)

/-- The outcome of the election; link 24 stands for the module's own candidate. -/
def State.elected (s : State) : State :=
  let own := (s.obj O.PRIORITY, s.ownId, 0, 24)
  let best := (allLinks.filterMap s.candidate).foldl (fun b c => if better c b then c else b) own
  if best.2.2.2 = 24 then
    if s.obj O.PRIORITY = 255 then
      let s := s.setObjs [(O.GM_ID, 0xFFFF), (O.STEPS, 0), (O.PARENT_LINK, 0xFF)]
      if s.obj O.JOINED = 1 then
        let was := s.obj O.TB_STATE
        let s := s.holdover 1
        if was = tbHoldover then s else s.raiseFault 0x0A FaultLoc.hub 1 0 0
      else s.setObjs [(O.TB_STATE, tbFree), (O.HOLDOVER_CAUSE, 1)]
    else
      s.setObjs [(O.TB_STATE, tbGrandmaster), (O.GM_ID, s.ownId), (O.STEPS, 0), (O.PARENT_LINK, 0xFF), (O.HOLDOVER_CAUSE, 0)]
  else s.setObjs [(O.GM_ID, best.2.1), (O.STEPS, best.2.2.1), (O.PARENT_LINK, best.2.2.2)]

/-- The election (R240). -/
def State.elect (s : State) : State := s.elected.ppsShown

/-- A sequence number follows the last one accepted (R228, R229, R240): `last` is what was recorded, with its BOOT. -/
def follows (last : Option (Nat × Nat)) (seq boot : Nat) : Bool :=
  match last with
  | none => true
  | some (q, b) => b != boot || (let d := (seq + 65536 - q % 65536) % 65536; 1 ≤ d && d ≤ 32767)

/-- A TIME_SYNC is accepted on a link (R240): not too far, not of this module, and new. -/
def State.syncFresh (s : State) (l : Nat) (b : SyncBlock) : Bool :=
  b.steps < 255 && b.gmId != s.ownId && follows (tget (fun _ => none) s.tb.lastSync (b.gmId * 32 + l)) b.seqId b.boot

/-- An accepted TIME_SYNC noted: its sequence number, and the link's candidate until it expires. -/
def State.noteSync (s : State) (l : Nat) (b : SyncBlock) : State :=
  { s with tb := { s.tb with
    lastSync := tput (fun _ => none) s.tb.lastSync (b.gmId * 32 + l) (some (b.seqId, b.boot))
    candidates := tput (fun _ => none) s.tb.candidates l
      (some ⟨b.priority, b.gmId, b.steps, (s.nowNs + 4 * s.obj O.SYNC_INTERVAL) % 2 ^ 64⟩) } }

/-- A TIME_SYNC received at `arrive` (R240–R242): an accepted one is a candidate; the parent's is judged once its link has a path delay,
and a FOLLOWER passes it on with its own STEPS. -/
def State.syncHeard (s : State) (l : Nat) (b : SyncBlock) (arrive : Nat) : State :=
  if ! s.linkOpen l || ! s.syncFresh l b then s
  else
    let s := (s.noteSync l b).elect
    if s.obj O.PARENT_LINK ≠ l then s
    else
      let s := match s.pathDelay l with
        | none => s
        | some d => (s.judge (timeDiff arrive b.depart - d)).ppsShown
      if s.obj O.TB_STATE = tbFollower then s.sendAll (some l) (.sync { b with steps := s.obj O.STEPS, depart := 0 }) else s

/-- TIME_SYNC (R240–R242). -/
def execTimeSync (link : LinkIx) (s : State) : Out := .next (s.hear link ctTimeSync fun p t s => s.syncHeard link (readSync p) t)

/-- SYNC_INTERVAL_EXPIRY (R241): a GRANDMASTER sends TIME_SYNC when its interval has passed. -/
def execSyncIntervalExpiry (s : State) : Out :=
  if s.obj O.TB_STATE = tbGrandmaster && s.reached s.tb.nextSync then
    let q := (s.tb.seqId + 1) % 65536
    let s := { s with tb := { s.tb with seqId := q, nextSync := (s.nowNs + s.obj O.SYNC_INTERVAL) % 2 ^ 64 } }
    .next (s.sendAll none (.sync ⟨q, s.obj O.PRIORITY, s.ownId, 0, s.tb.boot, 0⟩))
  else .next s

/-- CANDIDATE_EXPIRY (R240): a link's candidate that has not been refreshed expires, and the election runs. -/
def execCandidateExpiry (link : LinkIx) (s : State) : Out :=
  match tget (fun _ => none) s.tb.candidates link with
  | none => .next s
  | some a =>
    if s.reached a.expires then
      .next (State.elect { s with tb := { s.tb with candidates := tput (fun _ => none) s.tb.candidates link none } })
    else .next s

/-! ### Pulse per second (R246, R248) -/

/-- One second. -/
abbrev second : Nat := 1000000000

/-- The signed distance of a time from the nearest whole second. -/
def fromSecond (t : Nat) : Int :=
  let r := t % (second * ns)
  if r * 2 < second * ns then (r : Int) else (r : Int) - second * ns

/-- The judgement of a PPS edge by a disciplined grandmaster (R246); `e` is its distance from a whole second. No step is taken in a tied run
(R254). -/
def State.ppsJudge (s : State) (e : Int) : State :=
  if s.obj O.JOINED = 0 && ! s.tiedRun then
    State.setObjs { s with tb := { s.tb with stepBy := some (-e), freq := 0 } } [(O.JOINED, 1), (O.PPS_STATE, 2)]
  else if e.natAbs ≤ s.obj O.JUMP_THRESHOLD * ns then
    ((s.correctRate e second).setObjs [(O.JOINED, 1), (O.PPS_STATE, 2)])
  else (s.setObj O.PPS_STATE (if s.obj O.JOINED = 0 then 1 else 3)).refuseJump e

/-- PPS_IN_EDGE (R246, R247): a rising edge of TIME_PPS_IN, timestamped at `stamp`. A TIME_SET that waits for it is taken, but not in a tied
run, which sees no step (R254). -/
def execPpsInEdge (stamp : BitVec 96) (s : State) : Out :=
  let s := State.setObj { s with tb := { s.tb with ppsSeen := some s.nowNs } } O.PPS_IN_LAST (stamp.toNat / ns)
  match s.tb.setPps with
  | some v =>
    if s.tiedRun then .next s
    else
      let s := { s with tb := { s.tb with counter := v * ns % 2 ^ 96, setPps := none } }
      .next (if s.disciplined then s.setObj O.PPS_STATE 2 else s)
  | none => .next (if s.disciplined then s.ppsJudge (fromSecond stamp.toNat) else s)

/-- PPS_LOST (R246): no edge for 2 s. -/
def execPpsLost (s : State) : Out :=
  let quiet := match s.tb.ppsSeen with | some t => s.reached (t + 2 * second) | none => true
  if s.disciplined && quiet then .next (s.setObj O.PPS_STATE 4) else .next s

/-- PPS_OUT_RISE (R248): in the tick that reaches a whole second. -/
def execPpsOutRise (s : State) : Out :=
  if (s.obj O.PPS_CTRL).testBit 1 && s.tb.ppsOut.isNone && s.tb.ppsDue then
    .next (State.emit { s with tb := { s.tb with ppsOut := some s.nowNs, ppsDue := false } } (.pin 0 true))
  else .next s

/-- PPS_OUT_FALL (R248): PPS_OUT_WIDTH after the rise. -/
def execPpsOutFall (s : State) : Out :=
  match s.tb.ppsOut with
  | none => .next s
  | some t =>
    if s.reached (t + s.obj O.PPS_OUT_WIDTH) then .next (State.emit { s with tb := { s.tb with ppsOut := none } } (.pin 0 false))
    else .next s

/-! ### Dictionary accesses of the time base -/

/-- TIME_NS_READ (R236): the integer part, all 96 bits latched. -/
def execTimeNsRead (m : Master) (s : State) : Out :=
  if s.engineStopped then .next (s.readStopped m O.TIME_NS)
  else
    let g := s.gate O.TIME_NS false
    if g ≠ eNone then .next (s.refuse m O.TIME_NS g)
    else .next (State.emit { s with tb := { s.tb with latch := s.tb.counter } } (.value m O.TIME_NS s.nowNs))

/-- TIME_SET (R247): accepted in FREE and GRANDMASTER outside TIED; at the next PPS edge with IN_DISCIPLINE, else in the next tick. -/
def writeTimeSet (v : Nat) (s : State) : State × Nat :=
  let st := s.obj O.TB_STATE
  if s.tiedRun || (st ≠ tbFree && st ≠ tbGrandmaster) then (s, eMode)
  else
    let tb := if (s.obj O.PPS_CTRL).testBit 0 then { s.tb with setPps := some v } else { s.tb with setTo := some v }
    ((State.setObj { s with tb := tb } O.JOINED 1).ppsShown, eNone)

/-- TIME_SET (R247). -/
def execTimeSet (m : Master) (v : BitVec 64) (s : State) : Out := s.write m O.TIME_SET v.toNat (writeTimeSet v.toNat)

/-- REJOIN (R245): a write of 1 clears JOINED, outside TIED. -/
def writeRejoin (v : Nat) (s : State) : State × Nat :=
  if v ≠ 1 then (s, eRange) else if s.tiedRun then (s, eMode) else ((s.setObj O.JOINED 0).ppsShown, eNone)

/-- REJOIN (R245). -/
def execRejoin (m : Master) (v : Byte) (s : State) : Out := s.write m O.REJOIN v.toNat (writeRejoin v.toNat)

/-- INCREMENT (R243): sets the nominal rate and restarts the frequency term. -/
def writeIncrement (v : Nat) (s : State) : State × Nat :=
  if v < 0x3FAE147AF || 0x4051EB851 < v then (s, eRange)
  else (State.setObj { s with tb := { s.tb with nominal := v, freq := 0 } } O.INCREMENT v, eNone)

/-- INCREMENT_WRITE (R243). -/
def execIncrementWrite (m : Master) (v : BitVec 64) (s : State) : Out := s.write m O.INCREMENT v.toNat (writeIncrement v.toNat)

/-- PRIORITY (R240): the election runs in the serving cycle. -/
def writePriority (v : Nat) (s : State) : State × Nat := ((s.setObj O.PRIORITY v).elect, eNone)

/-- PRIORITY_WRITE (R240). -/
def execPriorityWrite (m : Master) (v : Byte) (s : State) : Out := s.write m O.PRIORITY v.toNat (writePriority v.toNat)

end Sys2Proof.Machine
end

