-- ==== Sys2Proof/Machine/Tied.lean ====
section
/-!
DEFINITION. TIED mode (11): tie slots, the edge grid, the decision at the exchange instant, captures, applications, slip.
-/

namespace Sys2Proof.Machine

/-- The tie slots. -/
def allTies : List Nat := List.range 8

def State.tie (s : State) (i : Nat) : TieUnit := tget (fun _ => TieUnit.blank) s.ties i
def State.setTie (s : State) (i : Nat) (u : TieUnit) : State := { s with ties := tput (fun _ => TieUnit.blank) s.ties i u }

/-- A used slot. -/
def State.tieUsed (s : State) (i : Nat) : Bool := s.obj (O.DOMAIN i) != 0xFF

/-- The ranges of a slot (0x3020 + i .0E). -/
def State.tieInFirst (s : State) (i : Nat) : Nat := field (s.obj (O.IO i)) 37 13
def State.tieInCount (s : State) (i : Nat) : Nat := field (s.obj (O.IO i)) 25 12
def State.tieOutFirst (s : State) (i : Nat) : Nat := field (s.obj (O.IO i)) 12 13
def State.tieOutCount (s : State) (i : Nat) : Nat := field (s.obj (O.IO i)) 0 12

/-- Whether a FIN bit lies in the input range, or a FOUT bit in the output range, of a used slot. -/
def State.finTied (s : State) (b : Nat) : Bool :=
  allTies.any fun i => s.tieUsed i && s.tieInFirst i ≤ b && b < s.tieInFirst i + s.tieInCount i
def State.foutTied (s : State) (b : Nat) : Bool :=
  allTies.any fun i => s.tieUsed i && s.tieOutFirst i ≤ b && b < s.tieOutFirst i + s.tieOutCount i

/-- `n` bits of a bit string from bit `lo`, as a number. -/
def bitsAt (m : Memory) (lo : Nat) : Nat → Nat
  | 0 => 0
  | n + 1 => (mbit m 0 lo).toNat + 2 * bitsAt m (lo + 1) n

/-- `n` bits of `v` written into a bit string from bit `lo`. -/
def putBitsAt (m : Memory) (lo v : Nat) : Nat → Memory
  | 0 => m
  | n + 1 => putBitsAt (mputBit m 0 lo (v.testBit 0)) (lo + 1) (v / 2) n

/-! ### Start and end (R253, R254, R259) -/

/-- The first edge of a grid at or after a time. -/
def firstEdge (base period t : Nat) : Nat :=
  if period = 0 then t else t + (((base : Int) - t) % period).toNat

/-- A TIED run starts: `t` is the start time. The anchor is fixed at the first start after a load. What is decided for the DC that stands
open stays (R260). -/
def State.tiedStart (s : State) : State :=
  let t := s.nowNs
  let anchor := if s.anchored then s.obj O.ANCHOR else if s.obj O.TIED_EPOCH ≠ 0 then s.obj O.TIED_EPOCH else t
  let s := s.setObjs [(O.TIED_STATE, 1), (O.START_LAST, t), (O.TB_HOLDOVER, 0), (O.ANCHOR, anchor)]
  let s := { s with slipDone := false, anchored := true }
  allTies.foldl (fun s i =>
    if s.tieUsed i then
      let p := s.obj (O.PERIOD i)
      let e := firstEdge (anchor + s.obj (O.PHASE i) * p / 65536) p t
      (s.setTie i { s.tie i with capEdge := e }).setObjs [(O.NEXT_EDGE i, e % 2 ^ 64), (O.BUCKET i, 0)]
    else s) s

/-- A module that starts outside TIED ticks no tied domain (R259): the enables of the DC that stands open go off. -/
def State.tiesOff (s : State) : State :=
  if s.mode == mTied then s
  else allTies.foldl (fun s i =>
    if s.tieUsed i then
      State.setTie { s with sluice := { s.sluice with enables := setBit s.sluice.enables (s.obj (O.DOMAIN i)) false } } i
        { s.tie i with edgeNow := none }
    else s) s

/-- No application waits any more. -/
def State.dropApps (s : State) : State := allTies.foldl (fun s i => s.setTie i { s.tie i with apps := [] }) s

/-- The safe-state request of the slots of a mask, waiting applications dropped (R259, R260). -/
def State.tieSafeOf (s : State) (m : Nat) : State :=
  (State.fabObjs { s with fabric := { s.fabric with tieSafe := s.fabric.tieSafe ||| m } }).dropApps

/-- The used slots, a bit each. -/
def State.usedTies (s : State) : Nat := allTies.foldl (fun n i => if s.tieUsed i then n + 2 ^ i else n) 0

/-- TIED ends with a cause (R259): pending applications stay with KEEP; with SAFE they are dropped and safe states asked for. -/
def State.tiedEnd (s : State) (cause : Nat) : State :=
  if s.obj O.TIED_STATE = 0 then s
  else
    let s := s.setObjs [(O.TIED_STATE, 0), (O.END_CAUSE, cause)]
    if s.obj O.HOLD_OUTPUTS = 1 then s.tieSafeOf s.usedTies else s

/-! ### Captures (R257, R359) -/

/-- The boundary value the fabric presents: nothing while it is unconfigured (R358). -/
def State.finBoundary (s : State) (fin : BitVec 8192) : Memory :=
  if s.obj O.FAB_STATE = 2 then mwrite [] 0 (leBytes 1024 fin.toNat) else []

/-- A capture of a slot's input bits, if an edge has been reached since the last. -/
def State.capture (s : State) (i : Nat) (fin : Memory) : State :=
  let u := s.tie i
  let p := s.obj (O.PERIOD i)
  if s.tieUsed i && s.obj O.TIED_STATE ≠ 0 && p ≠ 0 && s.reached u.capEdge then
    let n := (s.nowNs + 2 ^ 64 - u.capEdge) % 2 ^ 64 / p
    ((s.setTie i { u with capEdge := u.capEdge + (n + 1) * p, capture := bitsAt fin (s.tieInFirst i) (s.tieInCount i) }).setObj
      (O.SAMPLE_TIME i) s.nowNs).emit (.fabric 0 i 1)
  else s

/-- TIE_EDGE_REACHED (R257, R359, R361): in the tick that reaches an edge the unit captures its FIN bits and pulses TIE_EDGE. -/
def execTieEdgeReached (slot : Fin 8) (fin : BitVec 8192) (s : State) : Out :=
  if s.clk.sysStopped then .next s
  else
    let b := s.finBoundary fin
    .next (State.capture { s with fabric := { s.fabric with fin := b } } slot b)

/-! ### The decision (R255, R257, R260) -/

/-- The slip policy, once per TIED run (R260, R261). -/
def State.slipPolicy (s : State) (i : Nat) : State :=
  if s.slipDone then s
  else
    let s := { s with slipDone := true }
    match s.obj O.SLIP_POLICY with
    | 0 => s
    | 1 => s.raiseStop 7 (i * 2 ^ 61 + s.obj (O.DOMAIN i) * 2 ^ 55 + s.obj (O.BUCKET i)) 0
    | _ => (s.setObj O.TIED_STATE 2).tieSafeOf 255

/-- The bucket after a decision that found `n` edges due (R255). -/
def State.tieBucket (s : State) (i n : Nat) : State :=
  if n > 1 then (s.bump (O.SLIPPED i) (n - 1)).bump (O.BUCKET i) (s.obj O.SLIP_WEIGHT * (n - 1))
  else s.setObj (O.BUCKET i) (s.obj (O.BUCKET i) - 1)

/-- A bucket above its budget (R260). -/
def State.slipCheck (s : State) (i : Nat) : State :=
  if s.obj (O.BUCKET i) > s.obj (O.SLIP_BUDGET i) then s.slipPolicy i else s

/-- The decision of one slot for the next DC (R255): the enable, edges and bucket; the capture posted for FIN reads (R257). -/
def State.tieDecide (s : State) (i : Nat) : State :=
  let next := s.obj (O.NEXT_EDGE i)
  let p := s.obj (O.PERIOD i)
  let d := s.obj (O.DOMAIN i)
  if ! s.tieUsed i then s
  else if s.mode ≠ mTied || p = 0 || ! s.reached next then s.setTie i { s.tie i with edgeNext := none }
  else
    let lag := (s.nowNs + 2 ^ 64 - next % 2 ^ 64) % 2 ^ 64
    let n := 1 + lag / p
    let e := next + (n - 1) * p
    let u := s.tie i
    let s := s.setTie i { u with edgeNext := some e }
    let s := { s with sluice := { s.sluice with
      nextEnables := setBit s.sluice.nextEnables d true
      fin := putBitsAt s.sluice.fin (s.tieInFirst i) u.capture (s.tieInCount i) } }
    let s := ((s.setObj (O.NEXT_EDGE i) ((e + p) % 2 ^ 64)).bump (O.EDGES i) 1).raise (O.LAG_MAX i)
      (min ((s.nowNs + 2 ^ 64 - e % 2 ^ 64) % 2 ^ 64) (2 ^ 32 - 1))
    (s.tieBucket i n).slipCheck i

/-! ### Applications (R258) -/

/-- A slot's output bits, taken in the exchange steps of a DC whose edge is `e`; in DEGRADED none are (R260). -/
def State.takeOutputs (s : State) (i : Nat) : State :=
  let u := s.tie i
  match u.edgeNow with
  | none => s
  | some e =>
    if s.obj O.TIED_STATE = 2 then s
    else
      let due := (e + s.obj (O.OUT_LATENCY i)) % 2 ^ 64
      let v := bitsAt s.fabric.foutDesign (s.tieOutFirst i) (s.tieOutCount i)
      s.setTie i { u with apps := u.apps ++ [⟨due, v, s.reached due, s.tieOutFirst i, s.tieOutCount i⟩] }

/-- TIE_APPLY (R258–R260, R263, R360): the slot's first application that is due reaches the boundary register; none does while a replay runs.
An application in TIED ends the slot's safe state. -/
def execTieApply (slot : Fin 8) (s : State) : Out :=
  let u := s.tie slot
  match u.apps with
  | [] => .next s
  | a :: rest =>
    if ! (a.late || s.reached a.due) || s.clk.sysStopped || s.replaying then .next s
    else
      let s := s.setTie slot { u with apps := rest }
      let s := { s with fabric := { s.fabric with
        fout := putBitsAt s.fabric.fout a.first a.value a.count
        tieSafe := if s.obj O.TIED_STATE = 1 then setBit s.fabric.tieSafe slot false else s.fabric.tieSafe } }
      let s := (s.fabObjs.setObj (O.OUT_TIME slot) s.nowNs).emit (.fabric 1 slot a.value)
      .next (if a.late then s.bump (O.OUT_LATE slot) 1 else s)

end Sys2Proof.Machine
end

