-- ==== Sys2Proof/Machine/Trigger.lean ====
section
/-!
DEFINITION. The trigger engine (14): channel words, comparators, the sequencer and its actions, the mask test, the TRIG balls.
-/

namespace Sys2Proof.Machine

/-! ### Comparators (R307–R311) -/

def cWord (c : Nat) : Nat := field c 32 8
def cLsb (c : Nat) : Nat := field c 26 6
def cWidth (c : Nat) : Nat := field c 20 6 + 1
def cSigned (c : Nat) : Bool := c.testBit 19
def cUnit (c : Nat) : Nat := field c 17 2
def cMode (c : Nat) : Nat := field c 14 3

/-- A threshold mode. -/
def cThr (c : Nat) : Bool := cMode c == 4 || cMode c == 5

/-- A field value in the order that SIGNED selects. -/
def cValue (c v : Nat) : Int := if cSigned c then toSigned (cWidth c) v else (v % 2 ^ cWidth c : Nat)

/-- The compared field of a word. -/
def cField (c w : Nat) : Int := cValue c (w >>> cLsb c)

/-- The raw condition (Table 14-2) of a word for value V or T and mask M. -/
def cRaw (c v m w : Nat) : Bool :=
  match cMode c with
  | 1 => (w ^^^ v) &&& m == 0
  | 2 => (w ^^^ v) &&& m != 0
  | 3 => (w ^^^ v) &&& m == 0
  | 4 => cField c w ≥ cValue c v
  | 5 => cField c w ≤ cValue c v
  | _ => false

/-- A value past the hysteresis band (R310). -/
def cPast (c v h w : Nat) : Bool :=
  if cMode c = 4 then cField c w < cValue c v - h else cField c w > cValue c v + h

/-- Comparator states (0x3210 + n .05). -/
abbrev cIdle : Nat := 0
abbrev cArmed : Nat := 1
abbrev cHoldoff : Nat := 2
abbrev cSpent : Nat := 3

/-- Whether a hold-off of `n` has ended (R311). -/
def State.holdoffOver (s : State) (c n : Nat) (r : CmpRun) : Bool :=
  if cUnit c = 1 then r.ended || s.reached (r.fired + n) else r.events ≥ n

/-- One evaluation of a comparator (R308–R311): its next state, memory, and whether it fires. -/
def State.compare (s : State) (c v m n st : Nat) (r : CmpRun) (w : Nat) : Nat × CmpRun × Bool :=
  if cMode c = 0 then (st, r, false)
  else
    let raw := cRaw c v m w
    let st := if st = cHoldoff && s.holdoffOver c n r then (if cThr c then cSpent else cArmed) else st
    let seen := { r with prev := raw }
    if st = cIdle && cThr c then (if raw then cSpent else cArmed, seen, false)
    else if st = cSpent then (if cPast c v m w then cArmed else cSpent, seen, false)
    else if st = cHoldoff then (cHoldoff, { seen with events := r.events + raw.toNat }, false)
    else
      let prev := if st = cIdle then false else r.prev
      if raw && (cMode c != 3 || ! prev) then
        if cUnit c ≠ 0 && n ≠ 0 then (cHoldoff, ⟨raw, s.nowNs, 0, false⟩, true)
        else (if cThr c then cSpent else cArmed, seen, true)
      else (cArmed, seen, false)

/-- A channel word. -/
def State.chan (s : State) (w : Nat) : Nat := tget (fun _ => 0) s.trig.words w

/-- Comparator `i` evaluated: the state and whether it fired. -/
def State.evalCmp (s : State) (i : Nat) : State × Bool :=
  let c := s.obj (O.CMP_CTRL i)
  let r := tget (fun _ => CmpRun.blank) s.trig.cmps i
  let e := s.compare c (s.obj (O.CMP_VALUE i)) (s.obj (O.CMP_MASK i)) (s.obj (O.CMP_HOLDOFF i)) (s.obj (O.CMP_STATE i)) r
    (s.chan (cWord c))
  let s := State.setObj { s with trig := { s.trig with cmps := tput (fun _ => CmpRun.blank) s.trig.cmps i e.2.1 } } (O.CMP_STATE i) e.1
  (if e.2.2 then s.bump (O.CMP_FIRES i) 1 else s, e.2.2)

/-- All comparators evaluated: the fire bits. -/
def State.evalCmps (s : State) : State × Nat :=
  (List.range 64).foldl (fun a i => let r := a.1.evalCmp i; (r.1, if r.2 then a.2 + 2 ^ i else a.2)) (s, 0)

/-- HOLDOFF_EXPIRY (R311, R237, R238): a hold-off in ns ends once the time base has reached its end; the comparator moves on at the
start of the next evaluation, whatever the time base does meanwhile. -/
def execHoldoffExpiry (n : Fin 64) (s : State) : Out :=
  let c := s.obj (O.CMP_CTRL n)
  let r := tget (fun _ => CmpRun.blank) s.trig.cmps n
  if s.obj (O.CMP_STATE n) = cHoldoff && cUnit c = 1 && s.reached (r.fired + s.obj (O.CMP_HOLDOFF n)) then
    .next { s with trig := { s.trig with cmps := tput (fun _ => CmpRun.blank) s.trig.cmps n { r with ended := true } } }
  else .next s

/-! ### Sequencer (R312–R314) -/

/-- The 128 terms of an evaluation (Table 14-3). -/
def State.terms (s : State) (fires : Nat) : Nat :=
  let counters := (List.range 16).foldl (fun n i =>
    if s.obj (O.LIMIT i) ≠ 0 && s.obj (O.COUNT i) ≥ s.obj (O.LIMIT i) then n + 2 ^ (64 + i) else n) 0
  let lines := s.trig.xlatch % 65536 * 2 ^ 80
  let balls := (List.range 4).foldl (fun n i =>
    let cfg := s.obj (O.TRIG_CFG i)
    let on := if cfg.testBit 1 then s.trig.triglatch.testBit i else s.objBit O.TRIG_LEVEL i
    if ! cfg.testBit 0 && on then n + 2 ^ (96 + i) else n) 0
  fires + counters + lines + balls + 2 ^ 100 + s.trig.mtlatch.toNat * 2 ^ 101

/-- One branch of a sequencer state. -/
structure Branch where
  sel : Nat
  ctrl : Nat
  cnt : Nat
deriving DecidableEq, Repr

def State.branchA (s : State) (q : Nat) : Branch :=
  ⟨s.obj (O.SEQ_SEL_LO_A q) + s.obj (O.SEQ_SEL_HI_A q) * 2 ^ 64, s.obj (O.SEQ_CTRL_A q), s.obj (O.SEQ_CNT_A q)⟩
def State.branchB (s : State) (q : Nat) : Branch :=
  ⟨s.obj (O.SEQ_SEL_LO_B q) + s.obj (O.SEQ_SEL_HI_B q) * 2 ^ 64, s.obj (O.SEQ_CTRL_B q), s.obj (O.SEQ_CNT_B q)⟩

/-- A branch holds (R313). -/
def Branch.holds (b : Branch) (t : Nat) : Bool :=
  b.ctrl.testBit 58 && b.sel != 0 && (if b.ctrl.testBit 59 then b.sel &&& t == b.sel else b.sel &&& t != 0)

/-- Counters cleared, then incremented, by bitmap (R313, R314). -/
def State.countOps (s : State) (clr inc : Nat) : State :=
  (List.range 16).foldl (fun s i =>
    let v := if clr.testBit i then 0 else s.obj (O.COUNT i)
    s.setObj (O.COUNT i) (if inc.testBit i then satAdd 48 v 1 else v)) s

/-- The lowest comparator among a branch's selected terms that fired. -/
def lowestFire (sel fires : Nat) : Option Nat := (List.range 64).find? fun i => (sel &&& fires).testBit i

/-- STOP_DETAIL of a TRIGGER stop (R316). -/
def trigDetail (q : Nat) (isB : Bool) (sel fires : Nat) : Nat :=
  q * 2 ^ 60 + isB.toNat * 2 ^ 59 + (match lowestFire sel fires with | some i => i * 2 ^ 52 + 2 ^ 51 | none => 0)

/-! ### Actions (R315, R320, R323) -/

/-- A pulse started on a ball configured as output; a running pulse restarts its width. -/
def State.pulse (s : State) (i : Nat) : State :=
  if (s.obj (O.TRIG_CFG i)).testBit 0 then
    (State.emit { s with trig := { s.trig with pulses := setBit s.trig.pulses i true } } (.pin (1 + i) true)).setObjBit O.TRIG_LEVEL i true
  else s

/-- A TRACE action in the evaluation of DC k (R332, R333). -/
def State.traceMark (s : State) : State :=
  let s := { s with trace := { s.trace with marked := true } }
  match s.obj O.TRACE_STATE with
  | 1 => s.setObjs [(O.TRACE_STATE, 2), (O.TRIG_DC, s.dcNum), (O.TRIG_INDEX, s.trace.nextSeq)]
  | 4 => s.setObj O.TRIG_DC s.dcNum
  | 2 => s.bump O.TRIG_IGNORED 1
  | 3 => s.bump O.TRIG_IGNORED 1
  | _ => s

/-- The actions of a branch taken in state `q` (R315). The EVT flag is left to the caller's list. -/
def State.actions (s : State) (q : Nat) (isB : Bool) (b : Branch) (fires : Nat) : State :=
  let c := b.ctrl
  let s := if c.testBit 57 then (s.bump O.TRIGGER_STOPS 1).raiseStop 3 (trigDetail q isB b.sel fires) 0 else s
  let s := if c.testBit 56 then s.traceMark else s
  let s := if c.testBit 55 then { s with run := { s.run with snaps := s.run.snaps ++ [1] } } else s
  let s := if c.testBit 54 then s.msix 1 else s
  let s := if c.testBit 53 then { s with hub := { s.hub with flagQ := s.hub.flagQ ++ [(field c 19 14, field c 14 5)] } } else s
  let s := (List.range 4).foldl (fun s i => if c.testBit (49 + i) then s.pulse i else s) s
  if field c 33 16 ≠ 0 then (s.bump O.XTRIG_SENT 1).sendXtrig (field c 33 16) s.dcNum else s

/-- The sequencer's reaction to an evaluation's terms (R306, R313). -/
def State.sequence (s : State) (fires t : Nat) : State :=
  let q := s.obj O.SEQ_STATE
  let a := s.branchA q
  let b := s.branchB q
  let take (s : State) (isB : Bool) (b : Branch) : State :=
    let s := s.countOps (field b.cnt 32 16) (field b.cnt 48 16)
    let s := s.setObjs [(O.LAST_TAKEN_DC, s.dcNum), (O.LAST_TERMS_LO, t % 2 ^ 64), (O.LAST_TERMS_HI, t / 2 ^ 64)]
    (s.actions q isB b fires).setObj O.SEQ_STATE (field b.ctrl 60 4)
  if a.holds t then take s false a
  else if b.holds t then take s true b
  else s.countOps 0 (s.obj (O.STAY_INC q))

/-! ### Re-arming (R324) -/

/-- Sequencer to S0, counters 0, comparators IDLE, latches clear. Channel words stay. -/
def State.rearm (s : State) : State :=
  let s := { s with trig := { s.trig with cmps := [], xlatch := 0, triglatch := 0, mtlatch := false, rearm := false } }
  let s := (List.range 64).foldl (fun s i => s.setObj (O.CMP_STATE i) cIdle) s
  let s := (List.range 16).foldl (fun s i => s.setObj (O.COUNT i) 0) s
  s.setObj O.SEQ_STATE 0

/-- REARM (R324): at once when held, else at the next trigger instant. -/
def writeRearm (v : Nat) (s : State) : State × Nat :=
  if v ≠ 1 then (s, eRange)
  else if s.advancing then ({ s with trig := { s.trig with rearm := true } }, eNone) else (s.rearm, eNone)

/-- REARM (R324). -/
def execRearm (m : Master) (v : Byte) (s : State) : Out := s.write m O.REARM v.toNat (writeRearm v.toNat)

/-! ### Mask test (R317–R319) -/

/-- The stride of mask-test records. -/
def State.mtStride (s : State) : Nat := 64 * ((16 * (s.obj O.MT_WORDS + 1) + 63) / 64)

/-- The record at MT_RD, unless a word of it is uncorrectable. -/
def State.mtRecord (s : State) : Option (List Byte) :=
  let a := s.obj O.MT_BASE + s.obj O.MT_RD * s.mtStride
  let n := 16 * (s.obj O.MT_WORDS + 1)
  if s.hbmDamaged a n then none else some (s.hbmRead a n)

/-- MT_RD advances past the record at hand. -/
def State.mtAdvance (s : State) : State :=
  let n := s.obj O.MT_RECORDS
  State.setObj { s with trig := { s.trig with mtRec := none } } O.MT_RD (if n = 0 then 0 else (s.obj O.MT_RD + 1) % n)

/-- The lowest failing channel of a record against the words of its DC. -/
def mtViolation (first : Nat) (rec : List Byte) (words : List Nat) : Option Nat :=
  words.zipIdx.findSome? fun w =>
    let d := (w.1 ^^^ leNat ((rec.drop (16 + 16 * w.2)).take 8)) &&& leNat ((rec.drop (24 + 16 * w.2)).take 8)
    ((List.range 64).find? fun b => d.testBit b).map fun b => (first + w.2) * 64 + b

/-- MT_FAIL_DC and MT_FAIL_CHANNEL hold the first violation since each was last cleared. -/
def State.mtFirst (s : State) (dc chan : Nat) : State :=
  let s' := s.setObjs ((if s.trig.mtHeld.testBit 0 then [] else [(O.MT_FAIL_DC, dc)])
    ++ (if s.trig.mtHeld.testBit 1 then [] else [(O.MT_FAIL_CHANNEL, chan)]))
  { s' with trig := { s'.trig with mtHeld := 3 } }

/-- One DC compared with the record at hand (R318). An empty record stands for one with an uncorrectable word, which is taken as
stale (Table 23-4). -/
def State.mtCompare (s : State) (dc : Nat) (words : List Nat) (rec : List Byte) : State :=
  let rdc := leNat (rec.take 8)
  if rec ≠ [] && rdc > dc then s
  else if rec = [] || rdc < dc then (s.bump O.MT_STALE 1).mtAdvance
  else
    let s := (s.bump O.MT_CHECKED 1).mtAdvance
    match mtViolation (s.obj O.MT_FIRST_WORD) rec words with
    | none => s
    | some c =>
      let s := ((s.bump O.MT_FAILS 1).mtFirst dc c).raiseStop 4 dc 0
      { s with trig := { s.trig with mtlatch := true } }

/-- A DC that finds the ring empty (R318). -/
def State.mtUnderrun (s : State) (dc : Nat) : State :=
  let s := s.bump O.MT_UNDERRUNS 1
  if s.obj O.MT_UNDERRUN_STOP = 1 then 
    (State.setObj { s with trig := { s.trig with mtHeld := setBit s.trig.mtHeld 1 true } } O.MT_FAIL_CHANNEL 0xFFFF).raiseStop 4 dc 0
  else s

/-- The DCs that wait, taken in order as far as records are at hand. -/
def State.mtDrain (s : State) : Nat → State
  | 0 => s
  | n + 1 =>
    match s.trig.mtWait with
    | [] => s
    | (dc, words) :: rest =>
      let t := { s with trig := { s.trig with mtWait := rest } }
      if s.obj O.MT_RD = s.obj O.MT_WR then (t.mtUnderrun dc).mtDrain n
      else match s.trig.mtRec with
        | none => s
        | some rec => (t.mtCompare dc words rec).mtDrain n

/-- The mask test of an evaluated DC (R318, R319): at once with a record at hand, else when its fetch completes. -/
def State.maskTest (s : State) : State :=
  if s.obj O.MT_ENABLE = 0 then s
  else
    let words := (List.range (s.obj O.MT_WORDS)).map fun i => s.chan (s.obj O.MT_FIRST_WORD + i)
    let s := { s with trig := { s.trig with mtWait := s.trig.mtWait ++ [(s.dcNum, words)] } }
    s.mtDrain s.trig.mtWait.length

/-- MASK_TEST_FETCH_DONE (R319): the record at MT_RD has been fetched. -/
def execMaskTestFetchDone (s : State) : Out :=
  if s.obj O.MT_ENABLE = 0 || s.obj O.MT_RD = s.obj O.MT_WR || s.trig.mtRec.isSome then .next s
  else
    let a := s.obj O.MT_BASE + s.obj O.MT_RD * s.mtStride
    let s := match s.firstBad a (16 * (s.obj O.MT_WORDS + 1)) with | some b => s.hbmBad b | none => s
    let rec_ := match s.mtRecord with | some r => r | none => []
    let s := { s with trig := { s.trig with mtRec := some rec_ } }
    .next (s.mtDrain s.trig.mtWait.length)

/-! ### The trigger instant (R304–R306) -/

/-- The evaluation of the current DC. -/
def State.trigEvaluate (s : State) : State :=
  let s := if s.trig.rearm then s.rearm else s
  if s.obj O.TRG_ENABLE = 0 || s.replaying then s
  else
    let s := State.bump { s with trig := { s.trig with seen := s.trig.words } } O.EVALUATIONS 1
    let fires := s.evalCmps.2
    let s := s.evalCmps.1
    let t := s.terms fires
    let s := { s with trig := { s.trig with xlatch := 0, triglatch := 0, mtlatch := false } }
    (s.sequence fires t).maskTest

/-! ### Balls (R323) -/

/-- TRIG_INPUT_EDGE (R323): the synchronised level of a TRIG ball changes. A rising edge is latched in edge mode. -/
def execTrigInputEdge (ball : Fin 4) (level : Bool) (s : State) : Out :=
  let cfg := s.obj (O.TRIG_CFG ball)
  let rise := level && ! s.objBit O.TRIG_LEVEL ball
  let s := s.setObjBit O.TRIG_LEVEL ball level
  if rise && ! cfg.testBit 0 && cfg.testBit 1 then .next { s with trig := { s.trig with triglatch := setBit s.trig.triglatch ball true } }
  else .next s

/-- TRIG_PULSE_END (R323): PULSE ns after the last action, the pulse ends. -/
def execTrigPulseEnd (ball : Fin 4) (s : State) : Out :=
  if s.trig.pulses.testBit ball then
    .next ((State.emit { s with trig := { s.trig with pulses := setBit s.trig.pulses ball false } } (.pin (1 + ball) false)).setObjBit
      O.TRIG_LEVEL ball false)
  else .next s

/-! ### Accepted cross-triggers (R320, R321) -/

/-- The lines of an accepted XTRIG latched; a stop with cause CROSS on a shared stop line. -/
def State.crossTrigger (s : State) (origin lines link : Nat) : State :=
  let s := { s with trig := { s.trig with xlatch := s.trig.xlatch ||| lines } }
  if lines &&& s.obj O.XTRIG_STOP_LINES ≠ 0 then s.raiseStop 6 (origin * 2 ^ 54 + link * 2 ^ 49) 0 else s

end Sys2Proof.Machine
end

