-- ==== Sys2Proof/Machine/Trace.lean ====
section
/-!
DEFINITION. Trace records and the spoil ring, the contents of snapshots, and the replay log's entries (15).
-/

namespace Sys2Proof.Machine

/-! ### Records (R328–R333) -/

/-- The stride of a trace record for a number of probe words (R329). -/
def traceStride (words : Nat) : Nat := 64 * ((32 + 8 * words + 63) / 64)

/-- RECORD_BYTES and CAPACITY brought up to date with the settings (R329). -/
def State.traceSizes (s : State) : State :=
  let n := traceStride (s.obj O.WORDS)
  s.setObjs [(O.RECORD_BYTES, n), (O.CAPACITY, s.obj O.SPOIL_SIZE * granule / n)]

/-- The captured probe words of the current DC. -/
def State.probeWords (s : State) : List Nat :=
  (List.range (s.obj O.WORDS)).map fun i => tget (fun _ => 0) s.trace.probes (s.obj O.FIRST_WORD + i)

/-- The bytes of a record (Table 15-1). -/
def traceRecord (dc time seq : Nat) (trig gap : Bool) (words : List Nat) : List Byte :=
  leBytes 8 dc ++ leBytes 8 time ++ leBytes 8 seq ++ leBytes 8 (trig.toNat + 2 * gap.toNat) ++ words.flatMap (leBytes 8)

/-- The number of records that the 4 MiB buffer holds (R331). -/
def State.traceRoom (s : State) : Nat := 2 ^ 22 / traceStride (s.obj O.WORDS)

/-- The record finds no place: the buffer is full, or in STREAM the host has not consumed enough (R331, R333). -/
def State.traceFull (s : State) : Bool :=
  s.trace.buffer.length ≥ s.traceRoom ||
    (s.obj O.TRACE_MODE == 1 && decide (s.trace.nextSeq ≥ s.obj O.RD + s.obj O.CAPACITY))

/-- A record built into the buffer. In POST the record of T + POST_DCS, or a later one, freezes the ring (R332). -/
def State.traceStore (s : State) (words : List Nat) : State :=
  let t := s.trace
  let r := traceRecord s.dcNum s.nowNs t.nextSeq t.marked t.gap words
  let s := { s with trace := { t with buffer := t.buffer ++ [(t.nextSeq, r)], nextSeq := t.nextSeq + 1, gap := false, lastWords := some words } }
  if s.obj O.TRACE_STATE = 2 && s.dcNum ≥ s.obj O.TRIG_DC + s.obj O.POST_DCS then s.setObj O.TRACE_STATE 3 else s

/-- The trace engine at the trigger instant of the current DC (R328, R330). -/
def State.traceBuild (s : State) : State :=
  let st := s.obj O.TRACE_STATE
  let words := s.probeWords
  let wanted := s.obj O.CAPTURE = 0 || s.trace.marked || s.trace.lastWords != some words
  let s :=
    if s.obj O.TRACE_ENABLE = 1 && (st = 1 || st = 2 || st = 4) && ! s.replaying && wanted then
      if s.traceFull then State.bump { s with trace := { s.trace with gap := true } } O.DROPPED 1 else s.traceStore words
    else s
  { s with trace := { s.trace with marked := false } }

/-- TRACE_RECORD_WRITE (R331): the oldest buffered record comes to lie wholly in HBM, and WR advances. -/
def execTraceRecordWrite (s : State) : Out :=
  if s.clockWait then .next s
  else match s.trace.buffer with
    | [] => .next s
    | (n, r) :: rest =>
      let cap := s.obj O.CAPACITY
      if cap = 0 then .next s
      else
        let stride := s.obj O.RECORD_BYTES
        let s := State.hbmWrite { s with trace := { s.trace with buffer := rest } } (s.obj O.SPOIL_BASE + n % cap * stride)
          (r ++ List.replicate (stride - r.length) 0)
        let s := s.setObj O.WR (n + 1)
        .next (if s.obj O.TRACE_MODE = 0 then s.setObj O.FIRST_VALID (n + 1 - cap) else s)

/-- The spoil ring starts afresh (R335). -/
def State.traceArm (s : State) : State :=
  if s.obj O.TRACE_ENABLE = 0 then s
  else State.setObjs { s with trace := { s.trace with buffer := [], nextSeq := 0, gap := false, lastWords := none } }
    [(O.WR, 0), (O.RD, 0), (O.FIRST_VALID, 0), (O.TRIG_DC, 2 ^ 64 - 1),
     (O.TRACE_STATE, if s.obj O.TRACE_MODE = 0 then 1 else 4)]

/-- TRACE_CMD (R332, R335): 1 arms, 2 freezes in ARMED and POST. -/
def writeTraceCmd (v : Nat) (s : State) : State × Nat :=
  let st := s.obj O.TRACE_STATE
  if v = 1 then (s.traceArm, eNone)
  else if v = 2 then (if st = 1 || st = 2 then s.setObj O.TRACE_STATE 3 else s, eNone)
  else (s, eRange)

/-- TRACE_CMD_ARM (R335). -/
def execTraceCmdArm (m : Master) (s : State) : Out := s.write m O.TRACE_CMD 1 (writeTraceCmd 1)

/-- TRACE_CMD_FREEZE (R332). -/
def execTraceCmdFreeze (m : Master) (s : State) : Out := s.write m O.TRACE_CMD 2 (writeTraceCmd 2)

/-! ### Snapshot contents (R336, R337) -/

/-- Design memory as a snapshot reads it: through its check bits, where they can still correct a row. -/
def Cluster.memImage (c : Cluster) : Memory :=
  let m := mslice c.node 0x02000000 0x02080000
  let rows := ((m.map fun (x : Nat × Byte) => x.1 / 8) ++ c.ecc.map fun (x : Nat × Byte) => x.1).eraseDups
  rows.foldl (fun m r => match (c.rowCheck r).word with | some v => mputNat m (8 * r) 8 v | none => m) m

/-- The slots that a snapshot may take, searching upwards from PEAT_NEXT (R336). -/
def State.slotsFrom (s : State) (first : Nat) : List Nat :=
  let n := s.obj O.PEAT_COUNT
  ((List.range n).map fun i => (first + i) % n).filter fun i => ! s.objBit O.PEAT_PIN i

/-- The slot of the next snapshot, or the SNAP_RESULT that says why there is none (R336). -/
def State.snapSlot (s : State) : Nat ⊕ Nat :=
  let n := s.obj O.PEAT_COUNT
  let first := if s.obj O.PEAT_NEXT ≥ n then 0 else s.obj O.PEAT_NEXT
  if n = 0 then .inr 3
  else match s.slotsFrom first with
    | [] => .inr 2
    | i :: _ => .inl i

/-- The sequencer's part of the exchange area: ratio accumulators, enables, NEXT_EDGE values, PACE credits. -/
def State.sequencerBytes (s : State) : List Byte :=
  (List.range 64).flatMap (fun d => leBytes 8 (tget (fun _ => 0) s.sluice.accs d))
    ++ leBytes 8 s.sluice.enables
    ++ allTies.flatMap (fun i => leBytes 8 (s.obj (O.NEXT_EDGE i)))
    ++ (List.range 64).flatMap (fun d => leBytes 8 (tget (fun _ => 0) s.hub.pace d))

/-- The HBM with the parts of Table 15-2 written to a slot and its exchange area. Unused logical clusters are saved as zeros. -/
def State.partsImage (s : State) (slot : Nat) : Memory :=
  let base := s.peatSlot slot
  let ex := exchangeArea slot
  let m := mclear (mclear s.hbm.mem base (base + 9 * granule)) ex (ex + 0x50000)
  let m := s.bound.foldl (fun m b =>
    let c := s.cl (cidOf b.1 b.2.2)
    let n := 64 * b.1 + b.2.1
    mlay (mlay m (base + n * 0x10000) (mslice c.node 0x01000000 0x01010000)) (base + granule + n * 0x80000) c.memImage) m
  let m := s.sluice.xin.foldl (fun m x => mwrite m (ex + 64 * x.1) (leBytes 64 x.2)) m
  mwrite (mlay m (ex + 0x40000) s.sluice.fin) (ex + 0x40400) s.sequencerBytes

/-- The parts of Table 15-2 saved in a slot. -/
def State.saveParts (s : State) (slot : Nat) : State :=
  let base := s.peatSlot slot
  let ex := exchangeArea slot
  let bad := s.hbm.bad.filter fun b => ! (base ≤ b && b < base + 9 * granule || ex ≤ b && b < ex + 0x50000)
  { s with hbm := { s.hbm with
    mem := s.partsImage slot, bad := bad, open_ := cutRange ex 0x50000 (cutRange base (9 * granule) s.hbm.open_) } }

/-- A cluster with its live STATE and design memory taken from a slot. -/
def Cluster.restored (c : Cluster) (m : Memory) (base n : Nat) : Cluster :=
  let st := mslice m (base + n * 0x10000) (base + (n + 1) * 0x10000)
  let mem := mslice m (base + granule + n * 0x80000) (base + granule + (n + 1) * 0x80000)
  let node := mlay (mclear (mclear c.node 0x01000000 0x01010000) 0x02000000 0x02080000) 0x01000000 st
  let c := { c with node := node, ecc := [], recent := [], fixRows := [] }
  ((mem.map fun x => x.1 / 8).eraseDups).foldl (fun c r => c.putRow r (mnat mem (8 * r) 8)) c

/-- The parts of Table 15-2 written back from a slot (R341). -/
def State.restoreParts (s : State) (slot : Nat) : State :=
  let base := s.peatSlot slot
  let ex := exchangeArea slot
  let m := s.hbm.mem
  let s := s.bound.foldl (fun s b =>
    let cid := cidOf b.1 b.2.2
    s.setCl cid ((s.cl cid).restored m base (64 * b.1 + b.2.1))) s
  let q := ex + 0x40400
  let s := allTies.foldl (fun s i => if s.tieUsed i then s.setObj (O.NEXT_EDGE i) (mnat m (q + 520 + 8 * i) 8) else s) s
  let xin := (mslice m ex (ex + 0x40000)).map (fun x => x.1 / 64) |>.eraseDups
  { s with
    sluice := { s.sluice with
      accs := (List.range 64).foldl (fun t d => tput (fun _ => 0) t d (mnat m (q + 8 * d) 8)) s.sluice.accs
      enables := mnat m (q + 512) 8
      xin := xin.map fun x => (x, mnat m (ex + 64 * x) 64)
      fin := mslice m (ex + 0x40000) (ex + 0x40400) }
    hub := { s.hub with
      pace := (List.range 64).foldl (fun t d => tput (fun _ => 0) t d (mnat m (q + 584 + 8 * d) 8)) s.hub.pace } }

/-! ### Replay-log entries (R283, R343) -/

/-- The bytes of an entry (Table 15-3) for DC `m`: the inputs taken for the next DC. -/
def replayBytes (m paced tied : Nat) (fin : Option Memory) (taken : List (Nat × Nat)) : List Byte :=
  let f := match fin with | some b => mread b 0 1024 | none => []
  let n := 32 + f.length + 72 * taken.length
  leBytes 8 m ++ leBytes 4 n ++ leBytes 2 taken.length ++ leBytes 2 (fin.isSome).toNat ++ leBytes 8 paced ++ leBytes 8 tied ++ f
    ++ taken.flatMap fun x => leBytes 8 x.1 ++ leBytes 64 x.2

/-- An entry read back. -/
structure ReplayEntry where
  paced : Nat
  tied : Nat
  fin : Option (List Byte)
  taken : List (Nat × Nat)
deriving DecidableEq, Repr

/-- The fields of an entry's bytes. -/
def parseReplay (b : List Byte) : ReplayEntry :=
  let hasFin := leNat ((b.drop 14).take 2) % 2 == 1
  let off := if hasFin then 0x420 else 0x20
  let n := leNat ((b.drop 12).take 2)
  { paced := leNat ((b.drop 16).take 8)
    tied := leNat ((b.drop 24).take 1)
    fin := if hasFin then some ((b.drop 32).take 1024) else none
    taken := (List.range n).map fun i =>
      (leNat ((b.drop (off + 72 * i)).take 2) % 4096, leNat ((b.drop (off + 72 * i + 8)).take 64)) }

end Sys2Proof.Machine
end

