-- ==== Sys2Proof/Machine/Exchange.lean ====
section
/-!
DEFINITION. The exchange steps (02, 04, 12, 16): the exchange instant, at which the staged STATE becomes live and the inputs and
enables of the next DC are decided (R90), and the last exchange step, in which the outputs leave (R278, R360).
-/

namespace Sys2Proof.Machine

/-! ### Values that ops have driven (R36, R48, R49) -/

/-- The bits of a list of (bit number, value) put into a table of 64-bit words. A bit driven twice in one DC is left free (R49, R50). -/
def driveBits (fresh : Nat) (l : List (Nat × Bool)) (t : Tab Nat) : Tab Nat :=
  l.zipIdx.foldl (fun t e =>
    let b := e.1.1
    let v := if (l.filter fun x => x.1 == b).length > 1 then Config.freeBit (fresh + e.2) else e.1.2
    tupd (fun _ => 0) t (b / 64) fun w => setBit w (b % 64) v) t

/-- Some bit of the list is driven twice. -/
def twiceDriven (l : List (Nat × Bool)) : Bool := l.any fun e => (l.filter fun x => x.1 == e.1).length > 1

/-- The draws that a list of driven bits uses. -/
def State.drawFor (s : State) (l : List (Nat × Bool)) : State :=
  if twiceDriven l then { s with fresh := s.fresh + l.length } else s

def Drive.asTrg : Drive → Option (Nat × Bool)
  | .trg c v => some (c, v)
  | _ => none
def Drive.asPrb : Drive → Option (Nat × Bool)
  | .prb p v => some (p, v)
  | _ => none
def Drive.asEvt : Drive → Option (Nat × Nat)
  | .evt t f => some (t, f)
  | _ => none
def Drive.asAsrt : Drive → Option (Nat × Nat × Nat × Nat)
  | .asrt n d l b => some (n, d, l, b)
  | _ => none
def Drive.asXout : Drive → Option (Nat × Bool)
  | .xout x b v => some (512 * x + b, v)
  | _ => none
def Drive.asFout : Drive → Option (Nat × Bool)
  | .fout b v => some (b, v)
  | _ => none

/-- The values that are output in the last exchange step. -/
def Drive.late : Drive → Bool
  | .xout _ _ _ => true
  | .fout _ _ => true
  | _ => false

/-- The TRG and PRB values of the DC put into the channel and probe words. -/
def State.passWords (s : State) : State :=
  let trg := s.sluice.drives.filterMap Drive.asTrg
  let s := State.drawFor { s with trig := { s.trig with words := driveBits s.fresh trg s.trig.words } } trg
  let prb := s.sluice.drives.filterMap Drive.asPrb
  State.drawFor { s with trace := { s.trace with probes := driveBits s.fresh prb s.trace.probes } } prb

/-- The flags of the DC's EVT ops, each once (R65). -/
def State.passFlags (s : State) : State :=
  let fl := (s.sluice.drives.filterMap Drive.asEvt).eraseDups
  { s with hub := { s.hub with flagQ := s.hub.flagQ ++ fl } }

/-- The lowest-numbered of a list of failures. -/
def lowestAssert : List (Nat × Nat × Nat × Nat) → Option (Nat × Nat × Nat × Nat)
  | [] => none
  | a :: r => match lowestAssert r with
    | none => some a
    | some b => if b.1 < a.1 then some b else some a

/-- The ASRT failures of the DC: one ASSERT record (R497), and a stop if the image marks one of them as stopping (R48, Table 08-4). -/
def State.passAsserts (s : State) : State :=
  let l := s.sluice.drives.filterMap Drive.asAsrt
  match lowestAssert l with
  | none => s
  | some (n, die, lc, bp) =>
    let pc := ((s.bound.find? fun b => b.1 == die && b.2.1 == lc).map fun b => b.2.2).getD 255
    let s := s.raiseFault 0x13 ⟨die, pc, lc, 0xFFFF⟩ (n + 65536 * min 65535 l.length) bp 0
    match lowestAssert (l.filter fun a => mbit s.sluice.asserts 0 a.1) with
    | none => s
    | some (n, die, lc, bp) => s.raiseStop 5 (n * 2 ^ 48 + die * 2 ^ 44 + lc * 2 ^ 38 + bp * 2 ^ 28) 0

/-! ### The exchange instant (R90) -/

/-- STATE_COMMIT (R36): the staged values of every cluster become the live half at once. -/
def State.stateCommit (s : State) : State :=
  s.sluiceSet.foldl (fun s cid =>
    let c := s.cl cid
    let node := c.staged.foldl (fun m e => mputBit m (nLive (e.1 / 512)) (e.1 % 512) e.2) c.node
    s.setCl cid { c with node := node, staged := [] }) s

/-- One step of a ratio accumulator (R40): the new value and the enable. -/
def ratioStep (n m a : Nat) : Nat × Bool := if a + n ≥ m then (a + n - m, true) else (a + n, false)

/-- The ratio accumulators stepped: the enables of the ratio domains for the next DC (R40). -/
def State.ratioEnables (s : State) : State :=
  (List.range 64).foldl (fun s d =>
    let dom := tget (fun _ => 0) s.sluice.domains d
    if domKind dom = 1 then
      let r := ratioStep (field dom 0 16) (field dom 16 16) (tget (fun _ => 0) s.sluice.accs d)
      { s with sluice := { s.sluice with
          accs := tput (fun _ => 0) s.sluice.accs d r.1
          nextEnables := setBit s.sluice.nextEnables d r.2 } }
    else s) s

/-- PACE_CREDIT_CONSUME (R280): a transactor-paced domain with a credit is on in the next DC and loses it. -/
def State.paceEnables (s : State) : State :=
  (List.range 64).foldl (fun s d =>
    let n := tget (fun _ => 0) s.hub.pace d
    if domKind (tget (fun _ => 0) s.sluice.domains d) = 3 && n > 0 then
      { s with sluice := { s.sluice with nextEnables := setBit s.sluice.nextEnables d true }
               hub := { s.hub with pace := tput (fun _ => 0) s.hub.pace d (n - 1) } }
    else s) s

/-- XPORT_TAKE (R277): every pending post becomes the XIN input for the next DC. -/
def State.takeXports (s : State) : State :=
  let pend := s.hub.xports.filter fun (e : Nat × Xport) => e.2.pending
  let s := { s with hub := { s.hub with xports := s.hub.xports.map fun (e : Nat × Xport) =>
    (e.1, if e.2.pending then { e.2 with pending := false, inDc := s.dcNum + 1, took := true } else { e.2 with took := false }) } }
  let s := { s with sluice := { s.sluice with xin := pend.foldl (fun t (e : Nat × Xport) => tput (fun _ => 0) t e.1 e.2.pend) s.sluice.xin } }
  s.bump O.XPORT_TAKEN pend.length

/-- The FIN value of a lane for the next DC (R358): a posted lane's pending value if there is one, a sampled lane's boundary. -/
def State.laneValue (s : State) (b : Memory) (lane : Nat) : Option Nat :=
  if s.lanePosted lane then tget (fun _ => none) s.fabric.pend lane else some (mnat b (8 * lane) 8)

/-- FIN_LANE_TAKE (R358, R359): every lane taken for the next DC; bits of tie input ranges are not taken here. -/
def State.takeLanes (s : State) (b : Memory) : State :=
  let old := s.sluice.fin
  let fin := (List.range 128).foldl (fun m lane =>
    match s.laneValue b lane with
    | none => m
    | some v => if mnat old (8 * lane) 8 = v then m else mputNat m (8 * lane) 8 v) old
  let fin := allTies.foldl (fun m i =>
    if s.tieUsed i then putBitsAt m (s.tieInFirst i) (bitsAt old (s.tieInFirst i) (s.tieInCount i)) (s.tieInCount i) else m) fin
  { s with sluice := { s.sluice with fin := fin }
           fabric := { s.fabric with fin := b, pend := s.fabric.pend.filter fun (e : Nat × Option Nat) => ! s.lanePosted e.1 } }

/-- The inputs of the next DC decided live (R277, R280, R358, R255): captures first, then posts, credits, lanes and ties. -/
def State.takeLive (s : State) (b : Memory) : State :=
  let s := allTies.foldl (fun s i => s.capture i b) s
  let s := (s.takeXports.paceEnables).takeLanes b
  allTies.foldl State.tieDecide s

/-- The inputs of the next DC taken from the replay log (R263, R284). Where the log holds no entry the inputs keep their values. -/
def State.takeReplay (s : State) : State :=
  match s.replayEntry s.dcNum with
  | none => s
  | some b =>
    let e := parseReplay b
    let en := allTies.foldl (fun n i => if s.tieUsed i then setBit n (s.obj (O.DOMAIN i)) (e.tied.testBit i) else n)
      (s.sluice.nextEnables ||| e.paced)
    { s with sluice := { s.sluice with
        nextEnables := en
        xin := e.taken.foldl (fun t x => tput (fun _ => 0) t x.1 x.2) s.sluice.xin
        fin := match e.fin with | some f => mwrite [] 0 f | none => s.sluice.fin } }

/-- REPLAY_LOG_APPEND (R283, R343): the inputs decided for the next DC; `fin` is the FIN input that was in effect. -/
def State.logInputs (s : State) (fin : Memory) : State :=
  if s.obj O.PEAT_COUNT = 0 then s
  else
    let en := s.sluice.nextEnables
    let paced := (List.range 64).foldl (fun n d =>
      if domKind (tget (fun _ => 0) s.sluice.domains d) = 3 && en.testBit d then n + 2 ^ d else n) 0
    let tied := allTies.foldl (fun n i => if (s.tie i).edgeNext.isSome then n + 2 ^ i else n) 0
    let taken := (s.hub.xports.filter fun e => e.2.took).map fun e => (e.1, e.2.pend)
    s.replayAppend s.dcNum (replayBytes s.dcNum paced tied (if s.sluice.fin = fin then none else some s.sluice.fin) taken)

/-- The order window closes (R182): its orders and stops act at the next boundary. An immediate commit waits for it too (R192). -/
def State.closeWindow (s : State) : State :=
  let r := s.run
  { s with run := { r with
      due := r.due ++ r.window, window := [], dueCauses := r.dueCauses ++ r.causes, causes := []
      dueSnaps := r.dueSnaps ++ r.snaps, snaps := [], forwarded := false
      arm := if r.arm = .now then .closed else r.arm } }

/-- The last cluster of the Sluice set has entered its first exchange step. -/
def State.atExchange (s : State) : Bool :=
  s.sluiceSet.all fun c =>
    let k := s.cl c
    k.endPeriod.isSome && (k.seq == .exchange || k.seq == .drain || k.seq == .atEnd)

/-- What happens in the period of the exchange instant, live (R90, R305, R328, R497). -/
def State.exchangeLive (s : State) (b : Memory) : State :=
  let fin := s.sluice.fin
  let s := (s.takeLive b).logInputs fin
  let s := s.passFlags.passAsserts
  let s := if s.mode == mTied && s.obj O.TB_STATE == tbHoldover then s.setObj O.TB_HOLDOVER 1 else s
  s.trigEvaluate.traceBuild

/-- EXCHANGE_INSTANT (R90): `fin` is the boundary value that the fabric presents. -/
def execExchangeInstant (fin : BitVec 8192) (s : State) : Out :=
  if ! s.stepping || s.sluice.exchanged || s.run.abandon.isSome || ! s.atExchange then .next s
  else
    let s := { s with sluice := { s.sluice with exchanged := true, nextEnables := 0 } }
    let s := s.stateCommit.ratioEnables.passWords
    let s :=
      if s.replaying then
        let bad := match s.hbm.replay.find? fun e => e.1 == s.dcNum with
          | some e => s.firstBad (replayBase + e.2.1) e.2.2
          | none => none
        match bad with
        | some a => let s := s.hbmBad a; if s.obj O.RECOVERY_STATE = 4 then s.recoveryFails 4 else s
        | none => s.takeReplay
      else s.exchangeLive (s.finBoundary fin)
    let s := { s with sluice := { s.sluice with drives := s.sluice.drives.filter Drive.late } }
    .next s.closeWindow

/-! ### The last exchange step (R278, R360) -/

/-- The notification that an XPORT asks for (Table 12-3). -/
def notifyOf (p : Xport) (changed : Bool) : Option (Nat × Nat) :=
  let on := match field p.xctl 33 2 with
    | 0 => false
    | 1 => true
    | 2 => changed
    | _ => p.took
  if on then some (field p.xctl 14 14, field p.xctl 28 5) else none

/-- The bits of one XPORT among driven XOUT bits put into its output; a bit driven twice is free. -/
def Xport.driven (p : Xport) (fresh x : Nat) (l : List (Nat × Bool)) : Xport :=
  l.zipIdx.foldl (fun p e =>
    if e.1.1 / 512 = x then
      let v := if (l.filter fun y => y.1 == e.1.1).length > 1 then Config.freeBit (fresh + e.2) else e.1.2
      { p with out := setBit p.out (e.1.1 % 512) v }
    else p) p

/-- OUT, OUT_DC and the notify flags (R278). -/
def State.latchXports (s : State) : State :=
  let l := s.sluice.drives.filterMap Drive.asXout
  let xs := ((l.map fun (e : Nat × Bool) => e.1 / 512) ++ s.hub.xports.map fun (e : Nat × Xport) => e.1).eraseDups
  let s' := xs.foldl (fun (t : State) x =>
    let p := t.xport x
    let q := p.driven s.fresh x l
    let t := t.setXport x q
    match notifyOf q (q.out != p.out) with
    | some f => { t with hub := { t.hub with flagQ := t.hub.flagQ ++ [f] } }
    | none => t) s
  State.drawFor { s' with hub := { s'.hub with outDc := s.dcNum } } l

/-- FOUT_BOUNDARY_UPDATE (R360): the boundary register takes the FOUT bits of the DC outside the tie output ranges; a tie slot whose
enable is on takes its output bits (R258). -/
def State.latchFout (s : State) : State :=
  let l := s.sluice.drives.filterMap Drive.asFout
  let design := l.zipIdx.foldl (fun m e =>
    let v := if (l.filter fun y => y.1 == e.1.1).length > 1 then Config.freeBit (s.fresh + e.2) else e.1.2
    mputBit m 0 e.1.1 v) s.fabric.foutDesign
  let fout := allTies.foldl (fun m i =>
    if s.tieUsed i then
      putBitsAt m (s.tieOutFirst i) (bitsAt s.fabric.fout (s.tieOutFirst i) (s.tieOutCount i)) (s.tieOutCount i)
    else m) design
  let s := State.drawFor { s with fabric := { s.fabric with
    foutDesign := design, fout := fout, foutSeq := (s.fabric.foutSeq + 1) % 256 } } l
  allTies.foldl (fun s i => if s.mode == mTied then s.takeOutputs i else s) s

/-- Every cluster of the Sluice set is in its last exchange step or past it. -/
def State.atLastExchange (s : State) : Bool :=
  s.sluiceSet.all fun c =>
    let k := s.cl c
    (k.seq == .exchange && k.step ≥ 39) || k.seq == .drain || k.seq == .atEnd

/-- The outputs of the DC leave; a replayed DC delivers nothing (R342). -/
def State.outLatch (s : State) : State :=
  let s := if s.replaying then s else s.latchXports.latchFout
  { s with sluice := { s.sluice with latched := true, drives := [] } }

/-- XPORT_OUT_LATCH (R278, R360): the last exchange step of the DC. -/
def execXportOutLatch (s : State) : Out :=
  if ! s.stepping || ! s.sluice.exchanged || s.sluice.latched || ! s.atLastExchange then .next s
  else .next s.outLatch

end Sys2Proof.Machine
end

