-- ==== Sys2Proof/Machine/Ingress.lean ====
section
/-!
DEFINITION. The Seam ingress (09, 23): what a slot unit does once its frame is released (R225), the early buffers, and the Seam
traffic that abandons, retreats and restores discard (R531).
-/

namespace Sys2Proof.Machine

/-- A slot unit of a checked frame forwarded (R225): into the hub crossing unit of its die, or relayed under R223. A tag without an ingress record is
discarded as one without an egress record is. A tag with two records, or one whose cluster is not bound, has an unpredictable result
(R233). -/
def State.forwardSlot (s : State) (l tag bits dc : Nat) : State :=
  match s.ingressRecord l tag with
  | none => s.bump O.SLOT_UNMATCHED 1
  | some r =>
    let s := if (s.tagRecords true l tag).length > 1 then s.astray else s
    if ssDmod r = s.ownId then
      match s.bound.find? fun b => b.1 == ssDdie r && b.2.1 == ssDlc r with
      | none => s.astray
      | some b =>
        s.putFlit 4 (8 + ssDdie r) (s.period + 1) 0
          { stamp := dc % 2 == 1, key := ssKey r, dmod := s.ownId, ddie := ssDdie r, dpc := b.2.2, bits := bits
            onTime := false, due := 0, dc := dc }
    else s.seamEgress none (ssDmod r) (ssDdie r) (ssDlc r) (ssKey r) bits dc

/-- The slot of the restore in progress. -/
def State.restoring (s : State) : Option Nat :=
  match s.run.pause with
  | some (.restore slot _ _) => some slot
  | _ => none

/-- A slot unit at the ingress (R225, R531): forwarded, held early, or discarded and counted. `δ` is its EPOCH's distance from the
current DC. -/
def State.slotIngress (s : State) (l tag epoch bits : Nat) : State :=
  let hold := s.setLink l { s.link l with early := (s.link l).early ++ [(tag, epoch, bits)] }
  let stale := s.bump O.SLOT_STALE 1
  match s.restoring with
  | some slot => if epoch = s.obj (O.SLOT_DC slot) % 4 then hold else stale
  | none =>
    if s.run.discarding then stale
    else match (epoch + 4 - s.dcNum % 4) % 4 with
      | 0 => s.forwardSlot l tag bits s.dcNum
      | 1 => hold
      | _ => stale

/-- EARLY_FLIT_RELEASE (R225): at the opening of a DC the slot units held for it are forwarded. -/
def State.releaseEarly (s : State) : State :=
  allLinks.foldl (fun s l =>
    let k := s.link l
    let now := k.early.filter fun e => e.2.1 == s.dcNum % 4
    let later := k.early.filter fun e => e.2.1 != s.dcNum % 4
    if now = [] then s
    else now.foldl (fun s e => s.forwardSlot l e.1 e.2.2 s.dcNum) (s.setLink l { k with early := later })) s

/-- A DC_DONE at the ingress (R88, R531): it becomes visible to every cluster in the present period. -/
def State.doneIngress (s : State) (l dc : Nat) : State :=
  let keep := match s.restoring with
    | some slot => decide (s.obj (O.SLOT_DC slot) ≤ dc)
    | none => ! s.run.discarding
  if keep then
    { s with sluice := { s.sluice with tokens := s.sluice.tokens ++ [⟨l, dc, s.period - 1⟩] } }
  else s

/-- RETREAT (R531): tokens for DC `k` and later, everything in the early buffers and at the ingress, and the unsent slot flits of those
DCs at the egress are discarded; what the egress remembers of those DCs' tokens goes with them. -/
def State.seamDiscard (s : State) (k : Nat) : State :=
  let s := { s with sluice := { s.sluice with tokens := s.sluice.tokens.filter fun t => t.dc < k } }
  s.onLinks allLinks fun _ x =>
    { x with
      early := [], slotQ := x.slotQ.filter fun e => e.dc < k, doneDue := x.doneDue.filter fun d => d.1 < k
      originSent := x.originSent.filter fun e => e.1 < k
      doneSent := x.doneSent.bind fun n => if n < k then some n else if k = 0 then none else some (k - 1) }

/-- Ingress traffic is discarded from an abandon or a retreat on (R531). -/
def State.discardFrom (s : State) (k : Nat) : State :=
  let s := s.seamDiscard k
  { s with run := { s.run with discarding := true } }

end Sys2Proof.Machine
end

