-- ==== Sys2Proof/Machine/Node.lean ====
section
/-!
DEFINITION. The cluster node's address map (R129, Table 05-10): what a read returns and what a write may change, and the
writes that void the snapshots (R149, R339).
-/

namespace Sys2Proof.Machine

/-- How a region of the map answers writes. -/
inductive NodeWrite where
  | staged | heldOnly | never
deriving DecidableEq, Repr

/-- The regions of Table 05-10: first address, end address, write rule. -/
def nodeRegions : List (Nat × Nat × NodeWrite) :=
  [(0x00000000, 0x01000000, .staged), (0x01000000, 0x01010000, .heldOnly), (0x01010000, 0x01020000, .never),
   (0x01020000, 0x01040000, .never), (0x01040000, 0x01050000, .never), (0x01050000, 0x01070000, .never),
   (0x01070000, 0x01080000, .never), (0x01080000, 0x010C0000, .staged), (0x010C0000, 0x010C2000, .staged),
   (0x010C2000, 0x010C3000, .staged), (0x010D0000, 0x010E0000, .staged), (0x02000000, 0x02080000, .heldOnly),
   (0x03000000, 0x03000100, .never)]

/-- The address ranges of the map that no hole divides. -/
def nodeSpans : List (Nat × Nat) := [(0, 0x010C3000), (0x010D0000, 0x010E0000), (0x02000000, 0x02080000), (0x03000000, 0x03000100)]

/-- All of [a, a + n) is in the map. -/
def nodeMapped (a n : Nat) : Bool := nodeSpans.any fun r => r.1 ≤ a && a + n ≤ r.2

/-- The regions that [a, a + n) reaches. -/
def nodeRegionsAt (a n : Nat) : List (Nat × Nat × NodeWrite) := nodeRegions.filter fun r => r.1 < a + n && a < r.2.1

/-- [a, a + n) lies in design memory. -/
def inRows (a : Nat) : Bool := 0x02000000 ≤ a && a < 0x02080000

/-- The bits of the byte at a node address that its tables define: the others are reserved and read as 0 (R7, Tables 03-1, 03-7, 05-3
and 05-5). -/
def nodeBits (a : Nat) : Byte :=
  if a < 0x01000000 then if a % 16 < 11 then 0xFF else 0
  else if 0x01080000 ≤ a && a < 0x010C0000 then if a % 16 = 0 then 0xC0 else if a % 16 < 9 then 0xFF else 0
  else if 0x010C0000 ≤ a && a < 0x010C2000 then if a % 8 = 0 then 0xFE else if a % 8 < 5 then 0xFF else 0
  else if 0x010C2000 ≤ a && a < 0x010C3000 then if a % 4 = 1 then 0x3F else if a % 4 = 2 then 0x80 else 0xFF
  else if 0x010D0000 ≤ a && a < 0x010E0000 then if a % 4 = 0 then 0xE0 else 0xFF
  else 0xFF

/-- Bytes at a node address without the bits that its tables reserve. -/
def maskNode (a : Nat) (data : List Byte) : List Byte := data.zipIdx.map fun e => e.1 &&& nodeBits (a + e.2)

/-- The counter block as bytes (Table 18-7). -/
def Cluster.counterBytes (c : Cluster) : Memory :=
  (List.range 11).foldl (fun m i => mputNat m (0x03000000 + 8 * i) 8 (tget (fun _ => 0) c.counters i)) []

/-- Rows of design memory that an access touches. -/
def rowsOf (a n : Nat) : List Nat :=
  (List.range ((a + n + 7) / 8 - a / 8)).map fun i => (a - 0x02000000) / 8 + i

/-- The answer to a node read: a status of Table 05-9 and data. -/
structure NodeAnswer where
  status : Nat
  data : List Byte
deriving DecidableEq, Repr

/-- A read of a cluster node (R129, R138): values do not change; a corrected row is counted, an uncorrectable one answers ECC. -/
def State.nodeRead (s : State) (cid a n : Nat) : State × NodeAnswer :=
  let c := s.cl cid
  if ! nodeMapped a n then (s, ⟨1, []⟩)
  else if 0x03000000 ≤ a then (s, ⟨0, mread c.counterBytes a n⟩)
  else if inRows a then
    let rows := rowsOf a n
    if rows.any fun r => (c.rowCheck r).word.isNone then (s, ⟨4, []⟩)
    else
      let fixed := rows.foldl (fun c r => match c.rowCheck r with | .corrected _ => c.noteRow r | _ => c) c
      let view := rows.foldl (fun m r => match (c.rowCheck r).word with | some v => mputNat m (nMem r) 8 v | none => m) c.node
      (s.setCl cid (if s.stepping then { fixed with memUse := max fixed.memUse c.period } else fixed), ⟨0, mread view a n⟩)
  else (s, ⟨0, maskNode a (mread c.node a n)⟩)

/-- Every VALID snapshot slot becomes UNRESTORABLE (R339). -/
def State.voidSnapshots (s : State) : State :=
  (List.range 64).foldl (fun s i => if s.obj (O.SLOT_STATUS i) = 1 then s.setObj (O.SLOT_STATUS i) 2 else s) s

/-- The overburden log emptied. -/
def State.emptyOvb (s : State) : State :=
  State.setObjs { s with hbm := { s.hbm with ovb := [] } } [(O.OVB_RECORDS, 0), (O.OVB_OLDEST_DC, 0)]

/-- A write to cluster design memory or to the Quarry by a master (R149). -/
def State.memoryWritten (s : State) : State := s.emptyOvb.voidSnapshots

/-- Check bits recomputed for the instruction and route entries and memory rows that a write of [a, a + n) touches
(R51, R55, R138). -/
def Cluster.recheck (c : Cluster) (a n : Nat) : Cluster :=
  if a < 0x01000000 then
    (List.range ((a + n + 15) / 16 - a / 16)).foldl (fun c i =>
      let e := (a / 16 + i) * 16
      { c with node := mputNat c.node (e + 10) 6 (checkBits 80 (mnat c.node e 10)) }) c
  else if 0x01080000 ≤ a && a < 0x010C0000 then
    (List.range ((a + n + 15) / 16 - a / 16)).foldl (fun c i =>
      let e := (a / 16 + i) * 16
      { c with node := mputNat c.node (e + 8) 8 (checkBits 64 (mnat c.node e 8)) }) c
  else if 0x02000000 ≤ a then
    (rowsOf a n).foldl (fun c r => { c with ecc := mput c.ecc r (BitVec.ofNat 8 (checkBits 64 (mnat c.node (nMem r) 8))) }) c
  else c

/-- The rows of design memory that a write touches only in part. -/
def partialRows (a n : Nat) : List Nat := (rowsOf a n).filter fun r => nMem r < a || a + n < nMem r + 8

/-- What a write of [a, a + n) merges into: an instruction or route entry, or a row that it touches only in part, as the stored check bits
correct it (R54, R55, R138). A corrected row counts. -/
def Cluster.mended (c : Cluster) (a n : Nat) : Cluster :=
  if a < 0x01000000 then
    (List.range ((a + n + 15) / 16 - a / 16)).foldl (fun c i =>
      let e := (a / 16 + i) * 16
      match eccCheck 80 (mnat c.node e 10) (mnat c.node (e + 10) 1) with
      | .corrected d => { c with node := mputNat c.node e 10 d }
      | _ => c) c
  else if 0x01080000 ≤ a && a < 0x010C0000 then
    (List.range ((a + n + 15) / 16 - a / 16)).foldl (fun c i =>
      let e := (a / 16 + i) * 16
      match eccCheck 64 (mnat c.node e 8) (mnat c.node (e + 8) 1) with
      | .corrected d => { c with node := mputNat c.node e 8 d }
      | _ => c) c
  else if 0x02000000 ≤ a then
    (partialRows a n).foldl (fun c r =>
      match c.rowCheck r with
      | .corrected d => (c.count 9 1).putRow r d
      | _ => c) c
  else c

/-- A write to design memory meets an uncorrectable row that it would have to merge into (R138). -/
def Cluster.mergeFails (c : Cluster) (a n : Nat) : Bool :=
  inRows a && (partialRows a n).any fun r => (c.rowCheck r).word.isNone

/-- A node region accepts a write in the present mode, or answers BUSY_MODE (R38, R129, R149). -/
def nodeWritable (mode : Nat) (r : NodeWrite) : Bool :=
  match r with
  | .staged => mode == mLoad || mode == mReady || mode == mHold
  | .heldOnly => mode == mReady || mode == mHold
  | .never => false

/-- What the cluster node answers to a write of [a, a + n) in the present mode (R129, R138). -/
def State.nodeStatus (s : State) (cid a n : Nat) : Nat :=
  let l := nodeRegionsAt a n
  if ! nodeMapped a n || l.any (fun r => r.2.2 == .never) then 1
  else if ! l.all (fun r => nodeWritable s.mode r.2.2) then 8
  else if (s.cl cid).mergeFails a n then 4 else 0

/-- A write to a cluster node by a master (R129): the status answered and the new state. -/
def State.nodeWrite (s : State) (cid a : Nat) (data : List Byte) : State × Nat :=
  let n := data.length
  if s.nodeStatus cid a n ≠ 0 then (s, s.nodeStatus cid a n)
  else
    let c := (s.cl cid).mended a n
    let s := s.setCl cid (({ c with node := mwrite c.node a (maskNode a data) }).recheck a n)
    (if inRows a then s.memoryWritten else s, 0)

end Sys2Proof.Machine
end

