-- ==== Sys2Proof/Machine/Packets.lean ====
section
/-!
DEFINITION. Packets at their ends (05, 06): Quarry requests, the HBM controllers, requests at their targets, responses at
their requesters, tag timeouts, wakes and gating. Hub endpoints: HBM controllers 0–3, the transactor complex 0x10, the vector
endpoint 0x20 (R384); the spec numbers only the last.
-/

namespace Sys2Proof.Machine

/-- A poisoned packet's status (Table 05-9). -/
abbrev stOk : Nat := 0
abbrev stUnmapped : Nat := 1
abbrev stIsolated : Nat := 2
abbrev stWakeFail : Nat := 3
abbrev stEcc : Nat := 4
abbrev stPoison : Nat := 5
abbrev stDenied : Nat := 6
abbrev stTimeout : Nat := 7
abbrev stBusyMode : Nat := 8

/-! ### Quarry requests (R142) -/

/-- Whether a Quarry entry leaves before another: by issue step, then port (R142). -/
def QuarryReq.before (a b : QuarryReq) : Bool :=
  if a.dc ≠ b.dc then a.dc < b.dc else if a.issued ≠ b.issued then a.issued < b.issued else a.port < b.port

/-- The entry of a Quarry queue that leaves next. -/
def quarryHead : List QuarryReq → Option QuarryReq
  | [] => none
  | r :: rest =>
    match quarryHead rest with
    | none => some r
    | some b => some (if b.before r then b else r)

/-- The packet of a Quarry request: 8 bytes on VC0 to the slot's controller (R140–R142). -/
def State.quarryPacket (s : State) (cid tag : Nat) (r : QuarryReq) : Packet :=
  { vc := 0, op := if r.write then 2 else 1, dstMod := s.ownId, dstDie := 4, dstNode := field (8 * r.slot) 8 2, srcMod := s.ownId
    srcDie := cid / 68, srcNode := cid % 68, tag := tag, gen := s.tagGen tag, status := 0, bytes := 8, addr := 8 * r.slot
    payload := if r.write then leBytes 8 r.data else [], poison := false, dc := r.dc }

/-- QUARRY_REQUEST_SEND (R142): the head entry leaves once it has a tag; an entry that finds none waits and is counted. -/
def execQuarryRequestSend (die : Die) (pc : Pc) (s : State) : Out :=
  if s.clockWait then .next s else
  let cid := cidOf die pc
  let c := s.cl cid
  match quarryHead c.quarryQ with
  | none => .next s
  | some r =>
    match s.takeTag die (.quarry cid { r with waited := false }) with
    | some (tag, s) =>
      .next ((s.setCl cid ({ c with quarryQ := c.quarryQ.erase r }.count 5 1)).inject (s.quarryPacket cid tag r))
    | none =>
      if r.waited then .next s
      else .next ((s.setCl cid
        ({ c with quarryQ := c.quarryQ.map fun x => if x = r then { r with waited := true } else x }.count 6 1)).bump O.TAG_WAITS 1)

/-! ### HBM controllers (R141, R144, R145, R147, R151) -/

/-- A packet that has arrived at HBM controller `k` as a cluster's Quarry request. -/
def State.isQuarry (s : State) (k : Nat) (p : Packet) : Bool :=
  p.dstMod == s.ownId && p.dstDie == 4 && p.dstNode == k && p.srcMod == s.ownId && p.srcDie < 4 && p.op < 8

/-- A port of a logical cluster maps a Quarry slot (R140). -/
def State.mapsSlot (s : State) (die lc slot : Nat) : Bool :=
  (List.range 4).any fun p =>
    let d := s.obj (O.PORT_DESC (64 * die + lc) p)
    dValid d && dQuarry d && dBase d ≤ slot && slot < dBase d + 2 ^ dAw d

/-- Ports of more than one logical cluster reach a Quarry slot: an unchecked error (R152). -/
def State.slotShared (s : State) (slot : Nat) : Bool := (s.bound.filter fun b => s.mapsSlot b.1 b.2.1 slot).length > 1

/-- One Quarry request served (R140, R144, R147): the response and the new state. An uncorrectable old value answers ECC, and the slot is not
written. -/
def State.serveQuarry (s : State) (p : Packet) (check : WordCheck) : State :=
  let s := if s.slotShared (p.addr / 8) then s.astray else s
  if p.addr ≥ s.obj O.QUARRY_SIZE * granule then s.inject (errorTo p stUnmapped)
  else if check == .uncorrectable || s.hbmDamaged p.addr 8 then
    (s.hbmBad p.addr).inject (errorTo p stEcc)
  else
    let s := if check == .corrected then s.bump O.HBM_CORRECTED 1 else s
    let old := leNat (s.hbmRead p.addr 8)
    if p.op = 2 then
      let s := (s.hbmWrite p.addr p.payload).ovbAppend p.dc old p.addr
      (s.bump O.QRY_WRITES 1).inject (responseTo p 9 stOk [])
    else (s.bump O.QRY_READS 1).inject (responseTo p 8 stOk (leBytes 8 old))

/-- QUARRY_SERVE (R144): controller `stack` serves the `i`-th arrived packet, a Quarry request with no earlier one to its slot,
whose bank is not refreshing, when it can send the response (R122). -/
def execQuarryServe (stack : Fin 4) (i : Nat) (check : WordCheck) (s : State) : Out :=
  if s.clockWait then .next s else
  match s.net.arrived[i]? with
  | none => .next s
  | some p =>
    if s.isQuarry stack p && ! (s.net.arrived.take i).any (fun q => s.isQuarry stack q && q.addr == p.addr)
        && ! s.hbm.refreshing.contains (4 * Config.hbmBank p.addr + stack) && ! s.hbm.selfRefresh && s.canAnswer p then
      let s := { s with net := { s.net with arrived := s.net.arrived.eraseIdx i }
                        hbm := { s.hbm with waited := s.hbm.waited.erase p.tag } }
      .next (if p.poison then s else s.serveQuarry p check)
    else .next s

/-- BANK_REFRESH (R145): a refresh of a bank begins or ends. Requests that found it refreshing count once each. -/
def execBankRefresh (stack : Fin 4) (bank : Nat) (begins : Bool) (s : State) : Out :=
  if s.clockWait then .next s else
  let b := 4 * bank + stack
  if begins then
    .next { s with hbm := { s.hbm with refreshing := if s.hbm.refreshing.contains b then s.hbm.refreshing else b :: s.hbm.refreshing } }
  else if s.hbm.refreshing.contains b then
    let w := (s.net.arrived.filter fun p =>
      s.isQuarry stack p && Config.hbmBank p.addr == bank && ! s.hbm.waited.contains p.tag).map Packet.tag
    .next (State.bump { s with hbm := { s.hbm with
      refreshing := s.hbm.refreshing.erase b, waited := s.hbm.waited ++ w } } O.REFRESH_WAITS w.length)
  else .next s

/-- HBM_PATROL_SCRUB (R151): one word patrolled; `passDone` when it is the last of a pass. -/
def execHbmPatrolScrub (addr : BitVec 37) (check : WordCheck) (passDone : Bool) (s : State) : Out :=
  if s.clockWait then .next s else
  let s := if passDone then s.bump O.HBM_SCRUB_PASSES 1 else s
  if addr.toNat ≥ 96 * 2 ^ 30 then .next s
  else match check with
    | .clean => .next s
    | .corrected => .next (s.bump O.HBM_CORRECTED 1)
    | .uncorrectable => .next (s.hbmBad addr.toNat)

/-! ### Requests at their targets (R122, R124–R129, R384) -/

/-- FIELD-LOCKED denies reads of the design's structures and of the system region (R476). -/
def nodeSecret (a n : Nat) : Bool :=
  nodeMapped a n && (nodeRegionsAt a n).any fun r => r.1 == 0 || (0x01080000 ≤ r.1 && r.1 < 0x010E0000)

/-- The answer of a cluster that is ACTIVE to a request (R129). -/
def State.answerNode (s : State) (cid : Nat) (p : Packet) : State :=
  if p.op = 2 then
    let r := s.nodeWrite cid p.addr p.payload
    r.1.inject (if r.2 = 0 then responseTo p 9 stOk [] else errorTo p r.2)
  else if s.obj O.LC_STATE = 3 && nodeSecret p.addr p.bytes then s.inject (errorTo p stDenied)
  else
    let r := s.nodeRead cid p.addr p.bytes
    r.1.inject (if r.2.status = 0 then responseTo p 8 stOk r.2.data else errorTo p r.2.status)

/-- A packet held at a cluster's port. -/
def State.holdAtPort (s : State) (cid : Nat) (p : Packet) : State :=
  { s with net := { s.net with held := tupd (fun _ => []) s.net.held cid (· ++ [p]) } }

/-- A packet at a cluster port that is not ACTIVE (Table 05-8): it wakes the cluster, waits for its wake, or is absorbed. A poisoned request
has no answer (R127). -/
def State.atPort (s : State) (cid : Nat) (p : Packet) : State :=
  match s.port cid with
  | 1 => (s.setPort cid 2).holdAtPort cid p
  | 2 => s.holdAtPort cid p
  | _ =>
    let s := s.bump O.ABSORBED 1
    if p.op < 8 && ! p.poison then s.portSends (errorTo p stIsolated) else s

/-- A cluster port becomes ACTIVE; what it has held is delivered, in order (R125). -/
def State.portWakes (s : State) (cid : Nat) : State :=
  let held := tget (fun _ => []) s.net.held cid
  let s := s.setPort cid 0
  { s with net := { s.net with held := tput (fun _ => []) s.net.held cid [], arrived := held ++ s.net.arrived } }

/-- HBM regions that R152 leaves unchecked: logs, stores and the system region. -/
def State.hbmUnchecked (s : State) (a : Nat) : Bool :=
  let r := s.hbmRegion a
  (1 ≤ r && r ≤ 5) || 0x1600000000 ≤ a

/-- A Quarry write from outside the design is refused outside READY and HOLD (R149). -/
def State.hbmWritable (s : State) (a : Nat) : Bool := s.held || s.hbmRegion a != 0

/-- A write to HBM from outside the design: one into a region that R152 leaves unchecked is unpredictable. -/
def State.hbmStore (s : State) (a : Nat) (data : List Byte) : State :=
  let n := data.length
  if s.hbmUnchecked a || s.hbmUnchecked (a + n - 1) then s.astray.hbmOpen a (a + n)
  else
    let s := (s.hbmWrite a data).noteWrite (0x1000000000 + a) n none
    if s.hbmRegion a = 0 then s.memoryWritten else s

/-- A request to HBM from outside the design (R141, R149, R377, R476, R498). A write of part of a 64-bit word reads it first. -/
def State.answerHbm (s : State) (p : Packet) (check : WordCheck) : State :=
  let reads := p.op ≠ 2 || p.addr % 8 ≠ 0 || p.bytes % 8 ≠ 0
  if p.addr + p.bytes > 96 * 2 ^ 30 then s.inject (errorTo p stUnmapped)
  else if p.op = 2 && ! (s.hbmWritable p.addr && s.hbmWritable (p.addr + p.bytes - 1)) then s.inject (errorTo p stBusyMode)
  else if p.op ≠ 2 && s.obj O.LC_STATE = 3 && p.addr + p.bytes > 0x1600000000 then s.inject (errorTo p stDenied)
  else match (if reads then s.firstBad p.addr p.bytes <|> (if check == .uncorrectable then some p.addr else none) else none) with
    | some b => (s.hbmBad b).inject (errorTo p stEcc)
    | none =>
      let s := if reads && check == .corrected then s.bump O.HBM_CORRECTED 1 else s
      if p.op = 2 then (s.hbmStore p.addr p.payload).inject (responseTo p 9 stOk [])
      else s.inject (responseTo p 8 stOk (s.hbmRead p.addr p.bytes))

/-- The vector endpoint (R384). -/
def State.answerVector (s : State) (p : Packet) : State :=
  if p.op = 2 && p.bytes = 4 && p.addr % 4 = 0 && 256 ≤ p.addr / 4 && p.addr / 4 < 2048 && (s.obj O.ACCEPTED_0).testBit 3 then
    (s.msix (p.addr / 4)).inject (responseTo p 9 stOk [])
  else s.inject (errorTo p stUnmapped)

/-- A request at a hub endpoint. An endpoint the spec gives no address map answers UNMAPPED. -/
def State.atHub (s : State) (p : Packet) (check : WordCheck) : State :=
  if p.dstNode < 4 then s.answerHbm p check
  else if p.dstNode = 0x20 then s.answerVector p
  else s.inject (errorTo p stUnmapped)

/-- A packet's shape is that of R118: whole aligned words, at most 256 bytes. -/
def packetShapely (p : Packet) : Bool := p.addr % 4 == 0 && p.bytes % 4 == 0 && p.bytes ≤ 256

/-- Some earlier arrived packet has the same source, destination and channel (R119). -/
def overtakes (l : List Packet) (p : Packet) : Bool :=
  l.any fun q => q.vc == p.vc && q.srcMod == p.srcMod && q.srcDie == p.srcDie && q.srcNode == p.srcNode
    && q.dstMod == p.dstMod && q.dstDie == p.dstDie && q.dstNode == p.dstNode

/-- A packet for another module at the hub (R227): to the egress of the UP, enabled link that leads there, poisoned ones not; a request
that no such link serves is answered UNMAPPED. -/
def State.outward (s : State) (p : Packet) : State :=
  match allLinks.find? fun l => s.linkOpen l && s.obj (O.PARTNER_ID l) == p.dstMod with
  | some l => if p.poison then s else s.setLink l { s.link l with pktQ := (s.link l).pktQ ++ [p] }
  | none => if p.op < 8 && ! p.poison then s.inject (errorTo p stUnmapped) else s

/-- A request at its target on this module; a poisoned one is discarded there (R127). -/
def State.requestArrives (s : State) (p : Packet) (check : WordCheck) : State :=
  if p.dstDie < 4 && p.dstNode < 68 && s.port (cidOf p.dstDie p.dstNode) ≠ 0 then s.atPort (cidOf p.dstDie p.dstNode) p
  else if p.poison then s
  else if ! packetShapely p then s.inject (errorTo p stUnmapped)
  else if p.dstDie < 4 then
    if p.dstNode < 68 then s.answerNode (cidOf p.dstDie p.dstNode) p else s.inject (errorTo p stUnmapped)
  else s.atHub p check

/-- PACKET_REQUEST_ARRIVE (R122): the `i`-th arrived packet, a request, is accepted when its target can send the response, and answered.
`check` is that of the HBM words it reads. Quarry requests are served by QUARRY_SERVE. -/
def execPacketRequestArrive (i : Nat) (check : WordCheck) (s : State) : Out :=
  if s.clockWait then .next s else
  match s.net.arrived[i]? with
  | none => .next s
  | some p =>
    if p.op ≥ 8 || overtakes (s.net.arrived.take i) p || (p.dstMod = s.ownId && p.dstNode < 4 && s.isQuarry p.dstNode p) then .next s
    else
      let t := { s with net := { s.net with arrived := s.net.arrived.eraseIdx i } }
      if p.dstMod ≠ s.ownId then .next (t.outward p)
      else if s.canAnswer p then .next (t.requestArrives p check) else .next s

/-! ### Responses at their requesters (R120, R123, R146) -/

/-- A Quarry request's completion: the value waits at the router for the return path (R43), or a fault (R146). -/
def State.quarryDone (s : State) (cid : Nat) (r : QuarryReq) (status value : Nat) : State :=
  let c := s.cl cid
  if status = stOk then
    if r.write then s else s.setCl cid { c with returns := c.returns ++ [⟨r, value, s.sluice.base + c.period⟩] }
  else
    let cause := if status = stEcc then 1 else if status = stUnmapped then 2 else if status = stTimeout then 3 else 0
    if cause = 0 then s
    else s.raiseFault 5 (FaultLoc.cluster s cid) (cause + 256 * r.port) r.slot 0

/-- The requester's status of a response (R127, R128). -/
def packetOutcome (p : Packet) : Nat := if p.poison then stPoison else p.status

/-- A recording of a refused BAR2 access (R377). -/
def State.bar2Error (s : State) (off status : Nat) : State :=
  let s := (s.setObjs [(O.BAR2_ERR_ADDR, off), (O.BAR2_ERR_STATUS, status)]).bump O.BAR2_ERRORS 1
  if (s.obj O.ACCEPTED_0).testBit 4 then s.msix 4 else s

/-- The debug access in progress ends with STATUS, CODE and, for a completed read, DATA (R459). -/
def State.tapDone (s : State) (status code : Nat) (data : Option Nat) : State :=
  { s with tap := { s.tap with busy := none, status := status, code := code, data := data.getD s.tap.data } }

/-- A BAR2 read completes (R377): its data, or all ones with the recording. -/
def State.readDone (s : State) (tag : Nat) (r : BusRead) : State :=
  let s := { s with host := { s.host with reads := tput (fun _ => none) s.host.reads tag none } }
  match r.bad with
  | none => s.emit (.completion tag r.got)
  | some status => (s.bar2Error r.off status).emit (.completion tag (List.replicate r.bytes 0xFF))

/-- One packet's worth of a BAR2 read has arrived. -/
def State.readPiece (s : State) (tag status : Nat) (data : List Byte) : State :=
  match tget (fun _ => none) s.host.reads tag with
  | none => s
  | some r =>
    let r := { r with left := r.left - 1, got := r.got ++ data, bad := r.bad <|> (if status = stOk then none else some status) }
    if r.left = 0 then s.readDone tag r
    else { s with host := { s.host with reads := tput (fun _ => none) s.host.reads tag (some r) } }

/-- The hub endpoint that sends system-bus accesses. -/
def nodeBus : Nat := 0x11

/-- A packet of a system-bus access to a cluster node or to HBM (R118, R378). -/
def State.busPacket (s : State) (die node addr bytes : Nat) (payload : List Byte) : Packet :=
  { vc := if die < 4 then 2 else 0, op := if payload.isEmpty then 1 else 2, dstMod := s.ownId, dstDie := die, dstNode := node
    srcMod := s.ownId, srcDie := 4, srcNode := nodeBus, tag := 0, gen := 0, status := 0, bytes := bytes, addr := addr, payload := payload
    poison := false }

/-- One packet of a system-bus access sent: it names the enclosing aligned words, which a narrow write reads first (R377). -/
def State.busSend (s : State) (die node addr : Nat) (r : BusReq) : State :=
  let lo := addr / 4 * 4
  let n := (addr + r.bytes + 3) / 4 * 4 - lo
  if r.data ≠ [] && n = r.bytes then s.hubRequest ⟨.bus { r with data := [] }, s.busPacket die node lo n r.data⟩
  else s.hubRequest ⟨.bus r, s.busPacket die node lo n []⟩

/-- A packet of a system-bus access is over: with its bytes, if it read, or with an error (R377, R461). -/
def State.busOver (s : State) (r : BusReq) (status : Nat) (data : Option (List Byte)) : State :=
  match r.who with
  | .hostRead tag => s.readPiece tag status (data.getD [])
  | .hostWrite => if status = stOk then s else s.bar2Error r.off status
  | .debug => if status = stOk then s.tapDone 0 0 (data.map leNat) else s.tapDone 3 status none
  | .gone => s

/-- The response to a packet of a system-bus access: a narrow write merges its bytes into the words it has read and writes them back. -/
def State.busAnswer (s : State) (r : BusReq) (p : Packet) : State :=
  let status := packetOutcome p
  let at_ := r.off % 4
  if status ≠ stOk then s.busOver r status none
  else if p.op ≠ 8 then s.busOver r stOk none
  else if r.data.isEmpty then s.busOver r stOk (some ((p.payload.drop at_).take r.bytes))
  else
    let words := p.payload.take at_ ++ r.data ++ p.payload.drop (at_ + r.bytes)
    s.hubRequest ⟨.bus { r with data := [] }, s.busPacket p.srcDie p.srcNode p.addr words.length words⟩

/-- The senders of `f` no longer wait for their accesses. -/
def State.orphan (s : State) (f : BusWho → Bool) : State :=
  let own (w : TagOwner) : TagOwner := match w with
    | .bus r => if f r.who then .bus { r with who := .gone } else w
    | _ => w
  { s with
    net := { s.net with tags := tmap (fun _ => none) (fun _ (u : Option TagUse) => u.map fun u => { u with owner := own u.owner }) s.net.tags }
    hub := { s.hub with reqQ := s.hub.reqQ.map fun (w : WaitReq) => { w with owner := own w.owner } } }

/-- A tag completed: freed, and its owner told. -/
def State.completeTag (s : State) (tag : Nat) (w : TagOwner) (p : Packet) : State :=
  let s := s.freeTagNo tag
  match w with
  | .quarry cid r => s.quarryDone cid r (packetOutcome p) (leNat p.payload)
  | .thread .. => { s with net := { s.net with done := s.net.done ++ [(tag, w, { p with status := (packetOutcome p) })] } }
  | .bus r => s.busAnswer r p

/-- A response at its requester on this module: it completes its tag, and requests that waited for one follow (R121). One that matches no
outstanding tag is discarded (R123). -/
def State.responseArrives (s : State) (p : Packet) : State :=
  match tget (fun _ => none) s.net.tags p.tag with
  | some ⟨g, w⟩ =>
    if g = p.gen then
      let s := s.completeTag p.tag w p
      s.sendThreadReqs s.hub.reqQ.length
    else s
  | none => s

/-- PACKET_RESPONSE_ARRIVE (R120): the `i`-th arrived packet, a response, reaches its requester, through its port where that is a
cluster (Table 05-8). -/
def execPacketResponseArrive (i : Nat) (s : State) : Out :=
  if s.clockWait then .next s else
  match s.net.arrived[i]? with
  | none => .next s
  | some p =>
    if p.op < 8 || overtakes (s.net.arrived.take i) p then .next s
    else
      let t := { s with net := { s.net with arrived := s.net.arrived.eraseIdx i } }
      if p.dstMod ≠ s.ownId then .next (t.outward p)
      else if p.dstDie < 4 && p.dstNode < 68 && s.port (cidOf p.dstDie p.dstNode) ≠ 0 then .next (t.atPort (cidOf p.dstDie p.dstNode) p)
      else .next (t.responseArrives p)

/-- TAG_TIMEOUT (R123): the response timer of an outstanding tag expires. -/
def execTagTimeout (tag : Fin 32768) (s : State) : Out :=
  if s.clockWait then .next s else
  match tget (fun _ => none) s.net.tags tag with
  | none => .next s
  | some ⟨g, w⟩ =>
    let p : Packet := { vc := 1, op := 0xA, dstMod := s.ownId, dstDie := 0, dstNode := 0, srcMod := s.ownId, srcDie := 0, srcNode := 0
                        tag := tag, gen := g, status := stTimeout, bytes := 0, addr := 0, payload := [], poison := false }
    let s := ((s.nextGen tag).bump O.RESP_TIMEOUTS 1).completeTag tag w p
    .next (s.sendThreadReqs s.hub.reqQ.length)

/-- The first period from `due` on in which a port's return bus has room for `w` more bits, and the bits it then carries; what it was last
given is `last` (R137). -/
def busSlot (last : Nat × Nat) (due w : Nat) : Nat × Nat :=
  if last.1 < due then (due, w) else if last.2 + w ≤ 64 then (last.1, last.2 + w) else (last.1 + 1, w)

/-- The period, counted from the load, in which a Quarry return lands, with the bits its port's return bus then carries: nominal, or 3
periods after its response reached the router, or when the bus has room (Table 06-3, R43, R137). -/
def State.returnDue (s : State) (cid : Nat) (r : QuarryRet) : Nat × Nat :=
  busSlot (tget (fun _ => (0, 0)) (s.cl cid).retBus r.req.port) (max (r.req.issued + s.lat 11) (r.arrived + 3)) r.req.width

/-- QUARRY_RETURN (R43): the first response at a cluster's return path sends its bits to INBOX. -/
def execQuarryReturn (die : Die) (pc : Pc) (s : State) : Out :=
  if s.clockWait then .next s else
  let cid := cidOf die pc
  let c := s.cl cid
  match c.returns with
  | [] => .next s
  | r :: rest =>
    let b := s.returnDue cid r
    let due := b.1
    let s := s.setCl cid { c with returns := rest, retBus := tput (fun _ => (0, 0)) c.retBus r.req.port b }
    let s := if due > r.req.issued + s.lat 11 then s.bump O.QRY_LATE 1 else s
    .next ((s.raise O.QRY_LAT_MAX (u32 (due - r.req.issued))).returnBits cid r.req.ret r.val (due - s.sluice.base) .quarry r.req.stamp r.req.width)

/-! ### Wakes and gating (R125, R126, R433, R434) -/

/-- The contents of a gated cluster: nothing but the mark and the counters, which other domains keep. -/
def Cluster.gated (c : Cluster) : Cluster := { Cluster.blank with mark := c.mark, counters := c.counters }

/-- WAKE_COMPLETE (R125): the port becomes ACTIVE and the held packets are delivered in order. -/
def execWakeComplete (die : Die) (pc : Pc) (s : State) : Out :=
  if s.clockWait then .next s else
  let cid := cidOf die pc
  if s.port cid = 2 then
    let s := (s.portWakes cid).bump O.CW_WAKES 1
    .next (s.setCl cid ((s.cl cid).count 4 1))
  else .next s

/-- WAKE_LIMIT_EXPIRY (R125): the port absorbs, held requests are answered WAKE_FAIL, and a cluster fault is raised. -/
def execWakeLimitExpiry (die : Die) (pc : Pc) (s : State) : Out :=
  if s.clockWait then .next s else
  let cid := cidOf die pc
  if s.port cid = 2 then
    let held := tget (fun _ => []) s.net.held cid
    let s := (s.setPort cid 3).bump O.WAKE_FAILS 1
    let s := { s with net := { s.net with held := tput (fun _ => []) s.net.held cid [] } }
    let s := held.foldl (fun s p => if p.op < 8 && ! p.poison then s.portSends (errorTo p stWakeFail) else s) s
    .next (s.raiseFault 7 ⟨die, pc, (s.lcOf cid).getD 255, 0xFFFF⟩ 0 0 0)
  else .next s

/-- IDLE_GATE (R433): a powered cluster outside the Sluice set has had no packet for IDLE_GATE; its domain is gated and its
port sleeps. -/
def execIdleGate (die : Die) (pc : Pc) (s : State) : Out :=
  if s.clockWait then .next s else
  let cid := cidOf die pc
  if s.port cid = 0 && ! s.sluiceSet.contains cid then .next ((s.setCl cid (s.cl cid).gated).setPort cid 1)
  else .next s

end Sys2Proof.Machine
end

