-- ==== Sys2Proof/Machine/Boundary.lean ====
section
/-!
DEFINITION. The boundary between two design cycles (08, 23): the opening, how orders and stops take effect there, snapshots, commit
pauses and restores as they begin, the end of an abandon, and what a recovery does next.
-/

namespace Sys2Proof.Machine

/-! ### The opening (R28, R35, R59, R81, R174) -/

/-- A cluster at an opening: tags, port registers and written bits clear, step 0 next; what is in transit keeps its remaining time.
`p` is the number of periods of the closing DC. -/
def Cluster.opened (c : Cluster) (p : Nat) : Cluster :=
  { c with
    seq := .runStep, step := 0, period := 0, overrun := 0, endPeriod := none, notice := false, holdLen := 0
    stopped := [], done := [], memUse := 0, fixInstr := [], fixRoute := [], wroteMem := false, written := [], staged := [], portAddr := []
    portData := [], portUse := [], recent := [], routeLast := [], landLast := []
    node := mclear c.node 0x01050000 0x01080000
    inflight := c.inflight.map fun (d : Deliv) => { d with due := d.due - p }
    landQ := tmap (fun _ => []) (fun _ q => q.map fun (b : LandBit) => { b with ready := b.ready - p }) c.landQ
    gather := tmap (fun _ => none) (fun _ g => g.map fun (x : Gather) => { x with pos := x.pos - p, last := x.last - p }) c.gather
    arrived := c.arrived.map fun (f : Flit) => { f with due := f.due - p } }

/-- The network's clocks at an opening. -/
def Net.opened (n : Net) (p : Nat) : Net :=
  { n with links := tmap (fun _ => OutLink.blank) (fun _ o => { o with
      last := 0
      slots := o.slots.map fun (w : SlotWait) => { w with ready := w.ready - p, flit := { w.flit with due := w.flit.due - p } } }) n.links }

/-- The Sluice's memory at an opening of DC `k`: tokens of earlier DCs have served. -/
def Sluice.opened (u : Sluice) (p k : Nat) (enables : Nat) : Sluice :=
  { u with
    base := u.base + p
    tokens := (u.tokens.filter fun (t : Token) => k ≤ t.dc).map fun (t : Token) => { t with visible := t.visible - p }
    localDone := none, exchanged := false, latched := false, waitCount := 0, enables := enables, drives := [] }

/-- Every unit of the module at the opening of DC `k` with the enables `enables`. -/
def State.openDc (s : State) (k enables : Nat) : State :=
  let p := s.period
  let s := s.sluiceSet.foldl (fun s c => s.setCl c ((s.cl c).opened p)) s
  let s := s.onLinks allLinks fun _ x => { x with doneDue := x.doneDue.map fun (d : Nat × Nat) => (d.1, d.2 - p) }
  State.setObj { s with net := s.net.opened p, sluice := s.sluice.opened p k enables } O.DC_NUMBER k

/-- The opening of the next DC (R89, R99): its enables apply, and the lengths of the DC that closes are kept, as far as their objects
reach. -/
def State.openNext (s : State) : State :=
  let p := s.period
  let done := s.sluice.localDone.getD p
  let s := (s.setObjs [(O.DC_PERIOD_LAST, u32 p), (O.SLUICE_WAIT_LAST, u32 (p - done))]).raise O.DC_PERIOD_MAX (u32 p)
  let s := if s.mode == mTied then s.bump O.TIED_DCS 1 else s
  let s := allTies.foldl (fun s i => if s.tieUsed i then s.setTie i { s.tie i with edgeNow := (s.tie i).edgeNext } else s) s
  (s.openDc (s.dcNum + 1) s.sluice.nextEnables).releaseEarly

/-- What is in transit inside the module is discarded (R341, R492): route ports, gather buffers, landing ports, deliveries, the slot flits
in Causeway but those to `keep`, and values held at the hub. Quarry requests still waiting are served (R148). -/
def State.clearTransit (s : State) (keep : Flit → Bool) : State :=
  let s := s.sluiceSet.foldl (fun s c => s.setCl c { s.cl c with
    routeQ := [], gather := [], landQ := [], drives := [], inflight := [], arrived := [], returns := [] }) s
  { s with
    net := { s.net with links := tmap (fun _ => OutLink.blank) (fun _ o => { o with
      slots := o.slots.filter fun w => keep w.flit }) s.net.links }
    sluice := { s.sluice with drives := [] } }

/-! ### Acceptance (Table 08-3, R184, R254, R411, R480, R493, R505) -/

/-- Table 08-3: 0 refused, 1 accepted, 2 accepted without change. -/
def orderTable (k : OrderKind) (mode : Nat) : Nat :=
  let row := match k with
    | .run => [0, 0, 0, 1, 2, 1, 0, 1, 0, 0]
    | .step => [0, 0, 0, 1, 1, 1, 0, 1, 0, 0]
    | .tied => [0, 0, 0, 1, 0, 0, 2, 1, 0, 0]
    | .hold => [0, 2, 0, 2, 1, 1, 1, 2, 0, 0]
    | .snapshot => [0, 0, 0, 1, 1, 1, 1, 1, 0, 0]
    | .standby => [0, 2, 0, 1, 0, 0, 0, 1, 0, 1]
    | .diag => [0, 1, 0, 1, 0, 0, 0, 1, 0, 2]
  row.getD mode 0

/-- The last order of a kind. -/
def lastOf (f : OrderKind → Bool) (l : List Order) : Option Order := (l.filter fun o => f o.kind).getLast?

/-- The order that takes effect (R183): the last HOLD, else the last STEP, else the last RUN or TIED. -/
def winner (l : List Order) : Option Order :=
  match lastOf (· == .hold) l with
  | some o => some o
  | none => match lastOf (· == .step) l with
    | some o => some o
    | none => lastOf (fun k => k == .run || k == .tied) l

/-- A run order is one that competes by rank. -/
def OrderKind.ranked : OrderKind → Bool
  | .run => true | .step => true | .tied => true | .hold => true | _ => false

/-- The mode that an order leads to from mode `m`. -/
def OrderKind.leads (k : OrderKind) (m : Nat) : Nat :=
  match k with
  | .run => mRun
  | .step => mStep
  | .tied => mTied
  | .hold => if m == mReady then mReady else mHold
  | .standby => mStandby
  | .diag => mDiag
  | .snapshot => m

/-- The mode that what is due gives a module in mode `m` at the boundary at which it stands. -/
def State.dueMode (s : State) (m : Nat) : Nat :=
  let w := winner s.run.due
  if (m == mRun || m == mStep || m == mTied) && (s.run.dueCauses != [] || (w.isNone && m == mStep && s.obj O.STEP_REMAIN == 0)) then mHold
  else match w with
    | some o => o.kind.leads m
    | none => m

/-- The mode against which an order is judged: in SNAPSHOT the mode that follows it, with a move to STANDBY or DIAG already accepted
(R184). -/
def State.judgedMode (s : State) : Nat :=
  if s.mode == mSnapshot then
    s.run.snapOrders.foldl (fun m o => if o.kind.ranked then m else o.kind.leads m)
      (if s.restoring.isSome then mHold else s.dueMode s.run.resumeMode)
  else s.mode

/-- The conditions of a TIED order (R254). -/
def State.tiedReady (s : State) : Bool :=
  (allTies.any s.tieUsed || decide (s.obj O.MODULE_COUNT > 1))
    && (s.obj O.TB_STATE == tbGrandmaster || s.obj O.TB_STATE == tbFollower)
    && (s.obj O.JOINED == 1 || ! (s.obj O.PPS_CTRL).testBit 0)

/-- A self-test of Table 18-4. -/
def diagTest (n : Nat) : Bool := (1 ≤ n && n ≤ 8) || n == 0xFF

/-- The debug port is identity-only (Table 22-1). -/
def State.identityOnly (s : State) : Bool :=
  let l := s.obj O.LC_STATE
  l == 0 || l == 3 || l == 5

/-- The answer to an order (Table 08-5): 1 ACCEPTED, 2 MODE, 3 RANGE, 5 DENIED. -/
def State.orderAnswer (s : State) (m : Master) (k : OrderKind) : Nat :=
  let t := orderTable k s.judgedMode
  let starts := k == .run || k == .step || k == .tied || k == .snapshot
  if m = .debug && s.identityOnly then 5
  else if t = 0 then 2
  else if s.recovering && s.obj O.RECOVERY_STATE ≠ 4 && k ≠ .hold then 2
  else if starts && s.obj O.STATE_VALID = 0 then 2
  else if k = .tied && ! s.tiedReady then 2
  else if t = 2 then 1
  else if k = .step && s.obj O.STEP_COUNT = 0 then 3
  else if k = .diag && s.keys.target.isSome then 2
  else if k = .diag && ! diagTest (s.obj O.DIAG_SEL) then 3
  else 1

/-- The object that holds the fate of a master's last order. -/
def orderKey (m : Master) : Nat := O.ORDER_RESULT_DBG + Master.number m - 1

/-- An order of a master answered with a value of Table 08-5; it is the master's last order. -/
def State.answered (s : State) (m : Master) (r : Nat) : State :=
  let n := s.run.serial + 1
  State.setObj { s with run := { s.run with serial := n, lastOrder := tput (fun _ => 0) s.run.lastOrder (Master.number m) n } } (orderKey m) r

/-- The fate of an order, told to its master if it is the master's last. -/
def State.fate (s : State) (o : Order) (r : Nat) : State :=
  if o.seq ≠ 0 && tget (fun _ => 0) s.run.lastOrder (Master.number o.master) = o.seq then s.setObj (orderKey o.master) r else s

/-- Every order of a window but the one that takes effect is answered SUPERSEDED (R183). -/
def State.supersede (s : State) (l : List Order) (w : Option Order) : State :=
  l.foldl (fun s o => s.fate o (if w = some o then 1 else 4)) s

/-! ### Recovery (R502–R505) -/

/-- The newest VALID slot with a DC at or below `k`. -/
def State.newestSlot (s : State) (k : Nat) : Option Nat :=
  allSlots.foldl (fun b i =>
    if s.obj (O.SLOT_STATUS i) = 1 && s.obj (O.SLOT_DC i) ≤ k then
      match b with
      | none => some i
      | some j => if s.obj (O.SLOT_DC j) < s.obj (O.SLOT_DC i) then some i else b
    else b) none

/-- A restore begins (R341, R531): SNAPSHOT mode, everything in transit discarded. -/
def State.beginRestore (s : State) (slot kind : Nat) : State :=
  let s := if kind = 2 then s.tiedEnd 2 else s.tiedEnd 1
  let s := { s with run := { s.run with pause := some (.restore slot kind s.nowNs), discarding := false, resumeMode := mHold } }
  ((s.setMode mSnapshot).clearTransit fun _ => false).seamDiscard 0

/-- Every Quarry queue is empty and every Quarry tag has completed. -/
def State.quarryIdle (s : State) : Bool := ! s.anyQuarryTag && s.sluiceSet.all fun c => (s.cl c).quarryQ == []

/-- RESTORING (R503): the newest usable snapshot, or none. -/
def State.startRollback (s : State) : State :=
  match s.newestSlot s.faults.target with
  | none => s.recoveryFails 3
  | some i => State.beginRestore { s.setObj O.RECOVERY_STATE 3 with run := { s.run with restoreMaster := .fw } } i 2

/-- REMAPPING, or what follows it when nothing is left to remap. -/
def State.startRemaps (s : State) : State :=
  if s.faults.failed = [] && s.faults.rewrites = [] then
    if s.faults.auto then s.startRollback else s.setObj O.RECOVERY_STATE 0
  else s.setObj O.RECOVERY_STATE 2

/-- A recovery sent back to step 2 or 3, if its attempts allow (R504). -/
def State.retryRecovery (s : State) : State :=
  if s.faults.attempts ≥ s.obj O.ATTEMPT_LIMIT then s.recoveryFails 5
  else State.startRemaps { s with faults := { s.faults with attempts := s.faults.attempts + 1, again := false } }

/-- What follows an abandon's hold (R500, R502–R504). -/
def State.afterAbandon (s : State) : State :=
  let r := s.obj O.RECOVERY_STATE
  if s.recovering && s.faults.interrupt then s.recoveryFails 6
  else if r = 1 then State.startRemaps { s with faults := { s.faults with stepAtFault := s.obj O.STEP_REMAIN } }
  else if r = 4 then s.retryRecovery
  else if s.faults.failed ≠ [] || s.faults.rewrites ≠ [] then s.setObj O.RECOVERY_STATE 2
  else s

/-- Step 5 of R503: the recovery is done, and the firmware master orders the mode that was in force. -/
def State.finishRecovery (s : State) : State :=
  let s := (s.setObjs [(O.RECOVERY_STATE, 5), (O.RECOVERY_RESULT, 1),
    (O.RECOVERY_TIME_LAST, (s.nowNs - s.faults.started) / 1000 % 2 ^ 32)]).bump O.RECOVERIES 1
  let mode := s.faults.modeAtFault
  let count := s.faults.stepAtFault + 1
  let s := { s with faults := { s.faults with auto := false } }
  let order (k : OrderKind) : State :=
    let s := s.answered .fw 1
    { s with run := { s.run with window := s.run.window ++ [⟨k, .fw, count, s.run.serial⟩] } }
  if mode = mRun then order .run else if mode = mStep then order .step else s

/-! ### The commit pause as it begins (R192, R199) -/

/-- The order that a STAGED_ORDER value stands for. -/
def stagedKind (v : Nat) : Option OrderKind :=
  match v with | 1 => some .run | 2 => some .step | 3 => some .tied | 4 => some .hold | _ => none

/-- The shadow of an RWS object, or its live value. -/
def shadowOr (s : State) (t : Tab (Option Nat)) (k : Nat) : Nat := (tget (fun _ => none) t k).getD (s.obj k)

/-- A VALID slot holds a DC. -/
def State.validSlot (s : State) (dc : Nat) : Option Nat :=
  allSlots.find? fun i => s.obj (O.SLOT_STATUS i) == 1 && s.obj (O.SLOT_DC i) == dc

/-- COMMIT_PAUSE_START (R192, R199): STAGED_ORDER and a staged restore are judged again; the pause takes place either way. -/
def State.beginCommit (s : State) : State :=
  let staged := (tget (fun _ => none) s.shadow O.STAGED_ORDER).bind stagedKind
  let badOrder := match staged with | some k => orderTable k s.mode == 0 | none => false
  let kind := shadowOr s s.shadow O.RESTORE_KIND
  let badSlot := kind ≠ 0 && (s.validSlot (shadowOr s s.shadow O.RESTORE_DC)).isNone
  let s := { s with run := { s.run with pause := some (.commit (! badOrder && ! badSlot)), arm := .none } }
  if badOrder then (s.setObjs [(O.COMMIT_RESULT, 4), (O.STAGE_STATE, 1)]).msix 3
  else if badSlot then (s.setObjs [(O.COMMIT_RESULT, 6), (O.STAGE_STATE, 1)]).msix 3
  else s.setObj O.STAGE_STATE 5

/-- An armed commit is due at the boundary at which the module stands (R197, R198), and no recovery defers it (R505). -/
def State.armDue (s : State) : Bool :=
  ! s.recovering && match s.run.arm with
    | .closed => true
    | .dc n => decide (n ≤ s.dcNum)
    | .time t => s.reached t
    | _ => false

/-! ### Stops (R187, Table 08-4) -/

/-- The priority of a stop cause. -/
def stopPriority (code : Nat) : Nat := [10, 8, 9, 4, 3, 2, 5, 6, 7, 1].getD code 10

/-- The cause with the lowest priority number, the first of several. -/
def primaryCause : List StopCause → Option StopCause
  | [] => none
  | c :: r => match primaryCause r with
    | none => some c
    | some d => if stopPriority d.code < stopPriority c.code then some d else some c

/-- STOP_MASTER: the master of the last DEBUG cause, else of the HOST cause, else none. -/
def stopMaster (l : List StopCause) : Nat :=
  match (l.filter fun c => c.code == 8).getLast? with
  | some c => c.master
  | none => match (l.filter fun c => c.code == 1).getLast? with
    | some c => c.master
    | none => 0

/-- A stop: HOLD at the boundary at which the module stands. One during REPLAYING ends a recovery, DONE at its target (R505). -/
def State.halt (s : State) (causes : List StopCause) : State :=
  match primaryCause causes with
  | none => s
  | some c =>
    let s := s.setObjs [(O.STOP_CAUSE, c.code), (O.STOP_CAUSES, causes.foldl (fun n x => n ||| 2 ^ x.code) 0),
      (O.STOP_DC, s.dcNum), (O.STOP_TIME, s.run.boundaryAt), (O.STOP_DETAIL, c.detail), (O.STOP_MASTER, stopMaster causes)]
    let s := ((s.bump O.STOPS 1).tiedEnd 1).setMode mHold
    if s.obj O.RECOVERY_STATE = 4 && ! causes.any (fun x => x.code == 9) then
      let s := if s.replaying || s.faults.interrupt then s.recoveryFails 6 else s.finishRecovery
      if s.armDue then s.beginCommit else s
    else s

/-! ### Orders taking effect (R181, R182, R185) -/

/-- A start order, STEP or RUN takes effect at the boundary at which the module stands. -/
def State.takeOrder (s : State) (o : Order) : State :=
  match o.kind with
  | .run => (s.setObj O.STEP_REMAIN 0).setMode mRun
  | .step => (s.setObj O.STEP_REMAIN o.count).setMode mStep
  | .tied => if s.mode == mTied then s else ((s.setObj O.STEP_REMAIN 0).setMode mTied).tiedStart
  | _ => s

/-- The step clock restarts: a retreat and its discarding end (R507, R531). -/
def State.released (s : State) : State :=
  State.setObj { s with run := { s.run with retreated := false, discarding := false } } O.HORIZON 0

/-- The orders of a held module combined: HOLD keeps it held, any other start takes effect. -/
def State.resolveHeld (s : State) (l : List Order) : State :=
  let w := winner l
  let s := s.supersede l w
  match w with
  | none => s
  | some o => if o.kind = .hold then s else (s.released.takeOrder o).tiesOff

/-- The orders and stop causes of a closed window combined at a boundary (R183, R185, R187). -/
def State.resolveWindow (s : State) (l : List Order) (causes : List StopCause) : State :=
  let w := winner l
  let stops := causes != []
  let w := match w with
    | some o => if stops && o.kind ≠ .hold then none else some o
    | none => none
  let s := s.supersede l w
  let host := match w with
    | some o => if o.kind = .hold then [⟨1, 0, Master.number o.master⟩] else []
    | none => []
  let replaced := match w with | some o => o.kind != .hold | none => false
  let done := if s.mode == mStep && s.obj O.STEP_REMAIN == 0 && ! replaced then [⟨2, 0, 0⟩] else []
  let all := causes ++ host ++ done
  if all ≠ [] then s.halt all
  else match w with
    | some o => s.takeOrder o
    | none => s

/-! ### Snapshots as they begin (R336, R337) -/

/-- A snapshot begins in a slot (R336, R337). -/
def State.beginSnapshot (s : State) (slot cause : Nat) : State :=
  let n := s.obj O.PEAT_COUNT
  let next := match s.slotsFrom ((slot + 1) % n) with | i :: _ => i | [] => slot
  let s := s.setObjs [(O.SLOT_STATUS slot, 0), (O.SLOT_DC slot, s.dcNum), (O.SLOT_TIME slot, s.nowNs), (O.SLOT_CAUSE slot, cause),
    (O.PEAT_NEXT, next)]
  let s := { s with run := { s.run with pause := some (.snapshot slot cause s.nowNs), resumeMode := s.mode } }
  (s.setMode mSnapshot).saveParts slot

/-- A snapshot ordered at the boundary at which the module stands: begun, or answered in SNAP_RESULT. -/
def State.snapshotNow (s : State) (cause : Nat) : State :=
  match s.snapSlot with
  | .inl slot => s.beginSnapshot slot cause
  | .inr r => s.setObj O.SNAP_RESULT r

/-- A waiting pause begins. -/
def State.beginPause (s : State) (p : Pause) : State :=
  match p with
  | .snapshot _ cause _ => s.snapshotNow cause
  | .commit _ => s.beginCommit
  | .restore slot kind _ => s.beginRestore slot kind

/-! ### Leaving a loaded image (R178, R433) -/

/-- A core whose power domain is gated: its local SRAM stays, as the transactor SRAM domain does (Table 19-4). -/
def Core.gated (k : Core) : Core := { Core.blank with sram := k.sram }

/-- The image unloaded and the dies and cores gated: contents of gated domains are lost, HBM and the transactor SRAM stay. -/
def State.unload (s : State) : State :=
  let s := s.supersede (s.run.window ++ s.run.due) none
  let s := (s.setObjs [(O.DEPTH, 0), (O.MODULE_INDEX, 0xFFFF), (O.OVERRUN_LIMIT, 0), (O.CORE_RUN, 0)]).voidSnapshots
  let s := (List.range 272).foldl (fun s c => (s.setCl c (s.cl c).gated).setPort c (if s.port c = 3 then 3 else 1)) s
  let s := s.bound.foldl (fun s b => s.setObj ((0x2410 + b.1) * 256 + b.2.1 + 1) 0xFF) s
  let s := (List.range 32).foldl (fun s c => s.setObjs [(O.CORE_STATE c, 0), (O.RUNNING_TCX c, 0xFFFF)]) s
  let s := { s with
    hub := { s.hub with
      cores := tmap (fun _ => Core.blank) (fun _ k => { k.gated with fenced := s.hub.writes.length }) s.hub.cores
      locks := [], threads := [], ready := [], flagQ := [], xports := [], outDc := 0, pace := [], reqQ := [] }
    net := { Net.blank with gens := s.net.gens }
    trig := Trigger.blank, trace := Trace.blank, ties := tmap (fun _ => TieUnit.blank) (fun _ u => { TieUnit.blank with apps := u.apps }) s.ties
    sluice := Sluice.blank
    hbm := { s.hbm with selfRefresh := true }
    host := { s.host with reads := [] }
    run := { s.run with window := [], causes := [], due := [], dueCauses := [], snaps := [], dueSnaps := [] } }
  let s := (s.setObjs [(O.HALTED_CORES, 0)]).tagObjs
  (List.range 32).foldl State.schedObjs s

/-- A move to STANDBY (1) or DIAG (9) begins: MODE changes in the cycle of acceptance (R184). -/
def State.beginMove (s : State) (target : Nat) : State :=
  let s := s.unload.setMode target
  { s with run := { s.run with moving := some target, nextMove := none, diagTest := s.obj O.DIAG_SEL } }

/-- A STANDBY order in DIAG stops the test (R412). -/
def State.stopDiag (s : State) : State :=
  State.setMode { s.setObj O.DIAG_RESULT 0xFFFFFFFF with run := { s.run with moving := none, nextMove := none } } mStandby

/-- A STANDBY or DIAG order takes effect, or waits for the move in progress. -/
def State.orderMove (s : State) (o : Order) : State :=
  let target := o.kind.leads s.mode
  if s.mode = target then s
  else if s.run.moving.isSome then { s with run := { s.run with nextMove := some o } }
  else if s.mode = mDiag then s.stopDiag
  else s.beginMove target

/-- A STANDBY or DIAG order that has waited: Table 08-3 judges it once more. -/
def State.takeMove (s : State) (o : Order) : State := if orderTable o.kind s.mode = 0 then s.fate o 2 else s.orderMove o

/-! ### After a pause, and at a boundary -/

/-- A STANDBY or DIAG order. -/
def OrderKind.moves (k : OrderKind) : Bool := k == .standby || k == .diag

/-- The orders and stops of the closed window take effect; a move that has been accepted since supersedes the start orders of a held
module. -/
def State.takeDue (s : State) (moving : Bool) : State :=
  let l := s.run.due
  let causes := s.run.dueCauses
  let s := { s with run := { s.run with due := [], dueCauses := [] } }
  if s.advancing then s.resolveWindow l causes
  else if ! s.held then s
  else if moving then s.supersede l none
  else s.resolveHeld l

/-- The run orders and moves accepted in SNAPSHOT take effect (R184). -/
def State.takeWaiting (s : State) (l : List Order) : State :=
  let ranked := l.filter fun o => o.kind.ranked
  let moves := l.filter fun o => o.kind.moves
  if moves ≠ [] then moves.foldl State.takeMove (s.supersede ranked none)
  else if s.advancing then s.resolveWindow ranked []
  else if s.held then s.resolveHeld ranked
  else s

/-- What is due at the boundary at which the module stands takes effect: the closed window, then the orders accepted in SNAPSHOT, a
further snapshot before the others. -/
def State.resolveDue (s : State) : State :=
  let l := s.run.snapOrders
  let rest := l.filter fun o => o.kind != .snapshot
  let held := s.held
  let s := State.takeDue { s with run := { s.run with snapOrders := [] } } (l.any fun o => o.kind.moves)
  let s := if rest.length < l.length then State.snapshotNow { s with run := { s.run with snapOrders := rest } } 0 else s
  if s.run.pause.isSome then s
  else
    let s := State.takeWaiting { s with run := { s.run with snapOrders := [] } } rest
    if held && s.advancing && s.armDue then s.beginCommit else s

/-- The next waiting pause begins, or what is due takes effect. -/
def State.afterPause (s : State) : State :=
  match s.run.queued with
  | [] => s.resolveDue
  | p :: rest =>
    let s := State.beginPause { s with run := { s.run with queued := rest } } p
    if s.run.pause.isSome then s
    else match rest with
      | [] => s.resolveDue
      | q :: rest' =>
        let s := State.beginPause { s with run := { s.run with queued := rest' } } q
        if s.run.pause.isSome then s else s.resolveDue

/-- REPLAY_CAUGHT_UP (R342): REPLAY_STATE becomes LIVE and the module holds for the master that committed the restore (R263). -/
def State.caughtUp (s : State) : State :=
  if s.replaying && s.dcNum ≥ s.obj O.REPLAY_TARGET_DC then
    let s := s.setObj O.REPLAY_STATE 0
    let s := if s.obj O.END_CAUSE = 0 then s else s.setObj O.END_CAUSE 2
    { s with run := { s.run with due := s.run.due ++ [⟨.hold, s.run.restoreMaster, 0, 0⟩] } }
  else s

/-- The boundary to which a module below an abandoned DC runs on (R507). -/
def State.ranOn (s : State) : State :=
  match s.run.runOnHold with
  | none => s
  | some (k, record) =>
    if s.dcNum ≠ k then s
    else State.setObj { s with run := { s.run with
      runOnHold := none, retreated := true, dueCauses := s.run.dueCauses ++ [⟨9, record, 0⟩] } } O.HORIZON k

/-- The snapshot occasions of this boundary (R336): ordered, triggered, or a multiple of PEAT_AUTO reached live. Where occasions of
different kinds meet, which of them SLOT_CAUSE names is left open. -/
def State.snapCause (s : State) : Option Nat :=
  let auto := s.obj O.PEAT_AUTO
  let l := s.run.dueSnaps ++ (if auto ≠ 0 && s.dcNum ≠ 0 && s.dcNum % auto = 0 && ! s.replaying then [2] else [])
  match l with
  | [] => none
  | c :: r => if r.all (· == c) then some c else some ((c :: r).getD (Config.freeNat s.fresh % (r.length + 1)) c)

/-- The pauses of this boundary queued: a snapshot first, then a commit. -/
def State.queuePauses (s : State) : State :=
  let snap := match s.snapCause with | some c => [Pause.snapshot 0 c 0] | none => []
  let commit := if s.armDue then [Pause.commit true] else []
  { s with fresh := s.fresh + 1, run := { s.run with queued := snap ++ commit, dueSnaps := [] } }

/-- STEP_REMAIN counts down at each opening in STEP (R185). -/
def State.countStep (s : State) : State :=
  if s.mode == mStep then s.setObj O.STEP_REMAIN (s.obj O.STEP_REMAIN - 1) else s

/-- The boundary reached now. -/
def State.standsAt (s : State) : State := { s with run := { s.run with boundaryAt := s.nowNs } }

/-- The boundary that follows an opening of the Sluice. -/
def State.boundary (s : State) : State := s.standsAt.clockOpening.countStep.caughtUp.ranOn.queuePauses.afterPause

/-! ### Abandons (R491, R492, R507, R531) -/

/-- Every powered cluster of the Sluice set has reached END. -/
def State.allAtEnd (s : State) : Bool := s.sluiceSet.all fun c => (s.cl c).seq == .atEnd

/-- The latest END period over the Sluice set, in which the DC-done token goes to every partner's egress (R88). -/
def State.localCompletes (s : State) : State :=
  if s.sluice.localDone.isSome then s
  else
    let e := (s.sluiceSet.map fun c => (s.cl c).endPeriod.getD 0).foldl max 0
    State.onLinks { s with sluice := { s.sluice with localDone := some e } } s.partners fun _ k =>
      { k with doneDue := k.doneDue ++ [(s.dcNum, e + s.obj O.DONE_DRAIN)] }

/-- The opening that an abandon performs itself once its predecessor has completed (R491), whose outputs have then left; a retreat goes on
to its own. -/
def State.abandonOpens (s : State) (a : Abandon) : State :=
  let next : Abandon := { a with opening := false, period := 0 }
  let s := if s.sluice.latched then s else s.outLatch
  match a.retreat with
  | some _ =>
    let s := s.sluiceSet.foldl (fun s c => s.setCl c { s.cl c with wroteMem := false }) s
    State.discardFrom { s with run := { s.run with abandon := some next } } a.dc
  | none =>
    let s := s.openNext.clockOpening.countStep.caughtUp
    let auto := match s.snapCause with | some c => [c] | none => []
    State.discardFrom { s with run := { s.run with abandon := some next, dueSnaps := auto } } a.dc

/-- The unsent slot flits and token of DC `k` are lost (R491). -/
def State.loseUnsent (s : State) (k : Nat) : State :=
  s.onLinks allLinks fun _ x => { x with
    slotQ := x.slotQ.filter fun e => e.dc != k, doneDue := x.doneDue.filter fun d => d.1 != k
    ctrlQ := x.ctrlQ.filter fun u => u != .dcDone k }

/-- The record of a fault gets its WRITES flag, and STATE_VALID falls (R492, R493). -/
def State.markWrites (s : State) (record : Nat) : State :=
  if s.anyWrite then
    let ring := s.faults.ring.map fun (r : FaultRec) => if r.number = record then { r with flags := setBit r.flags 2 true } else r
    State.setObj { s with faults := { s.faults with ring := ring } } O.STATE_VALID 0
  else s

/-- The end of an abandon (R492): the opening of its DC repeated, HOLD there; a retreat keeps its horizon (R507). -/
def State.abandonEnds (s : State) (a : Abandon) : State :=
  let own := s.ownId
  let s := (s.markWrites a.record).clearTransit fun f => f.dmod != own && decide (f.dc < a.dc)
  let horizon := a.retreat.getD a.dc
  let s := ((s.openDc a.dc s.sluice.enables).discardFrom a.dc).standsAt.clockOpening
  let s := s.setObjs [(O.LAST_ABANDON_DC, a.dc), (O.HORIZON, horizon)]
  let s := if horizon > a.dc then s.setObj O.STATE_VALID 0 else s
  let l := s.run.due ++ s.run.window
  let causes := s.run.dueCauses ++ s.run.causes ++ (if a.isFault then [⟨9, a.record, 0⟩] else [])
  let snaps := s.run.dueSnaps ++ s.run.snaps
  let s := { s with run := { s.run with
    abandon := none, retreated := true, runOnHold := none, due := [], window := [], dueCauses := [], causes := [], snaps := []
    dueSnaps := [], forwarded := false, arm := if s.run.arm = Arm.now then Arm.closed else s.run.arm } }
  let s := if s.advancing then s.resolveWindow l causes else s.supersede l none
  let s := s.afterAbandon
  let s := match snaps with
    | [] => s
    | c :: _ => if s.obj O.STATE_VALID = 1 && ! s.recovering && s.held && s.run.pause.isNone then s.snapshotNow c else s
  if s.run.arm = Arm.closed && s.armDue && s.held then s.beginCommit
  else if s.run.arm = Arm.closed && s.armDue then { s with run := { s.run with queued := s.run.queued ++ [.commit true] } }
  else s

/-- The horizon and the wait of a retreat from where the module stands (R507): inside DC `m`, before or after its exchange instant. -/
def State.retreatFrom (s : State) : Nat × Bool :=
  match s.run.abandon with
  | some a => (a.retreat.getD a.dc, a.opening)
  | none =>
    if s.run.retreated then (s.obj O.HORIZON, false)
    else if s.advancing && s.sluice.exchanged then (s.dcNum + 1, true) else (s.dcNum, false)

/-- PARTNER_ABANDON (R506, R507): an accepted cross-trigger on ABANDON_LINES. -/
def State.partnerAbandon (s : State) (origin link k : Nat) : State :=
  let loaded := s.advancing || s.held || s.mode == mSnapshot
  let below := s.dcNum < k && ! s.run.retreated
  let horizon := if below then k else s.retreatFrom.1
  let opening := ! below && s.retreatFrom.2
  let at_ := match s.run.abandon with | some a => a.dc | none => s.dcNum
  let ignored := ! loaded || (! below && (s.run.retreated || s.run.abandon.isSome) && k ≥ at_)
  let flags := 1 + 34 * (! ignored && ! below).toNat
  let number := s.obj O.FAULT_TOTAL + 1
  let s' := s.writeRecord ⟨0, 8, 1, flags + 8 * s.replaying.toNat, s.dcNum, s.nowNs, s.mode, 4, 255, 255, 0xFFFF, origin + 1024 * link, k,
    horizon⟩
  if ignored then s'
  else if below then { s' with run := { s'.run with runOnHold := some (k, number) } }
  else
    let period := s'.period
    let record := match s.run.abandon with | some a => min a.record number | none => number
    let a : Abandon := ⟨k, opening, period, record, some horizon, true⟩
    let s' := { s' with run := { s'.run with abandon := some a } }
    if opening then s' else s'.discardFrom k

end Sys2Proof.Machine
end

