-- ==== Sys2Proof/Machine/Image.lean ====
section
/-!
DEFINITION. Images (07): the container's fields, the load checks of Table 07-10 in table order, relocation, the binding, and what an
image puts into a cluster's stores.
-/

namespace Sys2Proof.Machine

/-! ### Fields (Tables 07-1, 07-3) -/

/-- A section table entry. -/
structure Section where
  kind : Nat
  die : Nat
  lc : Nat
  crc : Nat
  off : Nat
  size : Nat
deriving DecidableEq, Repr

def imgFlags (b : List Byte) : Nat := bytesNat b 8 8
def imgSize (b : List Byte) : Nat := bytesNat b 0x10 8
def imgN (b : List Byte) : Nat := bytesNat b 0x28 2
def imgIndex (b : List Byte) : Nat := bytesNat b 0x2A 2
def imgDepth (b : List Byte) : Nat := bytesNat b 0x2C 2
def imgCount (b : List Byte) : Nat := bytesNat b 0x2E 2
def imgUsed (b : List Byte) : Nat := bytesNat b 0x50 32
def imgKey (b : List Byte) : Nat := bytesNat b 0x70 4
def imgSigner (b : List Byte) : Nat := bytesNat b 0x90 4

/-- LC_USED names a logical cluster. -/
def usedLc (b : List Byte) (die lc : Nat) : Bool := (imgUsed b).testBit (64 * die + lc)

/-- The section table. -/
def imgSections (b : List Byte) : List Section :=
  (List.range (imgCount b)).map fun i =>
    let o := 0x200 + 32 * i
    ⟨bytesNat b o 2, bytesNat b (o + 2) 1, bytesNat b (o + 3) 1, bytesNat b (o + 4) 4, bytesNat b (o + 8) 8, bytesNat b (o + 16) 8⟩

/-- The bytes of a section. -/
def Section.body (x : Section) (b : List Byte) : List Byte := (b.drop x.off).take x.size

/-- The section of a kind for a cluster, or of the module with 0xFF in both. -/
def findSection (l : List Section) (kind die lc : Nat) : Option Section :=
  l.find? fun x => x.kind == kind && x.die == die && x.lc == lc

/-- The content of that section, empty where there is none. -/
def sectionBody (b : List Byte) (l : List Section) (kind die lc : Nat) : List Byte :=
  match findSection l kind die lc with | some x => x.body b | none => []

/-- The number of that section. -/
def sectionIx (l : List Section) (kind die lc : Nat) : Nat := l.findIdx fun x => x.kind == kind && x.die == die && x.lc == lc

/-- REFUSE_DETAIL (R165). -/
def refuseDetail (sec die lc bp ix : Nat) : Nat :=
  sec * 2 ^ 48 + die * 2 ^ 46 + lc * 2 ^ 40 + bp * 2 ^ 30 + ix % 2 ^ 30

/-- A refusal: cause and detail. -/
abbrev Refused := Option (Nat × Nat)

/-- The kinds of a cluster, and those of the module (Table 07-4). -/
def clusterKind (k : Nat) : Bool := 1 ≤ k && k ≤ 6
def moduleKind (k : Nat) : Bool := 7 ≤ k && k ≤ 0xD

/-- The used logical clusters as (die, LC), rising. -/
def usedList (b : List Byte) : List (Nat × Nat) :=
  (List.range 256).filterMap fun i => if (imgUsed b).testBit i then some (i / 64, i % 64) else none

/-! ### Sections' contents -/

/-- The present BPs of an INSTR section, rising. -/
def presentBps (p : List Byte) : List Nat := let m := bytesNat p 0 128; (List.range 1024).filter m.testBit

/-- The records of a ROUTE section: (entry, check bits, index). -/
def routeRecords (p : List Byte) : List (Nat × Nat × Nat) :=
  (List.range (p.length / 16)).map fun i => (bytesNat p (16 * i) 8, bytesNat p (16 * i + 8) 1, bytesNat p (16 * i + 9) 2)

/-- The domain descriptors. -/
def imgDomains (b : List Byte) (l : List Section) : List Nat :=
  let p := sectionBody b l 7 255 255
  (List.range 64).map fun i => bytesNat p (16 * i) 16

/-- The partners of a TOPOLOGY section. -/
def imgTopology (b : List Byte) (l : List Section) : List Nat :=
  let p := sectionBody b l 0xA 255 255
  (List.range (bytesNat p 0 2)).map fun i => bytesNat p (2 + 2 * i) 2

/-- The records of a SEAMSLOT section. -/
def imgSeam (b : List Byte) (l : List Section) : List Nat :=
  let p := sectionBody b l 0xB 255 255
  (List.range (bytesNat p 0 4)).map fun i => bytesNat p (4 + 16 * i) 16

/-- The relocation records (R170). -/
def imgRelocs (b : List Byte) (l : List Section) : List Nat :=
  let p := sectionBody b l 0xC 255 255
  entries8 p 0 (p.length / 8)

def relKind (r : Nat) : Nat := field r 56 8
def relDie (r : Nat) : Nat := field r 54 2
def relLc (r : Nat) : Nat := field r 48 6
def relIndex (r : Nat) : Nat := field r 0 32

/-! ### Header checks (codes 3 to 9) -/

/-- FORMAT to FLAGS of Table 07-10, with the SIZE check before them. -/
def headerFault (b : List Byte) (bytes : Nat) : Refused :=
  let flags := imgFlags b
  if bytes ≠ imgSize b || bytes > 3 * 2 ^ 30 then some (3, 0)
  else if bytesNat b 0 4 ≠ 0x5542494D || bytesNat b 4 2 ≠ 1 || bytesNat b 6 2 ≠ 0x200 then some (4, 0)
  else if crc32 (zeroed (zeroed (zeroed (b.take 512) 0x4C 4) 0x80 16) 0xA0 96) ≠ bytesNat b 0x4C 4 then some (5, 0)
  else if flags ≥ 8 || bytesNat b 0x94 12 ≠ 0 || bytesNat b 0x100 256 ≠ 0 || (! flags.testBit 1 && imgKey b ≠ 0)
      || (! flags.testBit 2 && imgSigner b ≠ 0) then some (6, 0)
  else none

/-- POLICY (R475, R483). -/
def State.policyFault (s : State) (b : List Byte) : Bool :=
  let enc := (imgFlags b).testBit 1
  let sig := (imgFlags b).testBit 2
  let lc := s.obj O.LC_STATE
  let slot (id map : Nat) : Bool := 1 ≤ id && id ≤ 8 && map.testBit (id - 1)
  lc == 0 || (lc == 4 && enc) || (lc == 3 && ! (sig && enc)) || (lc == 2 && s.obj O.REQUIRE_SIGNED == 1 && ! sig)
    || (lc == 2 && s.obj O.REQUIRE_ENCRYPTED == 1 && ! enc) || (enc && ! slot (imgKey b) (s.obj O.IMG_KEYS))
    || (sig && ! slot (imgSigner b) (s.obj O.SIG_KEYS))

/-- The signature verifies over the image as delivered (R158, R159). -/
def State.imageSigned (s : State) (b : List Byte) : Bool :=
  ! (imgFlags b).testBit 2
    || ecdsaOk (tget (fun _ => []) s.keys.signing (imgSigner b)) (zeroed b 0xA0 96) ((b.drop 0xA0).take 96)

/-- The image decrypted in place (R158, R159); none on a tag mismatch. -/
def State.imageOpened (s : State) (b : List Byte) : Option (List Byte) :=
  if ! (imgFlags b).testBit 1 then some b
  else
    let first := (imgSections b).foldl (fun m x => min m x.off) b.length
    let aad := zeroed (zeroed (b.take (0x200 + 32 * imgCount b)) 0x80 16) 0xA0 96
    match gcmOpen (tget (fun _ => []) s.keys.image (imgKey b)) ((b.drop 0x74).take 12) aad (b.drop first)
        ((b.drop 0x80).take 16) with
    | none => none
    | some p => some (b.take first ++ p)

/-! ### The section table (code 0x000A) -/

/-- The size of a section agrees with its content. -/
def sectionSizeOk (b : List Byte) (x : Section) : Bool :=
  let p := x.body b
  match x.kind with
  | 1 => p.length ≥ 128 && x.size == 128 + 11 * imgDepth b * popcount 1024 (bytesNat p 0 128)
  | 2 => x.size % 16 == 0
  | 3 => x.size == 8192
  | 4 => x.size ≥ 4100 && bytesNat p 4096 4 ≤ 16384 && x.size == 4100 + 4 * bytesNat p 4096 4
  | 5 => x.size == 32
  | 6 => x.size == 65536
  | 7 => x.size == 1024
  | 8 => x.size == 40960
  | 9 => x.size == 8192
  | 0xA => x.size ≥ 2 && x.size == 2 + 2 * bytesNat p 0 2
  | 0xB => x.size ≥ 4 && x.size == 4 + 16 * bytesNat p 0 4
  | 0xC => x.size % 8 == 0
  | _ => true

/-- A section entry that R155 or R156 refuses by itself or for an earlier one. -/
def sectionBad (b : List Byte) (l : List Section) (i : Nat) (x : Section) : Bool :=
  let earlier := l.take i
  let scope :=
    if clusterKind x.kind then x.die < 4 && x.lc < 64 && usedLc b x.die x.lc
    else if moduleKind x.kind then x.die == 255 && x.lc == 255
    else x.kind == 0xF0 && ((x.die == 255 && x.lc == 255) || (x.die < 4 && x.lc < 64 && usedLc b x.die x.lc))
  ! scope || x.off % 64 != 0 || x.off < 0x200 + 32 * imgCount b || x.off + x.size > imgSize b
    || (earlier.any fun y => y.off < x.off + x.size && x.off < y.off + y.size)
    || (earlier.any fun y => y.kind == x.kind && y.die == x.die && y.lc == x.lc)
    || ! sectionSizeOk b x

/-- The first ROUTE record of a section that names an index already named or above 16,383 (R156). -/
def routeIndexFault (p : List Byte) : Option Nat :=
  let l := routeRecords p
  (firstBadIx l fun i r => r.2.2 > 16383 || (l.take i).any fun q => q.2.2 == r.2.2).map fun e => e.1

/-- SECTION: the first bad entry, then a missing section, then ROUTE indices. -/
def sectionFault (b : List Byte) : Refused :=
  let l := imgSections b
  let place (i : Nat) (x : Section) (ix : Nat) : Nat :=
    if x.die < 4 && x.lc < 64 then refuseDetail i x.die x.lc 0 ix else refuseDetail i 0 0 0 ix
  if imgCount b < 1 || imgCount b > 4096 then some (0xA, 0)
  else match firstBadIx l (sectionBad b l) with
  | some (i, x) => some (0xA, place i x 0)
  | none =>
    match (usedList b).find? fun u => (findSection l 1 u.1 u.2).isNone with
    | some u => some (0xA, refuseDetail 0 u.1 u.2 0 0)
    | none =>
      if (findSection l 7 255 255).isNone || (imgN b > 1 && (findSection l 0xA 255 255).isNone) then some (0xA, 0)
      else l.zipIdx.findSome? fun e =>
        if e.1.kind = 2 then (routeIndexFault (e.1.body b)).map fun r => (0xA, place e.2 e.1 r) else none

/-- SECTION_CRC. -/
def sectionCrcFault (b : List Byte) : Refused :=
  (firstBadIx (imgSections b) fun _ x => crc32 (x.body b) != x.crc).map fun e =>
    (0xB, if e.2.die < 4 && e.2.lc < 64 then refuseDetail e.1 e.2.die e.2.lc 0 0 else refuseDetail e.1 0 0 0 0)

/-! ### Latencies (R96) -/

/-- The comparison of R96: LAT_RESULT and LAT_SLOWER_MAP. -/
def State.latCompare (s : State) (b : List Byte) : Nat × Nat :=
  let a (i : Nat) : Nat := bytesNat b (0x30 + 2 * (i - 1)) 2
  let ix := (List.range 14).map (· + 1)
  let slower := ix.foldl (fun m i => if s.lat i > a i then m + 2 ^ i else m) 0
  if slower ≠ 0 then (2, slower) else if ix.all fun i => s.lat i == a i then (0, 0) else (1, 0)

/-! ### The module map and the topology (codes 0x000E, 0x000F) -/

/-- The physical module of an image module; a single module's own identifier where the map is empty (R163). -/
def State.modmap (s : State) (n i : Nat) : Nat :=
  let v := if i < 128 then s.obj (O.LO_MODMAP i) else if i < 256 then s.obj (O.HI_MODMAP (i - 128)) else 0xFFFF
  if n = 1 && i = 0 && v = 0xFFFF then s.ownId else v

/-- MODULE_MAP. -/
def State.mapFault (s : State) (b : List Byte) : Bool :=
  let n := imgN b
  let ids := (List.range n).map (s.modmap n)
  n < 1 || n > 256 || imgIndex b ≥ n || ids.contains 0xFFFF || ids.eraseDups.length != ids.length
    || s.modmap n (imgIndex b) != s.ownId

/-- The lowest configured link whose partner is a given module (R86). -/
def State.linkTo (s : State) (id : Nat) : Option Nat :=
  allLinks.find? fun l => s.objBit O.LINK_ENABLE l && s.obj (O.PARTNER_ID l) == id

/-- The first partner of TOPOLOGY that no configured link reaches. -/
def State.topologyFault (s : State) (b : List Byte) (l : List Section) : Refused :=
  (firstBadIx (imgTopology b l) fun _ p => p ≥ imgN b || (s.linkTo (s.modmap (imgN b) p)).isNone).map fun e =>
    (0xF, refuseDetail (sectionIx l 0xA 255 255) 0 0 0 e.1)

/-! ### The binding (R168) -/

/-- The lowest healthy spare of a die beside those in a list. -/
def State.spareOf (s : State) (die : Nat) (taken : List Nat) : Option Nat :=
  [64, 65, 66, 67].find? fun pc => (s.cl (cidOf die pc)).mark == 0 && ! taken.contains pc

/-- The physical cluster for a logical one. -/
def State.choosePc (s : State) (die lc : Nat) (taken : List Nat) : Option Nat :=
  if (s.cl (cidOf die lc)).mark = 0 then some lc else s.spareOf die taken

/-- The binding of an image's logical clusters, or the die that has no spare left. -/
def State.bindAll (s : State) : List (Nat × Nat) → List (Nat × Nat × Nat) → Except Nat (List (Nat × Nat × Nat))
  | [], l => .ok l
  | (d, n) :: r, l =>
    match s.choosePc d n ((l.filter fun x => x.1 == d).map fun x => x.2.2) with
    | none => .error d
    | some pc => s.bindAll r (l ++ [(d, n, pc)])

/-! ### Check bits, descriptors, Quarry GOs (codes 0x0011 to 0x0013) -/

/-- The first entry of a section whose check bits differ (R160), as (BP, entry). -/
def checkBitsIn (depth : Nat) (x : Section) (p : List Byte) : Option (Nat × Nat) :=
  if x.kind = 1 then
    (presentBps p).zipIdx.findSome? fun e =>
      (List.range depth).findSome? fun i =>
        let w := bytesNat p (128 + 11 * (e.2 * depth + i)) 11
        if checkBits 80 (w % 2 ^ 80) = w / 2 ^ 80 then none else some (e.1, i)
  else if x.kind = 2 then
    (routeRecords p).findSome? fun r => if checkBits 64 r.1 = r.2.1 then none else some (0, r.2.2)
  else none

/-- CHECK_BITS. -/
def checkBitsFault (b : List Byte) (l : List Section) : Refused :=
  l.zipIdx.findSome? fun e =>
    (checkBitsIn (imgDepth b) e.1 (e.1.body b)).map fun w => (0x11, refuseDetail e.2 e.1.die e.1.lc w.1 w.2)

/-- A port descriptor that R135 or R140 refuses, for a Quarry of `q` granules. -/
def portDescBad (d q : Nat) : Bool :=
  dValid d &&
    (if dQuarry d then dAw d > 34 || 8 * (dBase d + 2 ^ dAw d) > q * granule
     else
      let per := 64 / packWidth (dWidth d)
      dAw d > 22 || dBase d + (2 ^ dAw d + per - 1) / per > 65536)

/-- DESCRIPTOR. -/
def State.descriptorFault (s : State) (b : List Byte) (l : List Section) : Refused :=
  l.zipIdx.findSome? fun e =>
    if e.1.kind = 5 then
      ((List.range 4).find? fun p => portDescBad (bytesNat (e.1.body b) (8 * p) 8) (s.obj O.QUARRY_SIZE)).map fun p =>
        (0x12, refuseDetail e.2 e.1.die e.1.lc 0 p)
    else none

/-- The ports of a cluster that map the Quarry. -/
def quarryPorts (b : List Byte) (l : List Section) (die lc : Nat) : List Bool :=
  let p := sectionBody b l 5 die lc
  (List.range 4).map fun i => let d := bytesNat p (8 * i) 8; dValid d && dQuarry d

/-- An instruction is a GO on one of the ports. -/
def goOn (ports : List Bool) (w : Nat) : Bool :=
  match iClass w with
  | .mrd => (mrdForm w) == .go && ports.getD (mPort w) false
  | .mwr => (mwrForm w) == .go && ports.getD (mPort w) false
  | _ => false

/-- The number of Quarry GOs in an INSTR section (R143). -/
def quarryGos (depth : Nat) (ports : List Bool) (p : List Byte) : Nat :=
  let n := (presentBps p).length
  ((List.range (n * depth)).filter fun i => goOn ports (bytesNat p (128 + 11 * i) 10)).length

/-- QUARRY_GO. -/
def quarryGoFault (b : List Byte) (l : List Section) : Refused :=
  l.zipIdx.findSome? fun e =>
    if e.1.kind = 1 && quarryGos (imgDepth b) (quarryPorts b l e.1.die e.1.lc) (e.1.body b) > 64 then
      some (0x13, refuseDetail e.2 e.1.die e.1.lc 0 0)
    else none

/-! ### Domains and homes (codes 0x0014, 0x0015) -/

/-- Two ranges that are not empty overlap. -/
def rangesMeet (a n b m : Nat) : Bool := n != 0 && m != 0 && a < b + m && b < a + n

/-- Fields of a tied descriptor (Table 11-1). -/
def tInFirst (d : Nat) : Nat := field d 113 13
def tInCount (d : Nat) : Nat := field d 101 12
def tOutFirst (d : Nat) : Nat := field d 88 13
def tOutCount (d : Nat) : Nat := field d 76 12
def tPeriod (d : Nat) : Nat := field d 48 28
def tPhase (d : Nat) : Nat := field d 32 16
def tOutLatency (d : Nat) : Nat := field d 16 16
def tTie (d : Nat) : Nat := field d 0 3

/-- Two tied descriptors that R252 refuses together. -/
def tiesClash (d e : Nat) : Bool :=
  tTie d == tTie e || rangesMeet (tInFirst d) (tInCount d) (tInFirst e) (tInCount e)
    || rangesMeet (tOutFirst d) (tOutCount d) (tOutFirst e) (tOutCount e)

/-- A domain descriptor that R157 or R252 refuses, among those before it. -/
def domainBad (l : List Nat) (i d : Nat) : Bool :=
  let n := field d 0 16
  let m := field d 16 16
  let p := field d 32 16
  let tied := (l.take i).filter fun e => domKind e == 2
  (i == 0 && ! (domKind d == 1 && n == 1 && m == 1))
    || (domKind d == 1 && ! (1 ≤ n && n ≤ m && p < m))
    || (domKind d == 2 && (tied.length ≥ 8 || tPeriod d < 1000 || 64 * tOutLatency d ≥ tPeriod d
        || (tInCount d != 0 && tInFirst d + tInCount d > 8192) || (tOutCount d != 0 && tOutFirst d + tOutCount d > 8192)
        || tied.any (tiesClash d)))

/-- DOMAINS. -/
def domainFault (b : List Byte) (l : List Section) : Refused :=
  let ds := imgDomains b l
  (firstBadIx ds (domainBad ds)).map fun e => (0x14, refuseDetail (sectionIx l 7 255 255) 0 0 0 e.1)

/-- HOME. -/
def homeFault (b : List Byte) (l : List Section) : Refused :=
  let p := sectionBody b l 8 255 255
  let words := (List.range (p.length / 2)).map fun i => bytesNat p (2 * i) 2
  (firstBadIx words fun _ h => h.testBit 15 && ! usedLc b (field h 6 2) (field h 0 6)).map fun e =>
    (0x15, refuseDetail (sectionIx l 8 255 255) 0 0 0 e.1)

/-! ### Relocation (R170, R171) -/

/-- `n` bytes of an image replaced by a value. -/
def patch (b : List Byte) (off n v : Nat) : List Byte := b.take off ++ leBytes n v ++ b.drop (off + n)

/-- The image offset of the ROUTE record that names an index. -/
def routeOffset (b : List Byte) (l : List Section) (die lc ix : Nat) : Option Nat :=
  match findSection l 2 die lc with
  | none => none
  | some x => ((routeRecords (x.body b)).findIdx? fun r => r.2.2 == ix).map fun i => x.off + 16 * i

/-- A route record rewritten with check bits made afresh (R160). -/
def patchRoute (b : List Byte) (off v : Nat) : List Byte := patch (patch b off 8 v) (off + 8) 1 (checkBits 64 v)

/-- The image offset of an outbound slot entry. -/
def outslotOffset (l : List Section) (die lc slot : Nat) : Option Nat :=
  if slot < 1024 then (findSection l 3 die lc).map fun x => x.off + 8 * slot else none

def oValid (o : Nat) : Bool := o.testBit 39
def oDmod (o : Nat) : Nat := field o 10 10
def oDdie (o : Nat) : Nat := field o 8 2
def oDpc (o : Nat) : Nat := field o 1 7

/-- A return-kind entry as the loader always leaves it (R170). -/
def ownReturn (e own die lc : Nat) : Nat := setField (setField (setField e 52 10 own) 50 2 die) 44 6 lc

/-- One relocation record applied, or refused (Table 07-8). -/
def State.relocate (s : State) (b : List Byte) (l : List Section) (r : Nat) : Option (List Byte) :=
  let n := imgN b
  let d := relDie r
  let c := relLc r
  match relKind r with
  | 1 => match routeOffset b l d c (relIndex r) with
    | none => none
    | some off =>
      let e := bytesNat b off 8
      if rKind e ≠ 1 || rMod e ≥ n then none else some (patchRoute b off (setField e 52 10 (s.modmap n (rMod e))))
  | 2 => match routeOffset b l d c (relIndex r) with
    | none => none
    | some off =>
      let e := bytesNat b off 8
      if rKind e ≠ 2 then none else some (patchRoute b off (ownReturn e s.ownId d c))
  | 3 => match outslotOffset l d c (relIndex r) with
    | none => none
    | some off =>
      let o := bytesNat b off 8
      if ! oValid o || oDmod o ≥ n || oDpc o > 63 then none else some (patch b off 8 (setField o 10 10 (s.modmap n (oDmod o))))
  | 4 => match findSection l 0xB 255 255 with
    | none => none
    | some x =>
      let off := x.off + 4 + 16 * relIndex r
      let e := bytesNat b off 16
      if relIndex r ≥ bytesNat b x.off 4 || ! (imgTopology b l).contains (ssLink e) then none
      else match s.linkTo (s.modmap n (ssLink e)) with
        | none => none
        | some k => some (patch b off 16 (setField e 118 8 k))
  | _ => none

/-- The relocation records applied in image order; the first refused one by its number. -/
def State.relocateAll (s : State) (l : List Section) : List (Nat × Nat) → List Byte → Except (Nat × Nat) (List Byte)
  | [], b => .ok b
  | (r, i) :: rest, b => match s.relocate b l r with
    | none => .error (r, i)
    | some b' => s.relocateAll l rest b'

/-- Every return-kind entry gets the module's own identifier and its own place (R170). -/
def State.returnsOwn (s : State) (b : List Byte) (l : List Section) : List Byte :=
  l.foldl (fun b x =>
    if x.kind = 2 then
      (routeRecords (x.body b)).zipIdx.foldl (fun b r =>
        if rKind r.1.1 = 2 then patchRoute b (x.off + 16 * r.2) (ownReturn r.1.1 s.ownId x.die x.lc) else b) b
    else b) b

/-- The first VALID outbound slot entry to an unused cluster of the own module (R171). -/
def State.outslotFault (s : State) (b : List Byte) (l : List Section) : Refused :=
  l.zipIdx.findSome? fun e =>
    if e.1.kind = 3 then
      ((entries8 b e.1.off 1024).findIdx? fun o =>
        oValid o && oDmod o == s.ownId && (oDpc o > 63 || ! usedLc b (oDdie o) (oDpc o))).map fun slot =>
          (0x16, refuseDetail e.2 e.1.die e.1.lc 0 slot)
    else none

/-- RELOC: the records, then R171's check. -/
def State.relocated (s : State) (b : List Byte) : Except (Nat × Nat) (List Byte) :=
  let l := imgSections b
  match s.relocateAll l (imgRelocs b l).zipIdx b with
  | .error (r, i) => .error (0x16, refuseDetail (sectionIx l 0xC 255 255) (relDie r) (relLc r) 0 i)
  | .ok b' =>
    let b' := s.returnsOwn b' l
    match s.outslotFault b' l with
    | some e => .error e
    | none => .ok b'

/-! ### The whole check -/

/-- SIZE to DECRYPT: the plaintext image, or the first refusal. -/
def State.openImage (s : State) (b : List Byte) (bytes : Nat) : Except (Nat × Nat) (List Byte) :=
  match headerFault b bytes with
  | some e => .error e
  | none =>
    if s.policyFault b then .error (7, 0)
    else if ! s.imageSigned b then .error (8, 0)
    else match s.imageOpened b with
      | none => .error (9, 0)
      | some p => .ok p

/-- SECTION to DEPTH of the plaintext. -/
def plainFault (b : List Byte) : Refused :=
  match sectionFault b with
  | some e => some e
  | none =>
    match sectionCrcFault b with
    | some e => some e
    | none => let d := imgDepth b; if d < 64 || d > 1024 || d % 64 ≠ 0 then some (0xC, 0) else none

/-- The first of a list of refusals. -/
def firstRefusal : List Refused → Refused
  | [] => none
  | some e :: _ => some e
  | none :: r => firstRefusal r

/-- LATENCY to HOME. -/
def State.contentFault (s : State) (b : List Byte) : Refused :=
  let l := imgSections b
  let lat := s.latCompare b
  if (imgFlags b).testBit 0 && lat.1 = 2 then some (0xD, lat.2)
  else if s.mapFault b then some (0xE, 0)
  else match s.topologyFault b l with
  | some e => some e
  | none => match s.bindAll (usedList b) [] with
    | .error d => some (0x10, refuseDetail 0 d 0 0 0)
    | .ok _ => firstRefusal [checkBitsFault b l, s.descriptorFault b l, quarryGoFault b l, domainFault b l, homeFault b l]

/-! ### What an image puts into a cluster (Table 07-4) -/

/-- The present BPs' entries stored. -/
def storeInstr (depth : Nat) (p : List Byte) (m : Memory) : Memory :=
  (presentBps p).zipIdx.foldl (fun m e =>
    (List.range depth).foldl (fun m i => mwrite m (nInstr e.1 i) ((p.drop (128 + 11 * (e.2 * depth + i))).take 11)) m) m

/-- The route records stored. -/
def storeRoutes (p : List Byte) (m : Memory) : Memory :=
  (routeRecords p).foldl (fun m r => mputNat m (nRoute r.2.2) 9 (r.1 + r.2.1 * 2 ^ 64)) m

/-- The outbound slot table stored, logical. -/
def storeOutslots (p : List Byte) (m : Memory) : Memory :=
  (entries8 p 0 (p.length / 8)).zipIdx.foldl (fun m o => mputNat m (nOutslot o.2) 8 (o.1 % 2 ^ 40)) m

/-- The landing table and landing store. -/
def storeLanding (p : List Byte) (m : Memory) : Memory :=
  mwrite (mwrite m (nLandTable 0) (p.take 4096)) (nLandWord 0) ((p.drop 4100).take (4 * bytesNat p 4096 4))

/-- The stores of a logical cluster as the retained copy holds them. -/
def retainedStores (b : List Byte) (die lc : Nat) : Memory :=
  let l := imgSections b
  let body (k : Nat) : List Byte := sectionBody b l k die lc
  storeLanding (body 4) (storeOutslots (body 3) (storeRoutes (body 2) (storeInstr (imgDepth b) (body 1) [])))

/-- A binding looked up; 0xFF where there is none. -/
def bindingOf (l : List (Nat × Nat × Nat)) (die lc : Nat) : Nat :=
  match l.find? fun x => x.1 == die && x.2.1 == lc with | some x => x.2.2 | none => 0xFF

/-- The write_outslot procedure (R171): an entry for the own module takes the bound physical cluster. -/
def writeOutslot (own : Nat) (l : List (Nat × Nat × Nat)) (o : Nat) : Nat :=
  if oDmod o = own then (match bindingOf l (oDdie o) (oDpc o) with | 0xFF => o | pc => setField o 1 7 pc) else o

/-- Stores of the retained copy as they are written into a physical cluster: every outbound slot entry goes through write_outslot. -/
def physicalStores (own : Nat) (l : List (Nat × Nat × Nat)) (m : Memory) : Memory :=
  let slots := if own = 0 then List.range 1024
    else ((m.filter fun c => nOutslot 0 ≤ c.1 && c.1 < nOutslot 1024).map fun c => (c.1 - nOutslot 0) / 8).eraseDups
  slots.foldl (fun m i => mputNat m (nOutslot i) 8 (writeOutslot own l (mnat m (nOutslot i) 8))) m

end Sys2Proof.Machine
end

