-- ==== Sys2Proof/Machine/Load.lean ====
section
/-!
DEFINITION. Loads (R162–R167) and remaps (R172, R499, R500): the orders, the completion of fetch, check and write, and the rebinding
of a logical cluster from the retained copy.
-/

namespace Sys2Proof.Machine

/-- The image window (Table 07-7). -/
def imageBase : Nat := 0x1600000000

/-- A load is in progress (R163). -/
def State.loading (s : State) : Bool := 1 ≤ s.obj O.LOAD_STATE && s.obj O.LOAD_STATE ≤ 3

/-- The module leaves or enters STANDBY around a load: the HBM is in self-refresh there only (R178, Table 19-4). -/
def State.loadMode (s : State) (m : Nat) : State :=
  let s := s.setMode m
  { s with hbm := { s.hbm with selfRefresh := m == mStandby } }

/-- LOAD_CMD ← 1 (R163, R505, R480). -/
def State.loadOrder (s : State) : State × Nat :=
  if s.loading then (s, eNone)
  else if (s.recovering && s.obj O.RECOVERY_STATE ≠ 4) || s.keys.target.isSome then (s, eMode)
  else if s.mode == mStandby || s.held then
    let s := s.supersede (s.run.window ++ s.run.due) none
    let s := { s with run := { s.run with window := [], due := [], loadFrom := s.mode } }
    ((s.setObj O.LOAD_STATE 1).loadMode mLoad, eNone)
  else ((s.setObjs [(O.LOAD_STATE, 5), (O.REFUSE_CAUSE, 1), (O.REFUSE_DETAIL, 0)]).msix 3, eNone)

/-- LOAD_CMD_LOAD. -/
def execLoadCmdLoad (m : Master) (s : State) : Out := s.write m O.LOAD_CMD 1 State.loadOrder

/-- A load ends without effect on the loaded image: the module returns to the mode of the order (R164, R167). -/
def State.loadEnds (s : State) (state : Nat) : State := ((s.setObj O.LOAD_STATE state).msix 3).loadMode s.run.loadFrom

/-- LOAD_CMD ← 2 (R167). -/
def State.loadAbort (s : State) : State × Nat :=
  if ! s.loading then (s.setObj O.ABORT_RESULT 2, eNone)
  else
    let writing := s.obj O.LOAD_STATE = 3
    let s := s.setObj O.ABORT_RESULT 1
    if writing then
      let s := if s.obj O.FAB_STATE = 1 && s.fabric.phase = 0 then s.fabClear else s
      ((((s.setObj O.LOAD_STATE 6).msix 3).unload).loadMode mStandby, eNone)
    else (s.loadEnds 6, eNone)

/-- LOAD_CMD_ABORT. -/
def execLoadCmdAbort (m : Master) (s : State) : Out := s.write m O.LOAD_CMD 2 State.loadAbort

/-- A refusal (R164, R165). -/
def State.loadRefuse (s : State) (cause detail : Nat) : State :=
  (s.setObjs [(O.REFUSE_CAUSE, cause), (O.REFUSE_DETAIL, detail)]).loadEnds 5

/-- LOAD_FETCH_DONE: `data` is what the DMA has fetched from host memory; fewer bytes than IMAGE_BYTES mean that the fetch ended there in
a PCIe error. -/
def execLoadFetchDone (data : List Byte) (s : State) : Out :=
  if s.obj O.LOAD_STATE ≠ 1 || s.clockWait then .next s
  else
    let n := s.obj O.IMAGE_BYTES
    let d := data.take n
    let s := s.hbmWrite imageBase d
    if d.length < n then .next (s.loadRefuse 2 d.length) else .next (s.setObj O.LOAD_STATE 2)

/-- The image in the window; bytes of an uncorrectable word read as free values. -/
def State.imageBytes (s : State) : List Byte :=
  let b := mread s.hbm.mem imageBase (max 512 (s.obj O.IMAGE_BYTES))
  if s.hbmDamaged imageBase b.length then
    b.zipIdx.map fun e => if s.hbmDamaged (imageBase + e.2) 1 then Config.freeByte s.fresh (imageBase + e.2) else e.1
  else b

/-- The container of an image's FABRIC section, if it has one. -/
def imageFabric (b : List Byte) : Option (List Byte) := (findSection (imgSections b) 0xD 255 255).map fun x => x.body b

/-- The checked image held in HBM, and READY reported with its binding. -/
def State.imageReady (s : State) (q : List Byte) (bind : List (Nat × Nat × Nat)) : State :=
  State.setObj { s.hbmWrite imageBase q with run := { s.run with loadBinding := bind } } O.LOAD_STATE 3

/-- FABRIC of Table 07-10, the last check; the relocated image is then ready to be written. -/
def State.fabricStage (s : State) (q : List Byte) (bind : List (Nat × Nat × Nat)) (vddio : List Nat) : State :=
  match imageFabric q with
  | none => s.imageReady q bind
  | some f =>
    let s := s.setObjs ((List.range 8).map fun i => (O.BANK_VDDIO i, vddio.getD i 0))
    let r := fabCheck f (s.obj O.FAB_ID) f.length true false [] vddio
    if r.1 = 0 then (s.setObjs [(O.FAB_CHECK, 0), (O.FAB_CHECK_DETAIL, 0), (O.FAB_STATE, 1)]).fabObjs.imageReady q bind
    else (s.setObjs [(O.FAB_CHECK, r.1), (O.FAB_CHECK_DETAIL, r.2)]).loadRefuse 0x17
      (refuseDetail (sectionIx (imgSections q) 0xD 255 255) 0 0 0 0)

/-- The checks from LATENCY on (Table 07-10). -/
def State.contentStage (s : State) (p : List Byte) (vddio : List Nat) : State :=
  let lat := s.latCompare p
  let s := s.setObjs [(O.LAT_RESULT, lat.1), (O.LAT_SLOWER_MAP, lat.2)]
  match s.contentFault p with
  | some e => s.loadRefuse e.1 e.2
  | none =>
    match s.relocated p, s.bindAll (usedList p) [] with
    | .error e, _ => s.loadRefuse e.1 e.2
    | .ok q, .ok bind => s.fabricStage q bind vddio
    | .ok _, .error d => s.loadRefuse 0x10 (refuseDetail 0 d 0 0 0)

/-- LOAD_CHECK_DONE (R163–R165): phase 2 ends. `vddio` are the measured voltages of the fabric's banks. -/
def execLoadCheckDone (vddio : List Nat) (s : State) : Out :=
  if s.obj O.LOAD_STATE ≠ 2 || s.clockWait then .next s
  else
    let b := s.imageBytes
    let s := match s.firstBad imageBase b.length with | some a => (s.hbmBad a).draw | none => s
    match s.openImage b (s.obj O.IMAGE_BYTES) with
    | .error e => .next (s.loadRefuse e.1 e.2)
    | .ok p =>
      let s := if (imgFlags b).testBit 1 then s.hbmWrite imageBase p else s
      match plainFault p with
      | some e => .next (s.loadRefuse e.1 e.2)
      | none => .next (s.contentStage p vddio)

/-! ### Phase 3 (R163, R166, R279, R285, R324, R335, R265) -/

/-- The retained copy that a load keeps; how its bytes lie in HBM is not stated. -/
def State.retain (s : State) (b : List Byte) : State :=
  let stores := (usedList b).foldl (fun t u => tput (fun _ => []) t (64 * u.1 + u.2) (retainedStores b u.1 u.2)) []
  let l := imgSections b
  let ports := (usedList b).foldl (fun t u => (List.range 4).foldl (fun t p =>
    tput (fun _ => 0) t (4 * (64 * u.1 + u.2) + p) (bytesNat (sectionBody b l 5 u.1 u.2) (8 * p) 8)) t) []
  let bad := s.hbm.bad.filter fun a => a < retainedBase || replayBase ≤ a
  State.hbmOpen { s with retained := ⟨stores, ports, imgRelocs b l⟩, hbm := { s.hbm with bad := bad } } retainedBase replayBase

/-- A cluster whose stores are written and whose run state is that of a boundary: counters marked "load" are 0 (R410). -/
def Cluster.written3 (c : Cluster) (node : Memory) (keepLoad : Bool) : Cluster :=
  { Cluster.blank with
    seq := .runStep, node := node, mark := c.mark
    counters := if keepLoad then c.counters else c.counters.filter fun e => 7 ≤ e.1 }

/-- Every cluster empty, its design memory 0 (R156, R166); the bound ones of a new binding with their stores and STATE, their ports ACTIVE.
Marked clusters that are bound no longer absorb (R405). -/
def State.writeClusters (s : State) (b : List Byte) (bind : List (Nat × Nat × Nat)) : State :=
  let l := imgSections b
  let s := s.bound.foldl (fun s x => s.setObj (O.BINDING x.1 x.2.1) 0xFF) s
  let s := { s with clusters := tmap (fun _ => Cluster.blank) (fun _ (c : Cluster) =>
    { Cluster.blank with mark := c.mark, counters := c.counters.filter fun e => 7 ≤ e.1 }) s.clusters }
  let s := bind.foldl (fun s x =>
    let cid := cidOf x.1 x.2.2
    let m := physicalStores s.ownId bind (tget (fun _ => []) s.retained.stores (64 * x.1 + x.2.1))
    let m := mwrite m (nLive 0) (sectionBody b l 6 x.1 x.2.1)
    let ports := sectionBody b l 5 x.1 x.2.1
    let s := ((s.setCl cid ((s.cl cid).written3 m false)).portWakes cid).setObj (O.BINDING x.1 x.2.1) x.2.2
    (List.range 4).foldl (fun s p =>
      let k := O.PORT_DESC (64 * x.1 + x.2.1) p
      let d := bytesNat ports (8 * p) 8
      s.setObj k (d &&& definedBits k d)) s) s
  (List.range 272).foldl (fun s c => if (s.cl c).mark ≠ 0 && (s.lcOf c).isNone then s.setPort c 3 else s) s

/-- Port descriptors of every logical cluster at their default before the image's are written. -/
def State.clearPorts (s : State) : State :=
  (List.range 256).foldl (fun s i => (List.range 4).foldl (fun s p => s.setObj (O.PORT_DESC i p) 0) s) s

/-- A module identifier that the module map gives; what an index without one yields is left open. -/
def State.seamModule (s : State) (n i : Nat) : Nat :=
  let v := s.modmap n i
  if v < 1024 then v else Config.freeNat (s.fresh + i) % 1024

/-- The module-wide tables: domains with their accumulators at P and stepped once for DC 0 (R39, R40), homes, assertions, Seam slots. -/
def State.writeTables (s : State) (b : List Byte) : State :=
  let l := imgSections b
  let ds := imgDomains b l
  let homes := sectionBody b l 8 255 255
  let s := { s with
    fresh := s.fresh + 1024
    sluice := { Sluice.blank with
      domains := ds.zipIdx.foldl (fun t (e : Nat × Nat) => tput (fun _ => 0) t e.2 e.1) []
      accs := ds.zipIdx.foldl (fun t (e : Nat × Nat) => if domKind e.1 = 1 then tput (fun _ => 0) t e.2 (field e.1 32 16) else t) []
      homes := (List.range (homes.length / 2)).foldl (fun t i => tput (fun _ => 0) t i (bytesNat homes (2 * i) 2)) []
      asserts := mwrite [] 0 (sectionBody b l 9 255 255)
      seamSlots := (imgSeam b l).map fun r => setField r 86 10 (s.seamModule (imgN b) (ssDmod r)) } }
  let s := s.ratioEnables
  { s with sluice := { s.sluice with enables := s.sluice.nextEnables, nextEnables := 0 } }

/-- Every object of the indices `lo` to `hi` that `f` selects at its default. -/
def State.defaults (s : State) (lo hi : Nat) (f : Nat → Bool) : State :=
  { s with dict := s.dict.filter fun e => ! (lo ≤ e.1 / 256 && e.1 / 256 ≤ hi && f e.1) }

/-- An RO object. -/
def isRo (k : Nat) : Bool := match rowOf k with | some r => r.acc == .ro | none => false

/-- The tie slots (R265, Table 11-1): RO objects at their defaults, then filled from the descriptors. -/
def State.writeTies (s : State) (ds : List Nat) : State :=
  let s := { s.defaults 0x3010 0x3027 isRo with
    ties := tmap (fun _ => TieUnit.blank) (fun _ u => { TieUnit.blank with apps := u.apps }) s.ties
    slipDone := false, anchored := false }
  (ds.zipIdx.foldl (fun s e =>
    let d := e.1
    if domKind d = 2 then
      let i := tTie d
      let io := tInFirst d * 2 ^ 37 + tInCount d * 2 ^ 25 + tOutFirst d * 2 ^ 12 + tOutCount d
      s.setObjs [(O.DOMAIN i, e.2), (O.PERIOD i, tPeriod d), (O.PHASE i, tPhase d), (O.OUT_LATENCY i, 64 * tOutLatency d), (O.IO i, io)]
    else s) s).fabObjs

/-- Trigger and trace (R324, R335): every trigger object at its default, channel words kept, tracing OFF. -/
def State.loadEngines (s : State) : State :=
  let s := (s.defaults 0x3200 0x3291 fun k => k ≠ O.TRIG_LEVEL).rearm
  let s := { s with shadow := s.shadow.filter fun e => ! (0x3200 ≤ e.1 / 256 && e.1 / 256 ≤ 0x3281)
                    trig := { s.trig with seen := [], pulses := 0, mtRec := none, mtWait := [], mtHeld := 0 } }
  s.setObj O.TRACE_STATE 0

/-- The transactors (R279, R280, R285): XPORTs at their start, no credits, every core in reset. -/
def State.loadHub (s : State) : State :=
  let s := { s with hub := { s.hub with
    xports := tmap (fun _ => Xport.blank) (fun _ p => { Xport.blank with xctl := p.xctl }) s.hub.xports
    outDc := 0, pace := [] } }
  ((List.range 32).foldl (fun s c => s.resetCore c 0) s).setObj O.CORE_RUN 0

/-- The logs, the snapshots and run control (R166, R342, R493, R507). -/
def State.loadRun (s : State) : State :=
  let s := (({ s with hbm := { s.hbm with ovbHead := 0 } } : State).emptyOvb.replayEmpty).voidSnapshots
  let s := s.setObjs [(O.DC_NUMBER, 0), (O.HOLD_TOTAL, 0), (O.STOPS, 0), (O.STEP_REMAIN, 0), (O.REPLAY_STATE, 0), (O.STATE_VALID, 1),
    (O.HORIZON, 0)]
  let s := s.onLinks allLinks fun _ x =>
    { x with slotQ := [], early := [], originSent := [], doneDue := [], doneSent := none, relayed := [] }
  { s with
    net := { s.net with links := tmap (fun _ => OutLink.blank) (fun _ o => { o with slots := [], last := 0 }) s.net.links }
    run := { s.run with window := [], causes := [], due := [], dueCauses := [], snaps := [], dueSnaps := [], runOnHold := none
                        retreated := false, forwarded := false, abandon := none } }

/-- The objects that describe the loaded image. -/
def State.loadIdentity (s : State) (b : List Byte) : State :=
  let d := imgDepth b
  s.setObjs [(O.DEPTH, d), (O.OVERRUN_LIMIT, 64 * (d + 40)), (O.SYSTEM_ID_LO, bytesNat b 0x18 8), (O.SYSTEM_ID_HI, bytesNat b 0x20 8),
    (O.MODULE_INDEX, imgIndex b), (O.MODULE_COUNT, imgN b), (O.LOADED_FLAGS, imgFlags b)]

/-- The FABRIC section written (R369). -/
def State.loadFabric (s : State) (b : List Byte) : State :=
  match imageFabric b with
  | none => s
  | some f => State.fabConfigure { s with fabric := { s.fabric with fin := [], pend := [] } } f

/-- LOAD_WRITE_DONE (R166, R167): the completion point of a load. -/
def execLoadWriteDone (s : State) : Out :=
  if s.obj O.LOAD_STATE ≠ 3 || s.clockWait then .next s
  else
    let b := s.imageBytes
    let s := (s.retain b).clearPorts.writeClusters b s.run.loadBinding
    let s := (s.writeTables b).writeTies (imgDomains b (imgSections b))
    let s := (s.loadEngines.loadHub.loadRun.loadIdentity b).loadFabric b
    .next (((s.setObj O.LOAD_STATE 4).msix 3).loadMode mReady)

/-! ### Remaps and die rewrites (R172, R499, R500) -/

/-- The retained copy is missing (Table 23-4). -/
def State.noCopy (s : State) : Bool := s.hbm.bad.any fun a => imageBase ≤ a && a < replayBase

/-- A physical cluster written from the retained copy for a logical one; a first write packet wakes its port (R172, R125). -/
def State.rewriteCluster (s : State) (die lc pc : Nat) : State :=
  let cid := cidOf die pc
  let m := physicalStores s.ownId s.bound (tget (fun _ => []) s.retained.stores (64 * die + lc))
  let woke := s.port cid = 1 || s.port cid = 2
  let c := (s.cl cid).written3 m true
  let s := (s.setCl cid (if woke then c.count 4 1 else c)).portWakes cid
  if woke then s.bump O.CW_WAKES 1 else s

/-- Step 3 of R172: entries of other bound clusters that an OST_DEST record names and that lead to a logical cluster. -/
def State.redirect (s : State) (die lc : Nat) : State :=
  (s.retained.relocs.filter fun r => relKind r == 3).foldl (fun s r =>
    let slot := relIndex r
    let from_ := 64 * relDie r + relLc r
    let o := mnat (tget (fun _ => []) s.retained.stores from_) (nOutslot slot) 8
    let pc := bindingOf s.bound (from_ / 64) (from_ % 64)
    if oDmod o = s.ownId && oDdie o = die && oDpc o = lc && pc ≠ 0xFF then
      let cid := cidOf (from_ / 64) pc
      let c := s.cl cid
      s.setCl cid { c with node := mputNat c.node (nOutslot slot) 8 (writeOutslot s.ownId s.bound o) }
    else s) s

/-- One logical cluster remapped (R172); the failed cluster absorbs. -/
def State.remapOne (s : State) (die lc : Nat) : State :=
  let old := bindingOf s.bound die lc
  let taken := (s.bound.filter fun x => x.1 == die).map fun x => x.2.2
  match s.spareOf die taken with
  | none => s.recoveryFails 2
  | some pc =>
    let s := if s.port (cidOf die old) = 3 then s else s.isolate (cidOf die old)
    let s := (s.setObj (O.BINDING die lc) pc).rewriteCluster die lc pc
    ((s.redirect die lc).bump O.REMAPS 1).setObj O.STATE_VALID 0

/-- Every bound cluster of a die rewritten onto itself (R500). -/
def State.rewriteDie (s : State) (die : Nat) : State :=
  let l := s.bound.filter fun x => x.1 == die && s.port (cidOf die x.2.2) != 3
  (l.foldl (fun s x => s.rewriteCluster die x.2.1 x.2.2) s).setObj O.STATE_VALID 0

/-- What follows a completed remap or rewrite: a HOLD order ends a recovery (R505), else the next, or the rollback. -/
def State.afterRemap (s : State) : State :=
  if s.obj O.RECOVERY_STATE = 6 then s
  else if s.faults.interrupt && s.faults.auto then s.recoveryFails 6
  else State.startRemaps { s with faults := { s.faults with interrupt := false } }

/-- REMAP_DONE (R172, R500): the remap or rewrite first in line completes. -/
def execRemapDone (s : State) : Out :=
  if s.obj O.RECOVERY_STATE ≠ 2 || s.clockWait || s.run.abandon.isSome then .next s
  else match s.faults.failed with
  | x :: rest =>
    if s.noCopy then .next (s.recoveryFails 7)
    else .next (State.afterRemap (State.remapOne { s with faults := { s.faults with failed := rest } } (x / 64) (x % 64)))
  | [] => match s.faults.rewrites with
    | d :: rest =>
      if s.noCopy then .next (s.recoveryFails 7)
      else .next (State.afterRemap (State.rewriteDie { s with faults := { s.faults with rewrites := rest } } d))
    | [] => .next s.afterRemap

/-- A write of REMAP_LC (R499). -/
def writeRemapLc (v : Nat) (s : State) : State × Nat :=
  if ! s.held then (s, eMode)
  else
    let die := field v 8 2
    let lc := field v 0 6
    let pc := bindingOf s.bound die lc
    if v ≥ 1024 || field v 6 2 ≠ 0 || pc = 0xFF || (s.cl (cidOf die pc)).mark = 0 then (s, eRange)
    else
      let s := { s with faults := { s.faults with
        failed := if s.faults.failed.contains (64 * die + lc) then s.faults.failed else s.faults.failed ++ [64 * die + lc] } }
      (if s.recovering then s else s.setObj O.RECOVERY_STATE 2, eNone)

/-- REMAP_LC (R499). -/
def execRemapLc (m : Master) (v : BitVec 16) (s : State) : Out := s.write m O.REMAP_LC v.toNat (writeRemapLc v.toNat)

end Sys2Proof.Machine
end

