-- ==== Sys2Proof/Machine/Run.lean ====
section
/-!
DEFINITION. The Sluice's commands and run control (04, 08, 23): local completion, the opening, cycle overruns, abandons, run orders and
the start point.
-/

namespace Sys2Proof.Machine

/-! ### The Sluice (R85–R93) -/

/-- LOCAL_COMPLETION (R88): the latest END period of the Sluice set is reached; the DC-done token goes to every partner's egress. A DC
that completes before an abandon of the next one sends its token too (R491). -/
def execLocalCompletion (s : State) : Out :=
  if ! s.stepping || s.run.abandon.any (fun a => ! a.opening) || s.sluice.localDone.isSome || s.obj O.DEPTH = 0 || ! s.allAtEnd then .next s
  else .next s.localCompletes

/-- Every configured partner's token for the current DC became visible in a period before `t` (R88, R89). -/
def State.tokensVisible (s : State) (t : Nat) : Bool :=
  s.partners.all fun l => s.sluice.tokens.any fun k => k.link == l && k.dc == s.dcNum && decide (k.visible < t)

/-- Every cluster of the Sluice set stands in the same period, at END. -/
def State.sluiceReady (s : State) : Bool :=
  s.allAtEnd && (s.sluiceSet.all fun c => (s.cl c).period == s.period && (s.cl c).endPeriod.any fun e => decide (e ≤ s.period))

/-- SLUICE_OPEN (R89): the next DC opens; then the boundary (R174). -/
def execSluiceOpen (s : State) : Out :=
  if ! s.stepping || s.run.abandon.isSome || s.obj O.DEPTH = 0 || ! s.sluice.exchanged || ! s.sluice.latched || ! s.sluiceReady
      || ! s.tokensVisible s.period then .next s
  else .next s.localCompletes.openNext.boundary

/-- The cluster that a LOCAL cycle overrun names (R93): HELD ones first, then by die and logical cluster. -/
def State.overrunCluster (s : State) (limit : Nat) : Option Nat :=
  let short := (s.bound.map fun b => cidOf b.1 b.2.2).filter fun c =>
    s.port c != 3 && (s.cl c).seq != .atEnd && decide ((s.cl c).overrun ≥ limit)
  match short.find? fun c => (s.cl c).seq == .held with
  | some c => some c
  | none => short.head?

/-- CYCLE_OVERRUN_LOCAL (R91, R93): a cluster's count has reached the limit before END. -/
def execCycleOverrunLocal (s : State) : Out :=
  if ! s.stepping || s.run.abandon.isSome then .next s
  else match s.overrunCluster (s.obj O.OVERRUN_LIMIT) with
    | none => .next s
    | some c =>
      let k := s.cl c
      let wh := if k.seq = .held then k.holdWhere
        else c / 68 * 2 ^ 38 + (s.lcOf c).getD 0 * 2 ^ 32 + min k.step 1023 * 2 ^ 11
      .next (s.raiseFault 1 (FaultLoc.cluster s c) 1 wh 0)

/-- The links whose token for the current DC is missing. -/
def State.missingTokens (s : State) : Nat :=
  s.partners.foldl (fun n l => if s.sluice.tokens.any fun k => k.link == l && k.dc == s.dcNum then n else n + 2 ^ l) 0

/-- CYCLE_OVERRUN_PARTNER (R92): the count from local completion has reached the limit before the Sluice opens. -/
def execCycleOverrunPartner (s : State) : Out :=
  if ! s.stepping || s.run.abandon.isSome || s.sluice.localDone.isNone || s.sluice.waitCount < s.obj O.OVERRUN_LIMIT then .next s
  else .next (s.raiseFault 1 FaultLoc.hub 2 s.missingTokens 0)

/-! ### Abandons (R491, R492, R507) -/

/-- ABANDON_OPENING (R491): the module itself opens the DC it abandons, once every powered cluster has reached END. -/
def execAbandonOpening (s : State) : Out :=
  match s.run.abandon with
  | none => .next s
  | some a => if a.opening && s.allAtEnd && ! s.clockWait then .next (s.localCompletes.abandonOpens a) else .next s

/-! ### Orders (R181–R186) -/

/-- An accepted order. A HOLD order asked for while the module advances is a stop with cause HOST (R322). -/
def State.acceptOrder (s : State) (m : Master) (k : OrderKind) : State :=
  let o : Order := ⟨k, m, s.obj O.STEP_COUNT, s.run.serial⟩
  let s := if k = .hold && s.recovering then { s with faults := { s.faults with interrupt := true } } else s
  if s.mode == mSnapshot then { s with run := { s.run with snapOrders := s.run.snapOrders ++ [o] } }
  else match k with
    | .snapshot =>
      if s.advancing then { s with run := { s.run with snaps := s.run.snaps ++ [0] } }
      else if s.run.pause.isSome then { s with run := { s.run with queued := s.run.queued ++ [.snapshot 0 0 0] } }
      else s.snapshotNow 0
    | .standby => s.orderMove o
    | .diag => s.orderMove o
    | .hold =>
      if s.advancing then State.forwardStop { s with run := { s.run with window := s.run.window ++ [o] } } 1
      else if s.run.window = [] then s
      else { s with run := { s.run with window := s.run.window ++ [o] } }
    | _ => { s with run := { s.run with window := s.run.window ++ [o] } }

/-- A run order of a master (R184, Table 08-5). -/
def State.runOrder (s : State) (m : Master) (k : OrderKind) : State :=
  let r := s.orderAnswer m k
  let s := s.answered m r
  if r = 1 then s.acceptOrder m k else s

/-- The order of a RUN_CMD value. -/
def runKind (v : Nat) : Option OrderKind :=
  match v with
  | 1 => some .run | 2 => some .step | 3 => some .tied | 4 => some .hold | 5 => some .snapshot | 6 => some .standby
  | 7 => some .diag | _ => none

/-- RUN_CMD (0x2100.03): an undefined value is answered and refused RANGE (Table 08-5). -/
def writeRunCmd (m : Master) (v : Nat) (s : State) : State × Nat :=
  match runKind v with
  | some k => (s.runOrder m k, eNone)
  | none => (s.answered m 3, eRange)

/-- RUN_CMD_RUN. -/
def execRunCmdRun (m : Master) (s : State) : Out := s.write m O.RUN_CMD 1 (writeRunCmd m 1)
/-- RUN_CMD_STEP (R185). -/
def execRunCmdStep (m : Master) (s : State) : Out := s.write m O.RUN_CMD 2 (writeRunCmd m 2)
/-- RUN_CMD_TIED (R254). -/
def execRunCmdTied (m : Master) (s : State) : Out := s.write m O.RUN_CMD 3 (writeRunCmd m 3)
/-- RUN_CMD_HOLD. -/
def execRunCmdHold (m : Master) (s : State) : Out := s.write m O.RUN_CMD 4 (writeRunCmd m 4)
/-- RUN_CMD_SNAPSHOT (R186). -/
def execRunCmdSnapshot (m : Master) (s : State) : Out := s.write m O.RUN_CMD 5 (writeRunCmd m 5)
/-- RUN_CMD_STANDBY (R178). -/
def execRunCmdStandby (m : Master) (s : State) : Out := s.write m O.RUN_CMD 6 (writeRunCmd m 6)
/-- RUN_CMD_DIAG (R178, R411). -/
def execRunCmdDiag (m : Master) (s : State) : Out := s.write m O.RUN_CMD 7 (writeRunCmd m 7)

/-- START_POINT (R181): the 16th dictionary cycle after the acceptance of a start order. Orders that meet a pause of a held module wait
for its end. -/
def execStartPoint (s : State) : Out :=
  if s.engineStopped || s.clockWait || s.run.window = [] || s.advancing then .next s
  else
    let l := s.run.window
    let s := { s with run := { s.run with window := [] } }
    if s.run.pause.isSome then .next { s with run := { s.run with due := s.run.due ++ l } }
    else if s.held then .next (State.resolveDue { s with run := { s.run with due := s.run.due ++ l } })
    else .next (s.supersede l none)

end Sys2Proof.Machine
end

