-- ==== Sys2Proof/Machine/Reset.lean ====
section
/-!
DEFINITION. Resets and boot (20), the resets of the brown-out monitor (R429), thermal shutdown (R432, R501) and the part of RETURN
that a reset carries out (R486).
-/

namespace Sys2Proof.Machine

/-! ### What a reset keeps (Table 20-1, Table 20-2) -/

/-- The objects that a warm reset leaves as they are. -/
def warmKeeps (k : Nat) : Bool :=
  let i := k / 256
  i == 0x2A00 || i == 0x3000 || i == 0x3001 || (0x3C00 ≤ i && i ≤ 0x3DFF) || (0x4000 ≤ i && i ≤ 0x41FF) || i == 0x2822
    || k == O.POWER_HOURS || k == O.AGE_LAST_HOURS || (0x3E00 ≤ i && i ≤ 0x3FFF)

/-- The fuse and key-store objects that a power-on reset reloads (R488). -/
def fuseKeeps (k : Nat) : Bool :=
  k == O.LC_STATE || k == O.RETURNS_LEFT || k == O.OWNER_SET || k == O.IMG_KEYS || k == O.SIG_KEYS || k == O.FW_SVN_MIN

/-- The kind of the boot in progress (R439): 0 power-on, 1 warm, 2 management; 3 where none is. -/
def State.booting (s : State) : Nat := if s.obj O.BOOT_STATE < 6 then s.obj O.RESET_KIND else 3

/-- RESET_SOURCE (Table 20-4): every source of the last reset; those that coincide with a boot in progress add to its own. -/
def State.resetSources (s : State) (src : Nat) : Nat :=
  if s.booting = 3 then 2 ^ src else setBit (s.obj O.RESET_SOURCE) src true

/-- The persistent store at a reset that does not wait (R442): a change not yet written may or may not be. -/
def State.persistMaybe (s : State) : State :=
  let t := if Config.freeBit s.fresh then s.persistWrite else s
  t.draw

/-- A node ID at which the CAN FD controller sends (R390). -/
def State.nodeId (s : State) : Nat := s.host.mgmtStrap

/-- NMT_STATE after initialisation, and the EMCY identifier's default (R390, Table 17-12). -/
def State.nodeObjs (s : State) : State :=
  s.setObjs [(O.NODE_ID, s.nodeId), (O.NMT_STATE, if s.nodeId = 0 then 0xFF else 0x7F), (O.COB_ID_EMCY, 0x80 + s.nodeId)]

/-- What a hub reset keeps, everything else as after reset (R440, R441). -/
def State.hubBase (s : State) (hbmKept : Bool) : State :=
  let dict := s.dict.filter fun (e : Nat × Nat) => warmKeeps e.1
  { State.reset with
    pending := s.pending, dict := dict
    hbm := { Hbm.blank with
      mem := s.hbm.mem, bad := s.hbm.bad, open_ := s.hbm.open_, zeroing := s.hbm.zeroing, selfRefresh := hbmKept }
    tb := { s.tb with xseq := 0, seqId := 0, lastSync := [], lastX := [], boot := (s.tb.boot + 1) % 65536 }
    faults := { Faults.blank with ring := s.faults.ring, latch := s.faults.latch }
    hub := { Hub.blank with sramOpen := [(0x1000000, 0x9000000, s.fresh), (2 ^ 40, 2 ^ 40 + 2 ^ 26, s.fresh + 1)] }
    flash := s.flash
    clk := { Clocks.blank with sysStopped := s.clk.sysStopped, hbmGated := s.clk.hbmGated }
    persist := s.persist, keys := s.keys
    tap := { s.tap with busy := s.tap.busy.map fun (a : DebugAccess) => { a with sent := false } }
    host := { HostIf.blank with
      perstHigh := s.host.perstHigh, mgmtStrap := s.host.mgmtStrap, resetHigh := s.host.resetHigh, bootAt := s.nowNs }
    sent := s.sent, fresh := s.fresh + 2 }

/-- Everything outside the AUX domain as a hub reset leaves it; `hbmKept`: the stacks went into self-refresh first (R441). -/
def State.hubReset (s : State) (hbmKept : Bool) : State :=
  let old := s
  let held := s.clk.sysStopped || s.obj O.REF_STATE % 2 = 0 || s.obj O.PLL_STATE % 2 = 0
  let s := s.hubBase hbmKept
  let s := if hbmKept then s else State.hbmOpen { s with hbm := { s.hbm with bad := [], zeroing := true } } 0 (96 * 2 ^ 30)
  let s := s.setObjs [(O.STEP_DIV, 4), (O.HALTED_CORES, 0), (O.CLOCK_WAIT, if held then old.obj O.CLOCK_WAIT else 0),
    (O.BOOT_STATE, if held then 1 else 2)]
  let s := s.setObjBit O.HALVE_CAUSES 0 false
  if old.recovering then s.setObj O.RECOVERY_STATE 0 else s

/-- What a power-on reset keeps, everything else as after reset. -/
def State.powerBase (s : State) : State :=
  let f := s.fresh
  let dict := s.dict.filter fun (e : Nat × Nat) => fuseKeeps e.1
  { State.reset with
    pending := s.pending, dict := dict
    hbm := { Hbm.blank with open_ := [(0, 96 * 2 ^ 30, f)] }
    hub := { Hub.blank with sramOpen := [(0x1000000, 0x9000000, f + 1), (2 ^ 40, 2 ^ 40 + 2 ^ 26, f + 2)] }
    tb := { TimeBase.blank with boot := Config.entropy (f + 3) % 65536 }
    flash := s.flash, persist := s.persist
    keys := { s.keys with target := none, nonce := f + 4 }
    host := { HostIf.blank with perstHigh := s.host.perstHigh, resetHigh := s.host.resetHigh }
    sent := s.sent, fresh := f + 5 }

/-- A power-on reset (Table 20-1): everything but flash, life-cycle and key storage and the levels of the pins. -/
def State.powerReset (s : State) : State :=
  s.powerBase.setObjs [(O.POWER_HOURS, s.persist.hours), (O.AGE_LAST_HOURS, s.persist.lastHours)]

/-- A warm reset (R440, R441), unless a power-on boot is in progress, which it restarts (R439). -/
def State.warmReset (s : State) (src : Nat) (hbmKept : Bool) : State :=
  let sources := s.resetSources src
  if s.booting = 0 then s.powerReset.setObj O.RESET_SOURCE sources
  else
    let s := s.hubReset hbmKept
    (s.setObjs [(O.RESET_KIND, 1), (O.RESET_SOURCE, sources)]).bump O.WARM_RESETS 1

/-- The objects 0x1000–0x1FFF at their defaults (Table 20-2, R392). -/
def State.commReset (s : State) : State :=
  let dict := s.dict.filter fun (e : Nat × Nat) => ! (0x100000 ≤ e.1 && e.1 < 0x200000)
  State.nodeObjs { s with dict := dict, emcyQ := [], emcyDropped := none, host := { s.host with sdo := none, busOff := false } }

/-- A management reset (R439, R442): the management core boots again from ROM; a deeper boot in progress restarts instead. -/
def State.managementReset (s : State) (src : Nat) : State :=
  let sources := s.resetSources src
  if s.booting = 0 then s.powerReset.setObj O.RESET_SOURCE sources
  else if s.booting = 1 then (s.hubReset true).setObj O.RESET_SOURCE sources
  else
    let s := s.commReset.setObjs [(O.AGE_STATE, 0), (O.RESET_KIND, 2), (O.RESET_SOURCE, sources), (O.BOOT_STATE, 3)]
    { s with host := { s.host with bootAt := s.nowNs } }

/-! ### The commands that reset -/

/-- POWER_ON_RESET (R439): VDD_AUX is below its reset level. -/
def execPowerOnReset (s : State) : Out := .next s.persistMaybe.powerReset

/-- MODULE_RESET_N (R439): the pin is low, and has been for `ns` (`low`), or rises after `ns` of low. A pulse from 100 ns to 1 µs is taken or
not. The level matters to HUB_START (R448). -/
def execModuleResetN (low : Bool) (ns : BitVec 32) (s : State) : Out :=
  let taken := s.host.resetHigh && (ns.toNat ≥ 1000 || (100 ≤ ns.toNat && ! low && Config.freeBit s.fresh))
  let s := s.draw
  let s := if taken then s.persistMaybe.warmReset 1 true else s
  .next (if low && ! taken then s else { s with host := { s.host with resetHigh := ! low } })

/-- RESET_CMD ← 0x5A02 (R442): once pending persistent data is written. -/
def execResetCmdWarm (m : Master) (s : State) : Out :=
  s.write m O.RESET_CMD 0x5A02 fun s => (s.persistWrite.warmReset 2 true, eNone)

/-- RESET_CMD ← 0x5A01 (R442). -/
def execResetCmdManagement (m : Master) (s : State) : Out :=
  s.write m O.RESET_CMD 0x5A01 fun s => (s.persistWrite.managementReset 2, eNone)

/-- MANAGEMENT_WATCHDOG (R439): 1 s without a firmware kick. -/
def execManagementWatchdog (s : State) : Out :=
  if s.engineStopped || s.obj O.BOOT_STATE < 4 then .next s else .next (s.managementReset 6)

/-! ### Die resets (R443, R500, R434) -/

/-- A DIE or SHUTDOWN fault ends a recovery with INTERRUPTED (R504). -/
def State.interruptRecovery (s : State) : State := if s.recovering then s.recoveryFails 6 else s

/-- An abandon whose opening is due performs it at once, and the unsent slot flits and token of the DC it closes are lost (R491). -/
def State.openAtOnce (s : State) : State :=
  match s.run.abandon with
  | some a => if a.opening then (s.loseUnsent s.dcNum).abandonOpens a else s
  | none => s

/-- The domains of a die gated: no cluster of it holds anything, its counters are cleared, its ports sleep unless marked. -/
def State.gateDie (s : State) (d : Nat) : State :=
  let s := (List.range 68).foldl (fun s p =>
    let cid := cidOf d p
    let c := s.cl cid
    let s := s.setCl cid { Cluster.blank with mark := c.mark }
    s.setPort cid (if c.mark = 0 then 1 else 3)) s
  { s with net := { s.net with
      links := tmap (fun _ => OutLink.blank) (fun _ o => o.cut (· / 32768 == d)) (s.net.links.filter fun (e : Nat × OutLink) => e.1 / 32768 != d)
      arrived := s.net.arrived.filter fun (p : Packet) => ! (p.dstMod == s.ownId && p.dstDie == d)
      held := s.net.held.filter fun (e : Nat × List Packet) => e.1 / 68 != d } }

/-- A die reset (R443, R491, R500): the fault, the gating, and the rewrite of the die's bound clusters that is to follow. -/
def State.dieReset (s : State) (d : Nat) : State :=
  let s := s.interruptRecovery
  let s := (s.raiseFault 0x11 ⟨d, 255, 255, 0xFFFF⟩ d 0 0).openAtOnce
  let s := s.gateDie d
  let s := if s.bound.isEmpty then s else s.setObj O.STATE_VALID 0
  if s.bound.any (fun b => b.1 == d) then
    let s := { s with faults := { s.faults with rewrites := if s.faults.rewrites.contains d then s.faults.rewrites else s.faults.rewrites ++ [d] } }
    if s.run.abandon.isSome then s else s.setObj O.RECOVERY_STATE 2
  else s

/-- DIE_RESET (R443). -/
def execDieReset (die : Die) (s : State) : Out :=
  if s.host.up then .next (s.dieReset die) else .next s

/-- BROWN_OUT_RESET_LEVEL (R429): a rail has stayed at `mv`, below 90 % of its setpoint, for the reset filter. -/
def execBrownOutResetLevel (rail : RailIx) (mv : BitVec 16) (s : State) : Out :=
  let s := s.setObj (O.RAIL_MV rail) mv.toNat
  if 100 * mv.toNat ≥ 90 * s.setpointOf rail || s.obj (O.BO_STATE rail) = 2 then .next s
  else
    let s := (s.setObj (O.BO_STATE rail) 2).bump (O.BO_RESETS rail) 1
    if rail < 4 then .next (if s.host.up then s.dieReset rail else s)
    else if rail = 4 then .next (s.persistMaybe.warmReset 3 false)
    else if rail = 5 then .next (s.persistMaybe.warmReset 4 false)
    else .next s.persistMaybe.powerReset

/-! ### Thermal shutdown (R432, R501) -/

/-- What follows the hold of a thermal shutdown: the gating, and STANDBY as an order would leave it (R501). -/
def State.shutdownGates (s : State) : State :=
  State.beginMove { s with clk := { s.clk with shutdown := false }, run := { s.run with pause := none, queued := [] } } mStandby

/-- A thermal shutdown in the present mode. -/
def State.shutdownNow (s : State) : State :=
  if s.run.abandon.isSome then { s with clk := { s.clk with shutdown := true } }.openAtOnce
  else if s.mode = mStandby || s.mode = mOff then s
  else if s.mode = mDiag then s.stopDiag
  else if s.loading then (s.setObj O.LOAD_STATE 6).shutdownGates
  else s.shutdownGates

/-- THERMAL_SHUTDOWN (R432): a junction sensor reads 105 °C or more; die 4 is the hub. -/
def execThermalShutdown (die : Fin 5) (sensor : Fin 16) (temp : BitVec 16) (s : State) : Out :=
  if toSigned 16 temp.toNat < 105 || s.clk.shutdown then .next s
  else
    let s := s.interruptRecovery
    .next (s.raiseFault 0x0F ⟨die, 255, 255, 0xFFFF⟩ (die + 16 * sensor) temp.toNat 0).shutdownNow

/-- ABANDON_HOLD (R492, R501): the abandoned DC's opening is repeated and the module holds; a thermal shutdown then gates. -/
def execAbandonHold (s : State) : Out :=
  match s.run.abandon with
  | none => .next s
  | some a =>
    if ! a.opening && s.quarryIdle && ! s.clockWait && s.run.pause.isNone then
      let s := s.abandonEnds a
      .next (if s.clk.shutdown then s.shutdownGates else s)
    else .next s

/-! ### RETURN (R486) -/

/-- Steps 2 and 3: keys, their objects and the user flash erased. -/
def State.returnErase (s : State) : State :=
  let s := { s with
    keys := { s.keys with image := [], signing := [], owner := [] }
    flash := s.flash.filter fun (e : Nat × Byte) => e.1 < 0x400000 || 0x800000 ≤ e.1 }
  s.setObjs [(O.IMG_KEYS, 0), (O.SIG_KEYS, 0), (O.OWNER_SET, 0), (O.REQUIRE_SIGNED, 0), (O.REQUIRE_ENCRYPTED, 0)]

/-- Step 4: a warm reset after which boot zeroes HBM, and which clears the transactor SRAM and the context store. -/
def State.returnReset (s : State) : State :=
  let s := s.persistWrite.hubReset false
  let s := { s with hub := { s.hub with sramOpen := [] } }
  (s.setObjs [(O.RESET_KIND, 1), (O.RESET_SOURCE, 4)]).bump O.WARM_RESETS 1

/-- Step 5: the boot ROM fuses RETURN. -/
def State.returnFuse (s : State) : State :=
  State.setObjs { s with keys := { s.keys with returnPending := false, target := none } }
    [(O.LC_STATE, 4), (O.RETURNS_LEFT, s.obj O.RETURNS_LEFT - 1), (O.LC_RESULT, 1)]

/-! ### Boot (R448, Table 20-3) -/

/-- AUX_START_DONE: the AUX power-on reset is released. -/
def execAuxStartDone (s : State) : Out :=
  if s.obj O.BOOT_STATE = 0 && s.booting = 0 then .next (s.setObj O.BOOT_STATE 1) else .next s

/-- CLOCKS_DONE: the root PLL is stable. After a power-on reset the time base starts at 0 (R235). -/
def execClocksDone (s : State) : Out :=
  if s.obj O.BOOT_STATE = 1 && ! s.clockWait && s.obj O.REF_STATE % 2 = 1 && s.obj O.PLL_STATE % 2 = 1 then
    .next (State.setObj { s with tb := { s.tb with running := true } } O.BOOT_STATE 2)
  else .next s

/-- A firmware copy verifies (R484): its signature, and a security version of at least FW_SVN_MIN. -/
def State.copyGood (s : State) (svn : Option (BitVec 16)) : Bool :=
  match svn with | some v => decide (s.obj O.FW_SVN_MIN ≤ v.toNat) | none => false

/-- The ROM starts a firmware copy or boot fails (R450). -/
def State.romStarts (s : State) (a b : Bool) : State :=
  if a then s.setObjs [(O.BOOT_ERROR, 0), (O.BOOT_STATE, 4)]
  else if b then s.setObjs [(O.BOOT_ERROR, 1), (O.BOOT_STATE, 4)]
  else s.setObjs [(O.BOOT_ERROR, 2), (O.BOOT_STATE, 7)]

/-- ROM_DONE (R448, R450, R484, R486, R487): `a` and `b` are the security versions of the two firmware copies, none where a signature does
not verify. In SCRAPPED nothing starts; an interrupted RETURN is completed first. -/
def execRomDone (a b : Option (BitVec 16)) (s : State) : Out :=
  if s.obj O.BOOT_STATE ≠ 3 || s.engineStopped then .next s
  else if s.obj O.LC_STATE = 5 then .next (s.setObj O.BOOT_STATE 7)
  else if s.keys.returnPending && ! s.hbm.zeroing then .next s.returnErase.returnReset
  else
    let s := if s.keys.returnPending then
        let s := s.returnErase.returnFuse
        { s with hub := { s.hub with sramOpen := [] } }
      else s
    .next (s.romStarts (s.copyGood a) (s.copyGood b))

/-- The marks, the voltages and P3 as the persistent store has them (R406, R436), and the P2 voltages written to the regulators. -/
def State.restorePersist (s : State) : State :=
  let s := s.persist.marks.foldl (fun s e => (s.setCl e.1 { s.cl e.1 with mark := e.2 }).setPort e.1 3) s
  let s := s.persist.raises.foldl (fun s e => s.setRaise e.1 e.2) s
  (s.setObj O.P3_AVAILABLE s.persist.p3).writeRails 2

/-- FIRMWARE_DONE (R448): the persistent store restored, unless the management core alone has been reset, which keeps every object outside
0x1000–0x1FFF (Table 20-1). `svn` is what the running copy's header asks FW_SVN_MIN to be raised to (R484). -/
def execFirmwareDone (version : BitVec 32) (svn : Option (BitVec 16)) (s : State) : Out :=
  if s.obj O.BOOT_STATE ≠ 4 || s.engineStopped then .next s
  else
    let s := (s.setObj O.FW_VERSION version.toNat).raise O.FW_SVN_MIN (match svn with | some v => v.toNat | none => 0)
    let s := if s.host.up then s else s.restorePersist
    .next (s.setObj O.BOOT_STATE 5)

/-- A heartbeat or boot-up frame (R391, R392); node 0 sends nothing (R390). -/
def State.canSend (s : State) (cob : Nat) (data : List Byte) : State :=
  if s.nodeId = 0 || s.host.busOff then s else s.emit (.can cob data)

/-- The CAN FD boot-up message. -/
def State.bootUp (s : State) : State := s.canSend (0x700 + s.nodeId) [0]

/-- HBM_DONE (R441, R448): training and, where the contents are not kept, zeroing are complete; the module enters STANDBY. Failed training
leaves it in FAILED (R452). -/
def execHbmDone (trained : Bool) (s : State) : Out :=
  if s.obj O.BOOT_STATE ≠ 5 || s.engineStopped then .next s
  else if ! trained then .next (s.setObjs [(O.BOOT_STATE, 7), (O.BOOT_ERROR, 3)])
  else
    let time := (s.nowNs + 2 ^ 64 - s.host.bootAt) % 2 ^ 64 / 1000 % 2 ^ 32
    let s := if s.host.up then s
      else if s.hbm.zeroing then { s with hbm := { s.hbm with mem := [], bad := [], open_ := [], zeroing := false, selfRefresh := true } }
      else { s with hbm := { s.hbm with selfRefresh := true } }
    let s := { s with host := { s.host with up := true } }
    .next (s.setObjs [(O.BOOT_TIME, time), (O.BOOT_STATE, 6)]).bootUp

end Sys2Proof.Machine
end

