-- ==== Sys2Proof/Machine/Halt.lean ====
section
/-!
DEFINITION. Core halts (21): halt requests and their deferral, resumes, EBREAK, the links between core halts and design halts, and the CSRs
of a halted core.
-/

namespace Sys2Proof.Machine

/-- HALT_CAUSE codes (Table 21-8). -/
abbrev hcRequest : Nat := 1
abbrev hcStep : Nat := 2
abbrev hcEbreak : Nat := 3
abbrev hcDesign : Nat := 4

/-! ### Design halts (R469) -/

/-- HALTREQ set for a core that is not halted; a request already pending keeps its cause. The halt is deferred in a locked sequence (R465). -/
def State.requestHalt (s : State) (c cause : Nat) : State :=
  let k := s.core c
  if k.halted || k.haltReq then s
  else s.setCore c { k with haltReq := true, haltBy := cause, deferring := s.lockedSequence c }

/-- A stop whose causes include DEBUG halts the cores of DESIGN_HALT_CORES. -/
def State.designHalts (s : State) : State :=
  (List.range 32).foldl (fun s c => if s.objBit O.DESIGN_HALT_CORES c then s.requestHalt c hcDesign else s) s

/-- A HOLD order with stop cause DEBUG (R469, Table 08-3), counted for a master: the answer of Table 08-5 and the state. -/
def State.debugHold (s : State) (master : Nat) : State × Nat :=
  match orderTable .hold s.judgedMode with
  | 0 => (s, 2)
  | 2 => (s, 1)
  | _ =>
    let s := if s.recovering then { s with faults := { s.faults with interrupt := true } } else s
    let s := if s.advancing then s.raiseStop 8 0 master
      else { s with run := { s.run with dueCauses := s.run.dueCauses ++ [⟨8, 0, master⟩] } }
    (s.designHalts, 1)

/-- DHALT (0x3C00.02): the order of a master, answered like one of RUN_CMD. -/
def writeDhalt (m : Master) (v : Nat) (s : State) : State × Nat :=
  if v ≠ 1 then (s, eRange)
  else
    let r := s.debugHold (Master.number m)
    (r.1.answered m r.2, eNone)

/-- DHALT. -/
def execDhalt (m : Master) (v : Byte) (s : State) : Out := s.write m O.DHALT v.toNat (writeDhalt m v.toNat)

/-! ### Halts (R464–R466) -/

/-- HALT_BROKE_LOCK of a halt in a locked sequence: bit 0 for the reservation, bit 1 for an owned lock. -/
def State.brokenBy (s : State) (c : Nat) : Nat :=
  (s.core c).resv.isSome.toNat + 2 * (match s.running c with | some t => ! (s.locksOf t).isEmpty | none => false).toNat

/-- A core becomes halted; HALT_LINK raises the order of R469. -/
def State.haltCore (s : State) (c cause cycles broke : Nat) : State :=
  let k := s.core c
  let k := { k with
    halted := true, haltReq := false, deferring := false, stepArm := false, haltCause := cause, deferCycles := cycles
    broke := k.broke ||| broke, resv := if broke = 0 then k.resv else none, noThread := (s.running c).isNone
    haltTcx := (s.running c).getD 0 }
  let s := (s.setCore c k).setObjBit O.HALTED_CORES c true
  if s.objBit O.HALT_LINK c then (s.debugHold 1).1 else s

/-- CORE_HALTED (R464, R466): the last issued instruction has retired, after `cycles` of deferral. A stepped core halts whether or not it is in
a locked sequence; a requested halt waits for the sequence to end. -/
def execCoreHalted (core : CoreIx) (cycles : BitVec 13) (s : State) : Out :=
  let k := s.core core
  if s.obj (O.CORE_STATE core) ≠ 1 || k.halted || s.clockWait then .next s
  else if k.stepArm then .next (s.haltCore core hcStep 0 (s.brokenBy core))
  else if k.haltReq && ! s.lockedSequence core then
    .next (s.haltCore core k.haltBy (if k.deferring then min cycles.toNat 4096 else 0) 0)
  else .next s

/-- HALT_DEFER_LIMIT (R465): 4,096 core cycles after the request the halt takes effect in the locked sequence. -/
def execHaltDeferLimit (core : CoreIx) (s : State) : Out :=
  let k := s.core core
  if s.obj (O.CORE_STATE core) = 1 && ! k.halted && k.haltReq && k.deferring && s.lockedSequence core && ! s.clockWait then
    .next ((s.bump O.BROKE_LOCK_HALTS 1).haltCore core k.haltBy 4096 (s.brokenBy core))
  else .next s

/-- A halted core resumes; with STEP it is to halt again after one instruction (R466). The watchdog follows R282. -/
def State.resumeCore (s : State) (c : Nat) : State :=
  let k := s.core c
  if k.halted then
    let k := { k with halted := false, stepArm := k.step, wdt := if s.obj (O.WDT_GRACE c) = 1 then s.obj (O.WDT_PERIOD c) else k.wdt }
    let s := (s.setCore c k).setObjBit O.HALTED_CORES c false
    if k.step then s else s.takeIrq c
  else s

/-- EBREAK (R463): debug halt with EBREAK_HALT, otherwise the breakpoint exception; whether mtval then holds the pc or 0 is left open. -/
def execEbreak (core : CoreIx) (s : State) : Out :=
  match s.executing core with
  | none => .next s
  | some _ =>
    let k := s.core core
    if k.ebreakHalt then .next (s.haltCore core hcEbreak 0 0)
    else .next ((s.trap core 3 (if Config.freeBit s.fresh then k.issuing.getD k.ctx.pc else 0)).draw)

/-- The debug port reaches modules beyond their identity (R457). -/
def State.portOpen (s : State) : Bool := ! s.identityOnly

/-- CDCTL written (Table 21-7): a halt requested together with a resume is acted on alone. -/
def State.writeCdctl (s : State) (c v : Nat) : State :=
  let k := s.core c
  let s := s.setCore c { k with step := v.testBit 2, ebreakHalt := v.testBit 3, broke := if v.testBit 4 then 0 else k.broke }
  if v.testBit 0 then s.requestHalt c hcRequest else if v.testBit 1 then s.resumeCore c else s

/-- CDCTL as read. -/
def State.cdctl (s : State) (c : Nat) : Nat := 4 * (s.core c).step.toNat + 8 * (s.core c).ebreakHalt.toNat

/-- The present CDCTL written with one more bit set, by an open port (R457). -/
def State.cdctlBit (s : State) (c bit : Nat) : Out := if s.portOpen then .next (s.writeCdctl c (s.cdctl c + bit)) else .next s

/-- HALTREQ (R464). -/
def execHaltreq (core : CoreIx) (s : State) : Out := s.cdctlBit core 1

/-- RESUMEREQ (R466). -/
def execResumereq (core : CoreIx) (s : State) : Out := s.cdctlBit core 2

/-- CLR_BROKE (R465). -/
def execClrBroke (core : CoreIx) (s : State) : Out := s.cdctlBit core 16

/-- CDSTAT (Table 21-8). -/
def State.cdstat (s : State) (c : Nat) : Nat :=
  let k := s.core c
  k.halted.toNat + 2 * k.haltReq.toNat + 16 * k.haltCause + 256 * (k.broke % 4) + 1024 * k.haltTcx + 2 ^ 24 * (k.halted && k.noThread).toNat
    + 2 ^ 32 * k.deferCycles

/-! ### CSRs of a halted core (R463, R468, Table 13-3) -/

/-- What a debug access to a CSR meets: absent, read-only, a write that is refused, or plain. -/
inductive CsrKind where
  | absent | readOnly | command | plain
deriving DecidableEq, Repr

/-- The CSRs that a core has: those of Volume II for M-mode and U-mode with 16 PMP entries (R267), and the scheduler's. -/
def csrKind (n : Nat) : CsrKind :=
  if n = 0x804 then .command
  else if n = 0xCC0 || n = 0xCC1 || (0xC00 ≤ n && n ≤ 0xC1F) || (0xF11 ≤ n && n ≤ 0xF15) then .readOnly
  else if (0x800 ≤ n && n ≤ 0x809) || n = 0x300 || n = 0x301 || (0x304 ≤ n && n ≤ 0x306) || n = 0x30A || n = 0x320
    || (0x323 ≤ n && n ≤ 0x33F) || (0x340 ≤ n && n ≤ 0x344) || n = 0x3A0 || n = 0x3A2 || (0x3B0 ≤ n && n ≤ 0x3BF)
    || n = 0xB00 || (0xB02 ≤ n && n ≤ 0xB1F) then .plain
  else .absent

/-- mstatus with only what M-mode and U-mode have: MIE, MPIE, MPRV, TW and a legal MPP. -/
def legalMstatus (old v : Nat) : Nat :=
  let mpp := if field v 11 2 = 3 ∨ field v 11 2 = 0 then field v 11 2 else field old 11 2
  [3, 7, 17, 21].foldl (fun m i => setBit m i (v.testBit i)) (setField 0 11 2 mpp)

/-- mtvec: MODE is direct or vectored. -/
def legalMtvec (old v : Nat) : Nat := if v % 4 ≤ 1 then v else v / 4 * 4 + old % 4

/-- A PMP configuration byte as a write leaves it: a locked entry keeps its own, W without R reads as neither, and NA4, which no entry
supports, leaves the entry off. -/
def legalPmpCfg (old v : Nat) : Nat :=
  if old.testBit 7 then old
  else
    let v := field v 0 5 + 128 * (v.testBit 7).toNat
    let v := if v.testBit 1 && ! v.testBit 0 then setBit v 1 false else v
    if field v 3 2 = 2 then setField v 3 2 0 else v

/-- A PMP CSR written: eight configuration bytes, or an address register that neither its own entry nor a TOR entry above it locks. -/
def Core.pmpWrite (k : Core) (n v : Nat) : Nat :=
  let old := tget (fun _ => 0) k.csrs n
  if n < 0x3B0 then (List.range 8).foldl (fun m i => m + legalPmpCfg (field old (8 * i) 8) (field v (8 * i) 8) * 2 ^ (8 * i)) 0
  else
    let i := n - 0x3B0
    if (k.pmpCfg i).testBit 7 || (i < 15 && (k.pmpCfg (i + 1)).testBit 7 && field (k.pmpCfg (i + 1)) 3 2 == 1) then old else v % 2 ^ 54

/-- The value of a CSR of the thread loaded on a core. What the spec gives no value for (identification, misa, counters) is free. -/
def State.csrRead (s : State) (c n : Nat) : Nat :=
  let k := s.core c
  let t := (s.running c).getD 0
  let th := s.thread t
  let free := Config.freeNat s.fresh % 2 ^ 64
  if n = 0x300 then setField k.ctx.mstatus 32 2 2
  else if n = 0x304 then k.ctx.mie
  else if n = 0x305 then k.ctx.mtvec
  else if n = 0x340 then k.ctx.mscratch
  else if n = 0x341 then k.ctx.mepc
  else if n = 0x342 then k.ctx.mcause
  else if n = 0x343 then k.ctx.mtval
  else if n = 0x344 then k.mip
  else if n = 0x800 then th.flags
  else if n = 0x801 then th.mask
  else if n = 0x802 then th.timeout
  else if n = 0x803 then th.prio + 256 * th.all.toNat + 512 * th.consume.toNat
  else if n = 0x804 then 0
  else if 0x805 ≤ n && n ≤ 0x807 then tget (fun _ => 0) k.targ (n - 0x805)
  else if n = 0x808 then 64 - k.vtTx.length
  else if n = 0x809 then (match k.vtRx with | [] => 0 | b :: _ => 256 + b.toNat)
  else if n = 0xCC0 then t + 65536 * th.home
  else if n = 0xCC1 then th.result + 16 * th.wake + 256 * th.status + 65536 * th.outstanding
  else if n = 0xC01 then s.nowNs
  else if n = 0xF14 then c
  else if n = 0x301 || (0x323 ≤ n && n ≤ 0x33F) || (0xB00 ≤ n && n ≤ 0xC1F) || (0xF11 ≤ n && n ≤ 0xF15) then free
  else tget (fun _ => 0) k.csrs n

/-- A debug write of a CSR; it takes effect at the resume, before which nothing on the core reads it. -/
def State.csrWrite (s : State) (c n v : Nat) : State :=
  let k := s.core c
  let t := (s.running c).getD 0
  let th := s.thread t
  let ctx (f : Ctx → Ctx) : State := s.setCore c { k with ctx := f k.ctx }
  if n = 0x300 then ctx fun x => { x with mstatus := legalMstatus x.mstatus v }
  else if n = 0x304 then ctx fun x => { x with mie := v }
  else if n = 0x305 then ctx fun x => { x with mtvec := legalMtvec x.mtvec v }
  else if n = 0x340 then ctx fun x => { x with mscratch := v }
  else if n = 0x341 then ctx fun x => { x with mepc := v / 2 * 2 }
  else if n = 0x342 then ctx fun x => { x with mcause := v }
  else if n = 0x343 then ctx fun x => { x with mtval := v }
  else if n = 0x800 then s.setThread t { th with flags := v % 2 ^ 32 }
  else if n = 0x801 then s.setThread t { th with mask := v % 2 ^ 32 }
  else if n = 0x802 then s.setThread t { th with timeout := v }
  else if n = 0x803 then s.setThread t { th with prio := v % 32, all := v.testBit 8, consume := v.testBit 9 }
  else if 0x805 ≤ n && n ≤ 0x807 then s.setCore c (k.setTarg (n - 0x805) v)
  else if n = 0x808 then
    if k.vtTx.length < 64 then s.setCore c { k with vtTx := k.vtTx ++ [BitVec.ofNat 8 v] }
    else if s.objBit O.VT_BLOCK c then s else s.bump O.VT_DROPPED 1
  else if 0x3A0 ≤ n && n ≤ 0x3BF then s.setCore c { k with csrs := tput (fun _ => 0) k.csrs n (k.pmpWrite n v) }
  else if n = 0x809 || n = 0x301 || n = 0x344 then s
  else s.setCore c { k with csrs := tput (fun _ => 0) k.csrs n v }

end Sys2Proof.Machine
end

