-- ==== Sys2Proof/Machine/Lifecycle.lean ====
section
/-!
DEFINITION. Life-cycle transitions and key commands (22), and flash programming through the dictionary (R472).
-/

namespace Sys2Proof.Machine

/-! ### Transitions (R477–R480) -/

/-- Who authorises a transition (Table 22-2): the maker key (true) or the owner key (false). -/
def lcRow (here there : Nat) : Option Bool :=
  if here = 0 && there = 1 then some true
  else if here = 1 && there = 2 then some true
  else if here = 2 && there = 3 then some false
  else if (here = 2 || here = 3) && there = 4 then some false
  else if here = 4 && there = 1 then some true
  else if (here = 2 || here = 3) && there = 5 then some false
  else if (here = 0 || here = 1 || here = 4) && there = 5 then some true
  else none

/-- LC_NONCE (R479). -/
def State.nonce (s : State) : Nat := Config.entropy s.keys.nonce % 2 ^ 64

/-- The message of R478. -/
def State.lcMessage (s : State) (target : Nat) : List Byte :=
  leBytes 4 0x4C435251 ++ leBytes 4 0x0B04 ++ leBytes 8 (s.obj O.ID_SERIAL) ++ leBytes 8 s.nonce ++ leBytes 1 (s.obj O.LC_STATE)
    ++ leBytes 1 target ++ List.replicate 6 0

/-- The answer to a request that finds none in progress (LC_RESULT): 6 BUSY where it is accepted. -/
def State.lcAnswer (s : State) (target : Nat) (sig : List Byte) : Nat :=
  if s.mode ≠ mStandby && s.obj O.BOOT_STATE ≠ 7 then 2
  else match lcRow (s.obj O.LC_STATE) target with
    | none => 3
    | some maker =>
      if ! maker && s.obj O.OWNER_SET = 0 then 4
      else if target = 4 && s.obj O.RETURNS_LEFT = 0 then 7
      else if ecdsaOk (if maker then Config.makerKey else s.keys.owner) (s.lcMessage target) sig then 6
      else 5

/-- A new nonce (R479). -/
def State.newNonce (s : State) : State := { s with keys := { s.keys with nonce := s.fresh }, fresh := s.fresh + 1 }

/-- A request served (R479, R480): a new nonce either way; an accepted one for RETURN fuses RETURN_PENDING first (R486). -/
def State.lcServe (s : State) (target : Nat) (sig : List Byte) : State × Nat :=
  if s.obj O.LC_RESULT = 6 then (s.newNonce, eMode)
  else
    let r := s.lcAnswer target sig
    let s := s.newNonce.setObj O.LC_RESULT r
    if r = 6 then ({ s with keys := { s.keys with target := some target, returnPending := s.keys.returnPending || target == 4 } }, eNone)
    else (s, eNone)

/-- The signature staged in LC_SIG. -/
def State.lcSig (s : State) : List Byte := (List.range 12).flatMap fun i => leBytes 8 (s.obj (O.LC_SIG i))

/-- LC_REQ (0x3E00.03). -/
def writeLcReq (v : Nat) (s : State) : State × Nat := if v > 5 then (s, eRange) else s.lcServe v s.lcSig

/-- LC_REQ (R479): written by a master, or submitted through the LCREQ register of the TAP (no master) with its signature. -/
def execLcReq (by_ : Option Master) (target : Byte) (sig : BitVec 768) (s : State) : Out :=
  match by_ with
  | some m => s.write m O.LC_REQ target.toNat (writeLcReq target.toNat)
  | none => if s.engineStopped then .next s else .next (s.lcServe (target.toNat % 16) (leBytes 96 sig.toNat)).1

/-- LC_TRANSITION_DONE (R480, R486): the fuses are written. For RETURN the erasure is complete and the warm reset follows; the boot ROM then
fuses RETURN. -/
def execLcTransitionDone (s : State) : Out :=
  if s.engineStopped then .next s
  else match s.keys.target with
    | some 4 => if s.obj O.BOOT_STATE = 3 && s.hbm.zeroing then .next s.returnFuse else .next s.returnErase.returnReset
    | some t => .next (State.setObjs { s with keys := { s.keys with target := none } } [(O.LC_STATE, t), (O.LC_RESULT, 1)])
    | none => .next s

/-! ### Key commands (R481) -/

/-- The first `n` bytes of KEY_DATA. -/
def State.keyData (s : State) (n : Nat) : List Byte := ((List.range 12).flatMap fun i => leBytes 8 (s.obj (O.KEY_DATA i))).take n

/-- KEY_RESULT written, and KEY_DATA set to 0. -/
def State.keyEnds (s : State) (result : Nat) : State := s.setObjs ((O.KEY_RESULT, result) :: (List.range 12).map fun i => (O.KEY_DATA i, 0))

/-- The effect of a key command that is not refused. -/
def State.keyCommand (s : State) (v : Nat) : State :=
  let slot := s.obj O.KEY_SLOT
  let inSlots := 1 ≤ slot && slot ≤ 8
  let filled (k : Nat) : Bool := (s.obj k).testBit (slot - 1)
  if v = 3 then
    if s.obj O.OWNER_SET = 1 then s.keyEnds 2
    else if ! onCurve (s.keyData 96) then s.keyEnds 3
    else (State.setObj { s with keys := { s.keys with owner := s.keyData 96 } } O.OWNER_SET 1).keyEnds 1
  else if ! inSlots then s.keyEnds 3
  else if v = 1 then
    if filled O.IMG_KEYS then s.keyEnds 2
    else
      let s := { s with keys := { s.keys with image := tput (fun _ => []) s.keys.image slot (s.keyData 32) } }
      (s.setObjBit O.IMG_KEYS (slot - 1) true).keyEnds 1
  else if v = 2 then
    if filled O.SIG_KEYS then s.keyEnds 2
    else if ! onCurve (s.keyData 96) then s.keyEnds 3
    else
      let s := { s with keys := { s.keys with signing := tput (fun _ => []) s.keys.signing slot (s.keyData 96) } }
      (s.setObjBit O.SIG_KEYS (slot - 1) true).keyEnds 1
  else if s.obj O.KEY_KIND = 0 then
    let s := { s with keys := { s.keys with image := tput (fun _ => []) s.keys.image slot [] } }
    (s.setObjBit O.IMG_KEYS (slot - 1) false).keyEnds 1
  else
    let s := { s with keys := { s.keys with signing := tput (fun _ => []) s.keys.signing slot [] } }
    (s.setObjBit O.SIG_KEYS (slot - 1) false).keyEnds 1

/-- KEY_CMD (0x3E02.0F): from PCIe and debug in MAKER-TEST and OWNED only; while a transition is in progress KEY_RESULT answers MODE. -/
def writeKeyCmd (m : Master) (v : Nat) (s : State) : State × Nat :=
  let l := s.obj O.LC_STATE
  if v = 0 || v > 4 then (s, eRange)
  else if ! ((m == .pcie || m == .debug) && (l == 1 || l == 2)) then (s, eDenied)
  else if s.obj O.LC_RESULT = 6 then (s.keyEnds 4, eNone)
  else (s.keyCommand v, eNone)

/-- KEY_CMD_INSTALL_IMAGE_KEY. -/
def execKeyCmdInstallImageKey (m : Master) (s : State) : Out := s.write m O.KEY_CMD 1 (writeKeyCmd m 1)
/-- KEY_CMD_INSTALL_SIGNING_KEY. -/
def execKeyCmdInstallSigningKey (m : Master) (s : State) : Out := s.write m O.KEY_CMD 2 (writeKeyCmd m 2)
/-- KEY_CMD_SET_OWNER_KEY. -/
def execKeyCmdSetOwnerKey (m : Master) (s : State) : Out := s.write m O.KEY_CMD 3 (writeKeyCmd m 3)
/-- KEY_CMD_REVOKE. -/
def execKeyCmdRevoke (m : Master) (s : State) : Out := s.write m O.KEY_CMD 4 (writeKeyCmd m 4)

/-! ### Flash programming (R472) -/

/-- The areas of the flash that a life-cycle state lets the debug master change (Table 22-1). -/
def flashAllowed (lc a n : Nat) : Bool :=
  if lc = 1 then true
  else if lc = 2 then (0x10000 ≤ a && a + n ≤ 0x3F0000) || 0x400000 ≤ a
  else if lc = 4 then 0x10000 ≤ a
  else false

/-- FL_CMD (0x3C01.02). -/
def writeFlCmd (m : Master) (v : Nat) (s : State) : State × Nat :=
  let a := s.obj O.FL_ADDR
  let n := if v = 1 then 256 else 4096
  if v ≠ 1 && v ≠ 2 then (s, eRange)
  else if m ≠ .debug || ! (s.mode == mStandby || s.obj O.BOOT_STATE == 7) || s.obj O.FL_STATE = 1 then (s, eMode)
  else if a % n ≠ 0 then (s, eRange)
  else if ! flashAllowed (s.obj O.LC_STATE) a n then (s.setObj O.FL_RESULT 2, eNone)
  else (State.setObj { s with tap := { s.tap with flOp := some (v, a) } } O.FL_STATE 1, eNone)

/-- FL_CMD_PROGRAM. -/
def execFlCmdProgram (m : Master) (s : State) : Out := s.write m O.FL_CMD 1 (writeFlCmd m 1)
/-- FL_CMD_ERASE. -/
def execFlCmdErase (m : Master) (s : State) : Out := s.write m O.FL_CMD 2 (writeFlCmd m 2)

/-- The persistent store after its bytes have been changed through FL_CMD: what the firmware makes of them is left open (R474). -/
def State.openPersist (s : State) : State :=
  let num (i n : Nat) : Nat := Config.freeNat (s.fresh + i) % n
  { s with
    fresh := s.fresh + 1024
    persist := {
      marks := (List.range 272).foldl (fun t c => tput (fun _ => 0) t c (num c 8)) []
      raises := (List.range 4).foldl (fun t d => tput (fun _ => 0) t d (num (300 + d) 1024)) []
      p3 := num 310 2, hours := num 311 (2 ^ 32), lastHours := num 312 (2 ^ 32) } }

/-- FL_DONE (R472): the command completes; after a verification failure the area's contents are left open. -/
def execFlDone (verified : Bool) (s : State) : Out :=
  match s.tap.flOp with
  | none => .next s
  | some (v, a) =>
    let n := if v = 1 then 256 else 4096
    let flash := if ! verified then flashWrite s.flash a ((List.range n).map fun i => Config.freeByte s.fresh (a + i))
      else if v = 1 then flashWrite s.flash a (mread s.tap.page 0 256)
      else flashErase s.flash a 4096
    let s := if 0x3F0000 ≤ a && a < 0x400000 then s.openPersist else s
    .next ((State.setObjs { s with flash := flash, tap := { s.tap with flOp := none } }
      [(O.FL_STATE, 0), (O.FL_RESULT, if verified then 1 else 3)]).draw)

end Sys2Proof.Machine
end

