-- ==== Sys2Proof/Machine/Seam.lean ====
section
/-!
DEFINITION. The Seam links (09): block lock, alignment, bring-up, frames with acknowledgement and retry, the egress and the ingress.
-/

namespace Sys2Proof.Machine

/-! ### Lanes and link states (R205–R213, R231) -/

/-- A lane of a link. -/
def SeamLink.lane (k : SeamLink) (i : Nat) : SeamLane := tget (fun _ => SeamLane.blank) k.lanes i

/-- A link with a lane replaced. -/
def SeamLink.setLane (k : SeamLink) (i : Nat) (v : SeamLane) : SeamLink :=
  { k with lanes := tput (fun _ => SeamLane.blank) k.lanes i v }

/-- LINK_DOWN (R211, R213): the receive side goes DOWN, and what has not been acted on is lost; a link that leaves UP notes when, and whether
its state is kept. -/
def State.linkDown (s : State) (l : Nat) (keep : Bool) : State :=
  let up := s.obj (O.LINK_STATE l) = 3
  let k := s.link l
  let k := { k with idleRun := 0, idleSeen := none, rxQ := [], relayed := [] }
  let s := s.setObj (O.LINK_STATE l) 0
  if up then
    let s := s.setLink l { k with kept := keep, downSince := some s.nowNs, expired := false }
    State.dropDelay ((s.setObjBit O.LINKS_UP l false).bump (O.DOWNS l) 1) l
  else s.setLink l k

/-- A lane falls out of LOCKED: it hunts anew, and the link is DOWN. -/
def State.laneLost (s : State) (l i : Nat) : State :=
  let k := s.link l
  let s := s.setLink l (k.setLane i { k.lane i with locked := false, good := 0, last64 := [], markers := 0, rx := [] })
  (s.setObjBit (O.LANES_LOCKED l) i false).linkDown l true

/-- A lane whose units, up to its next marker, are counted while the link is DOWN; the IDLEs among them are kept (R230). -/
def SeamLane.skim (v : SeamLane) : SeamLane × List (SeamBlock × Nat) :=
  let go := v.rx.takeWhile fun e => ! isMarker e.1
  let rest := v.rx.dropWhile fun e => ! isMarker e.1
  ({ v with rx := rest, unitNo := (v.unitNo + 8 * go.length) % 2 ^ 32 }, go.filter fun e => isIdle e.1)

/-- Every lane skimmed. -/
def SeamLink.skimAll (k : SeamLink) : SeamLink :=
  (List.range 8).foldl (fun k i => let o := (k.lane i).skim; { k.setLane i o.1 with rxQ := k.rxQ ++ o.2 }) k

/-- The receive lane that the next unit stands first on: it carries that unit's transmit lane, and its oldest block is no marker. -/
def SeamLink.nextLane (k : SeamLink) : Option (Nat × (SeamBlock × Nat) × List (SeamBlock × Nat)) :=
  (List.range 8).findSome? fun i =>
    let v := k.lane i
    match v.rx with
    | [] => none
    | e :: r => if v.laneId = k.rxUnit % 8 && ! isMarker e.1 then some (i, e, r) else none

/-- Units put together in the order of their numbers (R210), up to `n` blocks: a block before the first unit is dropped. -/
def SeamLink.gather : Nat → SeamLink → SeamLink
  | 0, k => k
  | n + 1, k =>
    match k.nextLane with
    | none => k
    | some (i, e, r) =>
      let v := k.lane i
      let k' := k.setLane i { v with rx := r, unitNo := (v.unitNo + 8) % 2 ^ 32 }
      SeamLink.gather n (if v.unitNo = k.rxUnit then { k' with rxUnit := (k.rxUnit + 1) % 2 ^ 32, rxQ := k.rxQ ++ [e] } else k')

/-- The blocks that wait on the lanes of a link. -/
def SeamLink.waiting (k : SeamLink) : Nat := (List.range 8).foldl (fun n i => n + (k.lane i).rx.length) 0

/-- What the lanes hold moves on: put together on an aligned link, skimmed on one that is DOWN. -/
def State.flow (s : State) (l : Nat) : State :=
  let k := s.link l
  s.setLink l (if s.obj (O.LINK_STATE l) = 0 then k.skimAll else k.gather k.waiting)

/-- What a receive lane has found acts (R207, R209). An IDLE used as a lane filler is dropped (R208). -/
def State.laneEvent (s : State) (l i : Nat) (filler : Bool) (e : LaneEvent) : State :=
  match e with
  | .violation => s.bump (O.STUFF_VIOLATIONS l) 1
  | .locked => s.setObjBit (O.LANES_LOCKED l) i true
  | .lost => (s.setObjBit (O.LANES_LOCKED l) i false).linkDown l true
  | .block b t =>
    if filler && isIdle b then s
    else
      let k := s.link l
      let v := k.lane i
      (s.setLink l (k.setLane i { v with rx := v.rx ++ [(b, t)] })).flow l

/-- SEAM_BLOCK_RECEIVE (R206, R207, R209): line bits of a receive lane, the first of them first, `past` (in 2^-32 ns) after the last
tick of the time base. `filler` tells whether an IDLE among them is a lane filler, which its bits do not show. -/
def execSeamBlockReceive (link : LinkIx) (lane : LaneIx) (bits : List Bool) (past : BitVec 34) (filler : Bool) (s : State) : Out :=
  let k := s.link link
  let o := (k.lane lane).lineBits ((s.tb.counter + past.toNat) % 2 ^ 96) bits
  .next (o.2.foldl (fun s e => s.laneEvent link lane filler e) (s.setLink link (k.setLane lane o.1)))

/-- All eight lanes are locked and carry the eight transmit lanes, with two markers seen and no skew beyond 4 blocks (R204, R211). -/
def SeamLink.aligned (k : SeamLink) : Bool :=
  (List.range 8).all fun i =>
    (k.lane i).locked && decide ((k.lane i).markers ≥ 2) && decide ((k.lane i).skew ≤ 1032) &&
      (List.range 8).any fun j => (k.lane j).laneId == i

/-- The first unit that every lane still has to bring: the latest of the lanes' next units, modulo 2^32. -/
def SeamLink.firstUnit (k : SeamLink) : Nat :=
  let u := (k.lane 0).unitNo
  let ahead (i : Nat) : Nat := ((k.lane i).unitNo + 2 ^ 32 - u % 2 ^ 32 + 2 ^ 31) % 2 ^ 32
  (u + (List.range 8).foldl (fun m i => max m (ahead i)) 0 + 2 ^ 31) % 2 ^ 32

/-- A marker that agrees with its lane, or the first after a lock: the lane takes its number, and the link is ALIGNED once all lanes are
(R210, R211). -/
def State.markerSeen (s : State) (l i txLane unit skew : Nat) : State :=
  let k := s.link l
  let v := k.lane i
  let k := k.setLane i { v with markers := min 2 (v.markers + 1), laneId := txLane, unitNo := unit, skew := skew }
  let s := (s.setLink l k).raise (O.SKEW l) skew
  let s :=
    if s.obj (O.LINK_STATE l) = 0 && k.aligned then (s.setLink l { k with rxUnit := k.firstUnit }).setObj (O.LINK_STATE l) 1 else s
  s.flow l

/-- A marker on a receive lane (R210): one whose number disagrees with what the lane has brought, or that is no number of the transmit
lane it names, takes the lane out of LOCKED. -/
def State.markerHeard (s : State) (l i p skew : Nat) : State :=
  let v := (s.link l).lane i
  let txLane := field p 245 3
  let unit := field p 213 32
  if unit % 8 ≠ txLane || (v.markers > 0 && (v.unitNo ≠ unit || v.laneId ≠ txLane)) then s.laneLost l i
  else s.markerSeen l i txLane unit skew

/-- LANE_MARKER_RECEIVE (R210, R211, R215): the marker that stands first on a receive lane; `skew` is the lane-to-lane skew in UI that the
deskew measures. -/
def execLaneMarkerReceive (link : LinkIx) (lane : LaneIx) (skew : BitVec 16) (s : State) : Out :=
  let k := s.link link
  let v := k.lane lane
  match v.rx with
  | [] => .next s
  | e :: r =>
    if ! isMarker e.1 then .next s
    else
      let s := s.setLink link (k.setLane lane { v with rx := r })
      .next (if crcGood e.1.payload then s.markerHeard link lane e.1.payload skew.toNat else (s.crcFailed link).flow link)

/-- A block sent on a transmit lane, in its line bits (R205–R207). -/
def State.sendBlock (s : State) (l i : Nat) (b : SeamBlock) : State :=
  let k := s.link l
  let o := (k.lane i).encode b
  (s.setLink l (k.setLane i o.1)).emit (.seam l i o.2)

/-- A block in place of a unit, which puts its lane 258 UI behind (R208, R210). -/
def State.sendExtra (s : State) (l i : Nat) (b : SeamBlock) : State :=
  let s := s.sendBlock l i b
  let k := s.link l
  s.setLink l (k.setLane i { k.lane i with txLag := (k.lane i).txLag + 258 })

/-- The blocks between two markers of a lane (R210). -/
def State.markerEvery (s : State) (l : Nat) : Nat := if s.obj (O.LINK_STATE l) = 3 then 16384 else 64

/-- A lane's marker is due. -/
def State.markerDue (s : State) (l i : Nat) : Bool := decide (s.markerEvery l ≤ ((s.link l).lane i).txBlocks)

/-- The next unit on a transmit lane. -/
def SeamLink.nextUnitOn (k : SeamLink) (i : Nat) : Nat := (k.txUnit + (i + 8 - k.txUnit % 8) % 8) % 2 ^ 32

/-- LANE_MARKER_SEND (R210): a transmit lane sends its marker in place of its next block. -/
def execLaneMarkerSend (link : LinkIx) (lane : LaneIx) (s : State) : Out :=
  if s.clk.sysStopped || ! s.markerDue link lane then .next s
  else
    let s := s.sendExtra link lane (markerBlock lane ((s.link link).nextUnitOn lane))
    let k := s.link link
    .next (s.setLink link (k.setLane lane { k.lane lane with txBlocks := 0 }))

/-- A link without its frames, buffers and credits. -/
def SeamLink.emptied (k : SeamLink) : SeamLink :=
  { k with
    kept := false, retry := [], resend := [], resending := [], txSeq := 0, rxSeq := 0, openUnits := [], again := []
    nakSent := false, ackDue := 0, ackCredits := [], early := [], relayed := [], pktOut := [], pktIn := [], credits := [] }

/-- The link enters UP (R212, R227): with a resume as it was, otherwise from frame sequence 0 with empty buffers and fresh credits. -/
def State.linkUp (s : State) (l : Nat) : State :=
  let k := s.link l
  let s := ((s.setObj (O.LINK_STATE l) 3).setObjBit O.LINKS_UP l true)
  let s :=
    if k.kept && k.partnerKept then s.setLink l { k with downSince := none, ackFrom := s.nowNs }
    else
      (s.setLink l { k.emptied with downSince := none, credits := (List.range 4).map fun v => (v, 32) }).bump (O.RESETS l) 1
  if s.objBit O.LINK_ENABLE l then s.startDelay l else s

/-- An IDLE block of a link (R211–R213, R230). -/
def State.idleHeard (s : State) (l : Nat) (b : IdleBlock) : State :=
  let s := s.setObj (O.PARTNER_RUN l) b.run
  let k := s.link l
  let same := k.idleSeen = some (b.moduleId, b.link)
  let k := { k with partnerKept := b.llKept, idleSeen := some (b.moduleId, b.link), idleRun := min 4 (if same then k.idleRun + 1 else 1) }
  let s := s.setLink l k
  match s.obj (O.LINK_STATE l) with
  | 1 =>
    if k.idleRun ≥ 4 then
      let changed := s.obj (O.PARTNER_ID l) ≠ b.moduleId || s.obj (O.PARTNER_LINK l) ≠ b.link
      let s := if changed then s.setLink l { k with kept := false } else s
      let s := s.setObjs [(O.PARTNER_ID l, b.moduleId), (O.PARTNER_LINK l, b.link), (O.LINK_STATE l, 2)]
      if b.rxState = 2 || b.rxState = 3 then s.linkUp l else s
    else s
  | 2 =>
    if ! same then s.setObj (O.LINK_STATE l) 1
    else if b.rxState = 2 || b.rxState = 3 then s.linkUp l else s
  | 3 => if s.obj (O.PARTNER_ID l) ≠ b.moduleId || s.obj (O.PARTNER_LINK l) ≠ b.link then s.linkDown l false else s
  | _ => s

/-- IDLE_RECEIVE (R211–R213, R230): the IDLE that stands first on a link. -/
def execIdleReceive (link : LinkIx) (s : State) : Out := .next (s.hear link ctIdle fun p _ s => s.idleHeard link (readIdle p))

/-- RESUME_LIMIT_EXPIRY (R231): the link's kept state is emptied, and an enabled link raises SEAM_LINK. -/
def execResumeLimitExpiry (link : LinkIx) (s : State) : Out :=
  let l := link.val
  let k := s.link l
  match k.downSince with
  | none => .next s
  | some t =>
    if k.expired || ! s.reached (t + s.obj O.RESUME_LIMIT) then .next s
    else
      let s := s.setLink l { k.emptied with expired := true }
      .next (if s.objBit O.LINK_ENABLE l then s.raiseFault 9 FaultLoc.hub (l + 32 * s.obj (O.PARTNER_ID l)) 0 0 else s)

/-! ### Acknowledgement and retry (R219, R220) -/

/-- Frame number `q` lies at or before `n`. -/
def seqUpTo (n q : Nat) : Bool := (n + 4096 - q % 4096) % 4096 < 2048

/-- Frames up to `n` acknowledged at `now`. -/
def SeamLink.acked (k : SeamLink) (n now : Nat) : SeamLink :=
  { k with
    retry := k.retry.filter fun f => ! seqUpTo n f.seq, resend := k.resend.filter fun q => ! seqUpTo n q, ackFrom := now }

/-- Credits returned, 8 bits per VC. -/
def SeamLink.credited (k : SeamLink) (c : Nat) : SeamLink :=
  { k with credits := (List.range 4).foldl (fun t v => tupd (fun _ => 0) t v (· + field c (8 * v) 8)) k.credits }

/-- An ACK (R219, R227). -/
def State.ackHeard (s : State) (l seq credits : Nat) : State :=
  if s.linkOpen l then s.setLink l (((s.link l).acked seq s.nowNs).credited credits) else s

/-- ACK (R219, R227). -/
def execAck (link : LinkIx) (s : State) : Out :=
  .next (s.hear link ctAck fun p _ s => s.ackHeard link (field p 236 12) (field p 204 32))

/-- Frames from `seq` on are to be resent (R220). -/
def State.nakHeard (s : State) (l seq : Nat) : State :=
  let k := s.link l
  if s.linkOpen l then s.setLink l { k with
    resend := (k.retry.filter fun f => (f.seq + 4096 - seq) % 4096 < 2048).map fun f => f.seq }
  else s

/-- NAK (R220): frames from its SEQ on are resent. -/
def execNak (link : LinkIx) (s : State) : Out := .next (s.hear link ctNak fun p _ s => s.nakHeard link (field p 236 12))

/-- ACK_TIMEOUT (R220): no acknowledgement within ACK_TIMEOUT: everything unacknowledged is resent, from the oldest frame on. -/
def execAckTimeout (link : LinkIx) (s : State) : Out :=
  let k := s.link link
  if s.linkOpen link && k.retry ≠ [] && s.reached (k.ackFrom + s.obj O.ACK_TIMEOUT) then
    .next (s.setLink link { k with resend := k.retry.map fun f => f.seq, ackFrom := s.nowNs })
  else .next s

/-- A NAK for the frame expected, queued (R219). -/
def State.sendNak (s : State) (l : Nat) : State :=
  let k := s.link l
  s.setLink l { k with nakSent := true, nakAt := s.nowNs, msgQ := k.msgQ ++ [.nak k.rxSeq] }

/-- NAK_REPEAT (R219): 1 µs after a NAK that no frame has answered. -/
def execNakRepeat (link : LinkIx) (s : State) : Out :=
  let k := s.link link
  if s.linkOpen link && k.nakSent && s.reached (k.nakAt + 1000) then .next (s.sendNak link) else .next s

/-- ACK_SEND (R219, R227): the frames received are acknowledged, and credits go back. -/
def execAckSend (link : LinkIx) (s : State) : Out :=
  let k := s.link link
  if s.linkOpen link && (k.ackDue > 0 || k.ackCredits ≠ []) then
    let c := (List.range 4).foldl (fun n v => n + min 255 (tget (fun _ => 0) k.ackCredits v) * 2 ^ (8 * v)) 0
    let s := s.setLink link { k with ackDue := 0, ackCredits := [] }
    .next (s.sendMsg link (.ack ((k.rxSeq + 4095) % 4096) c))
  else .next s

/-! ### The egress (R217, R222–R224, R226, R227) -/

/-- A sequenced control block. -/
def unitControl : SeamUnit → Bool
  | .dcDone _ => true
  | .xtrig _ _ _ _ _ => true
  | _ => false

/-- The frame in progress must close before `next` (R217). -/
def SeamLink.mustClose (k : SeamLink) (next : Option SeamUnit) : Bool :=
  let l := k.openUnits.map fun u => u.unit
  match l.getLast? with
  | none => false
  | some u =>
    unitControl u || (match next with
      | none => true
      | some v => decide (l.length ≥ 39) || decide ((unitKinds none (l ++ [v])).2.length > 5))

/-- A unit sent on its lane (R208). -/
def State.sendUnit (s : State) (l : Nat) (b : SeamBlock) : State :=
  let s := s.sendBlock l ((s.link l).txUnit % 8) b
  let k := s.link l
  s.setLink l { k with txUnit := (k.txUnit + 1) % 2 ^ 32 }

/-- The IDLE that a link sends (Table 09-3). -/
def State.idleOf (s : State) (l : Nat) : IdleBlock :=
  ⟨s.ownId, l, s.obj (O.LINK_STATE l), s.runReport, (s.link l).kept⟩

/-- An IDLE in a unit slot. -/
def State.sendIdle (s : State) (l : Nat) : State := s.sendUnit l (idleBlock (s.idleOf l))

/-- The frame acknowledged with a trailer, once one has been received. -/
def SeamLink.ackSeq (k : SeamLink) : Option Nat := if k.rxSeq = 0 && k.ackDue = 0 then none else some ((k.rxSeq + 4095) % 4096)

/-- The frame in progress closed (R217, R226): its trailer waits, behind IDLEs, for every upstream frame that feeds it. A killed frame
keeps its SEQ for the one rebuilt from its own units. A frame closed by a retry is resent last. -/
def State.closeFrame (s : State) (l : Nat) : State :=
  let k := s.link l
  if k.openUnits.any fun u => u.upstream.isSome then s.sendIdle l
  else
    let kill := k.openUnits.any fun u => u.lost
    let units := k.openUnits.map fun u => u.unit
    let b := trailerBlock k.txSeq s.runReport k.ackSeq units kill
    let k := { k with openUnits := [], ackDue := 0 }
    if kill then
      (s.setLink l { k with again := ((s.link l).openUnits.filter fun u => ! u.lost) ++ k.again }).sendUnit l b
    else (s.setLink l { k with
      txSeq := (k.txSeq + 1) % 4096, retry := k.retry ++ [⟨k.txSeq, units.map unitBlock ++ [b], 0⟩]
      ackFrom := if k.retry = [] then s.nowNs else k.ackFrom
      resend := if k.resend = [] then [] else k.resend ++ [k.txSeq] }).sendUnit l b

/-- The slot flit that goes first: on-time ones in order of DC and POS, else the one that has waited longest (R223). -/
def pickEgress (l : List EgressSlot) : Option EgressSlot :=
  let on := l.filter fun e => e.onTime
  match on with
  | [] => l.head?
  | e :: r => some (r.foldl (fun b x => if x.dc < b.dc || (x.dc = b.dc && x.pos < b.pos) then x else b) e)

/-- The next packet flit of a VC, with what it leaves: the rest of a packet begun, or the header of one for which a credit is held
(R227). -/
def SeamLink.nextFlit (k : SeamLink) (vc : Nat) : Option (Nat × SeamLink) :=
  match tget (fun _ => []) k.pktOut vc with
  | f :: r => some (f, { k with pktOut := tput (fun _ => []) k.pktOut vc r })
  | [] =>
    if tget (fun _ => 0) k.credits vc = 0 then none
    else match k.pktQ.find? fun p => p.vc == vc with
      | none => none
      | some p => match packetWords p with
        | [] => none
        | f :: r => some (f, { k with
            pktQ := k.pktQ.erase p, pktOut := tput (fun _ => []) k.pktOut vc r
            credits := tupd (fun _ => 0) k.credits vc (· - 1) })

/-- The packet flit that goes first: of VC1, else by weighted round robin (R223). -/
def SeamLink.pickFlit (k : SeamLink) : Option (SeamUnit × SeamLink) :=
  match k.nextFlit 1 with
  | some (f, k) => some (.flit 1 f, k)
  | none => (wrrOrder k.wrr).zipIdx.findSome? fun e =>
    (k.nextFlit e.1).map fun o => (.flit e.1 o.1, { o.2 with wrr := (k.wrr + e.2 + 1) % 7 })

/-- The next unit of a frame with what it leaves of the link's queues: first the own units of a killed frame (R226), then by R223. -/
def SeamLink.nextUnit (k : SeamLink) : Option (OpenUnit × SeamLink) :=
  match k.again with
  | u :: r => some (u, { k with again := r })
  | [] => match pickEgress k.slotQ with
    | some e => some (⟨.slot e.tag (e.dc % 4) e.bits, e.upstream, false⟩, { k with
        slotQ := k.slotQ.erase e
        originSent := if e.origin then k.originSent ++ [(e.dc, e.tag)] else k.originSent })
    | none => match k.ctrlQ with
      | u :: r => some (⟨u, none, false⟩, { k with ctrlQ := r })
      | [] => k.pickFlit.map fun o => (⟨o.1, none, false⟩, o.2)

/-- A block outside frames launched, its first bit passing the ball at `t`: its departure time is written as it leaves (R216, R239). -/
def State.launch (s : State) (l : Nat) (m : SeamMsg) (t : Nat) : State :=
  let s := match m with
    | .pdelayReq q _ => { s with tb := { s.tb with pdelayReq := tput (fun _ => none) s.tb.pdelayReq l (some (q, t)) } }
    | _ => s
  s.sendUnit l (m.block t)

/-- A frame of the retry buffer begins to be resent (R220); one resent RETRY_LIMIT times without acknowledgement takes the link DOWN. -/
def State.resendFrame (s : State) (l q : Nat) (rest : List Nat) : State :=
  let k := s.link l
  match k.retry.find? fun f => f.seq == q with
  | none => (s.setLink l { k with resend := rest }).sendIdle l
  | some f =>
    if f.resent ≥ s.obj O.RETRY_LIMIT then s.linkDown l true
    else match f.blocks with
      | [] => s
      | b :: r =>
        let k := { k with
          resend := rest, resending := r, retry := k.retry.map fun x => if x.seq = q then { x with resent := x.resent + 1 } else x }
        ((s.setLink l k).bump (O.RESENT l) 1).sendUnit l b

/-- A unit slot in which frames may go (R217, R220, R223): the rest of a frame being resent, then a retry, then new units. -/
def State.sendFrameUnit (s : State) (l : Nat) : State :=
  let k := s.link l
  match k.resending, k.resend with
  | b :: r, _ => (s.setLink l { k with resending := r }).sendUnit l b
  | [], q :: rest => if k.openUnits = [] then s.resendFrame l q rest else s.closeFrame l
  | [], [] =>
    if k.openUnits = [] && k.retry.length ≥ 128 then s.sendIdle l
    else match k.nextUnit with
      | none => if k.openUnits = [] then s.sendIdle l else s.closeFrame l
      | some (u, k') =>
        if k.mustClose (some u.unit) then s.closeFrame l
        else (s.setLink l { k' with openUnits := k'.openUnits ++ [u] }).sendUnit l (unitBlock u.unit)

/-- The lane of the next unit has fallen 258 UI ahead of the most-delayed lane of its link (R208). -/
def SeamLink.fillerDue (k : SeamLink) : Bool :=
  let most := (List.range 8).foldl (fun m i => max m (k.lane i).txLag) 0
  decide ((k.lane (k.txUnit % 8)).txLag + 258 ≤ most)

/-- SEAM_EGRESS_SEND (R208, R223): one block of the lane whose unit is next, `past` (in 2^-32 ns) after the last tick of the time base. A
lane whose marker is due sends that first; one too far ahead sends an IDLE as a filler; a link that is not UP or not enabled sends
IDLE. -/
def execSeamEgressSend (link : LinkIx) (past : BitVec 34) (s : State) : Out :=
  let k := s.link link
  let i := k.txUnit % 8
  if s.clk.sysStopped || s.markerDue link i then .next s
  else if k.fillerDue then .next (s.sendExtra link i (idleBlock (s.idleOf link)))
  else if ! s.linkOpen link then .next (s.sendIdle link)
  else match k.msgQ with
    | m :: r => .next (State.launch (s.setLink link { k with msgQ := r }) link m ((s.tb.counter + past.toNat) % 2 ^ 96))
    | [] => .next (s.sendFrameUnit link)

/-- The ORIGIN tags of a link. -/
def State.originTags (s : State) (l : Nat) : List Nat :=
  (s.sluice.seamSlots.filter fun r => ! ssIngress r && ssOrigin r && ssLink r == l).map ssTag

/-- DC_DONE_SEND (R88, R224): the oldest token of a link leaves once every ORIGIN record has sent its flit of that DC, or has not received
it within DONE_DRAIN periods. -/
def execDcDoneSend (link : LinkIx) (s : State) : Out :=
  let k := s.link link
  match k.doneDue with
  | [] => .next s
  | (dc, deadline) :: r =>
    let waits (t : Nat) : Bool := k.slotQ.any fun e => e.origin && e.tag == t && e.dc == dc
    let ok := (s.originTags link).all fun t => k.originSent.contains (dc, t) || (decide (s.period > deadline) && ! waits t)
    if ok && s.linkOpen link then
      .next (s.setLink link { k with
        doneDue := r, doneSent := some dc, originSent := k.originSent.filter fun e => e.1 != dc
        ctrlQ := k.ctrlQ ++ [.dcDone dc] })
    else .next s

/-! ### The ingress (R88, R219, R225–R228) -/

/-- Relayed units fed by an upstream link are vouched for, or withdrawn (R226). Withdrawn ones that have not left yet are dropped. -/
def State.vouch (s : State) (l : Nat) (good : Bool) : State :=
  s.onLinks allLinks fun _ k => { k with
    openUnits := k.openUnits.map fun u => if u.upstream = some l then { u with upstream := none, lost := ! good } else u
    slotQ :=
      if good then k.slotQ.map fun e => if e.upstream = some l then { e with upstream := none } else e
      else k.slotQ.filter fun e => e.upstream != some l }

/-- The units of the frame being received, up to the next block that is none. -/
def SeamLink.frameUnits (k : SeamLink) : List SeamBlock := (k.rxQ.takeWhile fun e => ! isApart e.1).map fun e => e.1

/-- RELAY_FORWARD (R226): unit `unit` of the frame being received, a slot flit of this tag and EPOCH for another module, leaves for its next
link before the frame's trailer has been checked. -/
def execRelayForward (link : LinkIx) (unit : Fin 39) (tag : BitVec 11) (epoch : BitVec 2) (s : State) : Out :=
  let l := link.val
  let k := s.link l
  match k.frameUnits[unit.val]?, s.ingressRecord l tag.toNat with
  | some b, some r =>
    if ! s.linkOpen l || b.header ≠ 1 || k.relayed.contains unit.val || ssDmod r = s.ownId || s.run.discarding || s.restoring.isSome
        || epoch.toNat ≠ s.dcNum % 4 then .next s
    else
      let s := s.setLink l { k with relayed := k.relayed ++ [unit.val] }
      .next (s.seamEgress (some l) (ssDmod r) (ssDdie r) (ssDlc r) (ssKey r) b.payload s.dcNum)
  | _, _ => .next s

/-- XTRIG (R228, R229): an accepted one is forwarded unchanged on every other UP, enabled link and passed to the trigger engine; one on
ABANDON_LINES raises PARTNER_ABANDON (R506). -/
def State.xtrigIngress (s : State) (l origin xseq lines originDc boot : Nat) : State :=
  if ! follows (tget (fun _ => none) s.tb.lastX origin) xseq boot then s
  else
    let s := { s with tb := { s.tb with lastX := tput (fun _ => none) s.tb.lastX origin (some (xseq, boot)) } }
    let s := s.bump O.XTRIG_ACCEPTED 1
    let s := s.onLinks (allLinks.filter fun x => s.linkOpen x && x != l) fun _ k =>
      { k with ctrlQ := k.ctrlQ ++ [.xtrig origin xseq lines originDc boot] }
    let s := s.crossTrigger origin lines l
    if lines &&& s.obj O.ABANDON_LINES ≠ 0 then s.partnerAbandon origin l originDc else s

/-- A packet that has crossed a link. It crosses only one (R227): a request for another module is answered UNMAPPED. -/
def State.packetIngress (s : State) (p : Packet) : State :=
  if p.dstMod ≠ s.ownId then if p.op < 8 then s.inject (errorTo p stUnmapped) else s
  else if p.dstDie < 4 then let k := linkKey 4 (8 + p.dstDie) 0; s.putWhole k k p
  else { s with net := { s.net with arrived := s.net.arrived ++ [p] } }

/-- A packet flit that has crossed a link (R227): HEAD and TAIL follow from the LEN of the header flit. A whole packet gives its credit
back. -/
def State.flitHeard (s : State) (l vc bits : Nat) : State :=
  let k := s.link l
  let q := tget (fun _ => []) k.pktIn vc ++ [bits]
  match q with
  | [] => s
  | h :: data =>
    if data.length < headerLen h then s.setLink l { k with pktIn := tput (fun _ => []) k.pktIn vc q }
    else (s.setLink l { k with
      pktIn := tput (fun _ => []) k.pktIn vc []
      ackCredits := tupd (fun _ => 0) k.ackCredits vc (· + 1) }).packetIngress (readPacket vc h data)

/-- Unit `i` of a frame released (R225). A slot unit that RELAY_FORWARD has passed on is not passed on again. -/
def State.releaseUnit (s : State) (l i : Nat) (u : SeamUnit) : State :=
  match u with
  | .slot t e b => if (s.link l).relayed.contains i then s else s.slotIngress l t e b
  | .dcDone dc => s.doneIngress l dc
  | .xtrig o q n d b => s.xtrigIngress l o q n d b
  | .flit vc b => s.flitHeard l vc b

/-- A frame's units released in order. -/
def State.releaseUnits (s : State) (l : Nat) (units : List SeamUnit) : State :=
  let s := units.zipIdx.foldl (fun s e => s.releaseUnit l e.2 e.1) s
  s.setLink l { s.link l with relayed := [] }

/-- A frame discarded: a NAK for the expected SEQ, and what was relayed from it is withdrawn. -/
def State.discardFrame (s : State) (l : Nat) : State :=
  let s := if (s.link l).nakSent then s else s.sendNak l
  State.vouch (s.setLink l { s.link l with relayed := [] }) l false

/-- A frame whose trailer `t` has checked (R218, R219). -/
def State.frameChecked (s : State) (l t : Nat) (units : List SeamUnit) : State :=
  let s := s.setObj (O.PARTNER_RUN l) (field t 228 2)
  if ! s.linkOpen l then s
  else
    let s := if t.testBit 227 then s.setLink l ((s.link l).acked (field t 215 12) s.nowNs) else s
    let k := s.link l
    if t.testBit 32 || field t 236 12 ≠ k.rxSeq then s.discardFrame l
    else
      let s := s.setLink l { k with rxSeq := (k.rxSeq + 1) % 4096, nakSent := false, ackDue := k.ackDue + 1 }
      (s.vouch l true).releaseUnits l units

/-- FRAME_END (R219): the trailer that stands first on a link, with the units before it. -/
def execFrameEnd (link : LinkIx) (s : State) : Out :=
  let l := link.val
  let k := s.link l
  match k.rxQ.dropWhile fun e => ! isApart e.1 with
  | [] => .next s
  | e :: rest =>
    if ctype e.1.payload ≠ ctFrameEnd then .next s
    else
      let s := s.setLink l { k with rxQ := rest }
      match readFrame k.frameUnits e.1.payload with
      | none => .next (if s.linkOpen l then (s.crcFailed l).discardFrame l else s.crcFailed l)
      | some units => .next (s.frameChecked l e.1.payload units)

end Sys2Proof.Machine
end

