-- ==== Sys2Proof/Machine/Staging.lean ====
section
/-!
DEFINITION. Staging (08): shadows, the check with the rules of each chapter, commits and their pauses, discards.
-/

namespace Sys2Proof.Machine

/-! ### Writes to shadows (R191, R192, R196) -/

/-- Staging states (0x2200.07). -/
abbrev stEmpty : Nat := 0
abbrev stPending : Nat := 1
abbrev stChecking : Nat := 2
abbrev stChecked : Nat := 3
abbrev stArmed : Nat := 4
abbrev stApplying : Nat := 5

/-- A commit pause is in progress. -/
def State.committing (s : State) : Bool := match s.run.pause with | some (.commit _) => true | _ => false

/-- A waiting pause that is a commit. -/
def Pause.isCommit : Pause → Bool
  | .commit _ => true
  | _ => false

/-- An armed commit is disarmed. -/
def State.disarm (s : State) : State :=
  { s with run := { s.run with arm := .none, queued := s.run.queued.filter fun p => ! p.isCommit } }

/-- STAGE_LIST_ADDR and STAGE_LIST_RECORDS are RW objects whose writes stage like RWS ones (R196). -/
def listKey (k : Nat) : Bool := k == O.STAGE_LIST_ADDR || k == O.STAGE_LIST_RECORDS

/-- A value put into its shadow, or a list object written. -/
def State.putShadow (s : State) (k v : Nat) : State :=
  if listKey k then s.setObj k v else { s with shadow := tput (fun _ => none) s.shadow k (some (v &&& definedBits k v)) }

/-- A write to an RWS object or a list object (R191, R192, R196). -/
def State.stageWrite (s : State) (k v : Nat) : State :=
  if s.committing then { s with run := { s.run with pauseWrites := s.run.pauseWrites ++ [(k, v)] } }
  else
    let st := s.obj O.STAGE_STATE
    let s := s.putShadow k v
    if st = stChecking then { s with run := { s.run with checkDirty := true } }
    else if st = stArmed then s.disarm.setObj O.STAGE_STATE stPending
    else s.setObj O.STAGE_STATE stPending

/-- A value fits the range of its object (R195, R373). -/
def inRange (k v : Nat) : Bool :=
  match rowOf k with
  | some r => r.lo ≤ v && v ≤ r.hi
  | none => false

/-- An object that is written through its shadow or stages. -/
def isStaged (k : Nat) : Bool := listKey k || (match rowOf k with | some r => r.acc == .rws | none => false)

/-- A value that the staging list's objects take: the address is a multiple of 64. -/
def listFits (k v : Nat) : Bool := inRange k v && (k != O.STAGE_LIST_ADDR || v % 64 == 0)

/-- SHADOW_WRITE (R191): a write to an RWS object, STAGE_LIST_ADDR or STAGE_LIST_RECORDS. -/
def writeShadow (k v : Nat) (s : State) : State × Nat :=
  if listKey k && ! listFits k v then (s, eRange) else (s.stageWrite k v, eNone)

/-- SHADOW_WRITE. -/
def execShadowWrite (m : Master) (key : BitVec 24) (v : BitVec 64) (s : State) : Out :=
  let k := key.toNat
  if isStaged k then s.write m k (v.toNat % 2 ^ widthOf k) (writeShadow k (v.toNat % 2 ^ widthOf k)) else .next s

/-! ### The staging list (R194) -/

/-- The staged structures of Table 05-10: first and end address, element stride, element bits. -/
def stagedRegions : List (Nat × Nat × Nat × Nat) :=
  [(0, 0x01000000, 16, 80), (0x01080000, 0x010C0000, 16, 64), (0x010C0000, 0x010C2000, 8, 40), (0x010C2000, 0x010C3000, 4, 32),
   (0x010D0000, 0x010E0000, 4, 32)]

/-- The region whose element begins at an address. -/
def stagedRegion (a : Nat) : Option (Nat × Nat × Nat × Nat) :=
  stagedRegions.find? fun r => r.1 ≤ a && a < r.2.1 && (a - r.1) % r.2.2.1 == 0

/-- A record of a staging list (Table 08-7). -/
structure StageRecord where
  die : Nat
  lc : Nat
  off : Nat
  data : Nat
deriving DecidableEq, Repr

/-- The first `n` records of a list. -/
def stageRecords (b : List Byte) (n : Nat) : List StageRecord :=
  (List.range n).map fun i => ⟨bytesNat b (32 * i) 1, bytesNat b (32 * i + 1) 1, bytesNat b (32 * i + 4) 4, bytesNat b (32 * i + 8) 16⟩

/-- A record that R194 refuses. -/
def State.recordBad (s : State) (r : StageRecord) : Bool :=
  bindingOf s.bound r.die r.lc == 0xFF || (stagedRegion r.off).isNone

/-- An element with its check bits made afresh, and its bytes as stored. -/
def stagedElement (base bits v : Nat) : Nat × Nat :=
  if bits = 80 then (11, v + checkBits 80 v * 2 ^ 80)
  else if base = 0x01080000 then (9, v + checkBits 64 v * 2 ^ 64)
  else if bits = 40 then (8, v)
  else (4, v)

/-- A record applied to the cluster and to the retained copy. -/
def State.applyRecord (s : State) (r : StageRecord) : State :=
  match stagedRegion r.off with
  | none => s
  | some (base, _, _, bits) =>
    let (n, v) := stagedElement base bits (r.data % 2 ^ bits)
    let key := 64 * r.die + r.lc
    let s := { s with retained := { s.retained with
      stores := tupd (fun _ => []) s.retained.stores key fun m => mputNat m r.off n v } }
    let cid := cidOf r.die (bindingOf s.bound r.die r.lc)
    let v := if bits = 40 then writeOutslot s.ownId s.bound v else v
    s.setCl cid { s.cl cid with node := mputNat (s.cl cid).node r.off n v }

/-! ### The check (R195) -/

/-- Some object of a range of indices has a pending shadow. -/
def stagedIn (t : Tab (Option Nat)) (lo hi : Nat) : Bool := t.any fun e => lo ≤ e.1 / 256 && e.1 / 256 ≤ hi

/-- RULE for the partition (R150). -/
def State.partitionBad (s : State) (t : Tab (Option Nat)) : Bool :=
  let v := shadowOr s t
  s.mode != mStandby || v O.QUARRY_SIZE + v O.OVB_SIZE + v O.SPOIL_SIZE + 9 * v O.PEAT_COUNT > 5632

/-- RULE for a comparator's CTRL (R307). -/
def ctrlBad (c : Nat) : Bool := cMode c == 6 || cMode c == 7 || cUnit c == 3 || (cThr c && cLsb c + cWidth c - 1 > 63)

/-- RULE for a threshold's hysteresis band (R310): the edge that the mode uses leaves the field's range. -/
def bandBad (c v m : Nat) : Bool :=
  let w := cWidth c
  let lo : Int := if cSigned c then -(2 ^ (w - 1) : Int) else 0
  let hi : Int := if cSigned c then (2 ^ (w - 1) : Int) - 1 else (2 ^ w : Int) - 1
  if cMode c = 4 then cValue c v - m < lo || cValue c v - m > hi
  else if cMode c = 5 then cValue c v + m < lo || cValue c v + m > hi
  else false

/-- RULE for an object of comparator `n`. -/
def State.cmpBad (s : State) (t : Tab (Option Nat)) (n k : Nat) : Bool :=
  let v := shadowOr s t
  let c := v (O.CMP_CTRL n)
  (k == O.CMP_CTRL n && ctrlBad c)
    || ((k == O.CMP_CTRL n || k == O.CMP_VALUE n || k == O.CMP_MASK n) && bandBad c (v (O.CMP_VALUE n)) (v (O.CMP_MASK n)))

/-- RULE for the mask test (R317). -/
def State.maskBad (s : State) (t : Tab (Option Nat)) : Bool :=
  let v := shadowOr s t
  let stride := 64 * ((16 * (v O.MT_WORDS + 1) + 63) / 64)
  let free := (v O.QUARRY_SIZE + v O.OVB_SIZE + v O.SPOIL_SIZE + 9 * v O.PEAT_COUNT) * granule
  v O.MT_BASE % 64 != 0 || v O.MT_BASE < free || v O.MT_BASE + v O.MT_RECORDS * stride > imageBase || v O.MT_RECORDS < 2
    || v O.MT_FIRST_WORD + v O.MT_WORDS > 256

/-- RULE for the trace (R335). -/
def State.traceBad (s : State) (t : Tab (Option Nat)) : Bool :=
  let v := shadowOr s t
  let cap := v O.SPOIL_SIZE * granule / traceStride (v O.WORDS)
  v O.FIRST_WORD + v O.WORDS > 1024 || (v O.TRACE_ENABLE == 1 && cap == 0)
    || (v O.TRACE_MODE == 0 && v O.PRE_DCS + v O.POST_DCS + 1 > cap)

/-- RULE for a staged restore (R340). -/
def State.restoreBad (s : State) (t : Tab (Option Nat)) : Bool :=
  let v := shadowOr s t
  let kind := v O.RESTORE_KIND
  kind != 0 && ((s.validSlot (v O.RESTORE_DC)).isNone || ! s.held || (kind == 2 && v O.RESTORE_DC > s.dcNum))

/-- The rule of an object's own chapter fails. -/
def State.ruleBad (s : State) (t : Tab (Option Nat)) (k v : Nat) : Bool :=
  let i := k / 256
  if k = O.MODULE_ID then s.mode != mStandby
  else if i = 0x2480 then s.partitionBad t
  else if k = O.OP_TARGET then v == 3 && s.obj O.P3_AVAILABLE == 0
  else if k = O.LINK_ENABLE then ! (s.mode == mStandby || s.held)
  else if k = O.TIED_EPOCH then s.mode == mTied
  else if 0x3210 ≤ i && i ≤ 0x324F then s.cmpBad t (i - 0x3210) k
  else if i = 0x3270 then s.maskBad t
  else if i = 0x3400 then s.traceBad t
  else if k = O.RESTORE_KIND || k = O.RESTORE_DC then s.restoreBad t
  else if k = O.NOMINAL_RATE || k = O.DATA_RATE then shadowOr s t O.DATA_RATE < shadowOr s t O.NOMINAL_RATE
  else if k = O.REQUIRE_SIGNED || k = O.REQUIRE_ENCRYPTED then s.obj O.LC_STATE != 2
  else false

/-- A field of a port descriptor lies outside its range (Table 06-2). -/
def descRangeBad (d : Nat) : Bool :=
  if dQuarry d then decide (dAw d > 34) || decide (dBase d > 0x27FFFFFFF) else decide (dAw d > 22)

/-- A staged value lies outside the range of its object: its row's bounds, the fields of Table 06-2, the bit rates of Table 17-9, the pulse
width of Table 14-7. -/
def stagedRangeBad (k v : Nat) : Bool :=
  ! inRange k v
    || (0x2500 ≤ k / 256 && k / 256 ≤ 0x25FF && descRangeBad v)
    || (k == O.NOMINAL_RATE && ! [125000, 250000, 500000, 800000, 1000000].contains v)
    || (k == O.DATA_RATE && ! [1000000, 2000000, 4000000, 5000000].contains v)
    || (k / 256 == 0x3280 && (field v 4 30 < 10 || field v 4 30 > 1000000000))

/-- An object or order that the present mode does not allow (Table 08-3, R505). -/
def State.stagedModeBad (s : State) (k v : Nat) : Bool :=
  (k == O.STAGED_ORDER && (match stagedKind v with | some o => orderTable o s.judgedMode == 0 | none => false))
    || (k == O.RESTORE_KIND && v != 0 && s.recovering && s.obj O.RECOVERY_STATE != 4)

/-- CHECK_RESULT for one staged object: 0 where every test holds. -/
def State.checkObj (s : State) (t : Tab (Option Nat)) (k v : Nat) : Nat :=
  if stagedRangeBad k v then 2 else if s.stagedModeBad k v then 3 else if s.ruleBad t k v then 4 else 0

/-- CHECK_RESULT for a record: no cluster structure is staged in a mode without a loaded image. -/
def State.checkRecord (s : State) (r : StageRecord) : Nat :=
  if s.mode == mStandby || s.mode == mDiag then 3 else if s.recordBad r then 5 else 0

/-- The whole check: CHECK_RESULT and CHECK_DETAIL. -/
def State.checkAll (s : State) (t : Tab (Option Nat)) (list : List Byte) (n : Nat) : Nat × Nat :=
  match t.find? fun e => s.checkObj t e.1 (e.2.getD 0) != 0 with
  | some e => (s.checkObj t e.1 (e.2.getD 0), e.1 * 2 ^ 40)
  | none =>
    if list.length < 32 * n then (5, 0)
    else match firstBadIx (stageRecords list n) fun _ r => s.checkRecord r != 0 with
      | some (i, r) => (s.checkRecord r, i)
      | none => (1, 0)

/-- CHECK ← 1 (R195). -/
def writeCheck (v : Nat) (s : State) : State × Nat :=
  let st := s.obj O.STAGE_STATE
  if v ≠ 1 then (s, eRange)
  else if st = stEmpty || st = stPending || st = stChecked then
    let s := { s with run := { s.run with
      checking := tput (fun _ => none) s.shadow O.STAGE_LIST_RECORDS (some (s.obj O.STAGE_LIST_RECORDS)), checkDirty := false } }
    (s.setObj O.STAGE_STATE stChecking, eNone)
  else (s, eMode)

/-- CHECK. -/
def execCheck (m : Master) (v : Byte) (s : State) : Out := s.write m O.CHECK v.toNat (writeCheck v.toNat)

/-- CHECK_DONE (R195, R196): the check completes; `list` is what the DMA has fetched of the staging list. -/
def execCheckDone (list : List Byte) (s : State) : Out :=
  if s.obj O.STAGE_STATE ≠ stChecking || s.engineStopped then .next s
  else
    let n := (tget (fun _ => none) s.run.checking O.STAGE_LIST_RECORDS).getD 0
    let r := s.checkAll (tput (fun _ => none) s.run.checking O.STAGE_LIST_RECORDS none) list n
    let pass := r.1 = 1 && ! s.run.checkDirty
    let s := { s with run := { s.run with checking := [], checkDirty := false, stageList := if pass then list.take (32 * n) else [] } }
    .next ((s.setObjs [(O.CHECK_RESULT, r.1), (O.CHECK_DETAIL, r.2), (O.STAGE_STATE, if pass then stChecked else stPending)]).msix 3)

/-! ### Commits (R192, R196–R199) -/

/-- A commit or arming write outside CHECKED (R196), or one that comes too late. -/
def State.commitAnswer (s : State) (v : Nat) : State × Nat := ((s.setObj O.COMMIT_RESULT v).msix 3, eNone)

/-- COMMIT ← 1: at once at a boundary, else at the boundary that follows the order window. -/
def writeCommit (m : Master) (v : Nat) (s : State) : State × Nat :=
  if v ≠ 1 then (s, eRange)
  else if s.obj O.STAGE_STATE ≠ stChecked then s.commitAnswer 2
  else
    let s := { s with run := { s.run with armMaster := m } }
    if s.advancing then (State.setObj { s with run := { s.run with arm := .now } } O.STAGE_STATE stArmed, eNone)
    else if s.run.pause.isSome then
      (State.setObj { s with run := { s.run with queued := s.run.queued ++ [.commit true] } } O.STAGE_STATE stArmed, eNone)
    else (s.beginCommit, eNone)

/-- COMMIT. -/
def execCommit (m : Master) (v : Byte) (s : State) : Out := s.write m O.COMMIT v.toNat (writeCommit m v.toNat)

/-- COMMIT_AT_TIME (R197). -/
def writeCommitAtTime (m : Master) (t : Nat) (s : State) : State × Nat :=
  if s.obj O.STAGE_STATE ≠ stChecked then s.commitAnswer 2
  else if s.reached t then s.commitAnswer 3
  else (State.setObj { s with run := { s.run with arm := .time t, armMaster := m } } O.STAGE_STATE stArmed, eNone)

/-- COMMIT_AT_TIME. -/
def execCommitAtTime (m : Master) (t : BitVec 64) (s : State) : Out := s.write m O.COMMIT_AT_TIME t.toNat (writeCommitAtTime m t.toNat)

/-- COMMIT_AT_DC (R198). -/
def writeCommitAtDc (m : Master) (n : Nat) (s : State) : State × Nat :=
  if s.obj O.STAGE_STATE ≠ stChecked then s.commitAnswer 2
  else if n ≤ s.dcNum then s.commitAnswer 3
  else (State.setObj { s with run := { s.run with arm := .dc n, armMaster := m } } O.STAGE_STATE stArmed, eNone)

/-- COMMIT_AT_DC. -/
def execCommitAtDc (m : Master) (n : BitVec 64) (s : State) : Out := s.write m O.COMMIT_AT_DC n.toNat (writeCommitAtDc m n.toNat)

/-- Shadows and list emptied. -/
def State.stageEmpty (s : State) : State :=
  State.setObjs { s with shadow := [], run := { s.run with stageList := [], checking := [], checkDirty := false } }
    [(O.STAGE_LIST_RECORDS, 0), (O.STAGE_STATE, stEmpty)]

/-- DISCARD ← 1 (R200, Table 08-10). -/
def writeDiscard (v : Nat) (s : State) : State × Nat :=
  let st := s.obj O.STAGE_STATE
  if v ≠ 1 then (s, eRange)
  else if st = stPending || st = stChecked then (s.stageEmpty.setObjs [(O.DISCARD_RESULT, 1), (O.CHECK_RESULT, 0)], eNone)
  else if st = stChecking then ((s.stageEmpty.setObjs [(O.DISCARD_RESULT, 1), (O.CHECK_RESULT, 6)]).msix 3, eNone)
  else if st = stArmed then
    ((s.disarm.stageEmpty.setObjs [(O.DISCARD_RESULT, 1), (O.CHECK_RESULT, 0), (O.COMMIT_RESULT, 5)]).msix 3, eNone)
  else (s.setObj O.DISCARD_RESULT 2, eNone)

/-- DISCARD. -/
def execDiscard (m : Master) (v : Byte) (s : State) : Out := s.write m O.DISCARD v.toNat (writeDiscard v.toNat)

/-- COMMIT_TIME_REACHED (R197): a module that does not advance starts the pause when the time base has reached the instant. -/
def execCommitTimeReached (s : State) : Out :=
  match s.run.arm with
  | .time t =>
    if s.reached t && ! s.advancing && s.run.pause.isNone && ! s.recovering && s.run.abandon.isNone && ! s.engineStopped then
      .next s.beginCommit
    else .next s
  | _ => .next s

/-! ### The end of a commit pause -/

/-- The partition's derived objects, and the contents of every region whose base or size has changed (R150). -/
def State.repartition (s : State) (old : State) : State :=
  let q := s.obj O.QUARRY_SIZE
  let o := s.obj O.OVB_SIZE
  let p := s.obj O.SPOIL_SIZE
  let n := s.obj O.PEAT_COUNT
  let s := s.setObjs [(O.OVB_BASE, q * granule), (O.SPOIL_BASE, (q + o) * granule), (O.PEAT_BASE, (q + o + p) * granule),
    (O.FREE, 5632 - (q + o + p + 9 * n))]
  let region (base size unit : Nat) (s : State) : State :=
    if s.obj base = old.obj base && s.obj size = old.obj size then s
    else s.hbmOpen (s.obj base) (s.obj base + s.obj size * unit * granule)
  let s := region O.PEAT_BASE O.PEAT_COUNT 9 (region O.SPOIL_BASE O.SPOIL_SIZE 1 (region O.OVB_BASE O.OVB_SIZE 1
    (region O.QUARRY_BASE O.QUARRY_SIZE 1 s)))
  if s.obj O.OVB_BASE = old.obj O.OVB_BASE && o = old.obj O.OVB_SIZE then s
  else State.emptyOvb { s with hbm := { s.hbm with ovbHead := 0 } }

/-- What follows a commit of objects besides their new values (R324, R335, R329, R426, R150). Granules allocated under an enabled mask-test
ring go undetected (R327); a record fetched under other settings is fetched again. -/
def State.commitEffects (s : State) (t : Tab (Option Nat)) (old : State) : State :=
  let s := if stagedIn t 0x2480 0x2480 then s.repartition old else s
  let s := if stagedIn t 0x2480 0x2480 && s.obj O.MT_ENABLE = 1 && s.obj O.MT_BASE < (5632 - s.obj O.FREE) * granule then s.astray else s
  let s := if stagedIn t 0x3200 0x3281 then s.rearm else s
  let s := if stagedIn t 0x3270 0x3270 then { s with trig := { s.trig with mtRec := none } } else s
  let s := if stagedIn t 0x3400 0x3400 then s.setObj O.TRACE_STATE 0 else s
  let s := if stagedIn t 0x3400 0x3400 || stagedIn t 0x2480 0x2480 then s.traceSizes else s
  match tget (fun _ => none) t O.OP_TARGET with
  | some p => s.pointTarget p
  | none => s

/-- Every shadow and record applied (R192, R194). -/
def State.applyStaged (s : State) : State :=
  let t := s.shadow
  let old := s
  let s := t.foldl (fun s e => match e.2 with | some v => s.setObj e.1 v | none => s) s
  let s := (stageRecords s.run.stageList (s.run.stageList.length / 32)).foldl State.applyRecord s
  let s := (s.stageEmpty.commitEffects t old).setObjs [(O.CHECK_RESULT, 0), (O.COMMIT_RESULT, 1), (O.COMMIT_DONE_DC, s.dcNum)]
  s.msix 3

/-- The writes that a pause has held back reach their shadows as it ends (R192). -/
def State.flushPause (s : State) : State :=
  let l := s.run.pauseWrites
  l.foldl (fun s e => s.stageWrite e.1 e.2) { s with run := { s.run with pause := none, pauseWrites := [] } }

/-- A committed STAGED_ORDER is judged as an order of the committing master (R193); with a restore it waits for its completion. -/
def State.orderStaged (s : State) (k : OrderKind) (restore : Bool) : State :=
  let m := s.run.armMaster
  let r := if restore then (s.setObj O.STATE_VALID 1).orderAnswer m k else s.orderAnswer m k
  let s := s.answered m r
  let o : Order := ⟨k, m, s.obj O.STEP_COUNT, s.run.serial⟩
  if r ≠ 1 then s
  else if restore then { s with run := { s.run with snapOrders := s.run.snapOrders ++ [o] } }
  else { s with run := { s.run with due := s.run.due ++ [o] } }

/-- COMMIT_PAUSE_END (R192, R193, R340). -/
def State.endCommit (s : State) : State :=
  let t := s.shadow
  let order := (tget (fun _ => none) t O.STAGED_ORDER).bind stagedKind
  let kind := (tget (fun _ => none) t O.RESTORE_KIND).getD 0
  let s := s.applyStaged
  let slot := if kind = 0 then none else s.validSlot (s.obj O.RESTORE_DC)
  let s := s.flushPause
  let s := match order with | some k => s.orderStaged k slot.isSome | none => s
  match slot with
  | some i => State.beginRestore { s with run := { s.run with restoreMaster := s.run.armMaster } } i kind
  | none => s.afterPause

/-- COMMIT_PAUSE_END: 2 µs and 15 ns per record after the pause began. -/
def execCommitPauseEnd (s : State) : Out :=
  if s.engineStopped || s.clockWait then .next s
  else match s.run.pause with
  | some (.commit true) => .next s.endCommit
  | some (.commit false) => .next s.flushPause.afterPause
  | _ => .next s

end Sys2Proof.Machine
end

