-- ==== Sys2Proof/Machine/Snapshot.lean ====
section
/-!
DEFINITION. The completion of snapshots and restores (15), of the moves to STANDBY and DIAG (R184), and of self-tests (R411).
-/

namespace Sys2Proof.Machine

/-- A duration in nanoseconds as the 32-bit objects hold it. -/
def State.sinceNs (s : State) (start : Nat) : Nat := (s.nowNs + 2 ^ 64 - start) % 2 ^ 64 % 2 ^ 32

/-- SNAPSHOT_DONE (R338, R339): the snapshot in progress completes; `bad` is an HBM word in its slot that turned out uncorrectable. -/
def execSnapshotDone (bad : Option (BitVec 37)) (s : State) : Out :=
  if s.clockWait then .next s
  else match s.run.pause with
  | some (.snapshot slot _ start) =>
    let s := s.setObj O.SNAP_TIME_LAST (s.sinceNs start)
    let s := match bad with
      | some a => (s.hbmBad a.toNat).setObjs [(O.SLOT_STATUS slot, 3), (O.SNAP_RESULT, 4)]
      | none => s.setObjs [(O.SLOT_STATUS slot, 1), (O.SNAP_RESULT, 1)]
    let s := { s with run := { s.run with pause := none } }
    .next (s.setMode s.run.resumeMode).afterPause
  | _ => .next s

/-! ### Restores (R341) -/

/-- The first uncorrectable word of a slot's peat region or exchange area. -/
def State.slotDamage (s : State) (slot : Nat) : Option Nat :=
  match s.firstBad (s.peatSlot slot) (9 * granule) with
  | some a => some a
  | none => s.firstBad (exchangeArea slot) 0x50000

/-- A cluster whose live STATE and design memory are unpredictable. -/
def Cluster.opened3 (c : Cluster) (draw : Nat) : Cluster :=
  let c := { c with node := mwrite c.node (nLive 0) (freeBytes draw (nLive 0) 0x10000) }
  c.openRows draw

/-- The design state is unpredictable (R341): what a snapshot holds is left open. -/
def State.openDesign (s : State) : State :=
  let f := s.fresh
  let s := s.bound.foldl (fun s b => let cid := cidOf b.1 b.2.2; s.setCl cid ((s.cl cid).opened3 (f + cid))) s
  let num (i w : Nat) : Nat := Config.freeNat (f + 300 + i) % 2 ^ w
  let s := allTies.foldl (fun s i => if s.tieUsed i then s.setObj (O.NEXT_EDGE i) (num i 64) else s) s
  { s with
    fresh := f + 5000
    sluice := { s.sluice with
      accs := (List.range 64).foldl (fun t d => tput (fun _ => 0) t d (num (10 + d) 17)) []
      enables := num 80 64
      xin := (List.range 4096).foldl (fun t x => tput (fun _ => 0) t x (num (200 + x) 512)) []
      fin := mwrite [] 0 (freeBytes (f + 299) 0 1024) }
    hub := { s.hub with pace := (List.range 64).foldl (fun t d => tput (fun _ => 0) t d (num (90 + d) 16)) [] } }

/-- What every restore ends with (R341): held, the kind back at 0, the duration. -/
def State.restoreEnds (s : State) (start result : Nat) : State :=
  let s := { s with run := { s.run with pause := none, retreated := false } }
  ((s.setObjs [(O.RESTORE_RESULT, result), (O.STATE_VALID, if result = 1 then 1 else 0), (O.RESTORE_KIND, 0), (O.HORIZON, 0),
    (O.RESTORE_TIME_LAST, s.sinceNs start)]).msix 3).setMode mHold

/-- Orders that waited for a restore are answered MODE. -/
def State.dropSnapOrders (s : State) : State :=
  s.run.snapOrders.foldl (fun s o => s.fate o 2) { s with run := { s.run with snapOrders := [] } }

/-- A restore that has met an uncorrectable word (R341, R498). -/
def State.restoreFails (s : State) (start a : Nat) : State :=
  let s := ((s.hbmBad a).openDesign.restoreEnds start 2).dropSnapOrders
  if s.obj O.RECOVERY_STATE = 3 then s.recoveryFails 4 else s.afterPause

/-- The parts written back, DC `j` opened, and what a restore leaves of snapshots and logs (R341). A recovery keeps its target (R504). -/
def State.restoreBack (s : State) (slot kind : Nat) : State :=
  let j := s.obj (O.SLOT_DC slot)
  let stood := if s.obj O.RECOVERY_STATE = 3 then s.faults.target else if s.run.retreated then s.obj O.HORIZON else s.dcNum
  let s := s.restoreParts slot
  let s := ((s.openDc j s.sluice.enables).voidSlots fun d => d > j).releaseEarly
  if kind = 1 then (s.replayCut j).setObj O.REPLAY_STATE 0
  else s.setObjs [(O.REPLAY_TARGET_DC, stood), (O.REPLAY_STATE, if stood > j then 1 else 0)]

/-- After a restore that belongs to a recovery (R503–R505). -/
def State.recoveryRestored (s : State) : State :=
  let hold := s.run.snapOrders != []
  let s := s.supersede s.run.snapOrders none
  let s := { s with run := { s.run with snapOrders := [] } }
  if hold || s.faults.interrupt then s.recoveryFails 6
  else if s.faults.again then s.retryRecovery
  else if s.replaying then
    (((s.answered .fw 1).setObj O.RECOVERY_STATE 4).released).takeOrder ⟨.run, .fw, 0, 0⟩
  else s.finishRecovery

/-- RESTORE_DONE (R148, R341): with the Quarry idle, the restore in progress undoes the overburden log and completes. -/
def execRestoreDone (s : State) : Out :=
  if s.clockWait || ! s.quarryIdle then .next s
  else match s.run.pause with
  | some (.restore slot kind start) =>
    let s := (s.clearTransit fun _ => false).ovbUndo (s.obj (O.SLOT_DC slot))
    match s.slotDamage slot with
    | some a => .next (s.restoreFails start a)
    | none =>
      let s := (s.restoreBack slot kind).restoreEnds start 1
      .next (if s.obj O.RECOVERY_STATE = 3 then s.recoveryRestored else s.afterPause)
  | _ => .next s

/-! ### Moves and self-tests (R184, R411, R412) -/

/-- A self-test is part of the test that runs. -/
def State.tests (s : State) (n : Nat) : Bool := s.run.diagTest == n || s.run.diagTest == 0xFF

/-- A test begins: it destroys what it exercises, and links in loopback are DOWN. -/
def State.testBegins (s : State) : State :=
  let s := if s.tests 5 then State.hbmOpen { s with hbm := { s.hbm with bad := [] } } 0 (96 * 2 ^ 30) else s
  let s := if s.tests 6 then allLinks.foldl (fun s l => s.linkDown l false) s else s
  let s := if s.tests 7 then
      { s with
        fresh := s.fresh + 2
        hub := { s.hub with sramOpen := [(0x1000000, 0x9000000, s.fresh), (2 ^ 40, 2 ^ 40 + 2 ^ 26, s.fresh + 1)], sram := []
                            cores := tmap (fun _ => Core.blank) (fun _ k => { k with sram := [] }) s.hub.cores, locks := [] } }
    else s
  if s.tests 8 then s.fabClear else s

/-- MODE_MOVE_DONE (R184): a move to STANDBY or DIAG completes; a move ordered meanwhile takes effect. -/
def execModeMoveDone (s : State) : Out :=
  match s.run.moving with
  | none => .next s
  | some t =>
    if s.clockWait then .next s else
    let next := s.run.nextMove
    let s := { s with run := { s.run with moving := none, nextMove := none } }
    let s := if t = mDiag then s.testBegins else s
    .next (match next with | some o => s.takeMove o | none => s)

/-- A cluster that a self-test finds faulty (R405). -/
def State.diagMark (s : State) (cid : Nat) : State := (s.markFailed cid 1).isolate cid

/-- What a completed test leaves (Table 18-4). -/
def State.testLeaves (s : State) : State :=
  let s := if s.tests 5 then { s with hbm := { s.hbm with mem := [], open_ := [] } } else s
  if s.tests 7 then { s with hub := { s.hub with sramOpen := [] } } else s

/-- DIAG_TEST_DONE (R411, R412): the test completes with PASS or with FAIL and the detail of Table 18-4; `failed` are the clusters found
faulty. The module enters STANDBY. -/
def execDiagTestDone (detail : Option (BitVec 28)) (failed : List (Die × Pc)) (s : State) : Out :=
  if s.mode ≠ mDiag || s.run.moving.isSome || s.clockWait then .next s
  else
    let s := s.testLeaves.setObj O.DIAG_RESULT (match detail with | none => 0x10000000 | some d => 0x20000000 + d.toNat)
    let s := failed.foldl (fun s c => s.diagMark (cidOf c.1 c.2)) s
    .next (s.setMode mStandby)

end Sys2Proof.Machine
end

