-- ==== Sys2Proof/Machine/Dict.lean ====
section
/-!
DEFINITION. The object dictionary as its masters reach it (17, 18): what every object reads as, what a write to it does, and the commands
that are accesses with a row of their own.
-/

namespace Sys2Proof.Machine

/-! ### ERROR_REGISTER and the error list (R394, R415, Table 17-12) -/

/-- ERROR_REGISTER (0x1001): bit 0 follows the acknowledgements; bits 4 and 7 are held. -/
def State.errorRegister (s : State) : Nat :=
  (decide (s.obj O.FAULT_ACKED < s.obj O.FAULT_TOTAL)).toNat + (s.obj O.ERROR_REGISTER &&& 0x90)

/-- A change after which the whole error register comes to read 0 sends EMCY code 0x0000 (R394). -/
def State.errorSettles (old new : State) : State :=
  if old.errorRegister ≠ 0 && new.errorRegister = 0 then new.emcy 0 0 else new

/-- Bits 4 and 7 of ERROR_REGISTER cleared, as its read does. -/
def State.clearErrorBits (s : State) : State := s.errorSettles (s.setObj O.ERROR_REGISTER 0)

/-! ### Clusters (R405–R410) -/

/-- A cluster selector that names a cluster (R407). -/
def selectorOk (v : Nat) : Bool := v / 1024 == 0 && ! v.testBit 7 && v % 128 < 68

/-- The cluster that a selector names. -/
def selectorCid (v : Nat) : Nat := cidOf (v / 256 % 4) (v % 128)

/-- FAIL_SET (R405, R407). -/
def writeFailSet (v : Nat) (s : State) : State × Nat :=
  if ! selectorOk v then (s, eRange)
  else if ! (s.mode == mStandby || s.held) then (s, eMode)
  else
    let cid := selectorCid v
    if (s.cl cid).mark ≠ 0 then (s, eNone)
    else
      let s := s.markFailed cid 6
      (if (s.lcOf cid).isNone then s.isolate cid else s, eNone)

/-- FAIL_CLEAR (R407, R408). -/
def writeFailClear (v : Nat) (s : State) : State × Nat :=
  if ! selectorOk v then (s, eRange)
  else if ! (s.mode == mStandby || s.held) then (s, eMode)
  else (s.setCl (selectorCid v) { s.cl (selectorCid v) with mark := 0 }, eNone)

/-- FAIL_SET. -/
def execFailSet (m : Master) (v : BitVec 16) (s : State) : Out := s.write m O.FAIL_SET v.toNat (writeFailSet v.toNat)
/-- FAIL_CLEAR. -/
def execFailClear (m : Master) (v : BitVec 16) (s : State) : Out := s.write m O.FAIL_CLEAR v.toNat (writeFailClear v.toNat)

/-- The healthy unbound spares of a die. -/
def State.sparesOf (s : State) (d : Nat) : Nat :=
  ([64, 65, 66, 67].filter fun p => (s.cl (cidOf d p)).mark == 0 && (s.lcOf (cidOf d p)).isNone).length

/-- SPARES_FREE (Table 18-5). -/
def State.sparesFree (s : State) : Nat := (List.range 4).foldl (fun n d => n + s.sparesOf d * 16 ^ d) 0

/-- The number of the 272 clusters that satisfy `f`. -/
def countClusters (f : Nat → Bool) : Nat := ((List.range 272).filter f).length

/-- DOMAINS_ON (Table 19-4): 34 domains are powered in every powered mode, 48 more outside STANDBY, and the clusters that are awake. What a
self-test powers is left open. -/
def State.domainsOn (s : State) : Nat :=
  if s.mode = mStandby then 34
  else if s.mode = mOff || s.mode = mDiag then Config.freeNat s.fresh % 352
  else 34 + 45 + countClusters fun c => s.port c == 0

/-! ### Fault records (R413–R415, Table 23-3) -/

/-- A fault record as its 64 bytes. -/
def FaultRec.bytes (r : FaultRec) : List Byte :=
  leBytes 4 r.number ++ leBytes 1 r.code ++ leBytes 1 r.cls ++ leBytes 2 r.flags ++ leBytes 8 r.dc ++ leBytes 8 r.time
    ++ leBytes 1 r.mode ++ leBytes 1 r.die ++ leBytes 1 r.pc ++ leBytes 1 r.lc ++ leBytes 2 r.step ++ leBytes 2 0
    ++ leBytes 8 r.d0 ++ leBytes 8 r.d1 ++ leBytes 8 r.d2 ++ leBytes 8 0

/-- FAULT_SEL (R414): a record latched whole. While there is none, 0 selects none. -/
def writeFaultSel (v : Nat) (s : State) : State × Nat :=
  if v = 0 && s.obj O.FAULT_TOTAL = 0 then (s.setObjs [(O.FAULT_SEL, 0), (O.FAULT_LATCHED, 0)], eNone)
  else match s.faults.ring.find? fun r => r.number == v with
  | none => (s, eRange)
  | some r =>
    if v < s.obj O.FAULT_OLDEST || s.obj O.FAULT_TOTAL < v then (s, eRange)
    else (State.setObjs { s with faults := { s.faults with latch := r } } [(O.FAULT_SEL, v), (O.FAULT_LATCHED, v)], eNone)

/-- FAULT_ACK (R415). -/
def writeFaultAck (v : Nat) (s : State) : State × Nat :=
  if s.obj O.FAULT_TOTAL < v then (s, eRange)
  else if v ≤ s.obj O.FAULT_ACKED then (s, eNone)
  else (s.errorSettles (s.setObj O.FAULT_ACKED v), eNone)

/-- FAULT_SEL. -/
def execFaultSel (m : Master) (v : BitVec 32) (s : State) : Out := s.write m O.FAULT_SEL v.toNat (writeFaultSel v.toNat)
/-- FAULT_ACK. -/
def execFaultAck (m : Master) (v : BitVec 32) (s : State) : Out := s.write m O.FAULT_ACK v.toNat (writeFaultAck v.toNat)

/-! ### Cores and threads (R288, R299) -/

/-- CORE_RUN (R288): rising bits release cores, falling bits put them in reset. In STANDBY, LOAD and DIAG the object stays 0. -/
def writeCoreRun (v : Nat) (s : State) : State × Nat :=
  if s.mode = mStandby || s.mode = mLoad || s.mode = mDiag then (s, eNone)
  else
    let old := s.obj O.CORE_RUN
    let s := s.setObj O.CORE_RUN v
    ((List.range 32).foldl (fun s c =>
      if v.testBit c && ! old.testBit c then s.releaseCore c
      else if ! v.testBit c && old.testBit c then s.resetCore c 0
      else s) s, eNone)

/-- CORE_RUN. -/
def execCoreRun (m : Master) (v : BitVec 32) (s : State) : Out := s.write m O.CORE_RUN v.toNat (writeCoreRun v.toNat)

/-- The home that a host START gives a FREE context: the boot thread's own core, else that of SCHED. -/
def State.startHome (s : State) (t : Nat) : Nat := if t % 512 = 0 then t / 512 else (s.thread t).home

/-- A host START meets a FREE context whose slot the host has written. -/
def State.startsFree (s : State) (t : Nat) : Bool := (s.thread t).st == 0 && (s.thread t).written

/-- A START of a FREE context whose home core is in reset or homes 512 contexts: its result is unpredictable (R303). -/
def State.startUnchecked (s : State) : Bool :=
  let t := s.obj O.THREAD_SEL
  s.startsFree t && (s.obj (O.CORE_STATE (s.startHome t)) != 1 || decide ((s.homed (s.startHome t)).length ≥ 512))

/-- THREAD_CMD (0x3640.0A): 1 STOP, 2 START. -/
def writeThreadCmd (v : Nat) (s : State) : State × Nat :=
  let t := s.obj O.THREAD_SEL
  if v = 1 then
    let r := s.stopThread none t
    (r.1.setObj O.THREAD_CMD_RESULT r.2, eNone)
  else if v = 2 then
    if s.startsFree t then
      let s := if s.startUnchecked then s.astray else s
      let s := s.setThread t { s.thread t with home := s.startHome t, wake := 3, written := false }
      ((s.makeReady t false).setObj O.THREAD_CMD_RESULT 0, eNone)
    else
      let r := s.startThread t
      (r.1.setObj O.THREAD_CMD_RESULT r.2, eNone)
  else (s, eRange)

/-- THREAD_CMD_STOP. -/
def execThreadCmdStop (m : Master) (s : State) : Out := s.write m O.THREAD_CMD 1 (writeThreadCmd 1)

/-- THREAD_CMD_START. -/
def execThreadCmdStart (m : Master) (s : State) : Out := s.write m O.THREAD_CMD 2 (writeThreadCmd 2)

/-- Bits ORed into a context's flags (R295, R299, R381). -/
def State.orFlags (s : State) (t v : Nat) : State :=
  (List.range 32).foldl (fun s f => if v.testBit f then s.flagArrives t f else s) s

/-- THREAD_FLAGS_SET (0x3640.08). -/
def writeFlagsSet (v : Nat) (s : State) : State × Nat := (s.orFlags (s.obj O.THREAD_SEL) v, eNone)

/-- THREAD_FLAGS_SET. -/
def execThreadFlagsSet (m : Master) (v : BitVec 32) (s : State) : Out := s.write m O.THREAD_FLAGS_SET v.toNat (writeFlagsSet v.toNat)

/-- SCHED of a context (Table 13-1). -/
def Thread.sched (th : Thread) : Nat :=
  th.st + 8 * th.prio + 256 * th.home + 8192 * th.all.toNat + 16384 * th.consume.toNat + 32768 * th.wake

/-! ### DMA channels, features, resets -/

/-- CH_CMD of channel `c` (R387): 1 run, 2 stop. A stop that meets a descriptor in progress abandons it. -/
def writeChCmd (c v : Nat) (s : State) : State × Nat :=
  if v = 1 then (s.setObj (O.CH_STATE c) 1, eNone)
  else if v = 2 then
    let busy := (tget (fun _ => none) s.host.dma c).isSome && s.obj (O.CH_STATE c) == 1
    let s := { s with host := { s.host with dma := tput (fun _ => none) s.host.dma c none } }
    (s.setObjs [(O.CH_STATE c, 2), (O.STOP_RESULT c, if busy then 1 else 2)], eNone)
  else (s, eRange)

/-- CH_CMD_RUN. -/
def execChCmdRun (m : Master) (ch : ChanIx) (s : State) : Out := s.write m (O.CH_CMD ch) 1 (writeChCmd ch 1)
/-- CH_CMD_STOP. -/
def execChCmdStop (m : Master) (ch : ChanIx) (s : State) : Out := s.write m (O.CH_CMD ch) 2 (writeChCmd ch 2)

/-- ACCEPTED (R388): word `i`; the written bits ANDed with OFFERED, bit 0 always 1. -/
def writeAccepted (i v : Nat) (s : State) : State × Nat :=
  if i = 0 then (s.setObj O.ACCEPTED_0 ((v &&& s.obj O.OFFERED_0) ||| 1), eNone)
  else (s.setObj (O.ACCEPTED_X (i - 1)) (v &&& s.obj (O.OFFERED_X (i - 1))), eNone)

/-- ACCEPTED_WRITE. -/
def execAcceptedWrite (m : Master) (i : Fin 4) (v : BitVec 64) (s : State) : Out :=
  s.write m (0x200005 + i) v.toNat (writeAccepted i v.toNat)

/-- RESET_CMD (0x3D00.01). -/
def writeResetCmd (v : Nat) (s : State) : State × Nat :=
  if v = 0x5A02 then (s.persistWrite.warmReset 2 true, eNone)
  else if v = 0x5A01 then (s.persistWrite.managementReset 2, eNone)
  else (s, eRange)

/-! ### Counters (R400) -/

/-- A counter or maximum object cleared. -/
def State.clearCounter (s : State) (k : Nat) : State :=
  if 0x242002 ≤ k && k ≤ 0x24200C then
    let cid := selectorCid (s.obj O.CTR_SEL)
    let c := s.cl cid
    s.setCl cid { c with counters := tput (fun _ => 0) c.counters (k - 0x242002) 0 }
  else s.setObj k 0

/-- An object that a write of any value clears. -/
def clearsOnWrite (k : Nat) : Bool := match rowOf k with | some r => r.clears | none => false

/-- COUNTER_CLEAR (R400). -/
def execCounterClear (m : Master) (key : BitVec 24) (s : State) : Out :=
  if clearsOnWrite key.toNat then s.write m key.toNat 0 fun s => (s.clearCounter key.toNat, eNone) else .next s

/-- ERROR_COUNT (0x1003.00): 0 clears the list (R394). -/
def writeErrorCount (v : Nat) (s : State) : State × Nat :=
  if v ≠ 0 then (s, eRange)
  else (s.setObjs ((O.ERROR_COUNT, 0) :: (List.range 16).map fun i => (O.ERROR_FIELD i, 0)), eNone)

/-- ERROR_COUNT_WRITE. -/
def execErrorCountWrite (m : Master) (v : Byte) (s : State) : Out := s.write m O.ERROR_COUNT v.toNat (writeErrorCount v.toNat)

/-! ### Every object -/

/-- A write to a WO object (R373). -/
def writeWo (m : Master) (k v : Nat) (s : State) : State × Nat :=
  if k = O.RUN_CMD then writeRunCmd m v s
  else if k = O.LOAD_CMD then (if v = 1 then s.loadOrder else if v = 2 then s.loadAbort else (s, eRange))
  else if k = O.CHECK then writeCheck v s
  else if k = O.COMMIT then writeCommit m v s
  else if k = O.COMMIT_AT_TIME then writeCommitAtTime m v s
  else if k = O.COMMIT_AT_DC then writeCommitAtDc m v s
  else if k = O.DISCARD then writeDiscard v s
  else if k = O.FAIL_SET then writeFailSet v s
  else if k = O.FAIL_CLEAR then writeFailClear v s
  else if k = O.AGE_PLAN then writeAgePlan v s
  else if k = O.TIME_SET then writeTimeSet v s
  else if k = O.REJOIN then writeRejoin v s
  else if k = O.REARM then writeRearm v s
  else if k = O.TRACE_CMD then writeTraceCmd v s
  else if k = O.THREAD_FLAGS_SET then writeFlagsSet v s
  else if k = O.THREAD_CMD then writeThreadCmd v s
  else if k = O.FAB_LOAD_CMD then
    (if v = 1 then s.fabLoadOrder else if v = 2 then s.fabAbortOrder else if v = 3 then s.fabUnconfigOrder else (s, eRange))
  else if 0x3A10 ≤ k / 256 && k / 256 ≤ 0x3A1F then writeChCmd (k / 256 - 0x3A10) v s
  else if k = O.DHALT then writeDhalt m v s
  else if k = O.FL_CMD then writeFlCmd m v s
  else if k = O.RESET_CMD then writeResetCmd v s
  else if k = O.LC_REQ then writeLcReq v s
  else if k = O.KEY_CMD then writeKeyCmd m v s
  else if k = O.FAULT_ACK then writeFaultAck v s
  else if k = O.REMAP_LC then writeRemapLc v s
  else (s.setObj k v, eNone)

/-- MT_FAIL_DC or MT_FAIL_CHANNEL written: 0 clears it, and the next violation is again its first. -/
def State.writeMtFirst (s : State) (k v bit : Nat) : State :=
  let s := s.setObj k v
  if v = 0 then { s with trig := { s.trig with mtHeld := setBit s.trig.mtHeld bit false } } else s

/-- A value that an RW object refuses with RANGE though its row's bounds hold it. -/
def rangeBad (k v : Nat) : Bool :=
  ! inRange k v
    || (k == O.STEP_COUNT && v == 0)
    || ((k == O.IMAGE_HOST_ADDR || k == O.FAB_HOST_ADDR) && v % 64 != 0)
    || ((k / 256 == 0x2121 || k / 256 == 0x2122) && v > 1023 && v != 0xFFFF)
    || (k == O.CTR_SEL && ! selectorOk v)
    || (0x3A10 ≤ k / 256 && k / 256 ≤ 0x3A1F && k % 256 == 1 && v % 32 != 0)
    || (0x3A10 ≤ k / 256 && k / 256 ≤ 0x3A1F && k % 256 == 2 && ! (List.range 13).any fun n => v == 2 ^ n)

/-- An RW object that the present mode or state does not let be written. -/
def State.rwModeBad (s : State) (k : Nat) : Bool :=
  (k == O.STATE_VALID && ! s.held)
    || (0x3A10 ≤ k / 256 && k / 256 ≤ 0x3A1F && k % 256 == 2
        && ! (s.obj (O.CH_STATE (k / 256 - 0x3A10)) == 0 || s.obj (O.CH_STATE (k / 256 - 0x3A10)) == 2))

/-- A write to an RW object. -/
def writeRw (k v : Nat) (s : State) : State × Nat :=
  if k = O.ERROR_COUNT then writeErrorCount v s
  else if k = O.ACCEPTED_0 then writeAccepted 0 v s
  else if 0x200006 ≤ k && k ≤ 0x200008 then writeAccepted (k - 0x200005) v s
  else if k = O.CORE_RUN then writeCoreRun v s
  else if k = O.FAULT_SEL then writeFaultSel v s
  else if k = O.INCREMENT then writeIncrement v s
  else if s.rwModeBad k then (s, eMode)
  else if rangeBad k v then (s, eRange)
  else if k = O.PRIORITY then writePriority v s
  else if k = O.SAFE_FORCE then s.writeSafeForce v
  else if k = O.PPS_CTRL then ((s.setObj k (v &&& definedBits k v)).ppsShown, eNone)
  else if k = O.MT_FAIL_DC then (s.writeMtFirst k v 0, eNone)
  else if k = O.MT_FAIL_CHANNEL then (s.writeMtFirst k v 1, eNone)
  else if k = O.MT_WR && v ≥ max 1 (s.obj O.MT_RECORDS) then (s, eRange)
  else (s.setObj k (v &&& definedBits k v), eNone)

/-- A write of RD past WR or backwards (R345), or of MT_WR past MT_RD (R327), which the module does not detect. -/
def State.ringUnchecked (s : State) (k v : Nat) : Bool :=
  if k = O.RD then v < s.obj O.RD || s.obj O.WR < v
  else if k = O.MT_WR then
    let n := s.obj O.MT_RECORDS
    let gap (x : Nat) : Nat := (x + n - s.obj O.MT_WR % (n + 1)) % (n + 1)
    decide (v < n) && decide (gap (s.obj O.MT_RD) ≠ 0) && decide (gap v > gap (s.obj O.MT_RD))
  else false

/-- A write to any object (R372–R374): the state and the code of Table 17-3. One to an object that the dictionary does not declare has an
unpredictable result (R396). -/
def writeObj (m : Master) (k v : Nat) (s : State) : State × Nat :=
  match rowOf k with
  | none => (s.astray, eNone)
  | some r =>
    let v := v % 2 ^ r.width
    match r.acc with
    | .const => (s, eReadOnly)
    | .ro => (s, eReadOnly)
    | .rws => writeShadow k v s
    | .wo => writeWo m k v s
    | .rw =>
      if r.clears then (s.clearCounter k, eNone)
      else if listKey k then writeShadow k v s
      else if s.ringUnchecked k v then writeRw k v s.astray
      else writeRw k v s

/-- The outcome of a write by a master to any object. -/
def State.writeAny (s : State) (m : Master) (k v : Nat) : Out := s.write m k v (writeObj m k v)

/-- The length of a PCIe write that R376 allows: 2 DW, or 1 DW where the object has at most 32 bits. Of an undeclared object the rule
says nothing. -/
def lengthFits (k bytes : Nat) : Bool := bytes == 8 || (bytes == 4 && (widthOf k ≤ 32 || (rowOf k).isNone))

/-- REGISTER_WRITE (R373, R376): `bytes` is the length of a PCIe access. In SCRAPPED every write is DENIED, whatever its length (R487). -/
def execRegisterWrite (m : Master) (key : BitVec 24) (v : BitVec 64) (bytes : Fin 16) (s : State) : Out :=
  let k := key.toNat
  if m == .pcie && ! lengthFits k bytes.val && ! s.engineStopped && s.gate k true != eDenied then .next (s.refuse m k eSize)
  else s.writeAny m k v.toNat

/-! ### Reads -/

/-- A word of the latched fault record. -/
def State.faultWord (s : State) (i : Nat) : Nat := if s.obj O.FAULT_LATCHED = 0 then 0 else leNat ((s.faults.latch.bytes.drop (8 * i)).take 8)

/-- What an object that is not simply held reads as, by index. -/
def State.viewObj (s : State) (k : Nat) : Option Nat :=
  let i := k / 256
  let n := k % 256
  if n = 0 && i ≠ 0x1001 && i ≠ 0x1003 then none
  else if k = O.ERROR_REGISTER then some s.errorRegister
  else if k = O.REVISION then some (s.obj O.STEPPING)
  else if k = O.CIA_SERIAL then some (s.obj O.ID_SERIAL % 2 ^ 32)
  else if k = O.SDO_RX_COB then some (0x600 + s.nodeId)
  else if k = O.SDO_TX_COB then some (0x580 + s.nodeId)
  else if i = 0x2030 then some (s.lat n)
  else if k = O.MODE then some s.mode
  else if k = O.SPARES_FREE then some s.sparesFree
  else if k = O.FAILED_COUNT then some (countClusters fun c => (s.cl c).mark != 0)
  else if k = O.ISOLATED_COUNT then some (countClusters fun c => s.port c == 3)
  else if 0x2401 ≤ i && i ≤ 0x2404 then some (s.statusWord (cidOf (i - 0x2401) (n - 1)))
  else if 0x242002 ≤ k && k ≤ 0x24200C then some (tget (fun _ => 0) (s.cl (selectorCid (s.obj O.CTR_SEL))).counters (k - 0x242002))
  else if k = O.DOMAINS_ON then some s.domainsOn
  else if k = O.TIME_NS then some s.nowNs
  else if k = O.TIME_FRAC then some (s.tb.latch % 2 ^ 32)
  else if i = 0x3290 then some (tget (fun _ => 0) s.trig.seen (n - 1))
  else if i = 0x3291 then some (tget (fun _ => 0) s.trig.seen (127 + n))
  else if k = O.CORE_RUN then some (if s.mode = mStandby || s.mode = mLoad || s.mode = mDiag then 0 else s.obj k)
  else if 0x3610 ≤ i && i ≤ 0x362F && n = 2 then
    some (if s.obj k = 1 && (s.core (i - 0x3610)).halted then 2 else s.obj k)
  else if k = O.THREAD_INFO then
    some ((s.thread (s.obj O.THREAD_SEL)).flags * 2 ^ 32 + (s.thread (s.obj O.THREAD_SEL)).sched % 2 ^ 32)
  else if k = O.THREAD_MASK then some (s.thread (s.obj O.THREAD_SEL)).mask
  else if k = O.DEBUG_LEVEL then some s.portOpen.toNat
  else if k = O.LC_NONCE then some s.nonce
  else if i = 0x4000 && 4 ≤ n && n ≤ 11 then some (s.faultWord (n - 4))
  else none

/-- What an object reads as (Table 17-2): a WO object 0. What an undeclared one reads as is left open (R396). -/
def State.readObj (s : State) (k : Nat) : Nat :=
  match rowOf k with
  | none => Config.freeNat s.fresh % 2 ^ 64
  | some r => if r.acc = .wo then 0 else (s.viewObj k).getD (s.obj k)

/-- The side effect of a consuming read (Table 21-5). -/
def State.consumeObj (s : State) (k : Nat) : State :=
  if (rowOf k).isNone then s.astray
  else if O.ACCESS_ERR 0 ≤ k && k ≤ O.ACCESS_ERR 3 then s.setObj k 0
  else if k = O.ERROR_REGISTER then s.clearErrorBits
  else if k = O.TIME_NS then { s with tb := { s.tb with latch := s.tb.counter } }
  else s

/-- A read by a master whose side effect happens. -/
def State.readBy (s : State) (m : Master) (k : Nat) : State :=
  if s.engineStopped then s.readStopped m k
  else
    let g := s.gate k false
    if g ≠ eNone then s.refuse m k g else (s.consumeObj k).emit (.value m k (s.readObj k))

/-- ACCESS_ERR_READ (R374): object `i` of ACCESS_ERR_PCIE, _CAN, _DBG, _FW. -/
def execAccessErrRead (m : Master) (i : Fin 4) (s : State) : Out := .next (s.readBy m (O.ACCESS_ERR i))

/-- ERROR_REGISTER_READ (R394). -/
def execErrorRegisterRead (m : Master) (s : State) : Out := .next (s.readBy m O.ERROR_REGISTER)

end Sys2Proof.Machine
end

