-- ==== Sys2Proof/Machine/Bus.lean ====
section
/-!
DEFINITION. The system bus that BAR2, DMA and the debug port share (Table 17-6, Table 21-4): its regions, what a read of one returns and what
a write to one does.
-/

namespace Sys2Proof.Machine

/-! ### The map -/

/-- A place on the system bus. `locks`, `flash` and `page` are the debug port's alone (Table 21-4). -/
inductive BusPlace where
  | hbm (a : Nat)
  | node (die lc a : Nat)
  | shared (a : Nat)
  | local_ (core a : Nat)
  | context (a : Nat)
  | xport (a : Nat)
  | locks (a : Nat)
  | flash (a : Nat)
  | page (a : Nat)
  | reserved
  | outside
deriving DecidableEq, Repr

/-- The place of a BAR2 offset (Table 17-6); `debug` adds Table 21-4. -/
def busPlace (debug : Bool) (o : Nat) : BusPlace :=
  if o < 0x1800000000 then .hbm o
  else if o < 0x1C00000000 then
    let b := o - 0x1800000000
    .node (b / 2 ^ 32) (b / 2 ^ 26 % 64) (b % 2 ^ 26)
  else if o < 0x1C08000000 then .shared (o - 0x1C00000000)
  else if o < 0x1C0C000000 then .local_ ((o - 0x1C08000000) / 2 ^ 21) ((o - 0x1C08000000) % 2 ^ 21)
  else if o < 0x1C0C800000 then .context (o - 0x1C0C000000)
  else if 0x1C0D000000 ≤ o && o < 0x1C0D100000 then .xport (o - 0x1C0D000000)
  else if debug && 0x1C0E000000 ≤ o && o < 0x1C0E000800 then .locks (o - 0x1C0E000000)
  else if debug && 0x1C10000000 ≤ o && o < 0x1C10800000 then .flash (o - 0x1C10000000)
  else if debug && 0x1C10800000 ≤ o && o < 0x1C10800100 then .page (o - 0x1C10800000)
  else if o < 0x2000000000 then .reserved
  else .outside

/-! ### Stores of equal records -/

/-- The records of `size` bytes that [a, a + n) touches. -/
def recordsOf (size a n : Nat) : List Nat := (List.range ((a + n + size - 1) / size - a / size)).map fun i => a / size + i

/-- [a, a + n) of a store of records, each seen as `size` bytes. -/
def viewRead (size : Nat) (view : Nat → List Byte) (a n : Nat) : List Byte :=
  (((recordsOf size a n).flatMap view).drop (a % size)).take n

/-- A record's bytes with the part of `data`, written from address `a`, that falls into it. -/
def overlay (size i : Nat) (old : List Byte) (a : Nat) (data : List Byte) : List Byte :=
  let lo := max a (i * size)
  let hi := min (a + data.length) (i * size + size)
  old.take (lo - i * size) ++ (data.drop (lo - a)).take (hi - lo) ++ old.drop (hi - i * size)

/-! ### Context slots (Table 13-1) -/

/-- TSTAT (Table 13-3). -/
def Thread.tstat (th : Thread) : Nat := th.result + 16 * th.wake + 256 * th.status + 65536 * th.outstanding

/-- A context slot as its 512 bytes. -/
def Thread.bytes (th : Thread) : List Byte :=
  ((List.range 31).flatMap fun r => leBytes 8 (tget (fun _ => 0) th.ctx.x (r + 1)))
    ++ leBytes 8 th.ctx.pc ++ leBytes 8 th.ctx.mstatus ++ leBytes 8 th.ctx.mepc ++ leBytes 8 th.ctx.mcause ++ leBytes 8 th.ctx.mtval
    ++ leBytes 8 th.ctx.mscratch ++ leBytes 8 th.ctx.mie ++ leBytes 8 th.ctx.mtvec
    ++ leBytes 4 th.flags ++ leBytes 4 th.mask ++ leBytes 8 th.timeout ++ leBytes 8 th.sched ++ leBytes 8 th.tstat ++ List.replicate 168 0

/-- A context with the writable part of its slot (0x000–0x147) taken from 512 bytes. -/
def Thread.setBytes (th : Thread) (b : List Byte) : Thread :=
  let at8 (off : Nat) : Nat := leNat ((b.drop off).take 8)
  let at4 (off : Nat) : Nat := leNat ((b.drop off).take 4)
  { th with
    ctx := { th.ctx with
      x := (List.range 31).foldl (fun t r => tput (fun _ => 0) t (r + 1) (at8 (8 * r))) []
      pc := at8 0xF8, mstatus := at8 0x100, mepc := at8 0x108, mcause := at8 0x110, mtval := at8 0x118, mscratch := at8 0x120
      mie := at8 0x128, mtvec := at8 0x130 }
    flags := at4 0x138, mask := at4 0x13C, timeout := at8 0x140, written := true }

/-- A write touches the writable part of slot `i`. -/
def touchesSlot (a n i : Nat) : Bool := a < 512 * i + 0x148 && 512 * i < a + n

/-- A write by the host to the context store. Of a context that is not FREE or STOPPED the result is unpredictable (R303). -/
def State.writeSlots (s : State) (a : Nat) (data : List Byte) : State :=
  (recordsOf 512 a data.length).foldl (fun s i =>
    let th := s.thread i
    if ! touchesSlot a data.length i then s
    else if th.st != 0 && th.st != 4 then (s.setThread i (th.setBytes (freeBytes s.fresh 0 512))).astray
    else s.setThread i (th.setBytes (overlay 512 i th.bytes a data))) s

/-! ### XPORTs (Table 12-2) -/

/-- An XPORT's registers as the host sees them, without a core's latch (R377). What POST reads as is left open. -/
def State.xportBytes (s : State) (x : Nat) : List Byte :=
  let p := s.xport x
  leBytes 64 p.stage ++ leBytes 64 p.out ++ leBytes 8 p.xctl ++ leBytes 8 p.xstat ++ leBytes 8 (Config.freeNat s.fresh) ++ leBytes 8 s.hub.outDc
    ++ leBytes 8 p.inDc ++ List.replicate 88 0

/-- A host store reaches only XCTL (R276). -/
def State.writeXports (s : State) (a : Nat) (data : List Byte) : State :=
  (recordsOf 256 a data.length).foldl (fun s x =>
    let v := leNat (((overlay 256 x (s.xportBytes x) a data).drop 0x80).take 8)
    s.setXport x { s.xport x with xctl := xctlOf v }) s

/-! ### Reads and writes of everything but cluster nodes -/

/-- The system region of HBM (Table 06-5), which FIELD-LOCKED keeps from being read (R476). -/
def systemBase : Nat := 0x1600000000

/-- HBM read whole, as DMA reads it: FIELD-LOCKED and bad words answer an error (R476, R498). -/
def State.busHbmRead (s : State) (a n : Nat) : State × Nat × List Byte :=
  if s.obj O.LC_STATE = 3 && a + n > systemBase then (s, stDenied, [])
  else match s.firstBad a n with
    | some b => (s.hbmBad b, stEcc, [])
    | none => (s, stOk, s.hbmRead a n)

/-- A value that a core load of a lock would return (R273), without acquiring it. -/
def State.lockValue (s : State) (n : Nat) : Nat := match s.lockOwner n with | none => 0 | some o => 2 ^ 63 + o

/-- A read of a place that answers at once: the status of Table 05-9 and the bytes. -/
def State.busRead (s : State) (p : BusPlace) (n : Nat) : State × Nat × List Byte :=
  match p with
  | .hbm a => s.busHbmRead a n
  | .node .. => (s, stUnmapped, [])
  | .shared a => (s, stOk, (List.range n).map fun i => s.sramByte 0 (0x1000000 + a + i))
  | .local_ c a => (s, stOk, (List.range n).map fun i => s.sramByte c (a + i))
  | .context a => (s, stOk, viewRead 512 (fun t => (s.thread t).bytes) a n)
  | .xport a => (if (recordsOf 256 a n).any fun x => a < 256 * x + 0x98 && 256 * x + 0x90 < a + n then s.draw else s, stOk,
      viewRead 256 s.xportBytes a n)
  | .locks a => (s, stOk, viewRead 8 (fun i => leBytes 8 (s.lockValue i)) a n)
  | .flash a => (s, stOk, flashRead s.flash a n)
  | .page a => (s, stOk, mread s.tap.page a n)
  | .reserved => (s, stOk, List.replicate n 0)
  | .outside => (s, stUnmapped, [])

/-- HBM written whole, as DMA writes it: the Quarry only in READY and HOLD (R149). -/
def State.busHbmWrite (s : State) (a : Nat) (data : List Byte) : State × Nat :=
  if ! s.hbmWritable a || ! s.hbmWritable (a + data.length - 1) then (s, stBusyMode) else (s.hbmStore a data, stOk)

/-- A write to a place that answers at once: the status of Table 05-9. -/
def State.busWrite (s : State) (p : BusPlace) (data : List Byte) : State × Nat :=
  match p with
  | .hbm a => s.busHbmWrite a data
  | .node .. => (s, stUnmapped)
  | .shared a => (s.sramPut 0 (0x1000000 + a) data none, stOk)
  | .local_ c a => (s.sramPut c a data none, stOk)
  | .context a => (s.writeSlots a data, stOk)
  | .xport a => (s.writeXports a data, stOk)
  | .locks a => ((recordsOf 8 a data.length).foldl (fun s i => s.setLock i none) s, stOk)
  | .flash _ => (s, stDenied)
  | .page a => ({ s with tap := { s.tap with page := mwrite s.tap.page a data } }, stOk)
  | .reserved => (s, stOk)
  | .outside => (s, stUnmapped)

/-! ### Cluster nodes and HBM (R168, R378) -/

/-- The physical cluster bound to a logical cluster of a die. -/
def State.pcOf (s : State) (die lc : Nat) : Option Nat := (s.bound.find? fun b => b.1 == die && b.2.1 == lc).map fun b => b.2.2

/-- [a, a + n) cut into the packets of a system-bus access, at multiples of 256 bytes (R118, R141). -/
def busPieces : Nat → Nat → Nat → List (Nat × Nat)
  | 0, _, _ => []
  | _, _, 0 => []
  | fuel + 1, a, n =>
    let m := min n (256 - a % 256)
    (a, m) :: busPieces fuel (a + m) (n - m)

/-- The die, node and address to which a place's packets go (R378): a cluster's, or those of HBM, whose controller each packet's address
chooses. -/
def State.packetPlace (s : State) : BusPlace → Option (Nat × Nat × Nat)
  | .hbm a => some (4, 0, a)
  | .node die lc a => (s.pcOf die lc).map fun pc => (die, pc, a)
  | _ => none

/-- A system-bus access to a cluster node or to HBM, in packets; `data` is empty for a read. -/
def State.busNode (s : State) (who : BusWho) (off : Nat) (dst : Nat × Nat × Nat) (n : Nat) (data : List Byte) : State :=
  let a := dst.2.2
  (busPieces (n + 1) a n).foldl (fun s e =>
    s.busSend dst.1 (if dst.1 < 4 then dst.2.1 else field e.1 8 2) e.1 ⟨who, off + (e.1 - a), e.2, (data.drop (e.1 - a)).take e.2⟩) s

end Sys2Proof.Machine
end

