-- ==== Sys2Proof/Machine/Host.lean ====
section
/-!
DEFINITION. The host computer's side (17): BAR2, doorbells, DMA channels, the resets of the PCIe function, the CAN FD controller with its
CANopen services, and the end of CLOCK-WAIT, which releases what the endpoint has held.
-/

namespace Sys2Proof.Machine

/-! ### BAR2 (R377, R378, R380, R451) -/

/-- The endpoint takes accesses: PERST_N is high (R447). -/
def State.endpointUp (s : State) : Bool := s.host.perstHigh

/-- Boot is complete: until then BAR2 reads all ones and discards writes (R451). -/
def State.booted (s : State) : Bool := s.obj O.BOOT_STATE == 6

/-- A BAR2 access as a PCIe request can name it: 1–4,096 bytes within the BAR that cross no 4 KiB boundary. -/
def busShapely (off n : Nat) : Bool := 1 ≤ n && off % 4096 + n ≤ 4096 && off + n ≤ 2 ^ 37

/-- A BAR2 read completed at once. -/
def State.bar2Answer (s : State) (off n tag status : Nat) (data : List Byte) : State :=
  if status = stOk then s.emit (.completion tag data)
  else (s.bar2Error off status).emit (.completion tag (List.replicate n 0xFF))

/-- BAR2_READ (R377, R378): `n` bytes at an offset, under a PCIe tag that no other read holds. -/
def execBar2Read (off : BitVec 37) (n : Fin 4097) (tag : Fin 1024) (s : State) : Out :=
  let o := off.toNat
  if ! s.endpointUp || ! busShapely o n || (tget (fun _ => none) s.host.reads tag).isSome then .next s
  else if ! s.booted then .next (s.emit (.completion tag (List.replicate n 0xFF)))
  else if s.clockWait then .next { s with host := { s.host with waitReads := s.host.waitReads ++ [.bar2 tag n] } }
  else
    let p := busPlace false o
    match s.packetPlace p with
    | some dst =>
      let r : BusRead := ⟨o, n, (busPieces (n + 1) dst.2.2 n).length, [], none⟩
      let s := { s with host := { s.host with reads := tput (fun _ => none) s.host.reads tag (some r) } }
      .next (s.busNode (.hostRead tag) o dst n [])
    | none =>
      let r := s.busRead p n
      .next (r.1.bar2Answer o n tag r.2.1 r.2.2)

/-- A BAR2 write as its region serves it. -/
def State.bar2Write (s : State) (o : Nat) (data : List Byte) : State :=
  let p := busPlace false o
  match s.packetPlace p with
  | some dst => s.busNode .hostWrite o dst data.length data
  | none =>
    let r := s.busWrite p data
    if r.2 = stOk then r.1 else r.1.bar2Error o r.2

/-- A write that the endpoint holds while a clock stands still, or discards beyond 64 (R380). -/
def State.holdWrite (s : State) (w : HeldWrite) : State :=
  if s.run.heldWrites.length < 64 then { s with run := { s.run with heldWrites := s.run.heldWrites ++ [w] } }
  else s.bump O.CW_DROPPED 1

/-- BAR2_WRITE (R377, R378). -/
def execBar2Write (off : BitVec 37) (data : List Byte) (s : State) : Out :=
  if ! s.endpointUp || ! busShapely off.toNat data.length || ! s.booted then .next s
  else if s.clockWait then .next (s.holdWrite (.bar2 off.toNat data))
  else .next (s.bar2Write off.toNat data)

/-- COMPLETION_TIMEOUT (R378): 1.9 ms after a BAR2 read its response has not arrived. Its response tags stay outstanding. -/
def execCompletionTimeout (tag : Fin 1024) (s : State) : Out :=
  match tget (fun _ => none) s.host.reads tag with
  | none => .next s
  | some r => .next ((s.orphan (· == .hostRead tag)).readDone tag { r with bad := some stTimeout })

/-- CW_READ_TIMEOUT (R380): the oldest read that met a stopped clock completes with all ones. -/
def execCwReadTimeout (s : State) : Out :=
  match s.host.waitReads with
  | [] => .next s
  | r :: rest =>
    let s := State.bump { s with host := { s.host with waitReads := rest } } O.CW_READS 1
    match r with
    | .obj k => .next (s.emit (.value .pcie k (2 ^ widthOf k - 1)))
    | .bar2 tag n => .next (s.emit (.completion tag (List.replicate n 0xFF)))

/-! ### Doorbells (R381, R382) -/

/-- The dictionary position that a BAR0 offset has by R5, under which a refused doorbell is recorded. -/
def bar0Key (off : Nat) : Nat := off / 1024 * 256 + off % 1024 / 4

/-- A thread doorbell as the engine serves it. -/
def State.ringThread (s : State) (t v : Nat) : State :=
  let k := bar0Key (0x2000000 + 8 * t)
  if s.gate k true ≠ eNone then s.refuse .pcie k (s.gate k true)
  else if (s.obj O.ACCEPTED_0).testBit 2 then s.orFlags t (v % 2 ^ 32)
  else s.bump O.DB_DISCARDED 1

/-- THREAD_DOORBELL (R381): 4 or 8 bytes, of which the low 32 bits count. -/
def execThreadDoorbell (t : Tcx) (v : BitVec 64) (s : State) : Out :=
  if ! s.endpointUp then .next s
  else if s.engineStopped then .next (s.holdWrite (.thread t v.toNat))
  else .next (s.ringThread t v.toNat)

/-- A channel stops in ERROR (Table 17-7, Table 17-9). -/
def State.channelFails (s : State) (c code : Nat) : State :=
  let s := { s with host := { s.host with dma := tput (fun _ => none) s.host.dma c none } }
  (s.setObjs [(O.CH_STATE c, 3), (O.CH_ERR c, code)]).msix (16 + c)

/-- A DMA doorbell as it is served. -/
def State.ringDma (s : State) (c p : Nat) : State :=
  let k := bar0Key (0x2020000 + 64 * c)
  if s.gate k true ≠ eNone then s.refuse .pcie k (s.gate k true)
  else if (p + 65536 - s.obj (O.CONSUMER c)) % 65536 > s.obj (O.RING_ENTRIES c) then s.channelFails c 2
  else s.setObj (O.PRODUCER c) p

/-- DMA_DOORBELL (R382). -/
def execDmaDoorbell (ch : ChanIx) (p : BitVec 16) (s : State) : Out :=
  if ! s.endpointUp then .next s
  else if s.engineStopped then .next (s.holdWrite (.dma ch p.toNat))
  else .next (s.ringDma ch p.toNat)

/-! ### Resets of the PCIe function (R379, R447) -/

/-- The objects of the DMA channels. -/
def channelObj (k : Nat) : Bool := 0x3A1000 ≤ k && k < 0x3A2000

/-- What a reset of the PCIe function clears: vectors, channels, the accepted feature set, and every access in progress. -/
def State.functionReset (s : State) : State :=
  let s := s.orphan fun w => match w with | .hostRead _ => true | _ => false
  let s := { s with
    dict := s.dict.filter fun (e : Nat × Nat) => ! channelObj e.1
    vecPending := [], vecMasked := []
    run := { s.run with heldWrites := [] }
    host := { s.host with dma := [], reads := [], waitReads := [] } }
  s.setObjs ([(O.ACCEPTED_0, 1)] ++ (List.range 3).map fun i => (O.ACCEPTED_X i, 0))

/-- FLR (R379): a function-level or hot reset. -/
def execFlr (s : State) : Out := if s.endpointUp then .next s.functionReset else .next s

/-- A link as Table 17-4 lets it train: speed 1–5 and width x1, x2, x4 or x8. -/
def linkShape (speed width : Nat) : Bool := 1 ≤ speed && speed ≤ 5 && (width == 1 || width == 2 || width == 4 || width == 8)

/-- PERST_N (R447): low resets the endpoint and holds its link down; high, the link comes up as trained, once the PCIe PLL is stable. -/
def execPerstN (high : Bool) (speed : BitVec 4) (width : BitVec 6) (s : State) : Out :=
  if high then
    let s := { s with host := { s.host with perstHigh := true } }
    if s.objBit O.PLL_STATE 3 && linkShape speed.toNat width.toNat then .next (s.setObj O.LINK_STATUS (speed.toNat + 16 * width.toNat))
    else .next s
  else .next (State.setObj { s.functionReset with host := { s.functionReset.host with perstHigh := false } } O.LINK_STATUS 0)

/-! ### DMA (R385, R386) -/

def dmaHost (d : Nat) : Nat := field d 0 64
def dmaMod (d : Nat) : Nat := field d 64 64
def dmaBytes (d : Nat) : Nat := field d 128 32
def dmaOut (d : Nat) : Bool := d.testBit 160
def dmaIrq (d : Nat) : Bool := d.testBit 161
def dmaNotify (d : Nat) : Bool := d.testBit 162
def dmaFlag (d : Nat) : Nat := field d 163 5
def dmaTcx (d : Nat) : Nat := field d 168 14

/-- A descriptor that R385 lets move data. -/
def dmaShapely (d : Nat) : Bool :=
  dmaHost d % 4 == 0 && dmaMod d % 4 == 0 && dmaBytes d % 4 == 0 && 4 ≤ dmaBytes d && dmaBytes d ≤ 2 ^ 24
    && dmaMod d + dmaBytes d ≤ 2 ^ 37

/-- [a, a + n) cut at 4 KiB boundaries, within which one region of BAR2 lies. -/
def dmaPieces : Nat → Nat → Nat → List (Nat × Nat)
  | 0, _, _ => []
  | _, _, 0 => []
  | fuel + 1, a, n =>
    let m := min n (4096 - a % 4096)
    (a, m) :: dmaPieces fuel (a + m) (n - m)

/-- The pieces of a descriptor. -/
def dmaParts (d : Nat) : List (Nat × Nat) := dmaPieces (dmaBytes d / 4096 + 2) (dmaMod d) (dmaBytes d)

/-- The clusters that a range of BAR2 space reaches and that are asleep or waking (R125). -/
def State.dmaAsleep (s : State) (d : Nat) : List Nat :=
  (dmaParts d).filterMap fun e =>
    match busPlace false e.1 with
    | .node die lc _ => match s.pcOf die lc with
      | some pc => if s.port (cidOf die pc) = 1 || s.port (cidOf die pc) = 2 then some (cidOf die pc) else none
      | none => none
    | _ => none

/-- What a DMA write to a piece of BAR2 space would be answered (R377). -/
def State.dmaStatus (s : State) (o n : Nat) : Nat :=
  match busPlace false o with
  | .hbm a => if s.hbmWritable a && s.hbmWritable (a + n - 1) then stOk else stBusyMode
  | .node die lc a => match s.pcOf die lc with
    | none => stUnmapped
    | some pc => if s.port (cidOf die pc) = 3 then stIsolated else s.nodeStatus (cidOf die pc) a n
  | _ => stOk

/-- A piece of BAR2 space written by DMA. -/
def State.dmaWrite (s : State) (o : Nat) (data : List Byte) : State :=
  match busPlace false o with
  | .node die lc a => match s.pcOf die lc with
    | none => s
    | some pc => (s.nodeWrite (cidOf die pc) a data).1
  | p => (s.busWrite p data).1

/-- A piece of BAR2 space read by DMA: status and bytes. -/
def State.dmaRead (s : State) (o n : Nat) : State × Nat × List Byte :=
  match busPlace false o with
  | .node die lc a => match s.pcOf die lc with
    | none => (s, stUnmapped, [])
    | some pc =>
      if s.port (cidOf die pc) = 3 then (s, stIsolated, [])
      else if s.obj O.LC_STATE = 3 && nodeSecret a n then (s, stDenied, [])
      else
        let r := s.nodeRead (cidOf die pc) a n
        (r.1, r.2.status, r.2.data)
  | p => s.busRead p n

/-- The pieces of a descriptor read until one answers an error. -/
def State.dmaReadAll (s : State) : List (Nat × Nat) → State × Nat × List Byte
  | [] => (s, stOk, [])
  | e :: rest =>
    let r := s.dmaRead e.1 e.2
    if r.2.1 ≠ stOk then r
    else
      let t := r.1.dmaReadAll rest
      (t.1, t.2.1, r.2.2 ++ t.2.2)

/-- The bytes of host memory that a descriptor moves in, or a prefix of them. -/
def State.dmaMoveIn (s : State) (d : Nat) (data : List Byte) : State :=
  (dmaParts d).foldl (fun s e =>
    let part := (data.drop (e.1 - dmaMod d)).take e.2
    if part.isEmpty then s else s.dmaWrite e.1 part) s

/-- Steps 2 to 5 of R386: STATUS, CONSUMER, the vector, the flag. -/
def State.dmaCompletes (s : State) (c : Nat) (r : DmaRun) (status : Nat) : State :=
  let consumer := s.obj (O.CONSUMER c)
  let slot := s.obj (O.RING_BASE c) + 32 * (consumer % s.obj (O.RING_ENTRIES c))
  let s := { s with host := { s.host with dma := tput (fun _ => none) s.host.dma c none } }
  let s := s.emit (.hostWrite (slot + 24) (leBytes 4 (1 + 256 * status)))
  let s := (s.setObj (O.CONSUMER c) ((consumer + 1) % 65536)).bump (O.CH_DONE c) 1
  let s := if dmaIrq r.desc then s.msix (16 + c) else s
  if dmaNotify r.desc && r.notify then s.flagArrives (dmaTcx r.desc) (dmaFlag r.desc) else s

/-- A descriptor whose bytes all move and which then completes. -/
def State.dmaRuns (s : State) (c : Nat) (r : DmaRun) (data : List Byte) : State :=
  if dmaOut r.desc then
    let t := s.dmaReadAll (dmaParts r.desc)
    let s := if t.2.1 = stOk then t.1.emit (.hostWrite (dmaHost r.desc) t.2.2) else t.1
    s.dmaCompletes c r t.2.1
  else
    match (dmaParts r.desc).find? fun e => s.dmaStatus e.1 e.2 != stOk with
    | some e => s.dmaCompletes c r (s.dmaStatus e.1 e.2)
    | none => (s.dmaMoveIn r.desc data).dmaCompletes c r stOk

/-- DMA_DESCRIPTOR (R386): channel `ch` is at work on the descriptor it has fetched. `data` are the bytes of host memory read so far, all of
them when it is done; `pcieError` an error on a host-memory access. A descriptor that reaches a sleeping cluster wakes it and goes on
when the cluster is awake. -/
def execDmaDescriptor (ch : ChanIx) (desc : BitVec 256) (data : List Byte) (pcieError done : Bool) (s : State) : Out :=
  if ! s.endpointUp || s.clockWait || ! s.booted || s.obj (O.CH_STATE ch) ≠ 1 || s.obj (O.CONSUMER ch) = s.obj (O.PRODUCER ch) then .next s
  else
    let r : DmaRun := match tget (fun _ => none) s.host.dma ch with
      | some r => r
      | none => ⟨desc.toNat, (s.obj O.ACCEPTED_0).testBit 1⟩
    let s := { s with host := { s.host with dma := tput (fun _ => none) s.host.dma ch (some r) } }
    let asleep := if dmaShapely r.desc then s.dmaAsleep r.desc else []
    if pcieError then .next (s.channelFails ch 1)
    else if ! dmaShapely r.desc then .next (if done then s.dmaCompletes ch r stUnmapped else s)
    else if asleep ≠ [] then .next (asleep.foldl (fun s c => s.setPort c 2) s)
    else if done && (dmaOut r.desc || data.length = dmaBytes r.desc) then .next (s.dmaRuns ch r data)
    else if ! dmaOut r.desc && (dmaParts r.desc).all (fun e => s.dmaStatus e.1 e.2 == stOk) then .next (s.dmaMoveIn r.desc data)
    else .next s

/-- XACT_VECTOR_WRITE (R384): the `i`-th arrived packet, a request to the vector endpoint, is served. -/
def execXactVectorWrite (i : Nat) (s : State) : Out :=
  if s.clockWait then .next s else
  match s.net.arrived[i]? with
  | none => .next s
  | some p =>
    if p.op < 8 && p.dstMod = s.ownId && p.dstDie = 4 && p.dstNode = 0x20 && ! overtakes (s.net.arrived.take i) p
        && s.canAnswer p then
      let s := { s with net := { s.net with arrived := s.net.arrived.eraseIdx i } }
      .next (if p.poison then s else s.answerVector p)
    else .next s

/-! ### The CAN FD controller and CANopen (R389–R394) -/

/-- The controller takes part with a node of its own: it has one, is on the bus, and the management clock runs (R389, R390). -/
def State.canUp (s : State) : Bool :=
  s.nodeId != 0 && ! s.host.busOff && ! s.engineStopped && 3 ≤ s.obj O.BOOT_STATE

/-- An NMT command that moves the node to a state. -/
def State.nmtMove (s : State) (st : Nat) : Out := .next (if s.canUp then s.setObj O.NMT_STATE st else s)

/-- NMT_START. -/
def execNmtStart (s : State) : Out := s.nmtMove 0x05
/-- NMT_STOP. -/
def execNmtStop (s : State) : Out := s.nmtMove 0x04
/-- NMT_ENTER_PRE_OPERATIONAL. -/
def execNmtEnterPreOperational (s : State) : Out := s.nmtMove 0x7F
/-- NMT_RESET_NODE (R392): as reset communication, with a management reset; its boot-up message follows the boot. -/
def execNmtResetNode (s : State) : Out := .next (if s.canUp then s.commReset.persistMaybe.managementReset 5 else s)
/-- NMT_RESET_COMMUNICATION (R392). -/
def execNmtResetCommunication (s : State) : Out := .next (if s.canUp then s.commReset.bootUp else s)

/-- SDO and EMCY are served in Pre-operational and Operational (R391). -/
def State.sdoUp (s : State) : Bool := s.canUp && (s.obj O.NMT_STATE == 0x05 || s.obj O.NMT_STATE == 0x7F)

/-- The multiplexer of an SDO frame: index and subindex. -/
def sdoMux (k : Nat) : List Byte := leBytes 2 (k / 256) ++ leBytes 1 (k % 256)

/-- A frame of the SDO server. -/
def State.sdoSend (s : State) (data : List Byte) : State := s.canSend (0x580 + s.nodeId) data

/-- An SDO transfer ends in an abort (R393). -/
def State.sdoAbort (s : State) (k code : Nat) : State :=
  State.bump (State.sdoSend { s with host := { s.host with sdo := none } } (0x80 :: sdoMux k ++ leBytes 4 code)) O.SDO_ABORTS 1

/-- The abort code of a refusal (Table 17-11). -/
def sdoCode (code : Nat) : Nat :=
  match code with
  | 1 => 0x06010002
  | 2 => 0x06090030
  | 3 => 0x06070010
  | 4 => 0x08000022
  | _ => 0x08000020

/-- An index with at least one declared object. -/
def indexDeclared (i : Nat) : Bool := (List.range 256).any fun n => (rowOf (256 * i + n)).isSome

/-- The abort code of an object that does not exist (R393, Table 17-11). -/
def sdoMissing (k : Nat) : Option Nat :=
  if (rowOf k).isSome then none else some (if indexDeclared (k / 256) then 0x06090011 else 0x06020000)

/-- The one dictionary access of a complete download (R393). -/
def State.sdoWrite (s : State) (k : Nat) (data : List Byte) : Out :=
  let s := { s with host := { s.host with sdo := none } }
  if 8 * data.length ≠ widthOf k then .next ((s.refuse .can k eSize).sdoAbort k (sdoCode eSize))
  else
    let r := s.access .can k (leNat data) (writeObj .can k (leNat data))
    .next (if r.2 = eNone then r.1.sdoSend (0x60 :: sdoMux k ++ leBytes 4 0) else r.1.sdoAbort k (sdoCode r.2))

/-- SDO_DOWNLOAD (R393): the next bytes of a download to an object, the last ones if `last`. `proto`: 1 an invalid command specifier, 2 a
block CRC error. -/
def execSdoDownload (key : BitVec 24) (data : List Byte) (last : Bool) (proto : Fin 3) (s : State) : Out :=
  let k := key.toNat
  if ! s.sdoUp then .next s
  else if proto = 1 then .next (s.sdoAbort k 0x05040001)
  else if proto = 2 then .next (s.sdoAbort k 0x05040004)
  else match sdoMissing k with
    | some code => .next (s.sdoAbort k code)
    | none =>
      let before := match s.host.sdo with | some (j, b) => if j = k then b else [] | none => []
      if last then s.sdoWrite k (before ++ data)
      else .next { s with host := { s.host with sdo := some (k, before ++ data) } }

/-- The frames that answer an upload: expedited up to 4 bytes, segmented for 8. -/
def State.sdoReply (s : State) (k : Nat) (data : List Byte) : State :=
  if data.length ≤ 4 then
    s.sdoSend (BitVec.ofNat 8 (0x43 + 4 * (4 - data.length)) :: sdoMux k ++ data ++ List.replicate (4 - data.length) 0)
  else
    ((s.sdoSend (0x41 :: sdoMux k ++ leBytes 4 data.length)).sdoSend (0x00 :: data.take 7)).sdoSend
      (0x1D :: data.drop 7 ++ List.replicate 6 0)

/-- SDO_UPLOAD (R393): one dictionary read of the CAN FD master, with its side effect. -/
def execSdoUpload (key : BitVec 24) (s : State) : Out :=
  let k := key.toNat
  if ! s.sdoUp then .next s
  else
    let s := { s with host := { s.host with sdo := none } }
    match sdoMissing k with
    | some code => .next (s.sdoAbort k code)
    | none =>
      let g := s.gate k false
      if g ≠ eNone then .next ((s.refuse .can k g).sdoAbort k (sdoCode g))
      else
        let v := s.readObj k
        .next ((s.readBy .can k).sdoReply k (leBytes (widthOf k / 8) v))

/-- SDO_TIMEOUT (Table 17-11): a transfer has been idle for 1 s. -/
def execSdoTimeout (s : State) : Out :=
  match s.host.sdo with
  | none => .next s
  | some (k, _) => if s.sdoUp then .next (s.sdoAbort k 0x05040000) else .next s

/-- A code entered at the head of 0x1003 (R394). -/
def State.enterError (s : State) (code record : Nat) : State :=
  let old := (List.range 15).map fun i => s.obj (O.ERROR_FIELD i)
  s.setObjs ([(O.ERROR_COUNT, min 16 (s.obj O.ERROR_COUNT + 1)), (O.ERROR_FIELD 0, code + record % 65536 * 65536)]
    ++ (List.range 15).map fun i => (O.ERROR_FIELD (i + 1), old.getD i 0))

/-- EMCY_SEND (R394): the inhibit time has passed, and the oldest queued EMCY goes out; the place it frees takes the overflow message.
COB_ID_EMCY bit 31 keeps it from the bus. -/
def execEmcySend (s : State) : Out :=
  if ! s.sdoUp then .next s
  else match s.emcyQ with
    | [] => .next s
    | (code, record) :: rest =>
      let queue := rest ++ (match s.emcyDropped with | some r => [(0xFFFF, r)] | none => [])
      let cob := s.obj O.COB_ID_EMCY
      let frame := leBytes 2 code ++ leBytes 1 s.errorRegister ++ leBytes 4 record ++ [0]
      let s := State.enterError { s with emcyQ := queue, emcyDropped := none } code record
      .next (if cob.testBit 31 then s else s.canSend (cob % 2048) frame)

/-- HEARTBEAT (R391): HEARTBEAT_TIME has passed. -/
def execHeartbeat (s : State) : Out :=
  if s.canUp && s.obj O.HEARTBEAT_TIME ≠ 0 then .next (s.canSend (0x700 + s.nodeId) [BitVec.ofNat 8 (s.obj O.NMT_STATE)]) else .next s

/-- BUS_OFF (R389): the controller goes bus-off (its transmit counter has then left the object's range), or recovers from it. -/
def execBusOff (recover : Bool) (s : State) : Out :=
  if s.engineStopped then .next s
  else if recover then
    .next (if s.host.busOff then State.setObj { s with host := { s.host with busOff := false } } O.ERR_COUNTERS 0 else s)
  else if s.host.busOff then .next s
  else
    let s := { s with host := { s.host with busOff := true } }
    let s := ((s.bump O.BUS_OFFS 1).setObjBit O.ERROR_REGISTER 4 true)
    .next ((s.setObj O.ERR_COUNTERS (s.obj O.ERR_COUNTERS / 256 * 256 + Config.freeNat s.fresh % 256)).draw)

/-- CAN_ERROR_PASSIVE (R389, Table 17-12): the error counters, one of them above 127. -/
def execCanErrorPassive (tec rec_ : BitVec 8) (s : State) : Out :=
  if s.engineStopped then .next s
  else
    let s := s.setObj O.ERR_COUNTERS (tec.toNat + 256 * rec_.toNat)
    .next (if 127 < tec.toNat || 127 < rec_.toNat then s.setObjBit O.ERROR_REGISTER 4 true else s)

/-! ### The end of CLOCK-WAIT (R380, R423) -/

/-- The references and PLLs that R423 asks for: PCIe's only while PERST_N is high (R447). -/
def State.clocksGood (s : State) : Bool :=
  s.objBit O.REF_STATE 0 && s.obj O.PLL_STATE % 8 == 7
    && (! s.host.perstHigh || (s.objBit O.REF_STATE 1 && s.objBit O.PLL_STATE 3))

/-- A held write passed on (R380). -/
def State.passOn (s : State) : HeldWrite → State
  | .obj k v => (s.access .pcie k v (writeObj .pcie k v)).1
  | .bar2 o data => s.bar2Write o data
  | .thread t v => s.ringThread t v
  | .dma c p => s.ringDma c p

/-- Held writes passed on in arrival order. -/
def State.passAll (s : State) (l : List HeldWrite) : State := l.foldl State.passOn s

end Sys2Proof.Machine
end

