-- ==== Sys2Proof/Machine/Debug.lean ====
section
/-!
DEFINITION. The debug port (21): the TAP's instructions, debug accesses in their three spaces, the virtual terminals' debug side; and the two
commands after which an access that has waited for the dictionary engine is served: HUB_START and CLOCK_WAIT_END.
-/

namespace Sys2Proof.Machine

/-! ### Instructions (R454–R457) -/

/-- The codes of Table 21-1. -/
abbrev irExtest : Nat := 0x00
abbrev irSample : Nat := 0x01
abbrev irIdcode : Nat := 0x02
abbrev irClamp : Nat := 0x03
abbrev irHighz : Nat := 0x04
abbrev irDacc : Nat := 0x20
abbrev irDstat : Nat := 0x21
abbrev irBypass : Nat := 0xFF

/-- The covered balls: 384 pads, TRIG0–TRIG3, TIME_PPS_IN, TIME_PPS_OUT, CAN FD transmit and receive, one bit each in this order. -/
abbrev boundaryLen : Nat := 392

/-- An instruction in the register, with the data register that it selects. -/
def State.tapIr (s : State) (ir len dr : Nat) : State := { s with tap := { s.tap with ir := ir, drLen := len, dr := dr } }

/-- An instruction that an identity-only state does not offer selects the bypass register there (R457). -/
def State.tapOpen (s : State) (ir len dr : Nat) : State :=
  if s.portOpen then s.tapIr ir len dr else s.tapIr irBypass 1 0

/-- The level and output enable that a covered pad shows: EXTEST and CLAMP drive the boundary register's bit, HIGHZ disables it (R455), while
the port is open (R457). -/
def State.padShown (s : State) (i : Nat) : Bool × Bool :=
  let p := tget (fun _ => Pad.blank) s.fabric.pads i
  if ! s.portOpen then (p.level, p.enable)
  else if s.tap.ir = irExtest || s.tap.ir = irClamp then (s.tap.boundary.testBit i, true)
  else if s.tap.ir = irHighz then (p.level, false)
  else (p.level, p.enable)

/-- The levels of the covered balls as a capture sees them. The CAN FD balls' levels are left open. -/
def State.ballLevels (s : State) : Nat :=
  let pads := (List.range 384).foldl (fun n i => n + (s.padShown i).1.toNat * 2 ^ i) 0
  pads + (s.obj O.TRIG_LEVEL % 16) * 2 ^ 384 + (Config.freeNat s.fresh % 2) * 2 ^ 388 + s.tb.ppsOut.isSome.toNat * 2 ^ 389
    + (Config.freeNat (s.fresh + 1) % 4) * 2 ^ 390

/-- The boundary register written by an Update-DR. -/
def State.updateBoundary (s : State) (v : Option (BitVec 392)) : State :=
  match v with
  | some v => if s.portOpen then { s with tap := { s.tap with boundary := v.toNat } } else s
  | none => s

/-- TEST_LOGIC_RESET (R454): IDCODE in the instruction register, an access in progress ended without result. -/
def execTestLogicReset (s : State) : Out :=
  let s := s.orphan (· == .debug)
  .next (State.tapIr { s with tap := { s.tap with busy := none } } irIdcode 32 0)

/-- EXTEST (R455): the pads follow the boundary register, which an Update-DR writes. -/
def execExtest (v : Option (BitVec 392)) (s : State) : Out :=
  .next ((s.updateBoundary v).tapOpen irExtest boundaryLen s.ballLevels).draw.draw

/-- SAMPLE_PRELOAD (R455): the balls captured, and the boundary register preloaded by an Update-DR. -/
def execSamplePreload (v : Option (BitVec 392)) (s : State) : Out :=
  .next ((s.updateBoundary v).tapOpen irSample boundaryLen s.ballLevels).draw.draw

/-- The identification register (R456). -/
def State.idcode (s : State) : Nat :=
  (if s.obj O.STEPPING = 0xA1 then 1 else 2) * 2 ^ 28 + 0x0B04 * 2 ^ 12 + Config.manufacturer % 2 ^ 11 * 2 + 1

/-- IDCODE (R456). -/
def execIdcode (s : State) : Out := .next (s.tapIr irIdcode 32 s.idcode)

/-- CLAMP (R455). -/
def execClamp (s : State) : Out := .next (s.tapOpen irClamp 1 0)

/-- HIGHZ (R455). -/
def execHighz (s : State) : Out := .next (s.tapOpen irHighz 1 0)

/-- BYPASS (R455). -/
def execBypass (s : State) : Out := .next (s.tapIr irBypass 1 0)

/-- The debug status register (R456). -/
def State.dstatWord (s : State) : Nat :=
  s.obj O.LC_STATE % 16 + 16 * s.portOpen.toNat + 32 * s.clockWait.toNat + 64 * (s.obj O.BOOT_STATE % 8)
    + 512 * (s.booting == 1).toNat + 1024 * s.tap.busy.isSome.toNat

/-- DSTAT (R456). -/
def execDstat (s : State) : Out := .next (s.tapIr irDstat 32 s.dstatWord)

/-! ### Debug accesses (R458–R463, R468, R471) -/

/-- The access ends refused with a code of Table 17-3. -/
def State.tapRefused (s : State) (code : Nat) : State := s.tapDone 2 code none

/-- An access to the dictionary (R460). -/
def State.tapDict (s : State) (a : DebugAccess) : State :=
  let k := a.addr % 2 ^ 24
  if a.addr ≠ k then (s.refuse .debug k eRange).tapRefused eRange
  else
    let g := s.gate k a.write
    if g ≠ eNone then (s.refuse .debug k g).tapRefused g
    else if a.write then
      let r := s.access .debug k a.data (writeObj .debug k a.data)
      if r.2 = eNone then r.1.tapDone 0 0 none else r.1.tapRefused r.2
    else
      let v := s.readObj k
      (if a.consume || (rowOf k).isNone then s.consumeObj k else s).tapDone 0 0 (some v)

/-- A place that only the debug port reaches (Table 21-4). -/
def BusPlace.debugOnly : BusPlace → Bool
  | .locks _ => true
  | .flash _ => true
  | .page _ => true
  | _ => false

/-- An access through the system bus (R461). The boot flash takes no write. -/
def State.tapBus (s : State) (a : DebugAccess) : State :=
  let n := 2 ^ a.size
  let place := busPlace true a.addr
  if a.size > 3 || a.addr % n ≠ 0 then s.tapRefused eSize
  else if ! s.booted && ! place.debugOnly then s.tapDone 0 0 (if a.write then none else some (2 ^ (8 * n) - 1))
  else match s.packetPlace place with
    | some dst =>
      let s := { s with tap := { s.tap with busy := some { a with sent := true } } }
      s.busNode .debug a.addr dst n (if a.write then leBytes n a.data else [])
    | none =>
      if a.write then
        match place with
        | .flash _ => s.tapRefused eReadOnly
        | _ =>
          let r := s.busWrite place (leBytes n a.data)
          if r.2 = stOk then r.1.tapDone 0 0 none else r.1.tapDone 3 r.2 none
      else
        let r := s.busRead place n
        if r.2.1 = stOk then r.1.tapDone 0 0 (some (leNat r.2.2)) else r.1.tapDone 3 r.2.1 none

/-- What VT_TX reads as (R471). -/
def Core.vtTxWord (k : Core) : Nat := match k.vtTx with | [] => 0 | b :: _ => 256 + b.toNat + 65536 * k.vtTx.length

/-- An access to a register of the thread loaded on a halted core (R463, R468). -/
def State.tapReg (s : State) (a : DebugAccess) (c n : Nat) : State :=
  let k := s.core c
  if ! k.halted || k.noThread then s.tapRefused eMode
  else if n < 0x1000 then
    match csrKind n with
    | .absent => s.tapRefused eRange
    | .readOnly => if a.write then s.tapRefused eReadOnly else (s.tapDone 0 0 (some (s.csrRead c n))).draw
    | .command => if a.write then s.tapRefused eMode else s.tapDone 0 0 (some 0)
    | .plain =>
      if a.write then (s.csrWrite c n a.data).tapDone 0 0 none
      else
        let v := s.csrRead c n
        let s := if n = 0x809 && a.consume then s.setCore c { k with vtRx := k.vtRx.tail } else s
        (s.tapDone 0 0 (some v)).draw
  else if n < 0x1020 then
    if a.write then (s.setCore c (k.setX (n - 0x1000) a.data)).tapDone 0 0 none else s.tapDone 0 0 (some (k.getX (n - 0x1000)))
  else if a.write then (s.setCore c { k with ctx := { k.ctx with pc := a.data } }).tapDone 0 0 none
  else s.tapDone 0 0 (some k.ctx.pc)

/-- An access to a core's debug registers (R463, Table 21-6). -/
def State.tapCore (s : State) (a : DebugAccess) : State :=
  let c := a.addr / 2 ^ 35
  let n := a.addr % 65536
  let k := s.core c
  if a.addr / 65536 % 2 ^ 19 ≠ 0 then s.tapRefused eRange
  else if n ≤ 0x1020 then s.tapReg a c n
  else if n = 0x2000 then
    if a.write then (s.writeCdctl c a.data).tapDone 0 0 none else s.tapDone 0 0 (some (s.cdctl c))
  else if n = 0x2001 then
    if a.write then s.tapRefused eReadOnly else s.tapDone 0 0 (some (s.cdstat c))
  else if n = 0x2002 then
    if a.write then s.tapRefused eReadOnly
    else (if a.consume then s.setCore c { k with vtTx := k.vtTx.tail } else s).tapDone 0 0 (some k.vtTxWord)
  else if n = 0x2003 then
    if ! a.write then s.tapDone 0 0 (some (64 - k.vtRx.length))
    else if k.vtRx.length < 64 then (s.setCore c { k with vtRx := k.vtRx ++ [BitVec.ofNat 8 a.data] }).tapDone 0 0 none
    else s.tapDone 4 0 none
  else s.tapRefused eRange

/-- The clocks that serve an access run: the management clock for the dictionary, the hub's for the rest (R421, R460); and the hub has
started (R448). -/
def State.tapReady (s : State) (space : Nat) : Bool :=
  3 ≤ s.obj O.BOOT_STATE && (if space = 0 then ! s.engineStopped else ! s.clockWait)

/-- The access in progress is served, if it can be. -/
def State.serveTap (s : State) : State :=
  match s.tap.busy with
  | none => s
  | some a =>
    if a.sent || ! s.tapReady a.space then s
    else if a.space = 0 then s.tapDict a
    else if a.space = 1 then s.tapBus a
    else s.tapCore a

/-- An Update-DR of DACC that orders an access (R457, R458). -/
def State.tapStart (s : State) (a : DebugAccess) : State :=
  let s := s.tapIr irDacc 112 s.tap.dr
  if s.tap.busy.isSome then { s with tap := { s.tap with ignored := true } }
  else if ! s.portOpen then (if a.space = 0 then s.refuse .debug (a.addr % 2 ^ 24) eDenied else s).tapRefused eDenied
  else if a.space = 3 then s.tapRefused eRange
  else State.serveTap { s with tap := { s.tap with busy := some a } }

/-- DACC_READ (R458). -/
def execDaccRead (consume : Bool) (space : Fin 4) (size : Fin 8) (addr : BitVec 40) (s : State) : Out :=
  .next (s.tapStart ⟨false, consume, space, size, addr.toNat, 0, false⟩)

/-- DACC_WRITE (R458). -/
def execDaccWrite (space : Fin 4) (size : Fin 8) (addr : BitVec 40) (data : BitVec 64) (s : State) : Out :=
  .next (s.tapStart ⟨true, false, space, size, addr.toNat, data.toNat, false⟩)

/-- STATUS as a capture shows it (R459). -/
def Tap.shown (t : Tap) : Nat := if t.ignored then 5 else if t.busy.isSome then 1 else t.status

/-- DACC_CAPTURE (R459, Table 21-3). -/
def execDaccCapture (s : State) : Out :=
  let t := s.tap
  .next (State.tapIr { s with tap := { t with ignored := false } } irDacc 112 (t.data + 2 ^ 64 * t.shown + 2 ^ 72 * t.code))

/-- The address of a core debug register. -/
def coreReg (core n : Nat) : Nat := core * 2 ^ 35 + n

/-- VT_TX (R471): a debug read of the transmit terminal. -/
def execVtTx (core : CoreIx) (consume : Bool) (s : State) : Out :=
  .next (s.tapStart ⟨false, consume, 2, 0, coreReg core 0x2002, 0, false⟩)

/-- VT_RX (R471): a debug write of a byte to the receive terminal, or a read of its free bytes. -/
def execVtRx (core : CoreIx) (value : Option Byte) (s : State) : Out :=
  .next (s.tapStart ⟨value.isSome, false, 2, 0, coreReg core 0x2003, (value.getD 0).toNat, false⟩)

/-! ### What waits for the dictionary engine -/

/-- HUB_START (R448): with MODULE_RESET_N high the straps are sampled (R404, R446) and the Seam PLL and the management clock start. A
management boot that a lost reference has held comes here too, and samples nothing. -/
def execHubStart (moduleId : BitVec 10) (mgmtId : BitVec 7) (s : State) : Out :=
  if s.obj O.BOOT_STATE = 2 && s.host.up then .next (s.setObj O.BOOT_STATE 3).serveTap
  else if s.obj O.BOOT_STATE = 2 && s.host.resetHigh then
    let s := { s with host := { s.host with mgmtStrap := mgmtId.toNat, bootAt := s.nowNs } }
    .next ((s.setObjs [(O.MODULE_ID, moduleId.toNat), (O.BOOT_STATE, 3)]).nodeObjs).serveTap
  else .next s

/-- CLOCK_WAIT_END (R423): the references have been in window for 1 ms and every PLL is stable; `us` is what monitor time shows of the
CLOCK-WAIT. Every clock restarts; a waiting debug access is served, then what the endpoint has held is passed on (R189, R380). -/
def execClockWaitEnd (us : BitVec 32) (s : State) : Out :=
  if s.clockWait && s.clocksGood then
    let held := s.run.heldWrites
    let s := State.clocksRestart { s with run := { s.run with heldWrites := [] } } us.toNat
    .next (s.serveTap.passAll held)
  else .next s

end Sys2Proof.Machine
end

