-- ==== Sys2Proof/Machine/Dispatch.lean ====
section
/-!
DEFINITION. The dispatcher: one arm for each constructor of `Instr`, a direct call of its meaning.
-/

namespace Sys2Proof.Machine

/-- The effect of a command on everything but the queue of waiting commands. -/
def exec (i : Instr) (s : State) : Host.Outcome State Fault Refusal :=
  match i with
  | .sluiceOpen => Sys2Proof.Machine.execSluiceOpen s
  | .clusterStep die pc upsets => Sys2Proof.Machine.execClusterStep die pc upsets s
  | .nop die pc bp => Sys2Proof.Machine.execNop die pc bp s
  | .lut die pc bp => Sys2Proof.Machine.execLut die pc bp s
  | .mrdAddr die pc bp => Sys2Proof.Machine.execMrdAddr die pc bp s
  | .mrdGo die pc bp => Sys2Proof.Machine.execMrdGo die pc bp s
  | .mwrAddr die pc bp => Sys2Proof.Machine.execMwrAddr die pc bp s
  | .mwrData die pc bp => Sys2Proof.Machine.execMwrData die pc bp s
  | .mwrGo die pc bp => Sys2Proof.Machine.execMwrGo die pc bp s
  | .xin die pc bp => Sys2Proof.Machine.execXin die pc bp s
  | .xout die pc bp => Sys2Proof.Machine.execXout die pc bp s
  | .fin die pc bp => Sys2Proof.Machine.execFin die pc bp s
  | .fout die pc bp => Sys2Proof.Machine.execFout die pc bp s
  | .trg die pc bp => Sys2Proof.Machine.execTrg die pc bp s
  | .prb die pc bp => Sys2Proof.Machine.execPrb die pc bp s
  | .evt die pc bp => Sys2Proof.Machine.execEvt die pc bp s
  | .asrt die pc bp => Sys2Proof.Machine.execAsrt die pc bp s
  | .cken die pc bp => Sys2Proof.Machine.execCken die pc bp s
  | .endOp die pc bp => Sys2Proof.Machine.execEnd die pc bp s
  | .deliveryLand die pc => Sys2Proof.Machine.execDeliveryLand die pc s
  | .routePortRead die pc g => Sys2Proof.Machine.execRoutePortRead die pc g s
  | .slotFlitLeave die pc slot check => Sys2Proof.Machine.execSlotFlitLeave die pc slot check s
  | .linkWordSend die node port check => Sys2Proof.Machine.execLinkWordSend die node port check s
  | .slotFlitLand die pc => Sys2Proof.Machine.execSlotFlitLand die pc s
  | .landingPortWrite die pc g => Sys2Proof.Machine.execLandingPortWrite die pc g s
  | .exchangeInstant fin => Sys2Proof.Machine.execExchangeInstant fin s
  | .xportOutLatch => Sys2Proof.Machine.execXportOutLatch s
  | .eccRewrite die pc => Sys2Proof.Machine.execEccRewrite die pc s
  | .clusterEnd die pc => Sys2Proof.Machine.execClusterEnd die pc s
  | .localCompletion => Sys2Proof.Machine.execLocalCompletion s
  | .dcDoneSend link => Sys2Proof.Machine.execDcDoneSend link s
  | .cycleOverrunLocal => Sys2Proof.Machine.execCycleOverrunLocal s
  | .cycleOverrunPartner => Sys2Proof.Machine.execCycleOverrunPartner s
  | .memoryReturn die pc => Sys2Proof.Machine.execMemoryReturn die pc s
  | .rowRewrite die pc => Sys2Proof.Machine.execRowRewrite die pc s
  | .memoryScrub die pc => Sys2Proof.Machine.execMemoryScrub die pc s
  | .quarryRequestSend die pc => Sys2Proof.Machine.execQuarryRequestSend die pc s
  | .quarryServe stack ix check => Sys2Proof.Machine.execQuarryServe stack ix check s
  | .bankRefresh stack bank begins => Sys2Proof.Machine.execBankRefresh stack bank begins s
  | .quarryReturn die pc => Sys2Proof.Machine.execQuarryReturn die pc s
  | .hbmPatrolScrub addr check passDone => Sys2Proof.Machine.execHbmPatrolScrub addr check passDone s
  | .packetRequestArrive ix check => Sys2Proof.Machine.execPacketRequestArrive ix check s
  | .packetResponseArrive ix => Sys2Proof.Machine.execPacketResponseArrive ix s
  | .tagTimeout tag => Sys2Proof.Machine.execTagTimeout tag s
  | .wakeComplete die pc => Sys2Proof.Machine.execWakeComplete die pc s
  | .wakeLimitExpiry die pc => Sys2Proof.Machine.execWakeLimitExpiry die pc s
  | .idleGate die pc => Sys2Proof.Machine.execIdleGate die pc s
  | .seamBlockReceive link lane bits past filler => Sys2Proof.Machine.execSeamBlockReceive link lane bits past filler s
  | .laneMarkerReceive link lane skew => Sys2Proof.Machine.execLaneMarkerReceive link lane skew s
  | .laneMarkerSend link lane => Sys2Proof.Machine.execLaneMarkerSend link lane s
  | .idleReceive link => Sys2Proof.Machine.execIdleReceive link s
  | .frameEnd link => Sys2Proof.Machine.execFrameEnd link s
  | .relayForward link unit tag epoch => Sys2Proof.Machine.execRelayForward link unit tag epoch s
  | .ack link => Sys2Proof.Machine.execAck link s
  | .nak link => Sys2Proof.Machine.execNak link s
  | .ackTimeout link => Sys2Proof.Machine.execAckTimeout link s
  | .nakRepeat link => Sys2Proof.Machine.execNakRepeat link s
  | .ackSend link => Sys2Proof.Machine.execAckSend link s
  | .seamEgressSend link past => Sys2Proof.Machine.execSeamEgressSend link past s
  | .resumeLimitExpiry link => Sys2Proof.Machine.execResumeLimitExpiry link s
  | .timeSync link => Sys2Proof.Machine.execTimeSync link s
  | .pdelayReq link => Sys2Proof.Machine.execPdelayReq link s
  | .pdelayResp link => Sys2Proof.Machine.execPdelayResp link s
  | .pdelayIntervalExpiry => Sys2Proof.Machine.execPdelayIntervalExpiry s
  | .syncIntervalExpiry => Sys2Proof.Machine.execSyncIntervalExpiry s
  | .candidateExpiry link => Sys2Proof.Machine.execCandidateExpiry link s
  | .ppsInEdge stamp => Sys2Proof.Machine.execPpsInEdge stamp s
  | .ppsLost => Sys2Proof.Machine.execPpsLost s
  | .ppsOutRise => Sys2Proof.Machine.execPpsOutRise s
  | .ppsOutFall => Sys2Proof.Machine.execPpsOutFall s
  | .timeNsRead m => Sys2Proof.Machine.execTimeNsRead m s
  | .timeSet m v => Sys2Proof.Machine.execTimeSet m v s
  | .rejoin m v => Sys2Proof.Machine.execRejoin m v s
  | .incrementWrite m v => Sys2Proof.Machine.execIncrementWrite m v s
  | .priorityWrite m v => Sys2Proof.Machine.execPriorityWrite m v s
  | .tieEdgeReached slot fin => Sys2Proof.Machine.execTieEdgeReached slot fin s
  | .tieApply slot => Sys2Proof.Machine.execTieApply slot s
  | .lockLoad core n width rd => Sys2Proof.Machine.execLockLoad core n width rd s
  | .lockStore core n width => Sys2Proof.Machine.execLockStore core n width s
  | .post core x => Sys2Proof.Machine.execPost core x s
  | .inStageStore core x off width value => Sys2Proof.Machine.execInStageStore core x off width value s
  | .outLoad core x off width rd => Sys2Proof.Machine.execOutLoad core x off width rd s
  | .paceStore core d value => Sys2Proof.Machine.execPaceStore core d value s
  | .wdtKick core value => Sys2Proof.Machine.execWdtKick core value s
  | .wdtExpiry core => Sys2Proof.Machine.execWdtExpiry core s
  | .mtimecmpReached core => Sys2Proof.Machine.execMtimecmpReached core s
  | .lr core wide rd addr => Sys2Proof.Machine.execLr core wide rd addr s
  | .sc core wide rd addr value => Sys2Proof.Machine.execSc core wide rd addr value s
  | .amo core op wide rd addr value => Sys2Proof.Machine.execAmo core op wide rd addr value s
  | .fenceI core => Sys2Proof.Machine.execFenceI core s
  | .reservationExpiry core => Sys2Proof.Machine.execReservationExpiry core s
  | .ebreak core => Sys2Proof.Machine.execEbreak core s
  | .coreRun m v => Sys2Proof.Machine.execCoreRun m v s
  | .tcmdWait core mask timeout => Sys2Proof.Machine.execTcmdWait core mask timeout s
  | .tcmdYield core => Sys2Proof.Machine.execTcmdYield core s
  | .tcmdExit core => Sys2Proof.Machine.execTcmdExit core s
  | .tcmdSignal core tcx flag => Sys2Proof.Machine.execTcmdSignal core tcx flag s
  | .tcmdSpawn core tcx home prio targ0 targ1 targ2 => Sys2Proof.Machine.execTcmdSpawn core tcx home prio targ0 targ1 targ2 s
  | .tcmdStop core tcx => Sys2Proof.Machine.execTcmdStop core tcx s
  | .tcmdStart core tcx => Sys2Proof.Machine.execTcmdStart core tcx s
  | .tcmdMigrate core tcx home => Sys2Proof.Machine.execTcmdMigrate core tcx home s
  | .tcmdAlarm core unit tcx flag targ0 targ1 => Sys2Proof.Machine.execTcmdAlarm core unit tcx flag targ0 targ1 s
  | .tcmdReqRead core buf addr dmod ddie dnode words flag => Sys2Proof.Machine.execTcmdReqRead core buf addr dmod ddie dnode words flag s
  | .tcmdReqWrite core buf addr dmod ddie dnode words flag => Sys2Proof.Machine.execTcmdReqWrite core buf addr dmod ddie dnode words flag s
  | .tflagsWrite core op value => Sys2Proof.Machine.execTflagsWrite core op value s
  | .tctlWrite core value => Sys2Proof.Machine.execTctlWrite core value s
  | .flagApply => Sys2Proof.Machine.execFlagApply s
  | .threadTimeout t => Sys2Proof.Machine.execThreadTimeout t s
  | .alarmFire core unit => Sys2Proof.Machine.execAlarmFire core unit s
  | .dispatch core wait ran idle => Sys2Proof.Machine.execDispatch core wait ran idle s
  | .prefetchFill core => Sys2Proof.Machine.execPrefetchFill core s
  | .preemption core wait ran => Sys2Proof.Machine.execPreemption core wait ran s
  | .contextWriteback core => Sys2Proof.Machine.execContextWriteback core s
  | .requestCompletion => Sys2Proof.Machine.execRequestCompletion s
  | .threadCmdStop m => Sys2Proof.Machine.execThreadCmdStop m s
  | .threadCmdStart m => Sys2Proof.Machine.execThreadCmdStart m s
  | .threadFlagsSet m v => Sys2Proof.Machine.execThreadFlagsSet m v s
  | .vttx core rd value => Sys2Proof.Machine.execVttx core rd value s
  | .vtrx core rd => Sys2Proof.Machine.execVtrx core rd s
  | .trigInputEdge ball level => Sys2Proof.Machine.execTrigInputEdge ball level s
  | .trigPulseEnd ball => Sys2Proof.Machine.execTrigPulseEnd ball s
  | .holdoffExpiry n => Sys2Proof.Machine.execHoldoffExpiry n s
  | .rearm m v => Sys2Proof.Machine.execRearm m v s
  | .maskTestFetchDone => Sys2Proof.Machine.execMaskTestFetchDone s
  | .traceCmdArm m => Sys2Proof.Machine.execTraceCmdArm m s
  | .traceCmdFreeze m => Sys2Proof.Machine.execTraceCmdFreeze m s
  | .traceRecordWrite => Sys2Proof.Machine.execTraceRecordWrite s
  | .snapshotDone bad => Sys2Proof.Machine.execSnapshotDone bad s
  | .restoreDone => Sys2Proof.Machine.execRestoreDone s
  | .fabLoadCmdLoad m => Sys2Proof.Machine.execFabLoadCmdLoad m s
  | .fabLoadCmdAbort m => Sys2Proof.Machine.execFabLoadCmdAbort m s
  | .fabLoadCmdUnconfigure m => Sys2Proof.Machine.execFabLoadCmdUnconfigure m s
  | .fabFetchDone data => Sys2Proof.Machine.execFabFetchDone data s
  | .fabCheckDone vddio => Sys2Proof.Machine.execFabCheckDone vddio s
  | .fabWriteDone => Sys2Proof.Machine.execFabWriteDone s
  | .regionSelectChange region sel alive => Sys2Proof.Machine.execRegionSelectChange region sel alive s
  | .regionForcedSwitch region => Sys2Proof.Machine.execRegionForcedSwitch region s
  | .regionLoss region => Sys2Proof.Machine.execRegionLoss region s
  | .safeStateBegin levels enables => Sys2Proof.Machine.execSafeStateBegin levels enables s
  | .padRelease pad level enable => Sys2Proof.Machine.execPadRelease pad level enable s
  | .safeForce m v => Sys2Proof.Machine.execSafeForce m v s
  | .finLanePost lane value => Sys2Proof.Machine.execFinLanePost lane value s
  | .delayTapStep pad up => Sys2Proof.Machine.execDelayTapStep pad up s
  | .userFlashAccess op addr => Sys2Proof.Machine.execUserFlashAccess op addr s
  | .userFlashDone => Sys2Proof.Machine.execUserFlashDone s
  | .configScrub check frame => Sys2Proof.Machine.execConfigScrub check frame s
  | .roFreqMeasure osc khz => Sys2Proof.Machine.execRoFreqMeasure osc khz s
  | .tapFsMeasure bank fs => Sys2Proof.Machine.execTapFsMeasure bank fs s
  | .registerWrite m key v bytes => Sys2Proof.Machine.execRegisterWrite m key v bytes s
  | .shadowWrite m key v => Sys2Proof.Machine.execShadowWrite m key v s
  | .counterClear m key => Sys2Proof.Machine.execCounterClear m key s
  | .accessErrRead m ix => Sys2Proof.Machine.execAccessErrRead m ix s
  | .errorRegisterRead m => Sys2Proof.Machine.execErrorRegisterRead m s
  | .errorCountWrite m v => Sys2Proof.Machine.execErrorCountWrite m v s
  | .bar2Read off n tag => Sys2Proof.Machine.execBar2Read off n tag s
  | .bar2Write off data => Sys2Proof.Machine.execBar2Write off data s
  | .completionTimeout tag => Sys2Proof.Machine.execCompletionTimeout tag s
  | .cwReadTimeout => Sys2Proof.Machine.execCwReadTimeout s
  | .threadDoorbell t v => Sys2Proof.Machine.execThreadDoorbell t v s
  | .dmaDoorbell ch p => Sys2Proof.Machine.execDmaDoorbell ch p s
  | .flr => Sys2Proof.Machine.execFlr s
  | .perstN high speed width => Sys2Proof.Machine.execPerstN high speed width s
  | .chCmdRun m ch => Sys2Proof.Machine.execChCmdRun m ch s
  | .chCmdStop m ch => Sys2Proof.Machine.execChCmdStop m ch s
  | .dmaDescriptor ch desc data pcieError done => Sys2Proof.Machine.execDmaDescriptor ch desc data pcieError done s
  | .acceptedWrite m ix v => Sys2Proof.Machine.execAcceptedWrite m ix v s
  | .xactVectorWrite ix => Sys2Proof.Machine.execXactVectorWrite ix s
  | .nmtStart => Sys2Proof.Machine.execNmtStart s
  | .nmtStop => Sys2Proof.Machine.execNmtStop s
  | .nmtEnterPreOperational => Sys2Proof.Machine.execNmtEnterPreOperational s
  | .nmtResetNode => Sys2Proof.Machine.execNmtResetNode s
  | .nmtResetCommunication => Sys2Proof.Machine.execNmtResetCommunication s
  | .sdoDownload key data last proto => Sys2Proof.Machine.execSdoDownload key data last proto s
  | .sdoUpload key => Sys2Proof.Machine.execSdoUpload key s
  | .sdoTimeout => Sys2Proof.Machine.execSdoTimeout s
  | .emcySend => Sys2Proof.Machine.execEmcySend s
  | .heartbeat => Sys2Proof.Machine.execHeartbeat s
  | .busOff recover => Sys2Proof.Machine.execBusOff recover s
  | .faultSel m v => Sys2Proof.Machine.execFaultSel m v s
  | .faultAck m v => Sys2Proof.Machine.execFaultAck m v s
  | .failSet m v => Sys2Proof.Machine.execFailSet m v s
  | .failClear m v => Sys2Proof.Machine.execFailClear m v s
  | .remapLc m v => Sys2Proof.Machine.execRemapLc m v s
  | .loadCmdLoad m => Sys2Proof.Machine.execLoadCmdLoad m s
  | .loadCmdAbort m => Sys2Proof.Machine.execLoadCmdAbort m s
  | .loadFetchDone data => Sys2Proof.Machine.execLoadFetchDone data s
  | .loadCheckDone vddio => Sys2Proof.Machine.execLoadCheckDone vddio s
  | .loadWriteDone => Sys2Proof.Machine.execLoadWriteDone s
  | .remapDone => Sys2Proof.Machine.execRemapDone s
  | .runCmdRun m => Sys2Proof.Machine.execRunCmdRun m s
  | .runCmdStep m => Sys2Proof.Machine.execRunCmdStep m s
  | .runCmdTied m => Sys2Proof.Machine.execRunCmdTied m s
  | .runCmdHold m => Sys2Proof.Machine.execRunCmdHold m s
  | .runCmdSnapshot m => Sys2Proof.Machine.execRunCmdSnapshot m s
  | .runCmdStandby m => Sys2Proof.Machine.execRunCmdStandby m s
  | .runCmdDiag m => Sys2Proof.Machine.execRunCmdDiag m s
  | .startPoint => Sys2Proof.Machine.execStartPoint s
  | .modeMoveDone => Sys2Proof.Machine.execModeMoveDone s
  | .diagTestDone detail failed => Sys2Proof.Machine.execDiagTestDone detail failed s
  | .check m v => Sys2Proof.Machine.execCheck m v s
  | .checkDone list => Sys2Proof.Machine.execCheckDone list s
  | .commit m v => Sys2Proof.Machine.execCommit m v s
  | .commitAtTime m t => Sys2Proof.Machine.execCommitAtTime m t s
  | .commitAtDc m n => Sys2Proof.Machine.execCommitAtDc m n s
  | .discard m v => Sys2Proof.Machine.execDiscard m v s
  | .commitTimeReached => Sys2Proof.Machine.execCommitTimeReached s
  | .commitPauseEnd => Sys2Proof.Machine.execCommitPauseEnd s
  | .referenceLost ref => Sys2Proof.Machine.execReferenceLost ref s
  | .pllUnstable pll => Sys2Proof.Machine.execPllUnstable pll s
  | .hbmPllGate => Sys2Proof.Machine.execHbmPllGate s
  | .clockWaitEnd us => Sys2Proof.Machine.execClockWaitEnd us s
  | .pllRelockFail pll => Sys2Proof.Machine.execPllRelockFail pll s
  | .stepMuxSwitch core forced => Sys2Proof.Machine.execStepMuxSwitch core forced s
  | .railTargetReached rail => Sys2Proof.Machine.execRailTargetReached rail s
  | .rampLimitExpiry rail => Sys2Proof.Machine.execRampLimitExpiry rail s
  | .avsbusPoll rail mv fails => Sys2Proof.Machine.execAvsbusPoll rail mv fails s
  | .brownOutWarning rail mv => Sys2Proof.Machine.execBrownOutWarning rail mv s
  | .brownOutWarningEnd rail mv => Sys2Proof.Machine.execBrownOutWarningEnd rail mv s
  | .brownOutResetLevel rail mv => Sys2Proof.Machine.execBrownOutResetLevel rail mv s
  | .powerSample watts => Sys2Proof.Machine.execPowerSample watts s
  | .thermalSample temp => Sys2Proof.Machine.execThermalSample temp s
  | .halveEnd => Sys2Proof.Machine.execHalveEnd s
  | .thermalShutdown die sensor temp => Sys2Proof.Machine.execThermalShutdown die sensor temp s
  | .agePlan by_ v => Sys2Proof.Machine.execAgePlan by_ v s
  | .agePlanCommit => Sys2Proof.Machine.execAgePlanCommit s
  | .persistentStoreWrite => Sys2Proof.Machine.execPersistentStoreWrite s
  | .powerOnReset => Sys2Proof.Machine.execPowerOnReset s
  | .moduleResetN low ns => Sys2Proof.Machine.execModuleResetN low ns s
  | .resetCmdWarm m => Sys2Proof.Machine.execResetCmdWarm m s
  | .resetCmdManagement m => Sys2Proof.Machine.execResetCmdManagement m s
  | .managementWatchdog => Sys2Proof.Machine.execManagementWatchdog s
  | .dieReset die => Sys2Proof.Machine.execDieReset die s
  | .auxStartDone => Sys2Proof.Machine.execAuxStartDone s
  | .clocksDone => Sys2Proof.Machine.execClocksDone s
  | .hubStart moduleId mgmtId => Sys2Proof.Machine.execHubStart moduleId mgmtId s
  | .romDone a b => Sys2Proof.Machine.execRomDone a b s
  | .firmwareDone version svn => Sys2Proof.Machine.execFirmwareDone version svn s
  | .hbmDone trained => Sys2Proof.Machine.execHbmDone trained s
  | .testLogicReset => Sys2Proof.Machine.execTestLogicReset s
  | .extest v => Sys2Proof.Machine.execExtest v s
  | .samplePreload v => Sys2Proof.Machine.execSamplePreload v s
  | .idcode => Sys2Proof.Machine.execIdcode s
  | .clamp => Sys2Proof.Machine.execClamp s
  | .highz => Sys2Proof.Machine.execHighz s
  | .bypass => Sys2Proof.Machine.execBypass s
  | .dstat => Sys2Proof.Machine.execDstat s
  | .daccRead consume space size addr => Sys2Proof.Machine.execDaccRead consume space size addr s
  | .daccWrite space size addr data => Sys2Proof.Machine.execDaccWrite space size addr data s
  | .daccCapture => Sys2Proof.Machine.execDaccCapture s
  | .haltreq core => Sys2Proof.Machine.execHaltreq core s
  | .resumereq core => Sys2Proof.Machine.execResumereq core s
  | .clrBroke core => Sys2Proof.Machine.execClrBroke core s
  | .haltDeferLimit core => Sys2Proof.Machine.execHaltDeferLimit core s
  | .coreHalted core cycles => Sys2Proof.Machine.execCoreHalted core cycles s
  | .dhalt m v => Sys2Proof.Machine.execDhalt m v s
  | .vtTx core consume => Sys2Proof.Machine.execVtTx core consume s
  | .vtRx core value => Sys2Proof.Machine.execVtRx core value s
  | .flCmdProgram m => Sys2Proof.Machine.execFlCmdProgram m s
  | .flCmdErase m => Sys2Proof.Machine.execFlCmdErase m s
  | .flDone verified => Sys2Proof.Machine.execFlDone verified s
  | .lcReq by_ target sig => Sys2Proof.Machine.execLcReq by_ target sig s
  | .lcTransitionDone => Sys2Proof.Machine.execLcTransitionDone s
  | .keyCmdInstallImageKey m => Sys2Proof.Machine.execKeyCmdInstallImageKey m s
  | .keyCmdInstallSigningKey m => Sys2Proof.Machine.execKeyCmdInstallSigningKey m s
  | .keyCmdSetOwnerKey m => Sys2Proof.Machine.execKeyCmdSetOwnerKey m s
  | .keyCmdRevoke m => Sys2Proof.Machine.execKeyCmdRevoke m s
  | .abandonOpening => Sys2Proof.Machine.execAbandonOpening s
  | .abandonHold => Sys2Proof.Machine.execAbandonHold s
  | .canErrorPassive tec rec_ => Sys2Proof.Machine.execCanErrorPassive tec rec_ s
  | .ageingSensorReport die pc a b c d => Sys2Proof.Machine.execAgeingSensorReport die pc a b c d s
  | .regionFreqMeasure region khz => Sys2Proof.Machine.execRegionFreqMeasure region khz s
  | .judgingWindowEnd sysKhz pcieKhz plls => Sys2Proof.Machine.execJudgingWindowEnd sysKhz pcieKhz plls s
  | .regionLossEnd region => Sys2Proof.Machine.execRegionLossEnd region s

end Sys2Proof.Machine
end

