-- ==== Sys2Proof/Machine/Cells.lean ====
section
/-!
DEFINITION. The fabric's logic as a configuration fixes it (R346–R350): what a resource's multiplexer selects, the cells' tables and
flip-flops, the block RAM ports, and the clock edges of a base cycle. What the configuration holds is `Config`'s, since its format is
not published.
-/

namespace Sys2Proof.Machine

/-! ### Resources: every one is driven by the output of one multiplexer (R348) -/

/-- The resource numbers of a cell: inputs I0–I5, the bypass inputs of its flip-flops, its clock enable and its set/reset. -/
def cellInput (cell i : Nat) : Nat := 16 * cell + i
def cellBypass (cell i : Nat) : Nat := 16 * cell + 6 + i
def cellEnable (cell : Nat) : Nat := 16 * cell + 8
def cellSetReset (cell : Nat) : Nat := 16 * cell + 9

/-- The resource numbers of a block RAM port: its address, its write enable and its write data. -/
def ramAddress (port i : Nat) : Nat := 2 ^ 24 + 64 * port + i
def ramEnable (port : Nat) : Nat := 2 ^ 24 + 64 * port + 16
def ramData (port i : Nat) : Nat := 2 ^ 24 + 64 * port + 32 + i

/-- The flip-flops of a cell: as INIT left them until the cell is first clocked (R347). -/
def State.flops (s : State) (cell : Nat) : Bool × Bool :=
  tget (fun c => let k := Config.fabCell s.fabric.conf c; (k.first.init, k.second.init)) s.fabric.flops cell

/-- A bit of a block RAM: its initial contents are part of the configuration. -/
def State.ramBit (s : State) (block bit : Nat) : Bool :=
  tget (fun n => Config.fabRam s.fabric.conf (n / 32768) (n % 32768)) s.fabric.ram (32768 * block + bit)

/-- What enters the fabric from outside its logic: the FOUT boundary (0–8191), the TIME port (8192–8255, R361), FOUT_SEQ (8256–8263, R360);
pads, hard blocks and the other ports show what the world outside drives, which is left open. -/
def State.fabInput (s : State) (n : Nat) : Bool :=
  if n < 8192 then (mget s.fabric.fout (n / 8)).getLsbD (n % 8)
  else if n < 8256 then s.nowNs.testBit (n - 8192)
  else if n < 8264 then s.fabric.foutSeq.testBit (n - 8256)
  else (Config.freeNat s.fresh).testBit n

/-- The table outputs of a cell for the inputs as one number (R346). -/
def cellOutputs (k : CellConf) (i : Nat) : Bool × Bool := if k.split then cellSplit k.table i else cellWhole k.table i

/-- The value of a source, through at most `n` tables: a loop of tables is an error left open (R371). A source that is none drives 0. -/
def State.fabSource (s : State) : Nat → FabSource → Bool
  | _, .none => false
  | _, .flop c second => if second then (s.flops c).2 else (s.flops c).1
  | _, .ram port bit => (tget (fun _ => 0) s.fabric.ramOut port).testBit bit
  | _, .outside n => s.fabInput n
  | 0, .table _ _ => Config.freeBit s.fresh
  | n + 1, .table c second =>
    let i := (List.range 6).foldl (fun v j =>
      v + 2 ^ j * (s.fabSource n (Config.fabSelect s.fabric.conf (cellInput c j))).toNat) 0
    let o := cellOutputs (Config.fabCell s.fabric.conf c) i
    if second then o.2 else o.1

/-- The value of a resource. -/
def State.fabValue (s : State) (resource : Nat) : Bool := s.fabSource 131072 (Config.fabSelect s.fabric.conf resource)

/-! ### Flip-flops (R347) -/

/-- A flip-flop after an event: set/reset takes precedence over the clock enable; without an edge only an asynchronous set/reset acts. -/
def flopNext (f : FlopConf) (async edge enable setReset d q : Bool) : Bool :=
  if setReset && (edge || async) then f.setReset
  else if edge && enable then d
  else q

/-- The flip-flops of a cell after a base cycle; `edge` says whether its region's clock rose in it. -/
def State.cellNext (s : State) (cell : Nat) (edge : Bool) : Bool × Bool :=
  let k := Config.fabCell s.fabric.conf cell
  let q := s.flops cell
  let enable := s.fabValue (cellEnable cell)
  let sr := s.fabValue (cellSetReset cell)
  let d (f : FlopConf) (i : Nat) : Bool :=
    if f.bypass then s.fabValue (cellBypass cell i) else s.fabSource 131072 (.table cell (i == 1))
  (flopNext k.first k.async edge enable sr (d k.first 0) q.1, flopNext k.second k.async edge enable sr (d k.second 1) q.2)

/-! ### Regional clocks (R350, R351) -/

/-- A source of a region gives an edge in a base cycle: the base clock does, a ring oscillator or a clock pin may, another region does
when its divided output rises. A region whose multiplexer is between two sources gives none. -/
def State.sourceEdge (s : State) : Nat → Nat → Bool
  | 0, _ => false
  | n + 1, v =>
    if v = 0 then s.obj O.CLOCK_WAIT != 1
    else if v < 32 then (Config.freeNat s.fresh).testBit v
    else
      let r := s.region (v - 32)
      regEnable r.entry && r.switching.isNone && r.count == 0 && s.sourceEdge n (if r.sel then regSrcB r.entry else regSrcA r.entry)

/-- A region's multiplexer passes an edge on to its divider. -/
def State.dividerEdge (s : State) (r : Nat) : Bool :=
  let e := s.region r
  regEnable e.entry && e.switching.isNone && s.sourceEdge 17 (if e.sel then regSrcB e.entry else regSrcA e.entry)

/-- A region's output rises. -/
def State.regionRises (s : State) (r : Nat) : Bool := s.dividerEdge r && (s.region r).count == 0

/-! ### Block RAM (R349) -/

/-- The width of a port in bits. -/
def State.portWidth (s : State) (port : Nat) : Nat := 2 ^ (Config.fabPort s.fabric.conf port).shape.val

/-- The address that a port's resources give, in words of its width. -/
def State.ramWord (s : State) (port : Nat) : Nat :=
  let w := s.portWidth port
  ((List.range 15).foldl (fun n i => n + 2 ^ i * (s.fabValue (ramAddress port i)).toNat) 0) % (32768 / w)

/-- The bits that a port reads at an edge: the contents before it. -/
def State.ramRead (s : State) (port : Nat) : Nat :=
  let w := s.portWidth port
  (List.range w).foldl (fun n i => n + 2 ^ i * (s.ramBit (port / 2) (w * s.ramWord port + i)).toNat) 0

/-- The bits that a port writes at an edge: their numbers and values. -/
def State.ramWrites (s : State) (port : Nat) : List (Nat × Bool) :=
  let w := s.portWidth port
  if s.fabValue (ramEnable port) then
    (List.range w).map fun i => (32768 * (port / 2) + w * s.ramWord port + i, s.fabValue (ramData port i))
  else []

/-- The ports of a block have met on one edge of two different clocks, one of them writing a bit that the other reaches (R371). -/
def State.ramClash (s : State) (block : Nat) (ports : List Nat) : Bool :=
  let a := 2 * block
  let b := a + 1
  let range (p : Nat) : Nat × Nat := let w := s.portWidth p; (w * s.ramWord p, w * s.ramWord p + w)
  ports.contains a && ports.contains b && (Config.fabPort s.fabric.conf a).region != (Config.fabPort s.fabric.conf b).region
    && (s.fabValue (ramEnable a) || s.fabValue (ramEnable b))
    && decide ((range a).1 < (range b).2 ∧ (range b).1 < (range a).2)

/-! ### A base cycle -/

/-- A base cycle of a configured fabric: every region's divider counts, and every cell and block RAM port of a region whose clock rises
takes its edge on the values of before. Port B's write stands over port A's. -/
def State.fabCycle (s : State) : State :=
  if s.obj O.FAB_STATE ≠ 2 then s
  else
    let conf := s.fabric.conf
    let rising := (List.range 16).filter s.regionRises
    let flops := (List.range 131072).foldl (fun t c =>
      tput (fun c => let k := Config.fabCell conf c; (k.first.init, k.second.init)) t c
        (s.cellNext c (rising.contains (Config.fabCell conf c).region))) s.fabric.flops
    let ports := (List.range 8192).filter fun p => rising.contains (Config.fabPort conf p).region
    let out := ports.foldl (fun t p => tput (fun _ => 0) t p (s.ramRead p)) s.fabric.ramOut
    let ram := (ports.flatMap s.ramWrites).foldl (fun t w =>
      tput (fun n => Config.fabRam conf (n / 32768) (n % 32768)) t w.1 w.2) s.fabric.ram
    let regions := (List.range 16).foldl (fun t r =>
      if s.dividerEdge r then tupd (fun _ => Region.blank) t r fun x => { x with count := (x.count + 1) % regDiv x.entry } else t)
      s.fabric.regions
    let t := { s with
      fabric := { s.fabric with flops := flops, ramOut := out, ram := ram, regions := regions }, fresh := s.fresh + 1 }
    if (List.range 4096).any fun k => s.ramClash k ports then t.astray else t

end Sys2Proof.Machine
end

