-- ==== Sys2Proof/Machine/RiscV.lean ====
section
/-!
DEFINITION. The instruction set of a transactor core (R267): RV64IMAC with Zicsr, Zifencei, Zba and Zbb of Volume I and the M-mode and
U-mode of Volume II. The instructions that reach the module's own units run the same operations as the commands of the core.
-/

namespace Sys2Proof.Machine

/-- The state after an outcome that goes on. -/
def Out.orElse (o : Out) (s : State) : State := match o with | .next t => t | _ => s

/-! ### Compressed instructions: each as the 32-bit instruction it stands for -/

def encR (f7 rs2 rs1 f3 rd op : Nat) : Nat := f7 * 2 ^ 25 + rs2 * 2 ^ 20 + rs1 * 2 ^ 15 + f3 * 2 ^ 12 + rd * 2 ^ 7 + op
def encI (imm rs1 f3 rd op : Nat) : Nat := imm % 2 ^ 12 * 2 ^ 20 + rs1 * 2 ^ 15 + f3 * 2 ^ 12 + rd * 2 ^ 7 + op
def encS (imm rs2 rs1 f3 : Nat) : Nat := encR (field imm 5 7) rs2 rs1 f3 (field imm 0 5) 0x23
def encB (imm rs2 rs1 f3 : Nat) : Nat :=
  encR (field imm 12 1 * 64 + field imm 5 6) rs2 rs1 f3 (field imm 1 4 * 2 + field imm 11 1) 0x63
def encJ (imm rd : Nat) : Nat :=
  field imm 20 1 * 2 ^ 31 + field imm 1 10 * 2 ^ 21 + field imm 11 1 * 2 ^ 20 + field imm 12 8 * 2 ^ 12 + rd * 2 ^ 7 + 0x6F

/-- The sign-extended `w`-bit immediate `v` as 32 bits. -/
def sx (w v : Nat) : Nat := ofSigned 32 (toSigned w v)

/-- A number with the bits of `c` moved: each entry gives the lowest bit taken, the number of bits and where they go. -/
def moved (c : Nat) (l : List (Nat × Nat × Nat)) : Nat := l.foldl (fun n e => n + field c e.1 e.2.1 * 2 ^ e.2.2) 0

/-- The instructions of quadrant 1 on registers x8–x15 (C.SRLI to C.ADDW). -/
def expandAlu (c : Nat) : Option Nat :=
  let rd := 8 + field c 7 3
  let rs2 := 8 + field c 2 3
  let imm := moved c [(2, 5, 0), (12, 1, 5)]
  match field c 10 2 with
  | 0 => some (encI imm rd 5 rd 0x13)
  | 1 => some (encI (0x400 + imm) rd 5 rd 0x13)
  | 2 => some (encI (sx 6 imm) rd 7 rd 0x13)
  | _ => match field c 12 1, field c 5 2 with
    | 0, 0 => some (encR 0x20 rs2 rd 0 rd 0x33)
    | 0, 1 => some (encR 0 rs2 rd 4 rd 0x33)
    | 0, 2 => some (encR 0 rs2 rd 6 rd 0x33)
    | 0, _ => some (encR 0 rs2 rd 7 rd 0x33)
    | _, 0 => some (encR 0x20 rs2 rd 0 rd 0x3B)
    | _, 1 => some (encR 0 rs2 rd 0 rd 0x3B)
    | _, _ => none

/-- Quadrant 0. -/
def expand0 (c : Nat) : Option Nat :=
  let rd := 8 + field c 2 3
  let rs1 := 8 + field c 7 3
  let w := moved c [(10, 3, 3), (6, 1, 2), (5, 1, 6)]
  let d := moved c [(10, 3, 3), (5, 2, 6)]
  match field c 13 3 with
  | 0 =>
    let imm := moved c [(11, 2, 4), (7, 4, 6), (6, 1, 2), (5, 1, 3)]
    if imm = 0 then none else some (encI imm 2 0 rd 0x13)
  | 2 => some (encI w rs1 2 rd 0x03)
  | 3 => some (encI d rs1 3 rd 0x03)
  | 6 => some (encS w rd rs1 2)
  | 7 => some (encS d rd rs1 3)
  | _ => none

/-- Quadrant 1. -/
def expand1 (c : Nat) : Option Nat :=
  let rd := field c 7 5
  let imm := moved c [(2, 5, 0), (12, 1, 5)]
  match field c 13 3 with
  | 0 => some (encI (sx 6 imm) rd 0 rd 0x13)
  | 1 => if rd = 0 then none else some (encI (sx 6 imm) rd 0 rd 0x1B)
  | 2 => some (encI (sx 6 imm) 0 0 rd 0x13)
  | 3 =>
    if rd = 2 then
      let i := moved c [(12, 1, 9), (6, 1, 4), (5, 1, 6), (3, 2, 7), (2, 1, 5)]
      if i = 0 then none else some (encI (sx 10 i) 2 0 2 0x13)
    else if imm = 0 then none else some (sx 6 imm % 2 ^ 20 * 2 ^ 12 + rd * 2 ^ 7 + 0x37)
  | 4 => expandAlu c
  | 5 => some (encJ (sx 12 (moved c [(12, 1, 11), (11, 1, 4), (9, 2, 8), (8, 1, 10), (7, 1, 6), (6, 1, 7), (3, 3, 1), (2, 1, 5)])) 0)
  | n => some (encB (sx 9 (moved c [(12, 1, 8), (10, 2, 3), (5, 2, 6), (3, 2, 1), (2, 1, 5)])) 0 (8 + field c 7 3) (n - 6))

/-- Quadrant 2. -/
def expand2 (c : Nat) : Option Nat :=
  let rd := field c 7 5
  let rs2 := field c 2 5
  match field c 13 3 with
  | 0 => some (encI (moved c [(2, 5, 0), (12, 1, 5)]) rd 1 rd 0x13)
  | 2 => if rd = 0 then none else some (encI (moved c [(12, 1, 5), (4, 3, 2), (2, 2, 6)]) 2 2 rd 0x03)
  | 3 => if rd = 0 then none else some (encI (moved c [(12, 1, 5), (5, 2, 3), (2, 3, 6)]) 2 3 rd 0x03)
  | 4 =>
    if rs2 = 0 then
      if rd = 0 then if c.testBit 12 then some 0x00100073 else none
      else some (encI 0 rd 0 (field c 12 1) 0x67)
    else some (encR 0 rs2 (if c.testBit 12 then rd else 0) 0 rd 0x33)
  | 6 => some (encS (moved c [(9, 4, 2), (7, 2, 6)]) rs2 2 2)
  | 7 => some (encS (moved c [(10, 3, 3), (7, 3, 6)]) rs2 2 3)
  | _ => none

/-- The 32-bit instruction that a 16-bit parcel stands for. -/
def expandC (c : Nat) : Option Nat := match c % 4 with | 0 => expand0 c | 1 => expand1 c | 2 => expand2 c | _ => none

/-! ### Register results -/

/-- A register value as a signed number. -/
def sgn (v : Nat) : Int := toSigned 64 v

/-- An integer as a register value. -/
def wrap (i : Int) : Nat := ofSigned 64 i

/-- Leading zeros of a `w`-bit value. -/
def clz (w v : Nat) : Nat := if v % 2 ^ w = 0 then w else w - 1 - Nat.log2 (v % 2 ^ w)

/-- Trailing zeros of a `w`-bit value. -/
def ctz (w v : Nat) : Nat := ((List.range w).find? fun i => v.testBit i).getD w

/-- A `w`-bit value rotated right. -/
def ror (w v n : Nat) : Nat := let x := v % 2 ^ w; (x / 2 ^ (n % w) + x * 2 ^ (w - n % w)) % 2 ^ w

/-- Division and remainder of `w`-bit values, signed or not (Volume I, M). -/
def divide (w : Nat) (signed rem : Bool) (a b : Nat) : Int :=
  let x : Int := if signed then toSigned w a else (a % 2 ^ w : Nat)
  let y : Int := if signed then toSigned w b else (b % 2 ^ w : Nat)
  if y = 0 then (if rem then x else -1) else if rem then x.tmod y else x.tdiv y

/-- The result of OP (0x33); none where no such instruction exists. -/
def opResult (f7 f3 a b : Nat) : Option Nat :=
  match f7, f3 with
  | 0, 0 => some (a + b)
  | 0, 1 => some (a * 2 ^ (b % 64))
  | 0, 2 => some (decide (sgn a < sgn b)).toNat
  | 0, 3 => some (decide (a < b)).toNat
  | 0, 4 => some (a ^^^ b)
  | 0, 5 => some (a / 2 ^ (b % 64))
  | 0, 6 => some (a ||| b)
  | 0, 7 => some (a &&& b)
  | 0x20, 0 => some (wrap (a - b : Int))
  | 0x20, 4 => some (a ^^^ (2 ^ 64 - 1 - b))
  | 0x20, 5 => some (wrap (sgn a / 2 ^ (b % 64)))
  | 0x20, 6 => some (a ||| (2 ^ 64 - 1 - b))
  | 0x20, 7 => some (a &&& (2 ^ 64 - 1 - b))
  | 1, 0 => some (a * b)
  | 1, 1 => some (wrap (sgn a * sgn b / 2 ^ 64))
  | 1, 2 => some (wrap (sgn a * (b : Int) / 2 ^ 64))
  | 1, 3 => some (a * b / 2 ^ 64)
  | 1, 4 => some (wrap (divide 64 true false a b))
  | 1, 5 => some (wrap (divide 64 false false a b))
  | 1, 6 => some (wrap (divide 64 true true a b))
  | 1, 7 => some (wrap (divide 64 false true a b))
  | 0x05, 4 => some (if sgn a < sgn b then a else b)
  | 0x05, 5 => some (min a b)
  | 0x05, 6 => some (if sgn a < sgn b then b else a)
  | 0x05, 7 => some (max a b)
  | 0x10, 2 => some (2 * a + b)
  | 0x10, 4 => some (4 * a + b)
  | 0x10, 6 => some (8 * a + b)
  | 0x30, 1 => some (ror 64 a (64 - b % 64))
  | 0x30, 5 => some (ror 64 a b)
  | _, _ => none

/-- The result of OP-32 (0x3B); `rs2` is the register number of the second operand. -/
def op32Result (f7 f3 rs2 a b : Nat) : Option Nat :=
  let a32 := a % 2 ^ 32
  match f7, f3 with
  | 0, 0 => some (sext32 (a + b))
  | 0, 1 => some (sext32 (a * 2 ^ (b % 32)))
  | 0, 5 => some (sext32 (a32 / 2 ^ (b % 32)))
  | 0x20, 0 => some (sext32 (wrap (a - b : Int)))
  | 0x20, 5 => some (wrap (toSigned 32 a / 2 ^ (b % 32)))
  | 1, 0 => some (sext32 (a * b))
  | 1, 4 => some (sext32 (wrap (divide 32 true false a b)))
  | 1, 5 => some (sext32 (wrap (divide 32 false false a b)))
  | 1, 6 => some (sext32 (wrap (divide 32 true true a b)))
  | 1, 7 => some (sext32 (wrap (divide 32 false true a b)))
  | 4, 0 => some (a32 + b)
  | 4, 4 => if rs2 = 0 then some (a % 2 ^ 16) else none
  | 0x10, 2 => some (2 * a32 + b)
  | 0x10, 4 => some (4 * a32 + b)
  | 0x10, 6 => some (8 * a32 + b)
  | 0x30, 1 => some (sext32 (ror 32 a (32 - b % 32)))
  | 0x30, 5 => some (sext32 (ror 32 a b))
  | _, _ => none

/-- The shifts and the unary operations of OP-IMM with funct3 1. -/
def imm1Result (imm a : Nat) : Option Nat :=
  if imm / 64 = 0 then some (a * 2 ^ imm)
  else match imm with
    | 0x600 => some (clz 64 a)
    | 0x601 => some (ctz 64 a)
    | 0x602 => some (popcount 64 a)
    | 0x604 => some (wrap (toSigned 8 a))
    | 0x605 => some (wrap (toSigned 16 a))
    | _ => none

/-- The shifts and the unary operations of OP-IMM with funct3 5. -/
def imm5Result (imm a : Nat) : Option Nat :=
  if imm / 64 = 0 then some (a / 2 ^ (imm % 64))
  else if imm / 64 = 0x10 then some (wrap (sgn a / 2 ^ (imm % 64)))
  else if imm / 64 = 0x18 then some (ror 64 a (imm % 64))
  else if imm = 0x287 then some ((List.range 8).foldl (fun n i => if field a (8 * i) 8 = 0 then n else n + 255 * 2 ^ (8 * i)) 0)
  else if imm = 0x6B8 then some ((List.range 8).foldl (fun n i => n + field a (8 * i) 8 * 2 ^ (56 - 8 * i)) 0)
  else none

/-- The result of OP-IMM (0x13) with the 12-bit immediate `imm`. -/
def immResult (f3 imm a : Nat) : Option Nat :=
  let v := wrap (toSigned 12 imm)
  match f3 with
  | 0 => some (a + v)
  | 1 => imm1Result imm a
  | 2 => some (decide (sgn a < sgn v)).toNat
  | 3 => some (decide (a < v)).toNat
  | 4 => some (a ^^^ v)
  | 5 => imm5Result imm a
  | 6 => some (a ||| v)
  | _ => some (a &&& v)

/-- The result of OP-IMM-32 (0x1B). -/
def imm32Result (f3 imm a : Nat) : Option Nat :=
  let a32 := a % 2 ^ 32
  match f3 with
  | 0 => some (sext32 (a + wrap (toSigned 12 imm)))
  | 1 =>
    if imm / 32 = 0 then some (sext32 (a * 2 ^ imm))
    else if imm / 64 = 2 then some (a32 * 2 ^ (imm % 64))
    else match imm with
      | 0x600 => some (clz 32 a)
      | 0x601 => some (ctz 32 a)
      | 0x602 => some (popcount 32 a)
      | _ => none
  | 5 =>
    if imm / 32 = 0 then some (sext32 (a32 / 2 ^ imm))
    else if imm / 32 = 0x20 then some (wrap (toSigned 32 a / 2 ^ (imm % 32)))
    else if imm / 32 = 0x30 then some (sext32 (ror 32 a (imm % 32)))
    else none
  | _ => none

/-- A branch is taken. -/
def branchTaken (f3 a b : Nat) : Option Bool :=
  match f3 with
  | 0 => some (a == b)
  | 1 => some (a != b)
  | 4 => some (decide (sgn a < sgn b))
  | 5 => some (decide (sgn b ≤ sgn a))
  | 6 => some (decide (a < b))
  | 7 => some (decide (b ≤ a))
  | _ => none

/-! ### Memory (R269, R270) -/

/-- Something that core `c` has not fenced has been written in [lo, hi): by another core, the host or DMA, or, for code, by itself. -/
def State.stale (s : State) (c lo hi : Nat) (code : Bool) : Bool :=
  (s.hub.writes.take (s.hub.writes.length - (s.core c).fenced)).any fun w => w.1 < hi && lo < w.2.1 && (code || w.2.2 != c)

/-- An access of `n` bytes at `a`, all in one range of Table 12-1. -/
def rangeOf (a n : Nat) : CoreRange := if coreRange (a + n - 1) = coreRange a then coreRange a else .none

/-- The key of a core address in `Hub.writes`. -/
def writeKey (c a : Nat) : Nat := if a < 0x1000000 then sramKey c a else a

/-- Bytes of SRAM or HBM as core `c` reads them: free where its cache may hold something older (R286). -/
def State.coreBytes (s : State) (c a n : Nat) (code : Bool) : List Byte :=
  let k := writeKey c a
  if (code || coreRange a == .hbm) && s.stale c k (k + n) code then freeBytes s.fresh a n
  else if coreRange a == .hbm then s.hbmRead (a - 0x1000000000) n
  else (List.range n).map fun i => s.sramByte c (a + i)

/-- A draw for bytes that `coreBytes` has left open. -/
def State.coreDraw (s : State) (c a n : Nat) (code : Bool) : State :=
  let k := writeKey c a
  if (code || coreRange a == .hbm) && s.stale c k (k + n) code then s.draw.astray else s

/-- A store through the HBM window reaches what R286 keeps from it: a log, a store, the system region, or the Quarry while it is logged. -/
def State.storeUnchecked (s : State) (a n : Nat) : Bool :=
  s.hbmUnchecked a || s.hbmUnchecked (a + n - 1) || ! s.hbmWritable a || ! s.hbmWritable (a + n - 1)

/-- A store by core `c` to HBM (R270, R286). -/
def State.coreHbmStore (s : State) (c a n v : Nat) : State :=
  if s.storeUnchecked a n then s.astray.hbmOpen a (a + n)
  else
    let s := (s.hbmWrite a (leBytes n v)).noteWrite (0x1000000000 + a) n (some c)
    if s.hbmRegion a = 0 then s.memoryWritten else s

/-- A width of `n` bytes. -/
def widthOfBytes (n : Nat) : Width := match n with | 1 => .byte | 2 => .half | 4 => .word | _ => .double

/-- A value read at `off` of a register of the core's private block (Table 12-4) or a pacing register. WDT_KICK's read value is left open. -/
def State.blockValue (s : State) (c off : Nat) : Nat :=
  match off / 8 with
  | 0 => (s.core c).mtimecmp
  | 1 => Config.freeNat s.fresh % 2 ^ 64
  | 2 => (s.core c).wdt
  | _ => 0

/-- A register that a load has written, sign-extended from `n` bytes. -/
def Core.signed (k : Core) (rd n : Nat) : Core := k.setX rd (wrap (toSigned (8 * n) (k.getX rd)))

/-- A load of `n` bytes into `rd` (R269, R273, R275, R280, Table 12-4). -/
def State.coreLoad (s : State) (c rd a n : Nat) : State :=
  let give (s : State) (v : Nat) : State := s.setCore c ((s.core c).setX rd v)
  if a % n ≠ 0 then s.trap c 4 a
  else if s.coreDenied c false a n then s.trap c 5 a
  else match rangeOf a n with
    | .none => s.trap c 5 a
    | .locks => (execLockLoad (Fin.ofNat 32 c) (Fin.ofNat 256 ((a - 0x10000000) / 8)) (widthOfBytes n) (Fin.ofNat 32 rd) s).orElse s
    | .xports =>
      (execOutLoad (Fin.ofNat 32 c) (Fin.ofNat 4096 ((a - 0x11000000) / 256)) (Fin.ofNat 256 (a % 256)) (widthOfBytes n)
        (Fin.ofNat 32 rd) s).orElse s
    | .pace => give s (field (tget (fun _ => 0) s.hub.pace ((a - 0x12000000) / 8)) (8 * (a % 8)) (8 * n))
    | .block => give (if (a - 0x12010000) / 8 = 1 then s.draw else s) (field (s.blockValue c (a - 0x12010000)) (8 * (a % 8)) (8 * n))
    | .hbm =>
      match s.firstBad (a - 0x1000000000) n with
      | some b => (s.hbmBad b).trap c 5 a
      | none => give (s.coreDraw c a n false) (leNat (s.coreBytes c a n false))
    | _ => give s (leNat (s.coreBytes c a n false))

/-- A load and, where it went well, its sign extension. -/
def State.coreLoadX (s : State) (c rd a n : Nat) (sign : Bool) : State :=
  let t := s.coreLoad c rd a n
  if sign && (t.core c).ctx.pc == (s.core c).ctx.pc && (t.core c).ctx.mepc == (s.core c).ctx.mepc then t.setCore c ((t.core c).signed rd n)
  else t

/-- Some other core's pc stands in [a, a + n) of shared SRAM. -/
def State.overCode (s : State) (c a n : Nat) : Bool :=
  (List.range 32).any fun j => j != c && s.coreRuns j && decide (a ≤ (s.core j).ctx.pc ∧ (s.core j).ctx.pc < a + n)

/-- A store of `n` bytes (R269, R273, R275, R280, R286, Table 12-4). -/
def State.coreStore (s : State) (c a n v : Nat) : State :=
  if a % n ≠ 0 then s.trap c 6 a
  else if s.coreDenied c true a n then s.trap c 7 a
  else match rangeOf a n with
    | .none => s.trap c 7 a
    | .locks => (execLockStore (Fin.ofNat 32 c) (Fin.ofNat 256 ((a - 0x10000000) / 8)) (widthOfBytes n) s).orElse s
    | .xports => s.xportStore c ((a - 0x11000000) / 256) (a % 256) n v
    | .pace =>
      let d := (a - 0x12000000) / 8
      if a % 8 = 0 then (execPaceStore (Fin.ofNat 32 c) (Fin.ofNat 64 d) (BitVec.ofNat 64 (v % 2 ^ (8 * n))) s).orElse s else s
    | .block =>
      let off := a - 0x12010000
      if off < 8 then (s.setCore c { s.core c with mtimecmp := setField (s.core c).mtimecmp (8 * off) (8 * n) v }).timerIrq c
      else if off = 8 then
        if v % 2 ^ (8 * n) = 0xA5 then (execWdtKick (Fin.ofNat 32 c) 0xA5 s).orElse s else s
      else s
    | .hbm => s.coreHbmStore c (a - 0x1000000000) n v
    | .sharedSram => (if s.overCode c a n then s.astray else s).sramWrite c a n v
    | .localSram => s.sramWrite c a n v

/-! ### Instruction fetch -/

/-- The parcels at a pc: the 32-bit instruction and its length, or the exception and its tval. -/
inductive Fetched where
  | inst (w len : Nat)
  | illegal (w : Nat)
  | fault (a : Nat)
deriving DecidableEq, Repr

/-- Two bytes of code can be fetched. -/
def State.fetchable (s : State) (c a : Nat) : Bool :=
  ! (s.core c).pmpDenies (s.core c).ctx.priv a 2 2 && (match rangeOf a 2 with
    | .localSram => true
    | .sharedSram => true
    | .hbm => (s.firstBad (a - 0x1000000000) 2).isNone
    | _ => false)

/-- The instruction at a pc (Volume I: 16-bit parcels). -/
def State.fetchAt (s : State) (c pc : Nat) : Fetched :=
  if ! s.fetchable c pc then .fault pc
  else
    let lo := leNat (s.coreBytes c pc 2 true)
    if lo % 4 ≠ 3 then match expandC lo with | some w => .inst w 2 | none => .illegal lo
    else if ! s.fetchable c (pc + 2) then .fault (pc + 2)
    else .inst (lo + 65536 * leNat (s.coreBytes c (pc + 2) 2 true)) 4

/-! ### System instructions -/

/-- An illegal instruction; whether mtval holds it or 0 is left open. -/
def State.illegal (s : State) (c w : Nat) : State := State.draw (s.trap c 2 (if Config.freeBit s.fresh then w else 0))

/-- A write of TCMD (Table 13-4, R292). A reserved OP gives RANGE. -/
def State.threadCommand (s : State) (c v : Nat) : State :=
  let core : CoreIx := Fin.ofNat 32 c
  let tcx : Tcx := Fin.ofNat 16384 (field v 46 14)
  let flag : FlagIx := Fin.ofNat 32 (field v 41 5)
  let home : CoreIx := Fin.ofNat 32 (field v 36 5)
  let th := s.thread ((s.running c).getD 0)
  let targ (i : Nat) : Nat := tget (fun _ => 0) (s.core c).targ i
  let b64 (i : Nat) : BitVec 64 := BitVec.ofNat 64 (targ i)
  let bytes := field (targ 2) 21 9
  let req (write : Bool) : State :=
    if 4 ≤ bytes && bytes ≤ 256 && bytes % 4 = 0 then
      (s.threadReq c write (targ 0) (targ 1) (field (targ 2) 0 10) (field (targ 2) 10 3) (field (targ 2) 13 8) (bytes / 4 - 1) flag).orElse s
    else s.result4 ((s.running c).getD 0) 3
  match field v 60 4 with
  | 1 => (execTcmdWait core (BitVec.ofNat 32 th.mask) (BitVec.ofNat 64 th.timeout) s).orElse s
  | 2 => (execTcmdYield core s).orElse s
  | 3 => (execTcmdExit core s).orElse s
  | 4 => (execTcmdSignal core tcx flag s).orElse s
  | 5 => (execTcmdSpawn core tcx home (Fin.ofNat 32 (field v 31 5)) (b64 0) (b64 1) (b64 2) s).orElse s
  | 6 => (execTcmdStop core tcx s).orElse s
  | 7 => (execTcmdStart core tcx s).orElse s
  | 8 => (execTcmdMigrate core tcx home s).orElse s
  | 9 => (execTcmdAlarm core (Fin.ofNat 8 (field v 28 3)) tcx flag (b64 0) (b64 1) s).orElse s
  | 10 => req false
  | 11 => req true
  | _ => s.result4 ((s.running c).getD 0) 3

/-- A CSR may be reached in the present mode: its number's bits [9:8] give the lowest one, and in U-mode mcounteren opens the counters
(Volume II). -/
def State.csrOpen (s : State) (c n : Nat) : Bool :=
  let k := s.core c
  csrKind n != .absent && (k.ctx.priv = 3 || (field n 8 2 = 0 &&
    (! (0xC00 ≤ n && n ≤ 0xC1F) || (tget (fun _ => 0) k.csrs 0x306).testBit (n - 0xC00))))

/-- The instruction in execution waits: it will be issued again. -/
def State.reissue (s : State) (c : Nat) : State :=
  let k := s.core c
  s.setCore c { k with ctx := { k.ctx with pc := k.issuing.getD k.ctx.pc } }

/-- A CSR instruction (Zicsr): `arg` is the operand, `reads` and `writes` whether it reads and writes the CSR. -/
def State.csrInstr (s : State) (c w n rd arg : Nat) (op : CsrOp) (reads writes : Bool) : State :=
  let core : CoreIx := Fin.ofNat 32 c
  if ! s.csrOpen c n || (writes && field n 10 2 = 3) then s.illegal c w
  else if n = 0x808 && writes then
    let k := s.core c
    if k.vtTx.length ≥ 64 && s.objBit O.VT_BLOCK c then s.reissue c
    else (execVttx core (Fin.ofNat 32 rd) (BitVec.ofNat 8 arg) s).orElse s
  else if n = 0x809 then if reads then (execVtrx core (Fin.ofNat 32 rd) s).orElse s else s
  else
    let old := s.csrRead c n
    let s := s.draw.setCore c ((s.core c).setX rd old)
    if ! writes then s
    else
      let v := match op with | .replace => arg | .set => old ||| arg | .clear => old &&& (2 ^ 64 - 1 - arg % 2 ^ 64)
      if n = 0x800 then (execTflagsWrite core op (BitVec.ofNat 32 arg) s).orElse s
      else if n = 0x803 then (execTctlWrite core (BitVec.ofNat 64 v) s).orElse s
      else if n = 0x804 then s.threadCommand c v
      else (s.csrWrite c n v).takeIrq c

/-- MRET (Volume II). -/
def Core.mret (k : Core) : Core :=
  let m := k.ctx.mstatus
  let mpp := field m 11 2
  let m := setField (setBit (setBit m 3 (m.testBit 7)) 7 true) 11 2 0
  { k with ctx := { k.ctx with mstatus := if mpp = 3 then m else setBit m 17 false, priv := mpp, pc := k.ctx.mepc } }

/-- SYSTEM (0x73). WFI may end at once. -/
def State.systemInstr (s : State) (c w : Nat) : State :=
  let k := s.core c
  let rs1 := field w 15 5
  let rd := field w 7 5
  let n := field w 20 12
  match field w 12 3 with
  | 0 =>
    if w = 0x00000073 then s.trap c (if k.ctx.priv = 3 then 11 else 8) 0
    else if w = 0x00100073 then
      let t := (execEbreak (Fin.ofNat 32 c) s).orElse s
      if (t.core c).halted then t.reissue c else t
    else if w = 0x30200073 && k.ctx.priv = 3 then (s.setCore c k.mret).takeIrq c
    else if w = 0x10500073 && (k.ctx.priv = 3 || ! k.ctx.mstatus.testBit 21) then s
    else s.illegal c w
  | 1 => s.csrInstr c w n rd (k.getX rs1) .replace (rd != 0) true
  | 2 => s.csrInstr c w n rd (k.getX rs1) .set true (rs1 != 0)
  | 3 => s.csrInstr c w n rd (k.getX rs1) .clear true (rs1 != 0)
  | 5 => s.csrInstr c w n rd rs1 .replace (rd != 0) true
  | 6 => s.csrInstr c w n rd rs1 .set true (rs1 != 0)
  | 7 => s.csrInstr c w n rd rs1 .clear true (rs1 != 0)
  | _ => s.illegal c w

/-- The AMO of a funct5. -/
def amoOf (f5 : Nat) : Option AmoOp :=
  match f5 with
  | 0 => some .add | 1 => some .swap | 4 => some .xor | 0xC => some .and | 8 => some .or | 0x10 => some .min | 0x14 => some .max
  | 0x18 => some .minu | 0x1C => some .maxu | _ => none

/-- AMO (0x2F). -/
def State.amoInstr (s : State) (c w : Nat) : State :=
  let k := s.core c
  let core : CoreIx := Fin.ofNat 32 c
  let rd : Fin 32 := Fin.ofNat 32 (field w 7 5)
  let a := BitVec.ofNat 64 (k.getX (field w 15 5))
  let b := BitVec.ofNat 64 (k.getX (field w 20 5))
  let wide := field w 12 3 == 3
  if field w 12 3 ≠ 2 && field w 12 3 ≠ 3 then s.illegal c w
  else match field w 27 5 with
    | 2 => if field w 20 5 = 0 then (execLr core wide rd a s).orElse s else s.illegal c w
    | 3 => (execSc core wide rd a b s).orElse s
    | f => match amoOf f with
      | some op => (execAmo core op wide rd a b s).orElse s
      | none => s.illegal c w

/-! ### One instruction -/

/-- A jump to an address; with 16-bit parcels every even address is aligned. -/
def State.jump (s : State) (c a : Nat) : State :=
  let k := s.core c
  s.setCore c { k with ctx := { k.ctx with pc := a / 2 * 2 % 2 ^ 64 } }

/-- The B-type and J-type immediates. -/
def immB (w : Nat) : Int := toSigned 13 (moved w [(8, 4, 1), (25, 6, 5), (7, 1, 11), (31, 1, 12)])
def immJ (w : Nat) : Int := toSigned 21 (moved w [(21, 10, 1), (20, 1, 11), (12, 8, 12), (31, 1, 20)])

/-- The instruction `w`, which stands at `pc`, executed; the core's pc already stands behind it. -/
def State.execute (s : State) (c pc w : Nat) : State :=
  let k := s.core c
  let rd := field w 7 5
  let f3 := field w 12 3
  let f7 := field w 25 7
  let a := k.getX (field w 15 5)
  let b := k.getX (field w 20 5)
  let imm := field w 20 12
  let give (v : Option Nat) : State := match v with | some v => s.setCore c (k.setX rd v) | none => s.illegal c w
  match w % 128 with
  | 0x37 => give (some (sext32 (w / 4096 * 4096)))
  | 0x17 => give (some (pc + sext32 (w / 4096 * 4096)))
  | 0x6F => (s.setCore c (k.setX rd k.ctx.pc)).jump c (wrap (pc + immJ w))
  | 0x67 =>
    if f3 = 0 then (s.setCore c (k.setX rd k.ctx.pc)).jump c (wrap (a + toSigned 12 imm)) else s.illegal c w
  | 0x63 => match branchTaken f3 a b with
    | none => s.illegal c w
    | some t => if t then s.jump c (wrap (pc + immB w)) else s
  | 0x03 =>
    if f3 = 7 then s.illegal c w else s.coreLoadX c rd (wrap (a + toSigned 12 imm)) (2 ^ (f3 % 4)) (decide (f3 < 3))
  | 0x23 =>
    if f3 ≥ 4 then s.illegal c w
    else s.coreStore c (wrap (a + toSigned 12 (rd + 32 * f7))) (2 ^ f3) b
  | 0x13 => give (immResult f3 imm a)
  | 0x1B => give (imm32Result f3 imm a)
  | 0x33 => give (opResult f7 f3 a b)
  | 0x3B => give (op32Result f7 f3 (field w 20 5) a b)
  | 0x0F => if f3 = 0 then s else if f3 = 1 then (execFenceI (Fin.ofNat 32 c) s).orElse s else s.illegal c w
  | 0x73 => s.systemInstr c w
  | 0x2F => s.amoInstr c w
  | _ => s.illegal c w

/-- One instruction of a core that executes; a stepped core halts after it (R466). -/
def State.coreStep (s : State) (c : Nat) : State :=
  match s.executing c with
  | none => s
  | some _ =>
    let s := s.takeIrq c
    let k := s.core c
    let pc := k.ctx.pc
    let s' := match s.fetchAt c pc with
      | .fault a => s.trap c 1 a
      | .illegal w => s.illegal c w
      | .inst w len =>
        let t := s.coreDraw c pc len true
        let t := t.setCore c { k with issuing := some pc, ctx := { k.ctx with pc := (pc + len) % 2 ^ 64 } }
        t.execute c pc w
    let s' := s'.setCore c { s'.core c with issuing := none }
    if k.stepArm && ! (s'.core c).halted then s'.haltCore c hcStep 0 (s'.brokenBy c) else s'

/-- What the block does by itself in a tick of the time base: time counts, the fabric goes through the two base cycles of
the tick, the watchdogs and timers of the cores follow, and every core that executes issues an instruction (R234, R267, R268, R281, R347). -/
def State.idle (s : State) : State :=
  (List.range 32).foldl (fun s c => if s.coreRuns c then ((s.wdtTick c).timerIrq c).coreStep c else s) s.tick.fabCycle.fabCycle

end Sys2Proof.Machine
end

