-- ==== Sys2Proof/Safety.lean ====
section
/-!
DEFINITION. What counts as a safe run: no step stops it; the canonical form and the bounds that every step is to keep; and the words that
the statements use for a change of the dictionary, an op about to execute and a write about to be served.
-/

namespace Sys2Proof.Machine

/-- The step of a state goes on. -/
def goesOn (s : State) : Prop := ∃ t, step s = .next t

/-- The dictionary, its shadows and the hub's stores are in canonical form: equal contents are equal data. -/
def State.tidy (s : State) : Bool :=
  Tab.wf dflt s.dict && Tab.wf (fun _ => none) s.shadow && s.hub.sram.wf && s.hbm.mem.wf

/-- What may wait stays within the places the spec gives it: 16 queued EMCYs (R394), 256 fault records (R413), 64 held writes
(R380). -/
def State.bounded (s : State) : Bool :=
  decide (s.emcyQ.length ≤ 16) && decide (s.faults.ring.length ≤ 256) && decide (s.run.heldWrites.length ≤ 64)

/-- `t` is `s` with the objects of `l` written; every other object, and everything outside the dictionary, is as it was. -/
def State.wrote (s t : State) (l : List (Nat × Nat)) : Prop :=
  { t with dict := s.dict } = s ∧ (∀ e ∈ l, t.obj e.1 = e.2) ∧ ∀ k, (∀ e ∈ l, e.1 ≠ k) → t.obj k = s.obj k

/-- BP `bp` of a cluster is about to execute the word `w`: the cluster executes its present step, which no fetch, operand or route port
holds (R30, R54, R72, R78), and `w` is the op that the BP has still to execute in it. -/
abbrev State.opReady (s : State) (die pc bp w : Nat) : Prop :=
  s.executes (cidOf die pc) = true ∧ ((s.cl (cidOf die pc)).ops.find? fun o => o.1 == bp) = some (bp, w)

/-- The state in which such an op executes: its BP is noted as having had its op of the step. -/
abbrev State.opDone (s : State) (die pc bp : Nat) : State :=
  s.setCl (cidOf die pc) { s.cl (cidOf die pc) with done := (s.cl (cidOf die pc)).done ++ [bp] }

/-- A write of object `k` reaches the object's own rule: the dictionary engine has its clock and the object is not closed (R450, R487). -/
abbrev State.serves (s : State) (k : Nat) : Prop := s.engineStopped = false ∧ s.gate k true = eNone

end Sys2Proof.Machine
end

