-- ==== Sys2Proof/Certificates/Slice0/Obligations.lean ====
section
/-!
DEFINITION. What is to be proved of the module: statements of what each command does, of what a step does, and of what every step keeps.
-/

open Sys2Proof Sys2Proof.Machine

/-- R70, R31, R63–R66, R68, R69: an op of a class without memory, about to execute with nothing that holds its cluster's step, executes,
once in the step (`State.opDone`). NOP does nothing; LUT, CKEN, TRG, PRB, EVT and ASRT pass their value to the hub where they have one
to pass and give their result to LOCAL entry s and to DEST (`State.result`); END gives LOCAL 0 and stops the BP. Everything outside
what these expressions change is as before. -/
def Obligations.LogicOpsExecute : Prop :=
  ∀ (s : State) (die : Die) (pc : Pc) (bp : BpIx) (w : Nat), s.opReady die pc bp w →
    let cid := cidOf die pc
    let u := s.opDone die pc bp
    let v := operand (u.cl cid) bp w 0
    (iClass w = .nop → exec (.nop die pc bp) s = .next u) ∧
    (iClass w = .lut → exec (.lut die pc bp) s = .next (u.result cid bp w (lutResult (u.cl cid) bp w))) ∧
    (iClass w = .trg → exec (.trg die pc bp) s =
      .next ((u.drive cid (.trg (die * 4096 + field (iTt w) 0 12) v)).result cid bp w v)) ∧
    (iClass w = .prb → exec (.prb die pc bp) s =
      .next ((u.drive cid (.prb (die * 16384 + field (iTt w) 0 14) v)).result cid bp w v)) ∧
    (iClass w = .evt → exec (.evt die pc bp) s =
      .next ((if v then u.drive cid (.evt (field (iTt w) 0 14) (field (iSel w 3) 0 5)) else u).result cid bp w v)) ∧
    (iClass w = .asrt → exec (.asrt die pc bp) s =
      .next ((if v then u.drive cid (.asrt (iTt w) die ((u.lcOf cid).getD 0) bp) else u).result cid bp w v)) ∧
    (iClass w = .cken → exec (.cken die pc bp) s =
      .next (u.result cid bp w (u.sluice.enables.testBit (field (iTt w) 0 6)))) ∧
    (iClass w = .stop → exec (.endOp die pc bp) s =
      .next (let t := u.landLocal cid bp false
             t.setCl cid { t.cl cid with stopped := (t.cl cid).stopped ++ [bp.val] }))

/-- R8, R30, R63, R72, R80: XIN and FIN read, and XOUT and FOUT drive, the bit that the word names, at a cluster that is the home of it; at
any other cluster they execute with a result that nothing constrains, and what else they do is within the bounds of R8
(`State.astray`). A BP whose step is held, or which has no op of the class left in it, executes nothing. -/
def Obligations.ExchangeOpsExecute : Prop :=
  ∀ (s : State) (die : Die) (pc : Pc) (bp : BpIx),
    let cid := cidOf die pc
    (∀ w, s.opReady die pc bp w →
      let u := s.opDone die pc bp
      let v := operand (u.cl cid) bp w 0
      let x := field (iTt w) 0 12
      let b := field (iTt w) 0 13
      (iClass w = .xin → u.isHome cid x = true →
        exec (.xin die pc bp) s = .next (u.result cid bp w (u.xinBit x (field (iSel w 3) 0 9)))) ∧
      (iClass w = .xout → u.isHome cid x = true →
        exec (.xout die pc bp) s = .next ((u.drive cid (.xout x (field (iSel w 3) 0 9) v)).result cid bp w v)) ∧
      (iClass w = .fin → u.isHome cid (4096 + b) = true → exec (.fin die pc bp) s = .next (u.result cid bp w (u.finBit b))) ∧
      (iClass w = .fout → u.isHome cid (12288 + b) = true →
        exec (.fout die pc bp) s = .next ((u.drive cid (.fout b v)).result cid bp w v)) ∧
      (let wild := u.draw.astray.result cid bp w (Config.freeBit u.fresh)
       (iClass w = .xin → u.isHome cid x = false → exec (.xin die pc bp) s = .next wild) ∧
       (iClass w = .xout → u.isHome cid x = false → exec (.xout die pc bp) s = .next wild) ∧
       (iClass w = .fin → u.isHome cid (4096 + b) = false → exec (.fin die pc bp) s = .next wild) ∧
       (iClass w = .fout → u.isHome cid (12288 + b) = false → exec (.fout die pc bp) s = .next wild))) ∧
    (s.executes cid = false →
      exec (.lut die pc bp) s = .next s ∧ exec (.xin die pc bp) s = .next s ∧ exec (.xout die pc bp) s = .next s ∧
      exec (.mrdGo die pc bp) s = .next s ∧ exec (.mwrGo die pc bp) s = .next s ∧ exec (.endOp die pc bp) s = .next s)

/-- R44, R50, R59–R62, R136, R138, R142: the forms of MRD and MWR. A second op on a port in one period is an error that the module does not
detect. ADDR and DATA deposit their operand bits in the port's address or write-data register and give LOCAL 0. MWR GO has its enable
as result, and writes when it is 1. MRD GO gives LOCAL 0; on a Quarry port it queues a read request, on a port without a descriptor it
returns zeros, on a design-memory port the bits of the row as the port sees it in its step, or raises a memory fault where the row is
uncorrectable. -/
def Obligations.MemoryOpsExecute : Prop :=
  ∀ (s : State) (die : Die) (pc : Pc) (bp : BpIx) (w : Nat), s.opReady die pc bp w →
    let cid := cidOf die pc
    let o := s.opDone die pc bp
    let c := o.cl cid
    let u := if tget (fun _ => 0) c.portUse (mPort w) = c.period + 1 then o.astray
      else o.setCl cid { c with portUse := tput (fun _ => 0) c.portUse (mPort w) (c.period + 1) }
    let z := u.landLocal cid bp false
    let k := z.cl cid
    let d := z.portDesc cid (mPort w)
    let a := wordAddr d (k.paddr (mPort w))
    let row := (rowOfWord d a).1
    let e := iDest w % 16384
    let used := { k with memUse := k.period + 1 }
    let give := fun (x : State) (v : Nat) => x.returnBits cid e v (k.period + z.lat 10) .memory z.stamp (dWidth d)
    let seen := fun (v : Nat) => field (k.rowView (mPort w) row v) (rowOfWord d a).2 (dWidth d)
    (iClass w = .mrd → mrdForm w = .addr → exec (.mrdAddr die pc bp) s =
      .next ((u.setCl cid ((u.cl cid).deposit bp w false)).landLocal cid bp false)) ∧
    (iClass w = .mwr → mwrForm w = .addr → exec (.mwrAddr die pc bp) s =
      .next ((u.setCl cid ((u.cl cid).deposit bp w false)).landLocal cid bp false)) ∧
    (iClass w = .mwr → mwrForm w = .data → exec (.mwrData die pc bp) s =
      .next ((u.setCl cid ((u.cl cid).deposit bp w true)).landLocal cid bp false)) ∧
    (iClass w = .mwr → mwrForm w = .go → exec (.mwrGo die pc bp) s =
      .next ((if operand c bp w 0 then u.mwrGo cid w else u).result cid bp w (operand c bp w 0))) ∧
    (iClass w = .mrd → mrdForm w = .go → iDest w / 16384 = 2 →
      (dValid d = true → dQuarry d = true → exec (.mrdGo die pc bp) s = .next (z.quarryGo cid
        ⟨mPort w, false, dBase d + a, 0, dWidth d, e, z.stamp, z.dcNum, z.sluice.base + k.period, false⟩)) ∧
      (dValid d = false → exec (.mrdGo die pc bp) s = .next (give z 0)) ∧
      (dValid d = true → dQuarry d = false → ∀ y, k.rowBefore row = .uncorrectable y → exec (.mrdGo die pc bp) s =
        .next (z.raiseFault 4 (FaultLoc.cluster z cid) (row + mPort w * 2 ^ 16) 0 0)) ∧
      (dValid d = true → dQuarry d = false → ∀ v, k.rowBefore row = .clean v → exec (.mrdGo die pc bp) s =
        .next (give (z.setCl cid used) (seen v))) ∧
      (dValid d = true → dQuarry d = false → ∀ v, k.rowBefore row = .corrected v → exec (.mrdGo die pc bp) s =
        .next (give (z.setCl cid (if k.unseen row = [] then used.noteRow row else used.count 9 1)) (seen v))))

/-- R60, R76, R137: `n` bits of a return go to the INBOX entries that `n` successive entries of the return kind name, bit `i` with entry
`i`; all of them land in the same period, and nothing else changes. -/
def Obligations.ReturnedBitsAreQueued : Prop :=
  ∀ (s : State) (cid e val due : Nat) (src : DelivSrc) (stamp : Bool) (n : Nat), 0 < n →
    let entry := fun i => mnat (s.cl cid).node (nRoute ((e + i) % 16384)) 9
    (∀ i, i < n → eccCheck 64 (entry i % 2 ^ 64) (entry i / 2 ^ 64) = .clean (entry i % 2 ^ 64) ∧ rKind (entry i % 2 ^ 64) = 2) →
    let bit : Nat → Deliv := fun i =>
      ⟨due, src, true, rBp (entry i % 2 ^ 64), rInbox (entry i % 2 ^ 64), val.testBit i, stamp⟩
    s.returnBits cid e val due src stamp n =
      s.setCl cid { s.cl cid with inflight := (s.cl cid).inflight ++ (List.range n).map bit }

/-- R30, R33, R54, R81, R84, R87, R91, R92: one step-clock period of a cluster. A cluster that does not take part only takes the upsets.
One that does lands what is due and counts towards the overruns; then it waits at END or in the drain, where the notice rises once END
is at most 24 periods away, does an overhead step, or does a schedule step: every BP fetches first, and an uncorrectable fetch raises
its fault with no op executed; a step that a missing operand holds, or that would overfill a route port, is a held period; otherwise
every op left in the step executes and the next step follows. -/
def Obligations.ClusterPeriodPasses : Prop :=
  ∀ (s : State) (die : Die) (pc : Pc) (upsets : List Upset),
    let cid := cidOf die pc
    let a := s.setCl cid ((s.cl cid).upset upsets)
    ((a.stepping = false ∨ a.sluiceSet.contains cid = false ∨ a.mayAct cid = false) →
      exec (.clusterStep die pc upsets) s = .next a) ∧
    (a.stepping = true → a.sluiceSet.contains cid = true → a.mayAct cid = true →
      let b := a.landDue cid fun _ => true
      let c := b.cl cid
      let d := b.setCl cid { c with
        recent := c.recent.filter fun w => w.step + 1 ≥ c.step
        overrun := if a.partnersRunning && c.seq != .atEnd then c.overrun + 1 else c.overrun }
      let t := if a.partnersRunning && a.sluiceSet.head? == some cid && d.sluice.localDone.isSome then
        { d with sluice := { d.sluice with waitCount := d.sluice.waitCount + 1 } } else d
      let k := t.cl cid
      let n := k.noteFixes (activeBps k k.step)
      let f := t.setCl cid n
      let later := { k with period := k.period + 1 }
      (k.seq = .atEnd → exec (.clusterStep die pc upsets) s = .next (t.setCl cid later)) ∧
      (k.seq = .drain → exec (.clusterStep die pc upsets) s = .next (t.setCl cid { later with notice := later.noticeUp })) ∧
      ((k.seq = .commit ∨ k.seq = .exchange) → exec (.clusterStep die pc upsets) s = .next (t.overheadStep cid)) ∧
      ((k.seq = .runStep ∨ k.seq = .held) →
        (∀ bp syn, n.badFetch = some (bp, syn) →
          let r := f.raiseFault 2 (FaultLoc.cluster f cid) (bp + n.step * 2 ^ 16 + syn * 2 ^ 32) 0 0
          exec (.clusterStep die pc upsets) s = .next (r.setCl cid { r.cl cid with period := n.period + 1 })) ∧
        (n.badFetch = none → ∀ w, waitingOperand n n.ops = some w →
          exec (.clusterStep die pc upsets) s = .next (f.holdPeriod cid (some w))) ∧
        (n.badFetch = none → waitingOperand n n.ops = none → routeOverflow n n.ops = true →
          exec (.clusterStep die pc upsets) s = .next (f.holdPeriod cid none)) ∧
        (n.badFetch = none → waitingOperand n n.ops = none → routeOverflow n n.ops = false →
          let u := f.execAll cid n.ops
          exec (.clusterStep die pc upsets) s = .next (u.setCl cid { u.cl cid with
            seq := if (u.cl cid).step + 1 ≥ u.depth then .commit else .runStep
            step := if (u.cl cid).step + 1 ≥ u.depth then 0 else (u.cl cid).step + 1
            period := (u.cl cid).period + 1
            done := []
            holdLen := 0 }))))

/-- R28, R33, R60: A due delivery leaves the deliveries in flight and lands; the due returns of design memory land in their order. A
landing delivery is written and its tag set when its stamp is that of the current DC, and is otherwise discarded and counted. A value
that lands in LOCAL reads back with its tag, and every byte of the node but that of the entry and that of its tag is unchanged. -/
def Obligations.DeliveriesLand : Prop :=
  (∀ (s : State) (die : Die) (pc : Pc),
     let cid := cidOf die pc
     let c := s.cl cid
     exec (.memoryReturn die pc) s = .next (s.landDue cid fun d => d.src == .memory) ∧
     ((∀ d ∈ c.inflight, c.period < d.due) → exec (.deliveryLand die pc) s = .next s) ∧
     (∀ l d r, c.inflight = l ++ d :: r → (∀ e ∈ l, c.period < e.due) → d.due ≤ c.period →
       exec (.deliveryLand die pc) s = .next ((s.setCl cid { c with inflight := c.inflight.erase d }).landOne cid d))) ∧
  (∀ (s : State) (cid : Nat) (d : Deliv),
     (d.stamp ≠ s.stamp → s.landOne cid d = s.setCl cid ((s.cl cid).count 2 1)) ∧
     (d.stamp = s.stamp → d.inbox = false → d.bp < 1024 → d.idx < 1024 →
       let t := s.landOne cid d
       mbit (t.cl cid).node (nLocal d.bp) d.idx = d.val ∧ mbit (t.cl cid).node (nLocalTag d.bp) d.idx = true ∧
       (∀ a, a ≠ nLocal d.bp + d.idx / 8 → a ≠ nLocalTag d.bp + d.idx / 8 → mget (t.cl cid).node a = mget (s.cl cid).node a) ∧
       t = s.setCl cid { s.cl cid with node := (t.cl cid).node }) ∧
     (d.stamp = s.stamp → d.inbox = true → d.bp < 1024 → d.idx < 512 →
       let t := s.landOne cid d
       (mbit (s.cl cid).node (nInboxTag d.bp) d.idx = false → mbit (t.cl cid).node (nInbox d.bp) d.idx = d.val) ∧
       mbit (t.cl cid).node (nInboxTag d.bp) d.idx = true ∧
       (∀ a, a ≠ nInbox d.bp + d.idx / 8 → a ≠ nInboxTag d.bp + d.idx / 8 → mget (t.cl cid).node a = mget (s.cl cid).node a)))

/-- R54, R55, R79, R82, R112, R138, R139: what a cluster does for itself: corrected instruction and route entries are rewritten in the
exchange steps; the DC ends once the overhead steps are done and the route ports are empty, and SLOTs that are not whole flits with an
entry to leave by are discarded and counted; in a period in which no port touches the memory of a powered cluster, a corrected row is
rewritten, and the scrub reads one row, corrects or reports it, and counts its passes. -/
def Obligations.ClusterUpkeepCompletes : Prop :=
  ∀ (s : State) (die : Die) (pc : Pc),
    let cid := cidOf die pc
    let c := s.cl cid
    ((c.seq = .drain ∧ c.longestPort = 0 ∧ s.stepping = true) → exec (.clusterEnd die pc) s =
      .next ((s.setCl cid { c with
        seq := .atEnd, endPeriod := some c.period, notice := true
        gather := c.gather.filter fun g => g.2.any fun x => c.flitWhole g.1 x }).bump O.SLOT_DISCARDS
          (c.gather.filter fun g => g.2.any fun x => ! c.flitWhole g.1 x).length)) ∧
    (¬ (c.seq = .drain ∧ c.longestPort = 0 ∧ s.stepping = true) → exec (.clusterEnd die pc) s = .next s) ∧
    (s.clockWait = true → exec (.eccRewrite die pc) s = .next s ∧ exec (.rowRewrite die pc) s = .next s ∧
      exec (.memoryScrub die pc) s = .next s) ∧
    (s.clockWait = false →
      (c.seq ≠ .exchange → exec (.eccRewrite die pc) s = .next s) ∧
      (c.seq = .exchange → ∃ node, exec (.eccRewrite die pc) s =
          .next (s.setCl cid { c with node := node, fixInstr := [], fixRoute := [] }) ∧
        (c.fixInstr = [] → c.fixRoute = [] → node = c.node) ∧
        (∀ a v, c.fixInstr = [a] → c.fixRoute = [] →
          eccCheck 80 (mnat c.node (a * 16) 11 % 2 ^ 80) (mnat c.node (a * 16) 11 / 2 ^ 80) = .corrected v →
          node = mputNat c.node (a * 16) 11 (v + checkBits 80 v * 2 ^ 80)) ∧
        (∀ e v, c.fixInstr = [] → c.fixRoute = [e] →
          eccCheck 64 (mnat c.node (nRoute e) 9 % 2 ^ 64) (mnat c.node (nRoute e) 9 / 2 ^ 64) = .corrected v →
          node = mputNat c.node (nRoute e) 9 (v + checkBits 64 v * 2 ^ 64))) ∧
      ((c.fixRows = [] ∨ c.memFree = false ∨ s.port cid ≠ 0) → exec (.rowRewrite die pc) s = .next s) ∧
      ((c.memFree = false ∨ s.port cid ≠ 0) → exec (.memoryScrub die pc) s = .next s) ∧
      (∀ row r v, c.memFree = true → s.port cid = 0 → c.fixRows = row :: r → c.rowCheck row = .corrected v →
        exec (.rowRewrite die pc) s = .next (s.setCl cid ({ c with fixRows := r }.putRow row v))) ∧
      (c.memFree = true → s.port cid = 0 →
       let d := { c with scrubRow := (c.scrubRow + 1) % 65536 }
       let e := if c.scrubRow = 65535 then d.count 10 1 else d
       (∀ v, c.rowCheck c.scrubRow = .clean v → exec (.memoryScrub die pc) s = .next (s.setCl cid e)) ∧
       (∀ v, c.rowCheck c.scrubRow = .corrected v → exec (.memoryScrub die pc) s =
         .next (s.setCl cid { (e.count 9 1).putRow c.scrubRow v with fixRows := c.fixRows.filter (· != c.scrubRow) })) ∧
       (∀ y, c.rowCheck c.scrubRow = .uncorrectable y → exec (.memoryScrub die pc) s =
         .next ((s.setCl cid e).raiseFault 4 (FaultLoc.cluster s cid) (c.scrubRow + 2 ^ 18) 0 0))))

/-- R78, R80, R106–R111, R113, R114, R131: the ports of an active cluster, each at most once per period. A route port takes its oldest read
that was issued before, whose bit joins a landing port of the cluster or the gather buffer of its SLOT, also where the read names no
target of the configuration or disagrees with the slot table, whose result is within the bounds of R8 (`State.astray`); the flit that
goes first among those a cluster has whole leaves for its spine router, as displaced when its position has passed, unless it is refused
there; an arrived flit's bits go to the landing ports its landing words name, those of an entry that is not VALID nowhere; a landing
port writes one INBOX bit. -/
def Obligations.ClusterPortsMove : Prop :=
  ∀ (s : State) (die : Die) (pc : Pc) (g : GroupIx) (slot : SlotIx) (check : WordCheck),
    let cid := cidOf die pc
    let c := s.cl cid
    let link := linkKey die (8 + pc) 0
    let lands := tget (fun _ => []) c.landQ g
    (s.active cid = true → c.seq ≠ .atEnd → tget (fun _ => 0) c.routeLast g ≠ c.period →
      (tget (fun _ => []) c.routeQ g = [] → exec (.routePortRead die pc g) s = .next s) ∧
      (∀ r rest, tget (fun _ => []) c.routeQ g = r :: rest → c.now < r.issued → exec (.routePortRead die pc g) s = .next s) ∧
      (∀ r rest, tget (fun _ => []) c.routeQ g = r :: rest → r.issued ≤ c.now →
        let t := s.setCl cid { c with
          routeQ := tput (fun _ => []) c.routeQ g rest, routeLast := tput (fun _ => 0) c.routeLast g c.period }
        let now := (t.cl cid).now
        ∀ d, t.readRouteAt cid r.entry (FaultLoc.executed t cid) = (t, some d) →
          (rKind d = 0 → exec (.routePortRead die pc g) s = .next t) ∧
          (rKind d ≠ 0 → (rKind d ≠ 1 ∨ t.noTarget d = true) → exec (.routePortRead die pc g) s = .next t.astray) ∧
          (rKind d = 1 → t.noTarget d = false → rMod d = t.ownId → rDie d = cid / 68 → t.lcOf cid = some (rLc d) →
            let k := t.cl cid
            let b : LandBit := ⟨now + t.lat 3 - 1, true, rBp d, rInbox d, r.val, r.stamp⟩
            exec (.routePortRead die pc g) s =
              .next (t.setCl cid { k with landQ := tupd (fun _ => []) k.landQ (rBp d / 32) (· ++ [b]) })) ∧
          (rKind d = 1 → t.noTarget d = false → ¬ (rMod d = t.ownId ∧ rDie d = cid / 68 ∧ t.lcOf cid = some (rLc d)) →
            let u := if t.gatherBad cid r d then t.astray else t
            let k := u.cl cid
            let x := gatherBit (tget (fun _ => none) k.gather (rSlot d)) r (rBit d) now
            exec (.routePortRead die pc g) s =
              .next (u.setCl cid { k with gather := tput (fun _ => none) k.gather (rSlot d) (some x) })))) ∧
    (∀ x, tget (fun _ => none) c.gather slot = some x → s.active cid = true → s.linkBusy link = false →
      c.firstFlit c.now = some slot.val →
      let f := s.flitOf cid slot c.now x
      let a := s.setOutLink link { s.outLink link with last := s.period }
      let gone := a.setCl cid { c with gather := tput (fun _ => none) c.gather slot none }
      let t := if f.onTime then gone else gone.bump O.DISPLACED 1
      let onward := fun (u : State) => u.putFlit die (spineOf pc) (c.now + 2) link f
      (a.refusesFlit (.router die (spineOf pc)) link c.now f.onTime = true → exec (.slotFlitLeave die pc slot check) s = .next a) ∧
      (a.refusesFlit (.router die (spineOf pc)) link c.now f.onTime = false →
        (check = .clean → exec (.slotFlitLeave die pc slot check) s = .next (onward t)) ∧
        (check = .corrected → exec (.slotFlitLeave die pc slot check) s = .next (onward (t.bump O.LINK_CORRECTED 1))) ∧
        (check = .uncorrectable → exec (.slotFlitLeave die pc slot check) s = .next (t.linkFault die (8 + pc) 0 0)))) ∧
    ((s.active cid = false ∨ s.linkBusy link = true ∨ c.firstFlit c.now ≠ some slot.val) →
      exec (.slotFlitLeave die pc slot check) s = .next s) ∧
    (c.arrived = [] → exec (.slotFlitLand die pc) s = .next s) ∧
    (∀ f rest, c.arrived = f :: rest → exec (.slotFlitLand die pc) s = .next (s.setCl cid
      (if (mnat c.node (nLandTable f.key) 4).testBit 31 then { c with arrived := rest }.landFlit f else { c with arrived := rest }))) ∧
    (∀ b, s.active cid = true → tget (fun _ => 0) c.landLast g ≠ c.period → nextLanding c.now lands = some b →
      exec (.landingPortWrite die pc g) s = .next ((s.setCl cid { c with
        landQ := tput (fun _ => []) c.landQ g (lands.erase b), landLast := tput (fun _ => 0) c.landLast g c.period }).landOne cid
          ⟨c.now, .route, true, b.bp, b.idx, b.val, b.stamp⟩))

/-- R106–R108, R179: an output link sends one word per period of a DC: an on-time slot flit first, then the displaced one that has waited
longest, then the packet flit that the round robin picks; with nothing to send, or a whole flit in the gather buffers of the link's own
cluster, nothing changes. While an abandoned DC waits for its Quarry requests the model leaves the pace to the commands (log entry 134,
the model's choice). -/
def Obligations.LinkSendsFirstOfWhatItHolds : Prop :=
  ∀ (s : State) (die : Fin 5) (node : Fin 76) (port : Fin 72) (check : WordCheck),
    let link := linkKey die node port
    let o := s.outLink link
    let busy := s.clockWait || s.linkBusy link || s.flitFirst die node
    (busy = true → exec (.linkWordSend die node port check) s = .next s) ∧
    (busy = false →
      (∀ i onTime w, pickSlot s.netNow o.slots = some (i, onTime) → o.slots[i]? = some w →
        exec (.linkWordSend die node port check) s = .next (s.sendSlot die node port i onTime w check)) ∧
      (pickSlot s.netNow o.slots = none → s.pickVc (hopOf die node port) link = none →
        exec (.linkWordSend die node port check) s = .next s) ∧
      (∀ vc wrr r rest, pickSlot s.netNow o.slots = none → s.pickVc (hopOf die node port) link = some (vc, wrr) →
        o.queue vc = r :: rest →
        exec (.linkWordSend die node port check) s = .next (s.sendFlit die node port vc wrr r rest check)))

/-- R88–R93, R491: the Sluice. Local completion takes the latest END period of the Sluice set and gives every configured partner's link its
DC-done token, also where an abandon of the next DC waits for it; the Sluice opens once the set stands at END, the exchange is done and
every partner's token was visible in an earlier period; a cluster, or a wait for partners, that reaches OVERRUN_LIMIT raises a cycle
overrun. What D1 holds where no cluster short of END is HELD is the model's choice (log entry 137). -/
def Obligations.SluiceCompletesAndOpens : Prop :=
  ∀ (s : State), s.stepping = true →
    let e := (s.sluiceSet.map fun c => (s.cl c).endPeriod.getD 0).foldl max 0
    let done := if s.sluice.localDone.isSome then s else
      State.onLinks { s with sluice := { s.sluice with localDone := some e } } s.partners fun _ k =>
        { k with doneDue := k.doneDue ++ [(s.dcNum, e + s.obj O.DONE_DRAIN)] }
    ((∀ a, s.run.abandon = some a → a.opening = true) → s.obj O.DEPTH ≠ 0 → s.allAtEnd = true → exec .localCompletion s = .next done) ∧
    (((∃ a, s.run.abandon = some a ∧ a.opening = false) ∨ s.obj O.DEPTH = 0 ∨ s.allAtEnd = false) →
      exec .localCompletion s = .next s) ∧
    (s.run.abandon = none → s.obj O.DEPTH ≠ 0 → s.sluice.exchanged = true → s.sluice.latched = true → s.sluiceReady = true →
      s.tokensVisible s.period = true → exec .sluiceOpen s = .next done.openNext.boundary) ∧
    ((s.run.abandon ≠ none ∨ s.sluice.exchanged = false ∨ s.sluice.latched = false ∨ s.sluiceReady = false ∨
      s.tokensVisible s.period = false) → exec .sluiceOpen s = .next s) ∧
    (s.run.abandon ≠ none → exec .cycleOverrunLocal s = .next s ∧ exec .cycleOverrunPartner s = .next s) ∧
    (s.run.abandon = none →
    (s.overrunCluster (s.obj O.OVERRUN_LIMIT) = none → exec .cycleOverrunLocal s = .next s) ∧
    (∀ c, s.overrunCluster (s.obj O.OVERRUN_LIMIT) = some c → exec .cycleOverrunLocal s =
      .next (s.raiseFault 1 (FaultLoc.cluster s c) 1 (if (s.cl c).seq = .held then (s.cl c).holdWhere
        else c / 68 * 2 ^ 38 + (s.lcOf c).getD 0 * 2 ^ 32 + min (s.cl c).step 1023 * 2 ^ 11) 0)) ∧
    (s.sluice.localDone ≠ none → s.obj O.OVERRUN_LIMIT ≤ s.sluice.waitCount →
      exec .cycleOverrunPartner s = .next (s.raiseFault 1 FaultLoc.hub 2 s.missingTokens 0)) ∧
    ((s.sluice.localDone = none ∨ s.sluice.waitCount < s.obj O.OVERRUN_LIMIT) → exec .cycleOverrunPartner s = .next s))

/-- R88, R224, R491, R492, R501: The oldest due DC-done token of an open link is sent once each of the link's ORIGIN tags has either sent
its flit of that DC or, after DONE_DRAIN, has none waiting; the sent flits of that DC are then forgotten. An abandon that found the
exchange already done first completes that DC and opens its own once every powered cluster is at END; an abandon of the current DC ends
once the Quarry is idle and no pause is in progress, and a thermal shutdown then gates the module. -/
def Obligations.TokensAndAbandonsEnd : Prop :=
  (∀ (s : State) (link : LinkIx),
     let k := s.link link
     (k.doneDue = [] → exec (.dcDoneSend link) s = .next s) ∧
     (∀ dc deadline r, k.doneDue = (dc, deadline) :: r →
       let ready := ∀ t ∈ s.originTags link, (dc, t) ∈ k.originSent ∨
         (deadline < s.period ∧ ∀ e ∈ k.slotQ, ¬ (e.origin = true ∧ e.tag = t ∧ e.dc = dc))
       (s.linkOpen link = true → ready → exec (.dcDoneSend link) s = .next (s.setLink link { k with
         doneDue := r, doneSent := some dc, originSent := k.originSent.filter fun e => e.1 != dc, ctrlQ := k.ctrlQ ++ [.dcDone dc] })) ∧
       (¬ (s.linkOpen link = true ∧ ready) → exec (.dcDoneSend link) s = .next s))) ∧
  (∀ (s : State) (a : Abandon), s.run.abandon = some a → s.clockWait = false →
     (a.opening = true → s.allAtEnd = true → exec .abandonOpening s = .next (s.localCompletes.abandonOpens a)) ∧
     ((a.opening = false ∨ s.allAtEnd = false) → exec .abandonOpening s = .next s) ∧
     (a.opening = false → s.quarryIdle = true → s.run.pause = none → exec .abandonHold s =
       .next (let t := s.abandonEnds a; if t.clk.shutdown then t.shutdownGates else t)) ∧
     ((a.opening = true ∨ s.quarryIdle = false ∨ s.run.pause ≠ none) → exec .abandonHold s = .next s))

/-- R15, R36, R90, R256, R278, R342, R360: the exchange instant is taken once per DC, when every cluster has passed its commit steps: the
STATE values, the clock enables of the next DC and the observed words take effect, and then the DC's inputs are exchanged or, in a
replay, taken from the replay buffer. The OUT latch follows in the last exchange step and is kept from the outside in a replay. -/
def Obligations.ExchangeTakesPlaceOnce : Prop :=
  ∀ (s : State) (fin : BitVec 8192), s.stepping = true →
    ((s.sluice.exchanged = true ∨ s.run.abandon ≠ none ∨ s.atExchange = false) → exec (.exchangeInstant fin) s = .next s) ∧
    (s.sluice.exchanged = false → s.run.abandon = none → s.atExchange = true →
      let a := ({ s with sluice := { s.sluice with exchanged := true, nextEnables := 0 } } : State).stateCommit.ratioEnables.passWords
      let ends := fun (b : State) => ({ b with sluice := { b.sluice with drives := b.sluice.drives.filter Drive.late } } : State).closeWindow
      (a.replaying = false → exec (.exchangeInstant fin) s = .next (ends (a.exchangeLive (a.finBoundary fin)))) ∧
      (a.replaying = true → (∀ e, a.hbm.replay.find? (fun e => e.1 == a.dcNum) = some e → a.firstBad (replayBase + e.2.1) e.2.2 = none) →
        exec (.exchangeInstant fin) s = .next (ends a.takeReplay)) ∧
      (∀ e x, a.replaying = true → a.hbm.replay.find? (fun e => e.1 == a.dcNum) = some e →
        a.firstBad (replayBase + e.2.1) e.2.2 = some x →
        exec (.exchangeInstant fin) s =
          .next (ends (if (a.hbmBad x).obj O.RECOVERY_STATE = 4 then (a.hbmBad x).recoveryFails 4 else a.hbmBad x)))) ∧
    (s.sluice.exchanged = true → s.sluice.latched = false → s.atLastExchange = true →
      (s.replaying = false → exec .xportOutLatch s =
        .next (let t := s.latchXports.latchFout; { t with sluice := { t.sluice with latched := true, drives := [] } })) ∧
      (s.replaying = true → exec .xportOutLatch s = .next { s with sluice := { s.sluice with latched := true, drives := [] } })) ∧
    ((s.sluice.exchanged = false ∨ s.sluice.latched = true ∨ s.atLastExchange = false) → exec .xportOutLatch s = .next s)

/-- R43, R120, R122, R137, R142, R144, R145, R151: while no clock is waited for, the head of a Quarry queue leaves under the lowest free
tag, or waits and is counted once; the controller serves the oldest request to each slot whose bank is not refreshing when it can send
the response; a bank refreshes; the response's bits go to INBOX as its request says, at most 64 per period and port, late ones counted;
and the patrol counts what it corrects and reports what it cannot. -/
def Obligations.QuarryAndHbmServe : Prop :=
  ∀ (s : State) (die : Die) (pc : Pc), s.clockWait = false →
    let cid := cidOf die pc
    let c := s.cl cid
    (quarryHead c.quarryQ = none → exec (.quarryRequestSend die pc) s = .next s) ∧
    (∀ r, quarryHead c.quarryQ = some r →
      (∀ tag t, s.takeTag die (.quarry cid { r with waited := false }) = some (tag, t) → exec (.quarryRequestSend die pc) s =
        .next ((t.setCl cid ({ c with quarryQ := c.quarryQ.erase r }.count 5 1)).inject (t.quarryPacket cid tag r))) ∧
      (s.takeTag die (.quarry cid { r with waited := false }) = none →
        (r.waited = true → exec (.quarryRequestSend die pc) s = .next s) ∧
        (r.waited = false → exec (.quarryRequestSend die pc) s =
          .next ((s.setCl cid ({ c with quarryQ := c.quarryQ.map fun x => if x = r then { r with waited := true } else x }.count 6
            1)).bump O.TAG_WAITS 1)))) ∧
    (∀ (stack : Fin 4) (i : Nat) (check : WordCheck) (p : Packet), s.net.arrived[i]? = some p → s.isQuarry stack p = true →
      (∀ q ∈ s.net.arrived.take i, s.isQuarry stack q = true → q.addr ≠ p.addr) →
      4 * Config.hbmBank p.addr + stack ∉ s.hbm.refreshing → s.hbm.selfRefresh = false →
      (s.canAnswer p = false → exec (.quarryServe stack i check) s = .next s) ∧
      (s.canAnswer p = true →
      let t : State := { s with net := { s.net with arrived := s.net.arrived.eraseIdx i }
                                hbm := { s.hbm with waited := s.hbm.waited.erase p.tag } }
      exec (.quarryServe stack i check) s = .next (if p.poison then t else t.serveQuarry p check))) ∧
    (c.returns = [] → exec (.quarryReturn die pc) s = .next s) ∧
    (∀ r rest, c.returns = r :: rest →
      let b := s.returnDue cid r
      let due := b.1
      let t := s.setCl cid { c with returns := rest, retBus := tput (fun _ => (0, 0)) c.retBus r.req.port b }
      let u := if due > r.req.issued + s.lat 11 then t.bump O.QRY_LATE 1 else t
      let v := u.raise O.QRY_LAT_MAX (u32 (due - r.req.issued))
      max (r.req.issued + s.lat 11) (r.arrived + 3) ≤ due ∧
      exec (.quarryReturn die pc) s = .next (v.returnBits cid r.req.ret r.val (due - v.sluice.base) .quarry r.req.stamp r.req.width) ∧
      (let entry := fun i => mnat (v.cl cid).node (nRoute ((r.req.ret + i) % 16384)) 9
       let bit : Nat → Deliv := fun i => ⟨due - v.sluice.base, .quarry, true, rBp (entry i % 2 ^ 64), rInbox (entry i % 2 ^ 64),
         r.val.testBit i, r.req.stamp⟩
       0 < r.req.width →
       (∀ i, i < r.req.width →
         eccCheck 64 (entry i % 2 ^ 64) (entry i / 2 ^ 64) = .clean (entry i % 2 ^ 64) ∧ rKind (entry i % 2 ^ 64) = 2) →
       exec (.quarryReturn die pc) s = .next (v.setCl cid { v.cl cid with
         inflight := (v.cl cid).inflight ++ (List.range r.req.width).map bit }))) ∧
    (∀ (stack : Fin 4) (bank : Nat),
      let b := 4 * bank + stack
      (b ∉ s.hbm.refreshing → exec (.bankRefresh stack bank true) s =
        .next { s with hbm := { s.hbm with refreshing := b :: s.hbm.refreshing } }) ∧
      (b ∉ s.hbm.refreshing → exec (.bankRefresh stack bank false) s = .next s) ∧
      (b ∈ s.hbm.refreshing → exec (.bankRefresh stack bank true) s = .next s) ∧
      (b ∈ s.hbm.refreshing →
        let w := (s.net.arrived.filter fun p =>
          s.isQuarry stack p && Config.hbmBank p.addr == bank && ! s.hbm.waited.contains p.tag).map Packet.tag
        exec (.bankRefresh stack bank false) s = .next (State.bump { s with hbm := { s.hbm with
          refreshing := s.hbm.refreshing.erase b, waited := s.hbm.waited ++ w } } O.REFRESH_WAITS w.length))) ∧
    (∀ (addr : BitVec 37) (check : WordCheck) (passDone : Bool),
      let t := if passDone then s.bump O.HBM_SCRUB_PASSES 1 else s
      exec (.hbmPatrolScrub addr check passDone) s = .next (if addr.toNat < 96 * 2 ^ 30 then
        (match check with | .clean => t | .corrected => t.bump O.HBM_CORRECTED 1 | .uncorrectable => t.hbmBad addr.toNat) else t))

/-- R118–R123, R125, R127, R227, R384, R433: Packets that have reached this module. A request is accepted when its target can send the
response. At a port that is not ACTIVE it wakes the cluster, waits or is absorbed; at any other target a poisoned one is discarded, one
of a shape that no target serves, or to a node that does not exist, is answered UNMAPPED, and any other goes to its cluster, to the
hub, or to the interrupt vectors. A response reaches its requester through its port, completes the tag and generation it names, and
requests that wait for a tag follow; one that names no outstanding request is discarded. A packet for another module goes to the link
that leads there. A tag's timeout completes it with TIMEOUT and the next generation. A waking port becomes ACTIVE and what it held is
delivered, in order, before what has arrived since; one whose wake fails absorbs, answers the requests it held with WAKE_FAIL and
raises a cluster fault; an idle cluster outside the Sluice set is gated and its port sleeps. In every other state of the port these
commands change nothing. -/
def Obligations.PacketsAndPortsAct : Prop :=
  (∀ (s : State), s.clockWait = false →
     (∀ (i : Nat) (p : Packet) (check : WordCheck), s.net.arrived[i]? = some p → overtakes (s.net.arrived.take i) p = false →
       p.dstMod = s.ownId →
       let t : State := { s with net := { s.net with arrived := s.net.arrived.eraseIdx i } }
       let cid := cidOf p.dstDie p.dstNode
       let away := p.dstDie < 4 ∧ p.dstNode < 68 ∧ s.port cid ≠ 0
       (p.op < 8 → ¬ (p.dstNode < 4 ∧ s.isQuarry p.dstNode p = true) →
         (s.canAnswer p = false → exec (.packetRequestArrive i check) s = .next s) ∧
         (s.canAnswer p = true → away → exec (.packetRequestArrive i check) s = .next (t.atPort cid p)) ∧
         (s.canAnswer p = true → ¬ away → exec (.packetRequestArrive i check) s = .next (
           if p.poison then t
           else if packetShapely p = false ∨ (p.dstDie < 4 ∧ 68 ≤ p.dstNode) then t.inject (errorTo p stUnmapped)
           else if p.dstDie < 4 then t.answerNode cid p
           else if p.dstNode < 4 then t.answerHbm p check
           else if p.dstNode = 0x20 then t.answerVector p
           else t.inject (errorTo p stUnmapped)))) ∧
       (p.op < 8 → p.dstDie = 4 → p.dstNode = 0x20 → s.canAnswer p = true →
         exec (.xactVectorWrite i) s = .next (if p.poison then t else t.answerVector p)) ∧
       (8 ≤ p.op → away → exec (.packetResponseArrive i) s = .next (t.atPort cid p)) ∧
       (8 ≤ p.op → ¬ away →
         (∀ w, tget (fun _ => none) s.net.tags p.tag = some ⟨p.gen, w⟩ →
           let u := t.completeTag p.tag w p
           exec (.packetResponseArrive i) s = .next (u.sendThreadReqs u.hub.reqQ.length)) ∧
         ((∀ w, tget (fun _ => none) s.net.tags p.tag ≠ some ⟨p.gen, w⟩) → exec (.packetResponseArrive i) s = .next t))) ∧
     (∀ (i : Nat) (p : Packet) (check : WordCheck), s.net.arrived[i]? = some p → overtakes (s.net.arrived.take i) p = false →
       p.dstMod ≠ s.ownId →
       let t : State := { s with net := { s.net with arrived := s.net.arrived.eraseIdx i } }
       (p.op < 8 → exec (.packetRequestArrive i check) s = .next (t.outward p)) ∧
       (8 ≤ p.op → exec (.packetResponseArrive i) s = .next (t.outward p))) ∧
     (∀ (tag : Fin 32768),
       (tget (fun _ => none) s.net.tags tag = none → exec (.tagTimeout tag) s = .next s) ∧
       (∀ g w, tget (fun _ => none) s.net.tags tag = some ⟨g, w⟩ →
         let p : Packet := { vc := 1, op := 0xA, dstMod := s.ownId, dstDie := 0, dstNode := 0, srcMod := s.ownId, srcDie := 0, srcNode := 0
                             tag := tag, gen := g, status := stTimeout, bytes := 0, addr := 0, payload := [], poison := false }
         let u := ((s.nextGen tag).bump O.RESP_TIMEOUTS 1).completeTag tag w p
         exec (.tagTimeout tag) s = .next (u.sendThreadReqs u.hub.reqQ.length)))) ∧
  (∀ (s : State) (die : Die) (pc : Pc), s.clockWait = false →
     let cid := cidOf die pc
     let held := tget (fun _ => []) s.net.held cid
     (s.port cid = 2 →
       (let a := s.setPort cid 0
        let b := State.bump { a with net := { a.net with held := tput (fun _ => []) a.net.held cid [], arrived := held ++ a.net.arrived } }
          O.CW_WAKES 1
        exec (.wakeComplete die pc) s = .next (b.setCl cid ((b.cl cid).count 4 1))) ∧
       (let a := (s.setPort cid 3).bump O.WAKE_FAILS 1
        let b : State := { a with net := { a.net with held := tput (fun _ => []) a.net.held cid [] } }
        let c := held.foldl (fun t p => if p.op < 8 && ! p.poison then t.portSends (errorTo p stWakeFail) else t) b
        exec (.wakeLimitExpiry die pc) s = .next (c.raiseFault 7 ⟨die, pc, (c.lcOf cid).getD 255, 0xFFFF⟩ 0 0 0))) ∧
     (s.port cid ≠ 2 → exec (.wakeComplete die pc) s = .next s ∧ exec (.wakeLimitExpiry die pc) s = .next s) ∧
     (s.port cid = 0 → s.sluiceSet.contains cid = false →
       exec (.idleGate die pc) s = .next ((s.setCl cid (s.cl cid).gated).setPort cid 1)) ∧
     ((s.port cid ≠ 0 ∨ s.sluiceSet.contains cid = true) → exec (.idleGate die pc) s = .next s))

/-- R204–R213, R215, R230: The block layer. Line bits of a receive lane go through the descrambler and the block lock in their order, and
what a lane finds acts. A candidate block whose header or stuffing is bad makes a lane that hunts move on by one bit; 64 consecutive
valid headers lock it; a locked lane keeps its last 64 headers and is lost at 16 invalid ones. A marker with a good CRC that agrees
with its lane gives it its number; the link leaves HUNT once its lanes are aligned, none of them more than 1,032 UI apart; one that
disagrees takes the lane out of LOCKED. A lane's own marker is sent once it is due, in place of its next block. The IDLE block that
stands first on a link, or nothing where none does. One with a bad CRC is counted and has no other action; a good one shows the
partner's run state; four in a row of one sender bring a link from ALIGN to PARTNERED and, with the partner's receiver ready, UP;
another sender takes it back or down. -/
def Obligations.LinksAlignAndPartner : Prop :=
  (∀ (s : State) (link : LinkIx) (lane : LaneIx),
     let k := s.link link
     let v := k.lane lane
     (∀ (bits : List Bool) (past : BitVec 34) (filler : Bool),
       let o := v.lineBits ((s.tb.counter + past.toNat) % 2 ^ 96) bits
       exec (.seamBlockReceive link lane bits past filler) s =
         .next (o.2.foldl (fun t e => t.laneEvent link lane filler e) (s.setLink link (k.setLane lane o.1)))) ∧
     (let valid := ! v.bad && (v.acc % 4 == 1 || v.acc % 4 == 2)
      let w := { v with got := 0, acc := 0, bad := false }
      let h := ((! valid) :: v.last64).take 64
      (v.locked = false → valid = false → v.endBlock = ({ w with good := 0, slip := true }, [])) ∧
      (v.locked = false → valid = true → v.good + 1 < 64 → v.endBlock = ({ w with good := v.good + 1 }, [])) ∧
      (v.locked = false → valid = true → 64 ≤ v.good + 1 →
        v.endBlock = ({ w with locked := true, good := 0, last64 := [], markers := 0, rx := [] }, [.locked])) ∧
      (v.locked = true → 16 ≤ (h.filter id).length →
        v.endBlock = ({ w with locked := false, good := 0, last64 := [], markers := 0, rx := [] }, [.lost])) ∧
      (v.locked = true → (h.filter id).length < 16 →
        v.endBlock = ({ w with last64 := h }, [.block ⟨if v.bad then 0 else v.acc % 4, v.acc / 4⟩ v.since]))) ∧
     (∀ (skew : BitVec 16),
       ((∀ e r, v.rx = e :: r → isMarker e.1 = false) → exec (.laneMarkerReceive link lane skew) s = .next s) ∧
       (∀ e r, v.rx = e :: r → isMarker e.1 = true →
         let t := s.setLink link (k.setLane lane { v with rx := r })
         let x := (t.link link).lane lane
         let txLane := field e.1.payload 245 3
         let unit := field e.1.payload 213 32
         let agrees := unit % 8 = txLane ∧ (x.markers = 0 ∨ (x.unitNo = unit ∧ x.laneId = txLane))
         let n := (t.link link).setLane lane
           { x with markers := min 2 (x.markers + 1), laneId := txLane, unitNo := unit, skew := skew.toNat }
         let u := (t.setLink link n).raise (O.SKEW link) skew.toNat
         (crcGood e.1.payload = false → exec (.laneMarkerReceive link lane skew) s = .next ((t.crcFailed link).flow link)) ∧
         (crcGood e.1.payload = true → ¬ agrees → exec (.laneMarkerReceive link lane skew) s = .next (t.laneLost link lane)) ∧
         (crcGood e.1.payload = true → agrees → exec (.laneMarkerReceive link lane skew) s =
           .next ((if u.obj (O.LINK_STATE link) = 0 ∧ n.aligned = true then
             (u.setLink link { n with rxUnit := n.firstUnit }).setObj (O.LINK_STATE link) 1 else u).flow link)))) ∧
     (k.aligned = true → ∀ i, i < 8 → (k.lane i).locked = true ∧ 2 ≤ (k.lane i).markers ∧ (k.lane i).skew ≤ 1032) ∧
     ((s.clk.sysStopped = true ∨ v.txBlocks < s.markerEvery link) → exec (.laneMarkerSend link lane) s = .next s) ∧
     (s.clk.sysStopped = false → s.markerEvery link ≤ v.txBlocks →
       let t := s.sendExtra link lane (markerBlock lane (k.nextUnitOn lane))
       exec (.laneMarkerSend link lane) s = .next (t.setLink link
         ((t.link link).setLane lane { (t.link link).lane lane with txBlocks := 0 })))) ∧
  (∀ (s : State) (link : LinkIx),
     ((s.link link).heard ctIdle = none → exec (.idleReceive link) s = .next s) ∧
     (∀ p t0 k0, (s.link link).heard ctIdle = some ((p, t0), k0) →
       let h := s.setLink link k0
       let b := readIdle p
       let a := h.setObj (O.PARTNER_RUN link) b.run
       let l := a.link link
       let same := l.idleSeen = some (b.moduleId, b.link)
       let k : SeamLink := { l with
         partnerKept := b.llKept, idleSeen := some (b.moduleId, b.link), idleRun := min 4 (if same then l.idleRun + 1 else 1) }
       let t := a.setLink link k
       let ready := b.rxState = 2 ∨ b.rxState = 3
       let other := t.obj (O.PARTNER_ID link) ≠ b.moduleId ∨ t.obj (O.PARTNER_LINK link) ≠ b.link
       (crcGood p = false → exec (.idleReceive link) s = .next (h.crcFailed link)) ∧
       (crcGood p = true →
         (t.obj (O.LINK_STATE link) = 1 → k.idleRun < 4 → exec (.idleReceive link) s = .next t) ∧
         (t.obj (O.LINK_STATE link) = 1 → 4 ≤ k.idleRun →
           let u := (if other then t.setLink link { k with kept := false } else t).setObjs
             [(O.PARTNER_ID link, b.moduleId), (O.PARTNER_LINK link, b.link), (O.LINK_STATE link, 2)]
           exec (.idleReceive link) s = .next (if ready then u.linkUp link else u)) ∧
         (t.obj (O.LINK_STATE link) = 2 → exec (.idleReceive link) s =
           .next (if ¬ same then t.setObj (O.LINK_STATE link) 1 else if ready then t.linkUp link else t)) ∧
         (t.obj (O.LINK_STATE link) = 3 → exec (.idleReceive link) s =
           .next (if other then t.linkDown link false else t)) ∧
         ((t.obj (O.LINK_STATE link) = 0 ∨ 3 < t.obj (O.LINK_STATE link)) → exec (.idleReceive link) s = .next t))))

/-- R215, R218–R220, R225–R227: the frame, ACK or NAK that stands first on a link. One whose CRC or shape fails is counted, and on an UP,
enabled link a frame that fails, is KILLed or is out of sequence is discarded, which asks for the expected one; a frame in sequence is
vouched for and its units are released in order; a slot unit for another module whose tag is of this module's table and epoch goes on
before its frame's trailer; an ACK frees what it acknowledges and gives credits; a NAK has the frames from its number on resent. A link
that is not UP and enabled acts on none of them. -/
def Obligations.FramesAreAcceptedInOrder : Prop :=
  ∀ (s : State) (link : LinkIx),
    let k := s.link link
    (∀ e rest, (k.rxQ.dropWhile fun e => ! isApart e.1) = e :: rest → ctype e.1.payload = ctFrameEnd →
      let t := s.setLink link { k with rxQ := rest }
      (readFrame k.frameUnits e.1.payload = none → exec (.frameEnd link) s =
        .next (if t.linkOpen link then (t.crcFailed link).discardFrame link else t.crcFailed link)) ∧
      (∀ units, readFrame k.frameUnits e.1.payload = some units →
        let r := t.setObj (O.PARTNER_RUN link) (field e.1.payload 228 2)
        let a := if e.1.payload.testBit 227 then r.setLink link ((r.link link).acked (field e.1.payload 215 12) r.nowNs) else r
        let seq := field e.1.payload 236 12
        (r.linkOpen link = false → exec (.frameEnd link) s = .next r) ∧
        (r.linkOpen link = true → (e.1.payload.testBit 32 = true ∨ seq ≠ (a.link link).rxSeq) →
          exec (.frameEnd link) s = .next (a.discardFrame link)) ∧
        (r.linkOpen link = true → e.1.payload.testBit 32 = false → seq = (a.link link).rxSeq →
          let x := a.link link
          let u := (a.setLink link { x with rxSeq := (x.rxSeq + 1) % 4096, nakSent := false, ackDue := x.ackDue + 1 }).vouch link true
          exec (.frameEnd link) s = .next (u.releaseUnits link units)))) ∧
    (k.heard ctAck = none → exec (.ack link) s = .next s) ∧
    (∀ p t0 k0, k.heard ctAck = some ((p, t0), k0) →
      let t := s.setLink link k0
      (crcGood p = false → exec (.ack link) s = .next (t.crcFailed link)) ∧
      (crcGood p = true → exec (.ack link) s = .next (if t.linkOpen link then
        t.setLink link (((t.link link).acked (field p 236 12) t.nowNs).credited (field p 204 32)) else t))) ∧
    (k.heard ctNak = none → exec (.nak link) s = .next s) ∧
    (∀ p t0 k0, k.heard ctNak = some ((p, t0), k0) →
      let t := s.setLink link k0
      let missing := (t.link link).retry.filter fun f => (f.seq + 4096 - field p 236 12) % 4096 < 2048
      (crcGood p = false → exec (.nak link) s = .next (t.crcFailed link)) ∧
      (crcGood p = true → exec (.nak link) s = .next (if t.linkOpen link then
        t.setLink link { t.link link with resend := missing.map fun f => f.seq } else t))) ∧
    (∀ (unit : Fin 39) (tag : BitVec 11) (epoch : BitVec 2),
      ((k.frameUnits[unit.val]? = none ∨ s.ingressRecord link tag.toNat = none) → exec (.relayForward link unit tag epoch) s = .next s) ∧
      (∀ b r, k.frameUnits[unit.val]? = some b → s.ingressRecord link tag.toNat = some r →
        let goes := s.linkOpen link = true ∧ b.header = 1 ∧ k.relayed.contains unit.val = false ∧ ssDmod r ≠ s.ownId ∧
          s.run.discarding = false ∧ s.restoring = none ∧ epoch.toNat = s.dcNum % 4
        (goes → exec (.relayForward link unit tag epoch) s =
          .next ((s.setLink link { k with relayed := k.relayed ++ [unit.val] }).seamEgress (some link.val) (ssDmod r) (ssDdie r) (ssDlc r)
            (ssKey r) b.payload s.dcNum)) ∧
        (¬ goes → exec (.relayForward link unit tag epoch) s = .next s)))

/-- R206–R208, R219, R220, R223, R227, R231: what an UP, enabled link sends of itself: everything unacknowledged again after ACK_TIMEOUT, a
NAK again 1 µs after one that no frame has answered, an acknowledgement with the credits due, and in a block's place what waits first:
a filler on a lane that is too far ahead, then what travels outside frames, then frames; a link that is not open sends IDLE. When
RESUME_LIMIT has passed since a link left UP, what it kept is emptied and an enabled link raises SEAM_LINK. -/
def Obligations.LinksSendAndForget : Prop :=
  ∀ (s : State) (link : LinkIx),
    let k := s.link link
    let late := s.linkOpen link = true ∧ k.retry ≠ [] ∧ s.reached (k.ackFrom + s.obj O.ACK_TIMEOUT) = true
    let again := s.linkOpen link = true ∧ k.nakSent = true ∧ s.reached (k.nakAt + 1000) = true
    (late → exec (.ackTimeout link) s = .next (s.setLink link { k with resend := k.retry.map fun f => f.seq, ackFrom := s.nowNs })) ∧
    (¬ late → exec (.ackTimeout link) s = .next s) ∧
    (again → exec (.nakRepeat link) s = .next (s.setLink link { k with
      nakSent := true, nakAt := s.nowNs, msgQ := k.msgQ ++ [.nak k.rxSeq] })) ∧
    (¬ again → exec (.nakRepeat link) s = .next s) ∧
    (s.linkOpen link = true → (0 < k.ackDue ∨ k.ackCredits ≠ []) →
      exec (.ackSend link) s = .next ((s.setLink link { k with ackDue := 0, ackCredits := [] }).sendMsg link
        (.ack ((k.rxSeq + 4095) % 4096)
          ((List.range 4).foldl (fun n v => n + min 255 (tget (fun _ => 0) k.ackCredits v) * 2 ^ (8 * v)) 0)))) ∧
    ((s.linkOpen link = false ∨ (k.ackDue = 0 ∧ k.ackCredits = [])) → exec (.ackSend link) s = .next s) ∧
    (∀ (past : BitVec 34),
      let i := k.txUnit % 8
      ((s.clk.sysStopped = true ∨ s.markerDue link i = true) → exec (.seamEgressSend link past) s = .next s) ∧
      (s.clk.sysStopped = false → s.markerDue link i = false →
        (k.fillerDue = true → exec (.seamEgressSend link past) s = .next (s.sendExtra link i (idleBlock (s.idleOf link)))) ∧
        (k.fillerDue = false → s.linkOpen link = false → exec (.seamEgressSend link past) s = .next (s.sendIdle link)) ∧
        (k.fillerDue = false → s.linkOpen link = true → k.msgQ = [] →
          exec (.seamEgressSend link past) s = .next (s.sendFrameUnit link)) ∧
        (∀ m r, k.fillerDue = false → s.linkOpen link = true → k.msgQ = m :: r → exec (.seamEgressSend link past) s =
          .next (State.launch (s.setLink link { k with msgQ := r }) link m ((s.tb.counter + past.toNat) % 2 ^ 96))))) ∧
    ((k.downSince = none ∨ k.expired = true) → exec (.resumeLimitExpiry link) s = .next s) ∧
    (∀ t, k.downSince = some t → k.expired = false →
      (s.reached (t + s.obj O.RESUME_LIMIT) = false → exec (.resumeLimitExpiry link) s = .next s) ∧
      (s.reached (t + s.obj O.RESUME_LIMIT) = true →
        let u := s.setLink link { k.emptied with expired := true }
        exec (.resumeLimitExpiry link) s = .next (if u.objBit O.LINK_ENABLE link then
          u.raiseFault 9 FaultLoc.hub (link + 32 * u.obj (O.PARTNER_ID link)) 0 0 else u)))

/-- R205–R207, R209: the line code loses nothing. A block with a valid header put on a transmit lane in its line bits is found by a locked
receive lane that stands in step with it, between two blocks: the lane reports that block, with the time of its bits, and the two lanes
are in step again. -/
def Obligations.LineCodeIsReadBack : Prop :=
  ∀ (v w : SeamLane) (b : SeamBlock) (t : Nat),
    let step := fun (v w : SeamLane) => w.rxHist = v.txHist ∧ w.rxRun = v.txRun ∧ w.rxLast = v.txLast ∧ v.txRun < 40 ∧ v.txHist < 2 ^ 31
    let between := fun (w : SeamLane) => w.locked = true ∧ w.slip = false ∧ w.got = 0 ∧ w.acc = 0 ∧ w.bad = false
      ∧ (w.last64.filter id).length < 16
    step v w → between w → (b.header = 1 ∨ b.header = 2) → b.payload < 2 ^ 256 →
      let o := v.encode b
      let r := w.lineBits t o.2
      r.2 = [.block b t] ∧ step o.1 r.1 ∧ between r.1

/-- R215, R239–R242, R254: The path-delay blocks and the intervals of the time base. The block that stands first on a link acts only if it
is of its type; one with a bad CRC is counted; a request is answered; the answer to the outstanding request yields a measurement, which
counts only from 0 to 1 µs and of which the mean of the last eight is the link's delay; the intervals start the next measurements and,
in a GRANDMASTER, the next TIME_SYNC; a candidate that is not refreshed expires and the election runs. A TIME_SYNC block that stands
first on a link. On a link that is not open, or with too many steps, of this module's own or of an old sequence number it is ignored;
otherwise it refreshes the link's candidate and the election runs. The elected parent's block is judged by the offset that the path
delay leaves, once there is one: a module that has not joined joins by a step, but not in a tied run; an offset within JUMP_THRESHOLD
steers; a larger one brings HOLDOVER and is refused. A FOLLOWER passes the block on with its own STEPS. -/
def Obligations.TimeMessagesAreAnswered : Prop :=
  (∀ (s : State) (link : LinkIx),
     ((s.link link).heard ctPdelayReq = none → exec (.pdelayReq link) s = .next s) ∧
     (∀ p arrive k, (s.link link).heard ctPdelayReq = some ((p, arrive), k) →
       let t := s.setLink link k
       (crcGood p = false → exec (.pdelayReq link) s = .next (t.crcFailed link)) ∧
       (crcGood p = true → t.linkOpen link = false → exec (.pdelayReq link) s = .next t) ∧
       (crcGood p = true → t.linkOpen link = true →
         exec (.pdelayReq link) s = .next (t.sendMsg link (.pdelayResp (field p 232 16) arrive 0)))) ∧
     ((s.link link).heard ctPdelayResp = none → exec (.pdelayResp link) s = .next s) ∧
     (∀ p arrive k, (s.link link).heard ctPdelayResp = some ((p, arrive), k) →
       let t := s.setLink link k
       let asked := tget (fun _ => none) t.tb.pdelayReq link
       (crcGood p = false → exec (.pdelayResp link) s = .next (t.crcFailed link)) ∧
       (crcGood p = true → (t.linkOpen link = false ∨ ∀ q t1, asked = some (q, t1) → q ≠ field p 232 16) →
         exec (.pdelayResp link) s = .next t) ∧
       (∀ q t1, crcGood p = true → t.linkOpen link = true → asked = some (q, t1) → q = field p 232 16 →
         let d := (timeDiff arrive t1 - timeDiff (field p 40 96) (field p 136 96)) / 2
         let a : State := { t with tb := { t.tb with pdelayReq := tput (fun _ => none) t.tb.pdelayReq link none } }
         let m := (d :: tget (fun _ => []) t.tb.pdelays link).take 8
         ((d < 0 ∨ 1000 * (ns : Int) < d) → exec (.pdelayResp link) s = .next a) ∧
         (0 ≤ d → d ≤ 1000 * (ns : Int) → exec (.pdelayResp link) s =
           .next (State.setObj { a with tb := { a.tb with pdelays := tput (fun _ => []) a.tb.pdelays link m } }
             (O.PATH_DELAY link) ((meanOf m * 1000 / ns).toNat % 2 ^ 32))))) ∧
     (s.reached s.tb.nextPdelay = true → exec .pdelayIntervalExpiry s = .next ((allLinks.filter s.linkOpen).foldl State.startDelay
       { s with tb := { s.tb with nextPdelay := (s.nowNs + s.obj O.PDELAY_INTERVAL) % 2 ^ 64 } })) ∧
     (s.reached s.tb.nextPdelay = false → exec .pdelayIntervalExpiry s = .next s) ∧
     (s.obj O.TB_STATE = tbGrandmaster → s.reached s.tb.nextSync = true →
       let q := (s.tb.seqId + 1) % 65536
       let a : State := { s with tb := { s.tb with seqId := q, nextSync := (s.nowNs + s.obj O.SYNC_INTERVAL) % 2 ^ 64 } }
       exec .syncIntervalExpiry s = .next (a.sendAll none (.sync ⟨q, s.obj O.PRIORITY, s.ownId, 0, s.tb.boot, 0⟩))) ∧
     ((s.obj O.TB_STATE ≠ tbGrandmaster ∨ s.reached s.tb.nextSync = false) → exec .syncIntervalExpiry s = .next s) ∧
     (tget (fun _ => none) s.tb.candidates link = none → exec (.candidateExpiry link) s = .next s) ∧
     (∀ a, tget (fun _ => none) s.tb.candidates link = some a →
       (s.reached a.expires = false → exec (.candidateExpiry link) s = .next s) ∧
       (s.reached a.expires = true → exec (.candidateExpiry link) s = .next (State.elect
         { s with tb := { s.tb with candidates := tput (fun _ => none) s.tb.candidates link none } })))) ∧
  (∀ (s : State) (link : LinkIx),
     ((s.link link).heard ctTimeSync = none → exec (.timeSync link) s = .next s) ∧
     (∀ p arrive k, (s.link link).heard ctTimeSync = some ((p, arrive), k) →
       let h := s.setLink link k
       let b := readSync p
       let fresh := h.linkOpen link = true ∧ b.steps < 255 ∧ b.gmId ≠ h.ownId ∧
         follows (tget (fun _ => none) h.tb.lastSync (b.gmId * 32 + link)) b.seqId b.boot = true
       let t := State.elect { h with tb := { h.tb with
         lastSync := tput (fun _ => none) h.tb.lastSync (b.gmId * 32 + link) (some (b.seqId, b.boot))
         candidates := tput (fun _ => none) h.tb.candidates link
           (some ⟨b.priority, b.gmId, b.steps, (h.nowNs + 4 * h.obj O.SYNC_INTERVAL) % 2 ^ 64⟩) } }
       let onward := fun (u : State) =>
         if u.obj O.TB_STATE = tbFollower then u.sendAll (some link) (.sync { b with steps := u.obj O.STEPS, depart := 0 }) else u
       (crcGood p = false → exec (.timeSync link) s = .next (h.crcFailed link)) ∧
       (crcGood p = true → ¬ fresh → exec (.timeSync link) s = .next h) ∧
       (crcGood p = true → fresh →
         (t.obj O.PARENT_LINK ≠ link.val → exec (.timeSync link) s = .next t) ∧
         (t.obj O.PARENT_LINK = link.val → t.pathDelay link = none → exec (.timeSync link) s = .next (onward t)) ∧
         (∀ d, t.obj O.PARENT_LINK = link.val → t.pathDelay link = some d →
           exec (.timeSync link) s = .next (onward (t.judge (timeDiff arrive b.depart - d)).ppsShown)))) ∧
     (∀ theta : Int,
       let t := s.setObj O.OFFSET_LAST (ofSigned 32 (offsetPs theta))
       let within := theta.natAbs ≤ t.obj O.JUMP_THRESHOLD * ns
       (t.obj O.JOINED ≠ 1 → t.tiedRun = false → s.judge theta = State.setObjs
         { t with tb := { t.tb with stepBy := some (-theta), freq := 0 } } [(O.JOINED, 1), (O.TB_STATE, tbFollower), (O.HOLDOVER_CAUSE, 0)]) ∧
       ((t.obj O.JOINED = 1 ∨ t.tiedRun = true) → within → s.judge theta =
         (t.setObjs [(O.JOINED, 1), (O.TB_STATE, tbFollower), (O.HOLDOVER_CAUSE, 0)]).correctRate theta
           (max 1 ((t.setObjs [(O.JOINED, 1), (O.TB_STATE, tbFollower), (O.HOLDOVER_CAUSE, 0)]).obj O.SYNC_INTERVAL))) ∧
       ((t.obj O.JOINED = 1 ∨ t.tiedRun = true) → ¬ within →
         s.judge theta = (t.setObjs [(O.TB_STATE, tbHoldover), (O.HOLDOVER_CAUSE, 2)]).refuseJump theta)))

/-- R236, R240, R243, R245–R248, R254: Pulses per second. An edge of TIME_PPS_IN is timed; outside a tied run it takes a pending TIME_SET;
where a GRANDMASTER is disciplined it steps one that has not joined (not in a tied run), steers, or, beyond JUMP_THRESHOLD, is refused;
without an edge for 2 s the input is lost. The whole second that TIME_PPS_OUT waits for is due in the tick that reaches or passes it,
and the next one is then waited for; TIME_PPS_OUT rises when one is due and falls after its width. The time base's objects as a master
writes them where the object is served. TIME_SET is taken in FREE and GRANDMASTER outside a tied run, at the next PPS edge with
IN_DISCIPLINE and else in the next tick; REJOIN takes only 1, outside a tied run; INCREMENT takes ±2 % and restarts the frequency term;
PRIORITY runs the election. PPS_STATE follows STATE, JOINED and PPS_CTRL: OFF where nothing disciplines, ALIGNING while JOINED is 0 and
until an edge was judged. A refused write changes nothing but its record. -/
def Obligations.PulsesAndTimeObjectsAct : Prop :=
  (∀ (s : State),
     (∀ (stamp : BitVec 96),
       let t := State.setObj { s with tb := { s.tb with ppsSeen := some s.nowNs } } O.PPS_IN_LAST (stamp.toNat / ns)
       let e := fromSecond stamp.toNat
       (∀ v, t.tb.setPps = some v → t.tiedRun = true → exec (.ppsInEdge stamp) s = .next t) ∧
       (∀ v, t.tb.setPps = some v → t.tiedRun = false →
         let u : State := { t with tb := { t.tb with counter := v * ns % 2 ^ 96, setPps := none } }
         exec (.ppsInEdge stamp) s = .next (if u.disciplined = true then u.setObj O.PPS_STATE 2 else u)) ∧
       (t.tb.setPps = none → t.disciplined = false → exec (.ppsInEdge stamp) s = .next t) ∧
       (t.tb.setPps = none → t.disciplined = true →
         (t.obj O.JOINED = 0 → t.tiedRun = false → exec (.ppsInEdge stamp) s = .next (State.setObjs
           { t with tb := { t.tb with stepBy := some (-e), freq := 0 } } [(O.JOINED, 1), (O.PPS_STATE, 2)])) ∧
         ((t.obj O.JOINED ≠ 0 ∨ t.tiedRun = true) → e.natAbs ≤ t.obj O.JUMP_THRESHOLD * ns →
           exec (.ppsInEdge stamp) s = .next ((t.correctRate e 1000000000).setObjs [(O.JOINED, 1), (O.PPS_STATE, 2)])) ∧
         ((t.obj O.JOINED ≠ 0 ∨ t.tiedRun = true) → t.obj O.JUMP_THRESHOLD * ns < e.natAbs → exec (.ppsInEdge stamp) s =
           .next ((t.setObj O.PPS_STATE (if t.obj O.JOINED = 0 then 1 else 3)).refuseJump e)))) ∧
     (s.disciplined = true → (∀ t, s.tb.ppsSeen = some t → s.reached (t + 2 * second) = true) →
       exec .ppsLost s = .next (s.setObj O.PPS_STATE 4)) ∧
     ((s.disciplined = false ∨ ∃ t, s.tb.ppsSeen = some t ∧ s.reached (t + 2 * second) = false) → exec .ppsLost s = .next s) ∧
     (s.clk.sysStopped = false → s.tb.running = true → s.tick.tb.ppsDue = s.tick.reached s.tb.ppsNext ∧
       (s.tick.tb.ppsDue = true → s.tick.tb.ppsNext = nextSecond s.tick.nowNs) ∧
       (s.tick.tb.ppsDue = false → s.tick.tb.ppsNext = s.tb.ppsNext)) ∧
     (let rises := (s.obj O.PPS_CTRL).testBit 1 = true ∧ s.tb.ppsOut = none ∧ s.tb.ppsDue = true
      (rises → exec .ppsOutRise s = .next (State.emit { s with tb := { s.tb with ppsOut := some s.nowNs, ppsDue := false } } (.pin 0 true))) ∧
      (¬ rises → exec .ppsOutRise s = .next s)) ∧
     (s.tb.ppsOut = none → exec .ppsOutFall s = .next s) ∧
     (∀ t, s.tb.ppsOut = some t → exec .ppsOutFall s = .next (if s.reached (t + s.obj O.PPS_OUT_WIDTH) then
       State.emit { s with tb := { s.tb with ppsOut := none } } (.pin 0 false) else s))) ∧
  (∀ (s : State) (m : Master),
     (s.serves O.TIME_SET → ∀ v : BitVec 64,
       let free := s.tiedRun = false ∧ (s.obj O.TB_STATE = tbFree ∨ s.obj O.TB_STATE = tbGrandmaster)
       let t : State :=
         { s with tb := if (s.obj O.PPS_CTRL).testBit 0 then { s.tb with setPps := some v.toNat } else { s.tb with setTo := some v.toNat } }
       (free → exec (.timeSet m v) s = .next (t.setObj O.JOINED 1).ppsShown) ∧
       (¬ free → exec (.timeSet m v) s = .next (s.refuse m O.TIME_SET eMode))) ∧
     (s.serves O.REJOIN → ∀ v : Byte,
       (v.toNat = 1 → s.tiedRun = false → exec (.rejoin m v) s = .next (s.setObj O.JOINED 0).ppsShown) ∧
       (v.toNat = 1 → s.tiedRun = true → exec (.rejoin m v) s = .next (s.refuse m O.REJOIN eMode)) ∧
       (v.toNat ≠ 1 → exec (.rejoin m v) s = .next (s.refuse m O.REJOIN eRange))) ∧
     (s.serves O.INCREMENT → ∀ v : BitVec 64,
       let fits := 0x3FAE147AF ≤ v.toNat ∧ v.toNat ≤ 0x4051EB851
       (fits → ∃ t, exec (.incrementWrite m v) s = .next t ∧
         ({ s with tb := { s.tb with nominal := v.toNat, freq := 0 } } : State).wrote t [(O.INCREMENT, v.toNat)]) ∧
       (¬ fits → exec (.incrementWrite m v) s = .next (s.refuse m O.INCREMENT eRange))) ∧
     (s.serves O.PRIORITY → ∀ v : Byte, exec (.priorityWrite m v) s = .next (s.setObj O.PRIORITY v.toNat).elect) ∧
     (s.engineStopped = false → s.gate O.TIME_NS false = eNone → exec (.timeNsRead m) s =
       .next (State.emit { s with tb := { s.tb with latch := s.tb.counter } } (.value m O.TIME_NS s.nowNs))) ∧
     (∃ n, s.wrote s.ppsShown [(O.PPS_STATE, n)] ∧
       (s.disciplined = false → n = 0) ∧
       (s.disciplined = true → (s.obj O.JOINED = 0 ∨ s.obj O.PPS_STATE = 0) → n = 1) ∧
       (s.disciplined = true → s.obj O.JOINED ≠ 0 → s.obj O.PPS_STATE ≠ 0 → n = s.obj O.PPS_STATE)))

/-- R257–R260, R263, R359–R361: a tie unit takes nothing while the clocks stop. At its edge it captures the boundary that the fabric then
presents; its first application, once due, or at once when it came late, drives the FOUT bits it was taken for, with the time of the
output and a count of the late ones, and in TIED ends the slot's safe state; none is applied while a replay runs. -/
def Obligations.TieUnitsCaptureAndApply : Prop :=
  ∀ (s : State) (slot : Fin 8) (fin : BitVec 8192),
    (s.clk.sysStopped = true → exec (.tieEdgeReached slot fin) s = .next s ∧ exec (.tieApply slot) s = .next s) ∧
    (s.clk.sysStopped = false →
      let b := s.finBoundary fin
      exec (.tieEdgeReached slot fin) s = .next (State.capture { s with fabric := { s.fabric with fin := b } } slot b)) ∧
    (∀ b : Memory,
      let u := s.tie slot
      let p := s.obj (O.PERIOD slot)
      let reached := s.tieUsed slot = true ∧ s.obj O.TIED_STATE ≠ 0 ∧ p ≠ 0 ∧ s.reached u.capEdge = true
      let n := (s.nowNs + 2 ^ 64 - u.capEdge) % 2 ^ 64 / p
      (reached → s.capture slot b = ((s.setTie slot { u with
          capEdge := u.capEdge + (n + 1) * p, capture := bitsAt b (s.tieInFirst slot) (s.tieInCount slot) }).setObj
        (O.SAMPLE_TIME slot) s.nowNs).emit (.fabric 0 slot 1)) ∧
      (¬ reached → s.capture slot b = s)) ∧
    ((s.tie slot).apps = [] ∨ s.replaying = true → exec (.tieApply slot) s = .next s) ∧
    (∀ a rest, (s.tie slot).apps = a :: rest →
      (a.late = false → s.reached a.due = false → exec (.tieApply slot) s = .next s) ∧
      ((a.late = true ∨ s.reached a.due = true) → s.clk.sysStopped = false → s.replaying = false →
        let t := s.setTie slot { s.tie slot with apps := rest }
        let u : State := { t with fabric := { t.fabric with
          fout := putBitsAt t.fabric.fout a.first a.value a.count
          tieSafe := if t.obj O.TIED_STATE = 1 then setBit t.fabric.tieSafe slot false else t.fabric.tieSafe } }
        let v := (u.fabObjs.setObj (O.OUT_TIME slot) u.nowNs).emit (.fabric 1 slot a.value)
        exec (.tieApply slot) s = .next (if a.late then v.bump (O.OUT_LATE slot) 1 else v)))

/-- R273, R297: a doubleword load of a free lock makes the running thread its owner and gives 0; of a held one it gives the owner with bit
63 set and changes nothing else. A doubleword store by the owner frees the lock, and with its last one a deferral of its preemption; by
any other thread it is counted and changes nothing else. Any other width, or an access that the core's protection refuses, is an access
fault, and a core that executes nothing does nothing. -/
def Obligations.LocksHaveOneOwner : Prop :=
  ∀ (s : State) (core : CoreIx) (n : Fin 256) (rd : Fin 32),
    let a := 0x10000000 + 8 * n.val
    (s.executing core = none → ∀ w, exec (.lockLoad core n w rd) s = .next s ∧ exec (.lockStore core n w) s = .next s) ∧
    (∀ t, s.executing core = some t →
      (∀ w, (w ≠ .double ∨ s.coreDenied core false a 8 = true) → exec (.lockLoad core n w rd) s = .next (s.trap core 5 a)) ∧
      (∀ w, (w ≠ .double ∨ s.coreDenied core true a 8 = true) → exec (.lockStore core n w) s = .next (s.trap core 7 a)) ∧
      (s.coreDenied core false a 8 = false → s.lockOwner n = none → ∃ u, exec (.lockLoad core n .double rd) s = .next u ∧
        u.lockOwner n = some t ∧ (∀ k, k ≠ n.val → u.lockOwner k = s.lockOwner k) ∧ u.core core = (s.core core).setX rd 0 ∧
        (∀ c, c ≠ core.val → u.core c = s.core c) ∧ { u with hub := s.hub } = s ∧ u.hub.threads = s.hub.threads) ∧
      (s.coreDenied core false a 8 = false → ∀ o, s.lockOwner n = some o →
        exec (.lockLoad core n .double rd) s = .next (s.setCore core ((s.core core).setX rd (2 ^ 63 + o)))) ∧
      (s.coreDenied core true a 8 = false → s.lockOwner n = some t →
        exec (.lockStore core n .double) s = .next ((s.setLock n none).lockFreed core t)) ∧
      (s.coreDenied core true a 8 = false → s.lockOwner n ≠ some t → ∃ u, exec (.lockStore core n .double) s = .next u ∧
        s.wrote u [(O.LOCK_FOREIGN, satAdd (widthOf O.LOCK_FOREIGN) (s.obj O.LOCK_FOREIGN) 1)]))

/-- R270–R272: atomics in a range that takes them. LR loads and reserves the granule of its address; SC stores and gives 0 while that
reservation holds, gives 1 and stores nothing otherwise, and ends it either way; an AMO loads the old value and stores its result;
after FENCE.I the core sees every write made before it; a reservation expires. A misaligned address, one whose range takes no atomics,
or one that the protection refuses, traps. -/
def Obligations.AtomicsAndReservations : Prop :=
  ∀ (s : State) (core : CoreIx) (wide : Bool) (rd : Fin 32) (addr value : BitVec 64) (op : AmoOp),
    let n := if wide then 8 else 4
    let a := addr.toNat
    (s.executing core = none → exec (.lr core wide rd addr) s = .next s ∧ exec (.sc core wide rd addr value) s = .next s ∧
      exec (.amo core op wide rd addr value) s = .next s ∧ exec (.fenceI core) s = .next s) ∧
    (s.clockWait = true → exec (.reservationExpiry core) s = .next s) ∧
    (s.clockWait = false → exec (.reservationExpiry core) s = .next (s.setCore core { s.core core with resv := none })) ∧
    (∀ t, s.executing core = some t →
      (∀ c, s.atomicFault core true a n = some c → exec (.lr core wide rd addr) s = .next (s.trap core c a)) ∧
      (∀ c, s.atomicFault core false a n = some c → exec (.sc core wide rd addr value) s = .next (s.trap core c a) ∧
        exec (.amo core op wide rd addr value) s = .next (s.trap core c a)) ∧
      (s.atomicFault core true a n = none → exec (.lr core wide rd addr) s = .next (s.setCore core
        { (s.core core).setX rd (loadValue n (s.sramRead core a n)) with resv := some (a / 64) })) ∧
      (s.atomicFault core false a n = none → (s.core core).resv = some (a / 64) →
        let u := s.sramWrite core a n value.toNat
        exec (.sc core wide rd addr value) s = .next (u.setCore core { (u.core core).setX rd 0 with resv := none })) ∧
      (s.atomicFault core false a n = none → (s.core core).resv ≠ some (a / 64) →
        exec (.sc core wide rd addr value) s = .next (s.setCore core { (s.core core).setX rd 1 with resv := none })) ∧
      (s.atomicFault core false a n = none →
        let old := s.sramRead core a n
        let u := s.sramWrite core a n (amoResult op n old value.toNat)
        exec (.amo core op wide rd addr value) s = .next (u.setCore core ((u.core core).setX rd (loadValue n old)))) ∧
      exec (.fenceI core) s = .next (s.setCore core { s.core core with fenced := s.hub.writes.length }))

/-- R275–R280, R470: a core's stores to POST, IN_STAGE and PACE, its loads of OUT, and its virtual terminal. A load that touches the low
word of OUT latches OUT and its DC; pacing credits of a domain that the core paces add up and saturate; a byte goes to the transmit
terminal while it has room, else it is dropped and counted, or waits with VT_BLOCK; the oldest received byte is read with bit 8 set,
none as 0. An access that the core's protection refuses is an access fault; x0 takes no value. Where the spec leaves what a load reads
open (POST), a free value is drawn. -/
def Obligations.CoreRegistersAct : Prop :=
  ∀ (s : State) (core : CoreIx) (x : XportIx) (off : Fin 256) (width : Width) (value : BitVec 64) (rd : Fin 32) (d : Fin 64) (b : Byte)
    (t : Nat), s.executing core = some t →
    let k := s.core core
    let a := 0x11000000 + 256 * x.val + off.val
    let loads := off.val % width.bytes = 0 ∧ s.coreDenied core false a width.bytes = false
    exec (.post core x) s = .next (s.xportStore core x 0x90 8 0) ∧
    exec (.inStageStore core x off width value) s = .next (s.xportStore core x off width.bytes value.toNat) ∧
    (off.val % width.bytes ≠ 0 → exec (.outLoad core x off width rd) s = .next (s.trap core 4 a)) ∧
    (off.val % width.bytes = 0 → (0xA8 ≤ off.val ∨ s.coreDenied core false a width.bytes = true) → exec (.outLoad core x off width rd) s = .next (s.trap core 5 a)) ∧
    (loads → 0x40 ≤ off.val → off.val < 0x48 →
      let u := s.setCore core { k with latch := tput (fun _ => (0, 0)) k.latch x ((s.xport x).out, s.hub.outDc) }
      exec (.outLoad core x off width rd) s =
        .next (u.setCore core ((u.core core).setX rd (u.xportValue core x off width.bytes)))) ∧
    (loads → (off.val < 0x40 ∨ (0x48 ≤ off.val ∧ off.val < 0x90) ∨ (0x98 ≤ off.val ∧ off.val < 0xA8)) →
      exec (.outLoad core x off width rd) s = .next (s.setCore core (k.setX rd (s.xportValue core x off width.bytes)))) ∧
    (loads → 0x90 ≤ off.val → off.val < 0x98 → exec (.outLoad core x off width rd) s =
      .next (s.draw.setCore core (k.setX rd (s.xportValue core x off width.bytes)))) ∧
    (let dom := tget (fun _ => 0) s.sluice.domains d
     let n := satAdd 16 (tget (fun _ => 0) s.hub.pace d) (value.toNat % 65536)
     let denied := s.coreDenied core true (0x12000000 + 8 * d) 8
     (denied = true → exec (.paceStore core d value) s = .next (s.trap core 7 (0x12000000 + 8 * d))) ∧
     (denied = false → domKind dom = 3 → field dom 0 5 = core.val → exec (.paceStore core d value) s =
       .next { s with hub := { s.hub with pace := tput (fun _ => 0) s.hub.pace d n } }) ∧
     (denied = false → (domKind dom ≠ 3 ∨ field dom 0 5 ≠ core.val) → exec (.paceStore core d value) s = .next s)) ∧
    (k.vtTx.length < 64 → exec (.vttx core rd b) s =
      .next (s.setCore core { k.setX rd (64 - k.vtTx.length) with vtTx := k.vtTx ++ [b] })) ∧
    (64 ≤ k.vtTx.length → s.objBit O.VT_BLOCK core = true → exec (.vttx core rd b) s = .next s) ∧
    (64 ≤ k.vtTx.length → s.objBit O.VT_BLOCK core = false →
      exec (.vttx core rd b) s = .next ((s.setCore core (k.setX rd (64 - k.vtTx.length))).bump O.VT_DROPPED 1)) ∧
    (k.vtRx = [] → exec (.vtrx core rd) s = .next (s.setCore core (k.setX rd 0))) ∧
    (∀ c rest, k.vtRx = c :: rest → exec (.vtrx core rd) s =
      .next (s.setCore core { k.setX rd (256 + c.toNat) with vtRx := rest }))

/-- R268, R281, R282, R463–R466: The watchdog and the timer of a core, and EBREAK. A watchdog counts one every 250 ticks while its core
runs a thread on a running clock; only 0xA5 kicks it; one that reaches 0 is counted and, in warning mode the first time, interrupts,
else raises a fault and resets the core; the timer interrupt is pending exactly while MTIMECMP is reached; EBREAK halts with
EBREAK_HALT and otherwise takes the breakpoint exception, whose mtval is left open between the pc and 0. Halts through an open debug
port. HALTREQ, RESUMEREQ and CLR_BROKE act on the core's debug control; through a closed port nothing does. A stepped core halts after
its instruction; a requested halt waits for the end of a locked sequence, or breaks it after 4,096 cycles and says so. -/
def Obligations.CoreTimersAndHaltsAct : Prop :=
  (∀ (s : State) (core : CoreIx),
     let k := s.core core
     (∀ (v : Byte) (t : Nat), s.executing core = some t →
       (s.coreDenied core true 0x12010008 8 = true → exec (.wdtKick core v) s = .next (s.trap core 7 0x12010008)) ∧
       (s.coreDenied core true 0x12010008 8 = false → v.toNat = 0xA5 → exec (.wdtKick core v) s = .next (s.setCore core
         { k with wdt := s.obj (O.WDT_PERIOD core), wdtTicks := 0, wdtDue := false, warned := false })) ∧
       (s.coreDenied core true 0x12010008 8 = false → v.toNat ≠ 0xA5 → exec (.wdtKick core v) s = .next s) ∧
       (k.ebreakHalt = true → exec (.ebreak core) s = .next (s.haltCore core hcEbreak 0 0)) ∧
       (k.ebreakHalt = false → ∃ tval, (tval = k.issuing.getD k.ctx.pc ∨ tval = 0) ∧ exec (.ebreak core) s = .next (s.trap core 3 tval).draw)) ∧
     (s.executing core = none → ∀ v, exec (.wdtKick core v) s = .next s ∧ exec (.ebreak core) s = .next s) ∧
     (s.clockWait = true → exec (.mtimecmpReached core) s = .next s) ∧
     (s.clockWait = false → exec (.mtimecmpReached core) s =
       .next ((s.setCore core { k with mip := setBit k.mip 7 (s.reached k.mtimecmp) }).takeIrq core)) ∧
     (let counts := s.coreRuns core = true ∧ s.obj (O.WDT_PERIOD core) ≠ 0 ∧ k.wdt ≠ 0
      (¬ counts → s.wdtTick core = s) ∧
      (counts → k.wdtTicks < 249 → s.wdtTick core = s.setCore core { k with wdtTicks := k.wdtTicks + 1 }) ∧
      (counts → 249 ≤ k.wdtTicks → s.wdtTick core = s.setCore core { k with wdtTicks := 0, wdt := k.wdt - 1, wdtDue := k.wdt == 1 })) ∧
     (let expires := s.coreRuns core = true ∧ k.wdtDue = true
      let t := (s.setCore core { k with wdtDue := false }).bump (O.WDT_EXPIRIES core) 1
      let warns := t.obj (O.WDT_ACTION core) = 1 ∧ k.warned = false
      (¬ expires → exec (.wdtExpiry core) s = .next s) ∧
      (expires → warns → exec (.wdtExpiry core) s = .next ((t.setCore core
        { k with wdtDue := false, mip := setBit k.mip 16 true, wdt := t.obj (O.WDT_PERIOD core), warned := true }).takeIrq core)) ∧
      (expires → ¬ warns → exec (.wdtExpiry core) s =
        .next ((t.raiseFault 0x0B FaultLoc.hub (core.val + (t.obj (O.RUNNING_TCX core) % 16384) * 65536) 0 0).resetCore core 3)))) ∧
  (∀ (s : State) (core : CoreIx) (cycles : BitVec 13),
     let k := s.core core
     (s.portOpen = true → exec (.haltreq core) s = .next (s.writeCdctl core (s.cdctl core + 1)) ∧
       exec (.resumereq core) s = .next (s.writeCdctl core (s.cdctl core + 2)) ∧
       exec (.clrBroke core) s = .next (s.writeCdctl core (s.cdctl core + 16))) ∧
     (s.portOpen = false → exec (.haltreq core) s = .next s ∧ exec (.resumereq core) s = .next s ∧ exec (.clrBroke core) s = .next s) ∧
     (let runs := s.obj (O.CORE_STATE core) = 1 ∧ k.halted = false ∧ s.clockWait = false
      (¬ runs → exec (.coreHalted core cycles) s = .next s ∧ exec (.haltDeferLimit core) s = .next s) ∧
      (runs → k.stepArm = true → exec (.coreHalted core cycles) s = .next (s.haltCore core hcStep 0 (s.brokenBy core))) ∧
      (runs → k.stepArm = false → k.haltReq = true → s.lockedSequence core = false → exec (.coreHalted core cycles) s =
        .next (s.haltCore core k.haltBy (if k.deferring then min cycles.toNat 4096 else 0) 0)) ∧
      (runs → k.stepArm = false → (k.haltReq = false ∨ s.lockedSequence core = true) →
        exec (.coreHalted core cycles) s = .next s) ∧
      (runs → k.haltReq = true → k.deferring = true → s.lockedSequence core = true → exec (.haltDeferLimit core) s =
        .next (let t := s.bump O.BROKE_LOCK_HALTS 1; t.haltCore core k.haltBy 4096 (s.brokenBy core))) ∧
      (runs → (k.haltReq = false ∨ k.deferring = false ∨ s.lockedSequence core = false) →
        exec (.haltDeferLimit core) s = .next s)))

/-- R290–R293, R297, R300: what a thread does to itself on its core. WAIT takes the mask and timeout: with neither it yields; with the
condition there, or the timeout reached, it goes on; else it waits. YIELD goes to the tail of its list. EXIT frees its context and its
locks, which are counted. TCTL sets priority and wait mode, and the thread is judged at once; a write of TFLAGS clears at once and its
sets arrive as any other source's. A request takes one of the eight places of the thread and goes out; a ninth is answered 4; one whose
buffer is not SRAM goes out with data that nothing constrains. -/
def Obligations.ThreadsCommandThemselves : Prop :=
  ∀ (s : State) (core : CoreIx) (t : Nat), s.executing core = some t →
    (∀ (mask : BitVec 32) (timeout : BitVec 64),
      let th : Thread := { s.thread t with mask := mask.toNat, timeout := timeout.toNat, result := 0 }
      let u := s.setThread t th
      (th.mask = 0 → th.timeout = 0 → exec (.tcmdWait core mask timeout) s = .next (u.yield core t)) ∧
      (th.holds = true → exec (.tcmdWait core mask timeout) s = .next (u.setThread t th.consumed)) ∧
      (th.holds = false → th.timeout ≠ 0 → u.reached th.timeout = true →
        exec (.tcmdWait core mask timeout) s = .next (u.setThread t { th with wake := 2 })) ∧
      (th.holds = false → ¬ (th.mask = 0 ∧ th.timeout = 0) → (th.timeout = 0 ∨ u.reached th.timeout = false) →
        exec (.tcmdWait core mask timeout) s = .next ((u.switchOut core 3).schedObjs core))) ∧
    exec (.tcmdYield core) s = .next ((s.setThread t { s.thread t with result := 0 }).yield core t) ∧
    (let locks := s.locksOf t
     let a := (locks.foldl (fun u n => u.setLock n none) s).bump O.EXIT_LOCKS locks.length
     let b := (a.switchOut core 0).setThread t Thread.blank
     exec (.tcmdExit core) s = .next (State.schedObjs (b.setCore core { b.core core with
       writeback := (b.core core).writeback.filter fun e => e.1 != t }) core)) ∧
    (∀ value : BitVec 64, exec (.tctlWrite core value) s = .next ((s.setThread t { s.thread t with
      prio := field value.toNat 0 5, all := value.toNat.testBit 8, consume := value.toNat.testBit 9 }).judgeRunning core t)) ∧
    (∀ value : BitVec 32,
      let th := s.thread t
      let v := value.toNat
      let arrive := fun (u : State) => (List.range 32).foldl (fun u f => if v.testBit f then u.flagArrives t f else u) u
      let cleared := th.flags - (th.flags &&& v)
      exec (.tflagsWrite core .set value) s = .next (arrive (s.setThread t { th with flags := th.flags })) ∧
      exec (.tflagsWrite core .clear value) s = .next (s.setThread t { th with flags := cleared }) ∧
      exec (.tflagsWrite core .replace value) s =
        .next (arrive (s.setThread t { th with flags := th.flags &&& v }))) ∧
    (∀ (buf addr : BitVec 64) (dmod : Fin 1024) (ddie : Fin 8) (dnode : Fin 256) (words : Fin 64) (flag : FlagIx),
      let n := 4 * (words.val + 1)
      let k := s.setCore core ((((s.core core).setTarg 0 buf.toNat).setTarg 1 addr.toNat).setTarg 2
        (dmod.val + 2 ^ 10 * ddie.val + 2 ^ 13 * dnode.val + 2 ^ 21 * n))
      let th := k.thread t
      let packet := fun (u : State) (op : Nat) (data : List Byte) =>
        ({ vc := 0, op := op, dstMod := dmod, dstDie := ddie, dstNode := dnode, srcMod := u.ownId, srcDie := 4, srcNode := nodeCores
           tag := 0, gen := 0, status := 0, bytes := n, addr := addr.toNat, payload := data, poison := false } : Packet)
      let sent := fun (u : State) => u.setThread t { th with outstanding := th.outstanding + 1, result := 0 }
      (8 ≤ th.outstanding → exec (.tcmdReqRead core buf addr dmod ddie dnode words flag) s = .next (k.result4 t 4) ∧
        exec (.tcmdReqWrite core buf addr dmod ddie dnode words flag) s = .next (k.result4 t 4)) ∧
      (th.outstanding < 8 → bufferOk buf.toNat n = true →
        exec (.tcmdReqRead core buf addr dmod ddie dnode words flag) s =
          .next ((sent k).hubRequest ⟨.thread core t flag false buf.toNat n, packet k 1 []⟩) ∧
        exec (.tcmdReqWrite core buf addr dmod ddie dnode words flag) s =
          .next ((sent k).hubRequest ⟨.thread core t flag true buf.toNat n, packet k 2 (leBytes n (k.sramRead core buf.toNat n))⟩)) ∧
      (th.outstanding < 8 → bufferOk buf.toNat n = false → ∃ data,
        exec (.tcmdReqRead core buf addr dmod ddie dnode words flag) s =
          .next ((sent k.draw.astray).hubRequest ⟨.thread core t flag false buf.toNat n, packet k.draw.astray 1 []⟩) ∧
        exec (.tcmdReqWrite core buf addr dmod ddie dnode words flag) s =
          .next ((sent k.draw.astray).hubRequest ⟨.thread core t flag true buf.toNat n, packet k.draw.astray 2 data⟩)))

/-- R288–R303: What a running thread does to others, and the result it reads: 0 done, 1 the context is not in a state that takes the
command, 2 the home has no room, 3 a period below 1 µs. A core that executes nothing takes no command of a thread. -/
def Obligations.ThreadsCommandOthers : Prop :=
  (∀ (s : State) (core : CoreIx) (t : Nat), s.executing core = some t → ∀ (tcx : Tcx) (home : CoreIx) (flag : FlagIx) (targ0 targ1 : BitVec 64),
     exec (.tcmdSignal core tcx flag) s = .next ((s.result4 t 0).flagArrives tcx flag) ∧
     (∀ (prio : Fin 32) (targ2 : BitVec 64),
       let u := s.setCore core ((((s.core core).setTarg 0 targ0.toNat).setTarg 1 targ1.toNat).setTarg 2 targ2.toNat)
       let regs := tput (fun _ => 0) (tput (fun _ => 0) [] 2 targ1.toNat) 10 targ2.toNat
       let th := { Thread.blank with prio := prio, home := home, ctx := { Ctx.blank with pc := targ0.toNat, x := regs } }
       exec (.tcmdSpawn core tcx home prio targ0 targ1 targ2) s = .next (
         if (u.thread tcx).st ≠ 0 ∨ tcx.val % 512 = 0 then u.result4 t 1
         else if 512 ≤ (u.homed home).length then u.result4 t 2
         else ((u.result4 t 0).setThread tcx th).makeReady tcx false)) ∧
     ((s.thread tcx).st = 4 → exec (.tcmdStart core tcx) s =
       .next (((s.setThread tcx { s.thread tcx with wake := 3 }).makeReady tcx false).result4 t 0)) ∧
     ((s.thread tcx).st ≠ 4 → exec (.tcmdStart core tcx) s = .next (s.result4 t 1)) ∧
     ((s.thread tcx).st = 1 → exec (.tcmdStop core tcx) s =
       .next (((s.dropReady tcx).setThread tcx { s.thread tcx with st := 4 }).result4 t 0)) ∧
     ((s.thread tcx).st = 3 → exec (.tcmdStop core tcx) s = .next ((s.setThread tcx { s.thread tcx with st := 4 }).result4 t 0)) ∧
     ((s.thread tcx).st = 2 → tcx.val = t → (s.thread tcx).home = core.val → exec (.tcmdStop core tcx) s =
       .next ((State.schedObjs (s.switchOut core 4) core).result4 t 0)) ∧
     (((s.thread tcx).st = 0 ∨ 4 ≤ (s.thread tcx).st ∨ ((s.thread tcx).st = 2 ∧ (tcx.val ≠ t ∨ (s.thread tcx).home ≠ core.val))) →
       exec (.tcmdStop core tcx) s = .next (s.result4 t 1)) ∧
     (let th := s.thread tcx
      let self := tcx.val = t
      let u := s.result4 t 0
      ((tcx.val % 512 = 0 ∨ th.st = 0 ∨ (th.st = 2 ∧ ¬ self)) → exec (.tcmdMigrate core tcx home) s = .next (s.result4 t 1)) ∧
      (¬ (tcx.val % 512 = 0 ∨ th.st = 0 ∨ (th.st = 2 ∧ ¬ self)) →
        (th.home ≠ home.val → 512 ≤ (s.homed home).length → exec (.tcmdMigrate core tcx home) s = .next (s.result4 t 2)) ∧
        ((th.home = home.val ∨ (s.homed home).length < 512) →
          (self → exec (.tcmdMigrate core tcx home) s =
            .next (let v := u.switchOut core 1
                   State.schedObjs ((v.setThread tcx { v.thread tcx with home := home }).makeReady tcx false) core)) ∧
          (¬ self → th.st = 1 → exec (.tcmdMigrate core tcx home) s =
            .next ((((u.dropReady tcx).setThread tcx { th with home := home }).makeReady tcx false).schedObjs th.home)) ∧
          (¬ self → th.st ≠ 1 → exec (.tcmdMigrate core tcx home) s =
            .next (((u.setThread tcx { th with home := home }).schedObjs home).schedObjs th.home))))) ∧
     (∀ unit : Fin 8,
       let k := ((s.core core).setTarg 0 targ0.toNat).setTarg 1 targ1.toNat
       let a : Option Alarm := if targ0.toNat = 0 then none else some ⟨tcx, flag, targ0.toNat, targ1.toNat⟩
       (1 ≤ targ1.toNat → targ1.toNat ≤ 999 → exec (.tcmdAlarm core unit tcx flag targ0 targ1) s = .next ((s.setCore core k).result4 t 3)) ∧
       ((targ1.toNat = 0 ∨ 1000 ≤ targ1.toNat) → exec (.tcmdAlarm core unit tcx flag targ0 targ1) s =
         .next ((s.setCore core { k with alarms := tput (fun _ => none) k.alarms unit a }).result4 t 0)))) ∧
  (∀ (s : State) (core : CoreIx), s.executing core = none →
     ∀ (x : XportIx) (off : Fin 256) (width : Width) (v : BitVec 64) (rd : Fin 32) (d : Fin 64) (b : Byte) (mask : BitVec 32) (tcx : Tcx)
       (flag : FlagIx) (home : CoreIx) (prio : Fin 32) (unit : Fin 8) (op : CsrOp) (dmod : Fin 1024) (ddie : Fin 8) (dnode : Fin 256)
       (words : Fin 64),
     ∀ c ∈ [Instr.post core x, .inStageStore core x off width v, .outLoad core x off width rd, .paceStore core d v, .vttx core rd b,
         .vtrx core rd, .tcmdWait core mask v, .tcmdYield core, .tcmdExit core, .tcmdSignal core tcx flag,
         .tcmdSpawn core tcx home prio v v v, .tcmdStop core tcx, .tcmdStart core tcx, .tcmdMigrate core tcx home,
         .tcmdAlarm core unit tcx flag v v, .tcmdReqRead core v v dmod ddie dnode words flag,
         .tcmdReqWrite core v v dmod ddie dnode words flag, .tflagsWrite core op mask, .tctlWrite core v],
       exec c s = .next s)

/-- R293, R294, R296, R297, R300: the scheduler while no clock is waited for. Arrived flags are set, then one thread of each core wakes; a
WAITING thread whose timeout is reached wakes, by FLAGS if its condition holds then; a due alarm sets its flag and is armed for its
next instant or disarmed; a context reaches the store; a prefetch slot fills; a completed request delivers its data, status and flag. -/
def Obligations.SchedulerCyclesAct : Prop :=
  ∀ (s : State), s.clockWait = false →
    exec .flagApply s = .next ((List.range 32).foldl
      (fun u c => match u.nextWake c with | some t => u.wake t false | none => u) s.applyFlags) ∧
    (∀ t : Tcx,
      let th := s.thread t
      (th.st = 3 → th.timeout ≠ 0 → s.reached th.timeout = true → exec (.threadTimeout t) s = .next (s.wake t (! th.holds))) ∧
      ((th.st ≠ 3 ∨ th.timeout = 0 ∨ s.reached th.timeout = false) → exec (.threadTimeout t) s = .next s)) ∧
    (∀ (core : CoreIx) (unit : Fin 8),
      let k := s.core core
      (tget (fun _ => none) k.alarms unit = none → exec (.alarmFire core unit) s = .next s) ∧
      (∀ a, tget (fun _ => none) k.alarms unit = some a →
        (s.reached a.when_ = false → exec (.alarmFire core unit) s = .next s) ∧
        (s.reached a.when_ = true →
          let next : Option Alarm := if a.period = 0 then none else some { a with when_ := nextInstant a.when_ a.period s.nowNs }
          exec (.alarmFire core unit) s =
            .next ((s.setCore core { k with alarms := tput (fun _ => none) k.alarms unit next }).flagArrives a.tcx a.flag)))) ∧
    (∀ core : CoreIx,
      let k := s.core core
      (k.writeback = [] → exec (.contextWriteback core) s = .next s) ∧
      (∀ t x rest, k.writeback = (t, x) :: rest → exec (.contextWriteback core) s =
        .next ((s.setCore core { k with writeback := rest }).setThread t { s.thread t with ctx := x })) ∧
      ((∀ e ∈ k.prefetch, e.2 = true) → exec (.prefetchFill core) s = .next s) ∧
      (∀ l t r, k.prefetch = l ++ (t, false) :: r → (∀ e ∈ l, e.2 = true) → exec (.prefetchFill core) s =
        .next (s.setCore core { k with prefetch := l ++ (t, true) :: r }))) ∧
    (s.net.done = [] → exec .requestCompletion s = .next s) ∧
    (∀ n core t flag write buf bytes p rest, s.net.done = (n, .thread core t flag write buf bytes, p) :: rest →
      let a : State := { s with net := { s.net with done := rest } }
      let b := if write = false ∧ p.status = 0 ∧ p.op = 8 then a.sramWrite core buf bytes (leNat p.payload) else a
      let c := if (b.thread t).st = 0 then b else
        b.setThread t { b.thread t with status := p.status, outstanding := (b.thread t).outstanding - 1 }
      exec .requestCompletion s = .next (c.flagArrives t flag))

/-- R296, R297: an idle, running core that no halt keeps from it takes the head of its most urgent list; a running one is preempted by a
more urgent thread in a filled slot, which sends it to the head of its list, unless it owns a lock: that deferral is counted once. -/
def Obligations.CoresDispatchAndPreempt : Prop :=
  ∀ (s : State) (core : CoreIx) (wait ran idle : Nat),
    let k := s.core core
    let able := s.clockWait = false ∧ s.obj (O.CORE_STATE core) = 1 ∧ k.halted = false ∧ k.haltReq = false
      ∧ (k.stepArm = false ∨ k.noThread = true) ∧ s.clk.shutdown = false ∧ s.running core = none
    (∀ t, able → s.dispatchable core = some t → exec (.dispatch core wait ran idle) s =
      .next (((((s.setCore core { k with noThread := false }).bump (O.CYC_RUN core) ran).bump (O.CYC_IDLE core) idle).switchIn core t
        wait).takeIrq core)) ∧
    ((¬ able ∨ s.dispatchable core = none) → exec (.dispatch core wait ran idle) s = .next s) ∧
    (∀ r t, s.executing core = some r → s.dispatchable core = some t →
      let may := s.obj (O.PREEMPT core) = 1 ∧ (s.thread t).prio < (s.thread r).prio
      (¬ may → exec (.preemption core wait ran) s = .next s ∧ s.judgeRunning core r = s) ∧
      (may → s.locksOf r = [] → s.judgeRunning core r = s ∧ exec (.preemption core wait ran) s =
        .next (((((((s.switchOut core 1).makeReady r true)).switchIn core t wait).bump (O.PREEMPTIONS core) 1).bump (O.CYC_RUN core)
          ran).takeIrq core)) ∧
      (may → s.locksOf r ≠ [] → exec (.preemption core wait ran) s = .next (s.judgeRunning core r)) ∧
      (may → s.locksOf r ≠ [] → k.deferred = true → s.judgeRunning core r = s) ∧
      (may → s.locksOf r ≠ [] → k.deferred = false →
        s.judgeRunning core r = (s.setCore core { k with deferred := true }).bump (O.LOCK_DEFERRALS core) 1)) ∧
    (∀ r, s.dispatchable core = none → s.judgeRunning core r = s) ∧
    ((s.executing core = none ∨ s.dispatchable core = none) → exec (.preemption core wait ran) s = .next s)

/-- R288, R299, R303, R381: a host's commands to cores and threads. CORE_RUN changes nothing in STANDBY, LOAD and DIAG, and elsewhere
releases the cores of rising bits and resets those of falling ones; THREAD_CMD stops or starts the selected context and shows the
result; THREAD_FLAGS_SET and a doorbell set flags. A START of a FREE context at a core in reset, or with no room, goes ahead with an
effect that is bounded by R8 and no further. -/
def Obligations.HostCommandsThreads : Prop :=
  ∀ (s : State) (m : Master),
    (s.serves O.CORE_RUN → ∀ v : BitVec 32,
      ((s.mode = mStandby ∨ s.mode = mLoad ∨ s.mode = mDiag) → exec (.coreRun m v) s = .next s) ∧
      (¬ (s.mode = mStandby ∨ s.mode = mLoad ∨ s.mode = mDiag) →
        let old := s.obj O.CORE_RUN
        exec (.coreRun m v) s = .next ((List.range 32).foldl (fun t c =>
          if v.toNat.testBit c && ! old.testBit c then t.releaseCore c
          else if ! v.toNat.testBit c && old.testBit c then t.resetCore c 0 else t) (s.setObj O.CORE_RUN v.toNat)))) ∧
    (s.serves O.THREAD_CMD →
      let t := s.obj O.THREAD_SEL
      exec (.threadCmdStop m) s = .next ((s.stopThread none t).1.setObj O.THREAD_CMD_RESULT (s.stopThread none t).2) ∧
      (let started := fun (u : State) => ((u.setThread t { u.thread t with home := u.startHome t, wake := 3, written := false }).makeReady t
         false).setObj O.THREAD_CMD_RESULT 0
       s.startsFree t = true → exec (.threadCmdStart m) s = .next (started (if s.startUnchecked then s.astray else s))) ∧
      (s.startsFree t = false → exec (.threadCmdStart m) s =
        .next ((s.startThread t).1.setObj O.THREAD_CMD_RESULT (s.startThread t).2))) ∧
    (s.serves O.THREAD_FLAGS_SET → ∀ v : BitVec 32,
      exec (.threadFlagsSet m v) s = .next (s.orFlags (s.obj O.THREAD_SEL) v.toNat)) ∧
    (∀ (t : Tcx) (v : BitVec 64),
      (s.endpointUp = false → exec (.threadDoorbell t v) s = .next s) ∧
      (s.endpointUp = true → s.engineStopped = true → exec (.threadDoorbell t v) s = .next (s.holdWrite (.thread t v.toNat))) ∧
      (s.endpointUp = true → s.engineStopped = false → exec (.threadDoorbell t v) s = .next (s.ringThread t v.toNat)))

/-- R148, R311, R319, R323, R324, R331, R332, R335, R338, R339, R341: The trigger engine's inputs. A ball's level is shown, and its rising
edge latched in edge mode when the ball is an input; a pulse ends; a hold-off in ns is over once its end is reached; REARM takes only
1, and waits for the next trigger instant while the module advances; a fetched mask-test record is taken and the comparisons that wait
for one follow. Trace commands arm or, while it traces, freeze the engine; the oldest buffered record comes to lie in HBM at its place
of the ring and WR advances; a snapshot in progress ends VALID, or DAMAGED where a word of it is uncorrectable; a restore, once the
Quarry is idle, undoes the overburden log and ends with the slot's contents back, or fails where the slot is damaged. -/
def Obligations.TriggerAndTraceAct : Prop :=
  (∀ (s : State),
     (∀ (ball : Fin 4) (level : Bool),
       let t := s.setObjBit O.TRIG_LEVEL ball level
       let edge := level = true ∧ s.objBit O.TRIG_LEVEL ball = false ∧ (s.obj (O.TRIG_CFG ball)).testBit 0 = false
         ∧ (s.obj (O.TRIG_CFG ball)).testBit 1 = true
       (edge → exec (.trigInputEdge ball level) s =
         .next { t with trig := { t.trig with triglatch := setBit t.trig.triglatch ball true } }) ∧
       (¬ edge → exec (.trigInputEdge ball level) s = .next t)) ∧
     (∀ ball : Fin 4,
       (s.trig.pulses.testBit ball = true → exec (.trigPulseEnd ball) s = .next ((State.emit
         { s with trig := { s.trig with pulses := setBit s.trig.pulses ball false } } (.pin (1 + ball) false)).setObjBit O.TRIG_LEVEL ball
           false)) ∧
       (s.trig.pulses.testBit ball = false → exec (.trigPulseEnd ball) s = .next s)) ∧
     (∀ n : Fin 64,
       let r := tget (fun _ => CmpRun.blank) s.trig.cmps n
       let ends := s.obj (O.CMP_STATE n) = cHoldoff ∧ cUnit (s.obj (O.CMP_CTRL n)) = 1
         ∧ s.reached (r.fired + s.obj (O.CMP_HOLDOFF n)) = true
       let cmps := tput (fun _ => CmpRun.blank) s.trig.cmps n { r with ended := true }
       (ends → exec (.holdoffExpiry n) s = .next { s with trig := { s.trig with cmps := cmps } }) ∧
       (¬ ends → exec (.holdoffExpiry n) s = .next s)) ∧
     (∀ m, s.serves O.REARM → ∀ v : Byte,
       (v.toNat ≠ 1 → exec (.rearm m v) s = .next (s.refuse m O.REARM eRange)) ∧
       (v.toNat = 1 → s.advancing = true → exec (.rearm m v) s = .next { s with trig := { s.trig with rearm := true } }) ∧
       (v.toNat = 1 → s.advancing = false → exec (.rearm m v) s = .next s.rearm)) ∧
     ((s.obj O.MT_ENABLE = 0 ∨ s.obj O.MT_RD = s.obj O.MT_WR ∨ s.trig.mtRec ≠ none) → exec .maskTestFetchDone s = .next s) ∧
     (s.obj O.MT_ENABLE ≠ 0 → s.obj O.MT_RD ≠ s.obj O.MT_WR → s.trig.mtRec = none →
       let t := match s.firstBad (s.obj O.MT_BASE + s.obj O.MT_RD * s.mtStride) (16 * (s.obj O.MT_WORDS + 1)) with
         | some b => s.hbmBad b
         | none => s
       let u : State := { t with trig := { t.trig with mtRec := some (t.mtRecord.getD []) } }
       exec .maskTestFetchDone s = .next (u.mtDrain u.trig.mtWait.length))) ∧
  (∀ (s : State),
     (∀ m, s.serves O.TRACE_CMD →
       exec (.traceCmdArm m) s = .next s.traceArm ∧
       ((s.obj O.TRACE_STATE = 1 ∨ s.obj O.TRACE_STATE = 2) →
         ∃ t, exec (.traceCmdFreeze m) s = .next t ∧ s.wrote t [(O.TRACE_STATE, 3)]) ∧
       (¬ (s.obj O.TRACE_STATE = 1 ∨ s.obj O.TRACE_STATE = 2) → exec (.traceCmdFreeze m) s = .next s)) ∧
     (s.clockWait = true → exec .traceRecordWrite s = .next s ∧ (∀ b, exec (.snapshotDone b) s = .next s) ∧
       exec .restoreDone s = .next s) ∧
     (s.clockWait = false →
       ((s.trace.buffer = [] ∨ s.obj O.CAPACITY = 0) → exec .traceRecordWrite s = .next s) ∧
       (∀ n r rest, s.trace.buffer = (n, r) :: rest → s.obj O.CAPACITY ≠ 0 →
         let cap := s.obj O.CAPACITY
         let stride := s.obj O.RECORD_BYTES
         let t := State.setObj (State.hbmWrite { s with trace := { s.trace with buffer := rest } }
           (s.obj O.SPOIL_BASE + n % cap * stride) (r ++ List.replicate (stride - r.length) 0)) O.WR (n + 1)
         exec .traceRecordWrite s = .next (if t.obj O.TRACE_MODE = 0 then t.setObj O.FIRST_VALID (n + 1 - cap) else t)) ∧
       (∀ slot cause start, s.run.pause = some (.snapshot slot cause start) →
         let t := s.setObj O.SNAP_TIME_LAST (s.sinceNs start)
         let ends := fun (u : State) =>
           let v : State := { u with run := { u.run with pause := none } }
           (v.setMode v.run.resumeMode).afterPause
         exec (.snapshotDone none) s = .next (ends (t.setObjs [(O.SLOT_STATUS slot, 1), (O.SNAP_RESULT, 1)])) ∧
         (∀ a : BitVec 37, exec (.snapshotDone (some a)) s =
           .next (ends ((t.hbmBad a.toNat).setObjs [(O.SLOT_STATUS slot, 3), (O.SNAP_RESULT, 4)])))) ∧
       ((∀ slot cause start, s.run.pause ≠ some (.snapshot slot cause start)) → ∀ b, exec (.snapshotDone b) s = .next s) ∧
       (s.quarryIdle = false → exec .restoreDone s = .next s) ∧
       (∀ slot kind start, s.quarryIdle = true → s.run.pause = some (.restore slot kind start) →
         let u := (s.clearTransit fun _ => false).ovbUndo (s.obj (O.SLOT_DC slot))
         (∀ a, u.slotDamage slot = some a → exec .restoreDone s = .next (u.restoreFails start a)) ∧
         (u.slotDamage slot = none →
           let t := (u.restoreBack slot kind).restoreEnds start 1
           exec .restoreDone s = .next (if t.obj O.RECOVERY_STATE = 3 then t.recoveryRestored else t.afterPause))) ∧
       ((∀ slot kind start, s.run.pause ≠ some (.restore slot kind start)) → exec .restoreDone s = .next s)))

/-- R366, R368, R483: a stand-alone fabric load. An order begins the fetch in the modes that take one and is answered REFUSED elsewhere;
the fetch, the check and the writing follow each other, each ending refused with its code where it fails; an abort ends the load, and
one that was being written leaves the fabric unconfigured; UNCONFIGURE empties the fabric unless a load is writing it. -/
def Obligations.FabricLoadsInPhases : Prop :=
  ∀ (s : State) (m : Master),
    (s.serves O.FAB_LOAD_CMD →
      (s.fabric.phase ≠ 0 → exec (.fabLoadCmdLoad m) s = .next (s.refuse m O.FAB_LOAD_CMD eMode)) ∧
      (s.fabric.phase = 0 → s.fabModes = true →
        exec (.fabLoadCmdLoad m) s = .next { s with fabric := { s.fabric with phase := 1, fetched := [] } }) ∧
      (s.fabric.phase = 0 → s.fabModes = false → exec (.fabLoadCmdLoad m) s =
        .next ((s.setObjs [(O.FAB_RESULT, 2), (O.FAB_CHECK, 1), (O.FAB_CHECK_DETAIL, 0)]).msix 3)) ∧
      (s.fabric.phase = 0 → ∃ t, exec (.fabLoadCmdAbort m) s = .next t ∧ s.wrote t [(O.FAB_ABORT_RESULT, 2)]) ∧
      (s.fabric.phase ≠ 0 →
        let t : State := { s with fabric := { s.fabric with phase := 0, fetched := [] } }
        exec (.fabLoadCmdAbort m) s = .next (((if s.fabric.phase = 3 then t.fabClear else t).setObjs
          [(O.FAB_RESULT, 3), (O.FAB_ABORT_RESULT, 1)]).msix 3)) ∧
      (s.fabModes = true → s.fabric.phase ≠ 3 → exec (.fabLoadCmdUnconfigure m) s = .next s.fabClear) ∧
      ((s.fabModes = false ∨ s.fabric.phase = 3) →
        exec (.fabLoadCmdUnconfigure m) s = .next (s.refuse m O.FAB_LOAD_CMD eMode))) ∧
    (s.fabric.phase ≠ 1 → ∀ data, exec (.fabFetchDone data) s = .next s) ∧
    (s.fabric.phase = 1 → exec (.fabFetchDone none) s = .next (s.fabRefuse 2 0) ∧
      ∀ b, exec (.fabFetchDone (some b)) s = .next { s with fabric := { s.fabric with phase := 2, fetched := b } }) ∧
    (∀ vddio : List Nat,
      let b := s.fabric.fetched
      let t := s.setObjs ((List.range 8).map fun i => (O.BANK_VDDIO i, vddio.getD i 0))
      let r := fabCheck b (t.obj O.FAB_ID) (t.obj O.FAB_BYTES) false (t.fabPolicyBad b)
        (tget (fun _ => []) t.keys.signing (bytesNat b 0x1C 4)) vddio
      let u := t.setObjs [(O.FAB_CHECK, 0), (O.FAB_CHECK_DETAIL, 0), (O.FAB_STATE, 1)]
      (s.fabric.phase ≠ 2 → exec (.fabCheckDone vddio) s = .next s) ∧
      (s.fabric.phase = 2 → r.1 ≠ 0 → exec (.fabCheckDone vddio) s = .next (t.fabRefuse r.1 r.2)) ∧
      (s.fabric.phase = 2 → r.1 = 0 →
        exec (.fabCheckDone vddio) s = .next (State.fabObjs { u with fabric := { u.fabric with phase := 3 } }))) ∧
    (s.fabric.phase ≠ 3 → exec .fabWriteDone s = .next s) ∧
    (s.fabric.phase = 3 →
      let t : State := { s with fabric := { s.fabric with phase := 0, fetched := [], fin := [], pend := [] } }
      exec .fabWriteDone s = .next (((t.fabConfigure s.fabric.fetched).setObj O.FAB_RESULT 1).msix 3))

/-- R351, R352, R354–R357, R370: Regional clocks. A select change of an enabled region under the fabric's logic switches at once while the
present source gives edges, else waits for the forced switch; a further change that comes meanwhile is acted on with it; the forced
switch is shown; a loss and its end are shown; a measured frequency is shown. Pads. A cause of a safe state takes every driving pad to
which it applies to the pad's safe level; when no cause is left the pad shows what its logic drives, an I²C signal only its low level;
SAFE_FORCE takes 0 and 1 only; a dynamic delay line steps one tap and saturates at its ends; its full scale is shown as measured. -/
def Obligations.FabricClocksAndPadsAct : Prop :=
  (∀ (s : State) (region : RegionIx),
     let r := s.region region
     (∀ sel alive : Bool,
       (¬ (regEnable r.entry = true ∧ regByLogic r.entry = true) → exec (.regionSelectChange region sel alive) s = .next s) ∧
       (regEnable r.entry = true → regByLogic r.entry = true →
         (r.switching ≠ none →
           exec (.regionSelectChange region sel alive) s = .next (s.setRegion region { r with wanted := some sel })) ∧
         (r.switching = none → sel = r.sel → exec (.regionSelectChange region sel alive) s = .next s) ∧
         (r.switching = none → sel ≠ r.sel → alive = true →
           exec (.regionSelectChange region sel alive) s = .next (s.setRegion region { r with sel := sel, count := 0 })) ∧
         (r.switching = none → sel ≠ r.sel → alive = false →
           exec (.regionSelectChange region sel alive) s = .next (s.setRegion region { r with switching := some sel })))) ∧
     (r.switching = none → exec (.regionForcedSwitch region) s = .next s) ∧
     (∀ sel, r.switching = some sel →
       exec (.regionForcedSwitch region) s = .next
         ((s.setRegion region { r with sel := r.wanted.getD sel, switching := none, wanted := none, count := 0 }).setObjBit O.CLK_FORCED
           region true)) ∧
     ((regEnable r.entry = false ∨ regLossWindow r.entry = 0) → exec (.regionLoss region) s = .next s) ∧
     (regEnable r.entry = true → regLossWindow r.entry ≠ 0 →
       exec (.regionLoss region) s = .next (State.fabObjs (s.setObjBit O.CLK_LOST region true))) ∧
     exec (.regionLossEnd region) s = .next (State.fabObjs (s.setObjBit O.CLK_LOST region false)) ∧
     (∀ khz : BitVec 32, ∃ t, exec (.regionFreqMeasure region khz) s = .next t ∧ s.wrote t [(O.REGION_FREQ region, khz.toNat)])) ∧
  (∀ (s : State),
     (∀ levels enables : BitVec 384,
       let safe := fun (e : Nat × Pad) =>
         if pinDrives e.2.entry = true ∧ e.2.forced = false ∧ s.padCauses e.2.entry ≠ 0 then
           let v := safeLevel (pinSafe e.2.entry) (levels.getLsbD e.1) (enables.getLsbD e.1)
           (e.1, { e.2 with level := v.1, enable := v.2, forced := true })
         else e
       exec (.safeStateBegin levels enables) s =
         .next (State.fabObjs { s with fabric := { s.fabric with pads := s.fabric.pads.map safe } })) ∧
     (∀ (pad : Fin 384) (level enable : Bool),
       let p := s.pad pad
       (p.forced = true → s.padCauses p.entry = 0 → exec (.padRelease pad level enable) s =
         .next (State.fabObjs (s.setPad pad { p with level := level, enable := pinDriven p.entry level enable, forced := false }))) ∧
       ((p.forced = false ∨ s.padCauses p.entry ≠ 0) → exec (.padRelease pad level enable) s = .next s)) ∧
     (∀ m, s.serves O.SAFE_FORCE → ∀ v : Byte,
       (v.toNat ≤ 1 → exec (.safeForce m v) s = .next (State.fabObjs (s.setObj O.SAFE_FORCE v.toNat))) ∧
       (1 < v.toNat → exec (.safeForce m v) s = .next (s.refuse m O.SAFE_FORCE eRange))) ∧
     (∀ pad : Fin 384,
       let p := s.pad pad
       let dynamic := pinDyn p.entry = true ∧ pinMode p.entry ≠ 0
       (dynamic → exec (.delayTapStep pad true) s = .next (s.setPad pad { p with tap := min 511 (p.tap + 1) }) ∧
         exec (.delayTapStep pad false) s = .next (s.setPad pad { p with tap := p.tap - 1 })) ∧
       (¬ dynamic → ∀ up, exec (.delayTapStep pad up) s = .next s)) ∧
     (∀ (bank : Fin 8) (fs : BitVec 16), ∃ t, exec (.tapFsMeasure bank fs) s = .next t ∧ s.wrote t [(O.TAP_FS bank, fs.toNat)]))

/-- R346, R347, R358, R363, R364, R367: what the configured fabric does. A flip-flop at an edge of its clock takes its set/reset value
under set/reset, else, enabled, its input, else it holds; between edges only an asynchronous set/reset acts. A posted lane's value
becomes pending, and overwriting one is counted; a user flash access in the fabric's part starts, or is turned away with FLASH_USER_WP
where it would change the flash, and completes with its data; below that part the spec gives the fabric no access and the command
faults; a corrected frame is counted and an uncorrectable one raises a fault; ring oscillators are measured while the base clock runs. -/
def Obligations.ConfiguredFabricActs : Prop :=
  ∀ (s : State),
    (∀ (f : FlopConf) (async enable d q : Bool),
      flopNext f async true enable true d q = f.setReset ∧
      flopNext f async true true false d q = d ∧ flopNext f async true false false d q = q ∧
      flopNext f true false enable true d q = f.setReset ∧ flopNext f false false enable true d q = q ∧
      flopNext f async false enable false d q = q) ∧
    (∀ (cell : Nat) (edge : Bool),
      let k := Config.fabCell s.fabric.conf cell
      let v := fun (f : FlopConf) (i : Nat) (q : Bool) =>
        flopNext f k.async edge (s.fabValue (cellEnable cell)) (s.fabValue (cellSetReset cell))
          (if f.bypass then s.fabValue (cellBypass cell i) else s.fabSource 131072 (.table cell (i == 1))) q
      s.cellNext cell edge = (v k.first 0 (s.flops cell).1, v k.second 1 (s.flops cell).2)) ∧
    (s.obj O.FAB_STATE ≠ 2 → s.fabCycle = s) ∧
    (∀ cell, (s.fabric.flops.all fun e => e.1 != cell) = true →
      s.flops cell = ((Config.fabCell s.fabric.conf cell).first.init, (Config.fabCell s.fabric.conf cell).second.init)) ∧
    (∀ (lane : Fin 128) (value : BitVec 64),
      let t : State := { s with fabric := { s.fabric with fin := mputNat s.fabric.fin (8 * lane) 8 value.toNat } }
      let u : State := { t with fabric := { t.fabric with pend := tput (fun _ => none) t.fabric.pend lane (some value.toNat) } }
      ((s.obj O.FAB_STATE ≠ 2 ∨ s.obj O.CLOCK_WAIT = 1) → exec (.finLanePost lane value) s = .next s) ∧
      (s.obj O.FAB_STATE = 2 → s.obj O.CLOCK_WAIT ≠ 1 →
        (t.lanePosted lane = false → exec (.finLanePost lane value) s = .next t) ∧
        (t.lanePosted lane = true → tget (fun _ => none) s.fabric.pend lane = none → exec (.finLanePost lane value) s = .next u) ∧
        (t.lanePosted lane = true → tget (fun _ => none) s.fabric.pend lane ≠ none →
          exec (.finLanePost lane value) s = .next (u.bump O.FIN_OVERWRITES 1)))) ∧
    (∀ (addr : BitVec 23) (op : UserFlash),
      let refused := State.emit { s with fabric := { s.fabric with flashReply := some (false, 0) } } (.fabric 3 0 0)
      let busy := s.obj O.FAB_STATE ≠ 2 ∨ s.fabric.flashOp ≠ none
      (addr.toNat < 0x400000 → exec (.userFlashAccess op addr) s = .fault (.noSuchFlashAddress addr.toNat)) ∧
      (0x400000 ≤ addr.toNat → busy → exec (.userFlashAccess op addr) s = .next s) ∧
      (0x400000 ≤ addr.toNat → ¬ busy → (op = .read ∨ s.obj O.FLASH_USER_WP ≠ 1) → exec (.userFlashAccess op addr) s =
        .next { s with fabric := { s.fabric with flashOp := some (op, addr.toNat) } }) ∧
      (0x400000 ≤ addr.toNat → ¬ busy → op ≠ .read → s.obj O.FLASH_USER_WP = 1 →
        exec (.userFlashAccess op addr) s = .next refused)) ∧
    ((s.obj O.FL_STATE = 1 ∨ s.fabric.flashOp = none) → exec .userFlashDone s = .next s) ∧
    (∀ a, s.obj O.FL_STATE ≠ 1 →
      let done := fun (t : State) (v : Nat) =>
        State.emit { t with fabric := { t.fabric with flashOp := none, flashReply := some (true, v) } } (.fabric 3 1 v)
      (s.fabric.flashOp = some (.read, a) →
        exec .userFlashDone s = .next (done s (leNat (flashRead s.flash (a / 4 * 4) 4)))) ∧
      (∀ data, s.fabric.flashOp = some (.program data, a) →
        exec .userFlashDone s = .next (done { s with flash := flashWrite s.flash (a / 256 * 256) (data.take 256) } 0)) ∧
      (s.fabric.flashOp = some (.erase, a) →
        exec .userFlashDone s = .next (done { s with flash := flashErase s.flash (a / 4096 * 4096) 4096 } 0))) ∧
    (∀ frame : BitVec 32,
      (s.obj O.FAB_STATE ≠ 2 → ∀ c, exec (.configScrub c frame) s = .next s) ∧
      (s.obj O.FAB_STATE = 2 → exec (.configScrub .clean frame) s = .next s ∧
        exec (.configScrub .corrected frame) s = .next (s.bump O.CFG_CORRECTED 1) ∧
        exec (.configScrub .uncorrectable frame) s = .next (State.fabObjs (State.raiseFault
          { s with fabric := { s.fabric with cfgFault := true } } 0x0C FaultLoc.hub frame.toNat 0 0)))) ∧
    (∀ (osc : Fin 8) (khz : BitVec 32),
      (s.obj O.CLOCK_WAIT = 1 → exec (.roFreqMeasure osc khz) s = .next s) ∧
      (s.obj O.CLOCK_WAIT ≠ 1 → ∃ t, exec (.roFreqMeasure osc khz) s = .next t ∧ s.wrote t [(O.RO_FREQ osc, khz.toNat)]))

/-- R191, R372–R374, R376, R396, R400: a master's write of a served object. A PCIe access of the wrong length is refused SIZE; a constant
or read-only object refuses READ_ONLY; a write of an undeclared object has an effect bounded by R8 and no further; any other has its
object's effect or is refused with the object's code. A staged object is written through its shadow, a counter is cleared by any value,
ERROR_COUNT takes 0 and clears the list, ACCEPTED takes what is offered. -/
def Obligations.MastersWriteObjects : Prop :=
  ∀ (s : State) (m : Master) (key : BitVec 24) (v : BitVec 64),
    let k := key.toNat
    (s.serves k → ∀ bytes : Fin 16,
      let fits := m = .pcie → lengthFits k bytes.val = true
      (¬ fits → exec (.registerWrite m key v bytes) s = .next (s.refuse m k eSize)) ∧
      (fits →
        (rowOf k = none → exec (.registerWrite m key v bytes) s = .next s.astray) ∧
        (∀ r, rowOf k = some r → (r.acc = .const ∨ r.acc = .ro) →
          exec (.registerWrite m key v bytes) s = .next (s.refuse m k eReadOnly)) ∧
        (∀ r, rowOf k = some r → r.acc = .rw → r.clears = true →
          exec (.registerWrite m key v bytes) s = .next (s.clearCounter k)) ∧
        ((writeObj m k v.toNat s).2 = eNone → exec (.registerWrite m key v bytes) s = .next (writeObj m k v.toNat s).1) ∧
        ((writeObj m k v.toNat s).2 ≠ eNone →
          exec (.registerWrite m key v bytes) s = .next ((writeObj m k v.toNat s).1.refuse m k (writeObj m k v.toNat s).2)))) ∧
    (isStaged k = false → exec (.shadowWrite m key v) s = .next s) ∧
    (isStaged k = true → s.serves k →
      let w := v.toNat % 2 ^ widthOf k
      (listKey k = true → listFits k w = false → exec (.shadowWrite m key v) s = .next (s.refuse m k eRange)) ∧
      ((listKey k = false ∨ listFits k w = true) → exec (.shadowWrite m key v) s = .next (s.stageWrite k w))) ∧
    (clearsOnWrite k = false → exec (.counterClear m key) s = .next s) ∧
    (clearsOnWrite k = true → s.serves k →
      exec (.counterClear m key) s = .next (s.clearCounter k) ∧
      (¬ (0x242002 ≤ k ∧ k ≤ 0x24200C) → s.wrote (s.clearCounter k) [(k, 0)])) ∧
    (s.serves O.ERROR_COUNT → ∀ e : Byte,
      (e.toNat = 0 → ∃ t, exec (.errorCountWrite m e) s = .next t ∧
        s.wrote t ((O.ERROR_COUNT, 0) :: (List.range 16).map fun i => (O.ERROR_FIELD i, 0))) ∧
      (e.toNat ≠ 0 → exec (.errorCountWrite m e) s = .next (s.refuse m O.ERROR_COUNT eRange))) ∧
    (s.serves 0x200005 → ∃ t, exec (.acceptedWrite m 0 v) s = .next t ∧
      s.wrote t [(O.ACCEPTED_0, (v.toNat &&& s.obj O.OFFERED_0) ||| 1)]) ∧
    (∀ i : Fin 4, i ≠ 0 → s.serves (0x200005 + i) → ∃ t, exec (.acceptedWrite m i v) s = .next t ∧
      s.wrote t [(O.ACCEPTED_X (i - 1), v.toNat &&& s.obj (O.OFFERED_X (i - 1)))])

/-- R374, R394: the consuming reads, where the dictionary serves them: an ACCESS_ERR object is answered and cleared; ERROR_REGISTER is
answered, its held bits are cleared, and an EMCY 0 follows if the whole register then reads 0 for the first time. -/
def Obligations.ConsumingReadsAnswerAndClear : Prop :=
  ∀ (s : State) (m : Master), s.engineStopped = false →
    (∀ i : Fin 4, s.gate (O.ACCESS_ERR i) false = eNone →
      ∃ t, exec (.accessErrRead m i) s = .next t ∧
        (s.emit (.value m (O.ACCESS_ERR i) (s.readObj (O.ACCESS_ERR i)))).wrote t [(O.ACCESS_ERR i, 0)]) ∧
    (s.gate O.ERROR_REGISTER false = eNone →
      let t := s.setObj O.ERROR_REGISTER 0
      exec (.errorRegisterRead m) s =
        .next ((if s.errorRegister ≠ 0 ∧ t.errorRegister = 0 then t.emcy 0 0 else t).emit
          (.value m O.ERROR_REGISTER s.errorRegister)))

/-- R374: a refused access leaves its object and code in the master's ACCESS_ERR and counts; no other object changes, and outside the
dictionary only the interrupt that a host has asked for. -/
def Obligations.RefusalLeavesOnlyItsRecord : Prop :=
  ∀ (s : State) (m : Master) (k code : Nat),
    let t := s.refuse m k code
    t.obj (O.ACCESS_ERR (errPlace m)) = k * 2 ^ 40 + code ∧
    t.obj O.ACCESS_ERRORS = satAdd (widthOf O.ACCESS_ERRORS) (s.obj O.ACCESS_ERRORS) 1 ∧
    (∀ j, j ≠ O.ACCESS_ERR (errPlace m) → j ≠ O.ACCESS_ERRORS → t.obj j = s.obj j) ∧
    { t with dict := s.dict, sent := s.sent, vecPending := s.vecPending } = s ∧
    ((s.obj O.ACCEPTED_0).testBit 4 = false → t.sent = s.sent ∧ t.vecPending = s.vecPending) ∧
    ((s.obj O.ACCEPTED_0).testBit 4 = true → s.vecMasked.contains 4 = false → s.vecPending.contains 4 = false →
      t.sent = .msix 4 :: s.sent)

/-- R377, R378, R380: BAR2 through an endpoint that is up. A read is answered at once where its place is in the hub, all ones before boot,
waits out a stopped clock, and goes out in packets to HBM or to a bound cluster; a write has its place's effect, and is held through a
stopped clock; a read not answered in time is, with all ones; the oldest read held by a stopped clock completes with all ones and is
counted. -/
def Obligations.Bar2AccessesComplete : Prop :=
  ∀ (s : State) (off : BitVec 37) (n : Fin 4097) (tag : Fin 1024) (data : List Byte),
    let o := off.toNat
    let ones := fun (c : Nat) => List.replicate c (0xFF : Byte)
    (s.endpointUp = true → busShapely o n = true → tget (fun _ => none) s.host.reads tag = none →
      (s.booted = false → exec (.bar2Read off n tag) s = .next (s.emit (.completion tag (ones n)))) ∧
      (s.booted = true → s.clockWait = true → exec (.bar2Read off n tag) s =
        .next { s with host := { s.host with waitReads := s.host.waitReads ++ [.bar2 tag n] } }) ∧
      (s.booted = true → s.clockWait = false →
        (∀ dst, s.packetPlace (busPlace false o) = some dst →
          let r : BusRead := ⟨o, n, (busPieces (n + 1) dst.2.2 n).length, [], none⟩
          let t : State := { s with host := { s.host with reads := tput (fun _ => none) s.host.reads tag (some r) } }
          exec (.bar2Read off n tag) s = .next (t.busNode (.hostRead tag) o dst n [])) ∧
        (s.packetPlace (busPlace false o) = none → exec (.bar2Read off n tag) s =
          .next ((s.busRead (busPlace false o) n).1.bar2Answer o n tag (s.busRead (busPlace false o) n).2.1
            (s.busRead (busPlace false o) n).2.2)))) ∧
    ((s.endpointUp = false ∨ busShapely o n = false ∨ tget (fun _ => none) s.host.reads tag ≠ none) →
      exec (.bar2Read off n tag) s = .next s) ∧
    ((s.endpointUp = false ∨ busShapely o data.length = false ∨ s.booted = false) → exec (.bar2Write off data) s = .next s) ∧
    (s.endpointUp = true → busShapely o data.length = true → s.booted = true →
      (s.clockWait = true → exec (.bar2Write off data) s = .next (s.holdWrite (.bar2 o data))) ∧
      (s.clockWait = false →
        (∀ dst, s.packetPlace (busPlace false o) = some dst →
          exec (.bar2Write off data) s = .next (s.busNode .hostWrite o dst data.length data)) ∧
        (s.packetPlace (busPlace false o) = none → exec (.bar2Write off data) s =
          .next (if (s.busWrite (busPlace false o) data).2 = stOk then (s.busWrite (busPlace false o) data).1
            else (s.busWrite (busPlace false o) data).1.bar2Error o (s.busWrite (busPlace false o) data).2)))) ∧
    (∀ a die lc, s.packetPlace (.hbm a) = some (4, 0, a) ∧
      (∀ pc, s.pcOf die lc = some pc → s.packetPlace (.node die lc a) = some (die, pc, a)) ∧
      (s.pcOf die lc = none → s.packetPlace (.node die lc a) = none ∧ s.busRead (.node die lc a) n = (s, stUnmapped, []) ∧
        s.busWrite (.node die lc a) data = (s, stUnmapped))) ∧
    (tget (fun _ => none) s.host.reads tag = none → exec (.completionTimeout tag) s = .next s) ∧
    (∀ r, tget (fun _ => none) s.host.reads tag = some r → exec (.completionTimeout tag) s =
      .next ((s.orphan (· == .hostRead tag)).readDone tag { r with bad := some stTimeout })) ∧
    (s.host.waitReads = [] → exec .cwReadTimeout s = .next s) ∧
    (∀ r rest, s.host.waitReads = r :: rest →
      let t := State.bump { s with host := { s.host with waitReads := rest } } O.CW_READS 1
      exec .cwReadTimeout s = .next (match r with
        | .obj k => t.emit (.value .pcie k (2 ^ widthOf k - 1))
        | .bar2 tag n => t.emit (.completion tag (ones n))))

/-- R379, R381, R382, R385–R387, R447: the endpoint's rings and resets. A DMA doorbell moves its producer, or fails the channel where it
would overrun the ring; a function-level reset, and PERST_N low, reset the function; PERST_N high lets the link come up as trained;
CH_CMD runs a channel or stops it, abandoning a descriptor in progress; a descriptor that has moved all its bytes completes. -/
def Obligations.EndpointAndChannelsAct : Prop :=
  ∀ (s : State) (ch : ChanIx),
    (∀ p : BitVec 16,
      (s.endpointUp = false → exec (.dmaDoorbell ch p) s = .next s) ∧
      (s.endpointUp = true → s.engineStopped = true → exec (.dmaDoorbell ch p) s = .next (s.holdWrite (.dma ch p.toNat))) ∧
      (s.endpointUp = true → s.serves (bar0Key (0x2020000 + 64 * ch)) →
        let ahead := (p.toNat + 65536 - s.obj (O.CONSUMER ch)) % 65536
        (ahead ≤ s.obj (O.RING_ENTRIES ch) →
          ∃ t, exec (.dmaDoorbell ch p) s = .next t ∧ s.wrote t [(O.PRODUCER ch, p.toNat)]) ∧
        (s.obj (O.RING_ENTRIES ch) < ahead → exec (.dmaDoorbell ch p) s = .next (s.channelFails ch 2)))) ∧
    exec .flr s = .next (if s.endpointUp then s.functionReset else s) ∧
    (∀ (speed : BitVec 4) (width : BitVec 6),
      let up : State := { s with host := { s.host with perstHigh := true } }
      let down : State := { s.functionReset with host := { s.functionReset.host with perstHigh := false } }
      let trained := s.objBit O.PLL_STATE 3 = true ∧ linkShape speed.toNat width.toNat = true
      (∃ t, exec (.perstN false speed width) s = .next t ∧ down.wrote t [(O.LINK_STATUS, 0)]) ∧
      (trained → ∃ t, exec (.perstN true speed width) s = .next t ∧
        up.wrote t [(O.LINK_STATUS, speed.toNat + 16 * width.toNat)]) ∧
      (¬ trained → exec (.perstN true speed width) s = .next up)) ∧
    (∀ m, s.serves (O.CH_CMD ch) →
      (∃ t, exec (.chCmdRun m ch) s = .next t ∧ s.wrote t [(O.CH_STATE ch, 1)]) ∧
      (∃ t, exec (.chCmdStop m ch) s = .next t ∧
        ({ s with host := { s.host with dma := tput (fun _ => none) s.host.dma ch none } } : State).wrote t
          [(O.CH_STATE ch, 2), (O.STOP_RESULT ch,
            if (tget (fun _ => none) s.host.dma ch).isSome ∧ s.obj (O.CH_STATE ch) = 1 then 1 else 2)])) ∧
    (∀ (desc : BitVec 256) (data : List Byte) (pcieError done : Bool),
      let works := s.endpointUp = true ∧ s.clockWait = false ∧ s.booted = true ∧ s.obj (O.CH_STATE ch) = 1
        ∧ s.obj (O.CONSUMER ch) ≠ s.obj (O.PRODUCER ch)
      let r : DmaRun := (tget (fun _ => none) s.host.dma ch).getD ⟨desc.toNat, (s.obj O.ACCEPTED_0).testBit 1⟩
      let t : State := { s with host := { s.host with dma := tput (fun _ => none) s.host.dma ch (some r) } }
      (¬ works → exec (.dmaDescriptor ch desc data pcieError done) s = .next s) ∧
      (works → pcieError = true → exec (.dmaDescriptor ch desc data pcieError done) s = .next (t.channelFails ch 1)) ∧
      (works → pcieError = false → dmaShapely r.desc = false → exec (.dmaDescriptor ch desc data pcieError done) s =
        .next (if done then t.dmaCompletes ch r stUnmapped else t)) ∧
      (works → pcieError = false → dmaShapely r.desc = true →
        (t.dmaAsleep r.desc ≠ [] → exec (.dmaDescriptor ch desc data pcieError done) s =
          .next ((t.dmaAsleep r.desc).foldl (fun u c => u.setPort c 2) t)) ∧
        (t.dmaAsleep r.desc = [] → done = true → (dmaOut r.desc = true ∨ data.length = dmaBytes r.desc) →
          exec (.dmaDescriptor ch desc data pcieError done) s = .next (t.dmaRuns ch r data)) ∧
        (t.dmaAsleep r.desc = [] → (done = false ∨ (dmaOut r.desc = false ∧ data.length ≠ dmaBytes r.desc)) →
          exec (.dmaDescriptor ch desc data pcieError done) s =
            .next (if dmaOut r.desc = false ∧ (∀ e ∈ dmaParts r.desc, t.dmaStatus e.1 e.2 = stOk) then t.dmaMoveIn r.desc data else t))))

/-- R389–R395: The CAN node while it is up: the NMT commands move it; a reset of communication sends the boot-up message, a reset of the
node also resets the management core; the heartbeat shows the NMT state; the oldest queued EMCY goes out, enters the error list and
frees its place for the overflow message. A node that is not up takes none of them. SDO and the bus. A transfer with a bad command
specifier, a bad CRC or to a missing object is aborted; the parts of a download are kept until the last, which writes the object; an
upload answers one consuming read; an idle transfer is aborted. Bus-off is counted and shown, and clears on recovery; its transmit
error count is then left open; an error counter above 127 sets the error register's bit 4. -/
def Obligations.CanNodeActs : Prop :=
  (∀ (s : State),
     (s.canUp = true →
       (∃ t, exec .nmtStart s = .next t ∧ s.wrote t [(O.NMT_STATE, 0x05)]) ∧
       (∃ t, exec .nmtStop s = .next t ∧ s.wrote t [(O.NMT_STATE, 0x04)]) ∧
       (∃ t, exec .nmtEnterPreOperational s = .next t ∧ s.wrote t [(O.NMT_STATE, 0x7F)]) ∧
       exec .nmtResetNode s = .next (s.commReset.persistMaybe.managementReset 5) ∧
       exec .nmtResetCommunication s = .next s.commReset.bootUp ∧
       (s.obj O.HEARTBEAT_TIME ≠ 0 →
         exec .heartbeat s = .next (s.canSend (0x700 + s.nodeId) [BitVec.ofNat 8 (s.obj O.NMT_STATE)])) ∧
       (s.obj O.HEARTBEAT_TIME = 0 → exec .heartbeat s = .next s)) ∧
     (s.canUp = false → ∀ c ∈ [Instr.nmtStart, .nmtStop, .nmtEnterPreOperational, .nmtResetNode, .nmtResetCommunication, .heartbeat,
         .emcySend], exec c s = .next s) ∧
     ((s.sdoUp = false ∨ s.emcyQ = []) → exec .emcySend s = .next s) ∧
     (∀ code record rest, s.sdoUp = true → s.emcyQ = (code, record) :: rest →
       let t := State.enterError { s with
         emcyQ := rest ++ (match s.emcyDropped with | some r => [(0xFFFF, r)] | none => []), emcyDropped := none } code record
       exec .emcySend s = .next (if (s.obj O.COB_ID_EMCY).testBit 31 then t else
         t.canSend (s.obj O.COB_ID_EMCY % 2048) (leBytes 2 code ++ leBytes 1 s.errorRegister ++ leBytes 4 record ++ [0])))) ∧
  (∀ (s : State) (key : BitVec 24) (data : List Byte) (last : Bool) (proto : Fin 3),
     let k := key.toNat
     let before := match s.host.sdo with | some (j, b) => if j = k then b else [] | none => []
     (s.sdoUp = false → exec (.sdoDownload key data last proto) s = .next s ∧ exec (.sdoUpload key) s = .next s ∧
       exec .sdoTimeout s = .next s) ∧
     (s.sdoUp = true →
       (proto = 1 → exec (.sdoDownload key data last proto) s = .next (s.sdoAbort k 0x05040001)) ∧
       (proto = 2 → exec (.sdoDownload key data last proto) s = .next (s.sdoAbort k 0x05040004)) ∧
       (∀ c, proto = 0 → sdoMissing k = some c → exec (.sdoDownload key data last proto) s = .next (s.sdoAbort k c)) ∧
       (proto = 0 → sdoMissing k = none → last = false → exec (.sdoDownload key data last proto) s =
         .next { s with host := { s.host with sdo := some (k, before ++ data) } }) ∧
       (let t : State := { s with host := { s.host with sdo := none } }
        let all := before ++ data
        let r := t.access .can k (leNat all) (writeObj .can k (leNat all))
        (proto = 0 → sdoMissing k = none → last = true → 8 * all.length ≠ widthOf k →
          exec (.sdoDownload key data last proto) s = .next ((t.refuse .can k eSize).sdoAbort k (sdoCode eSize))) ∧
        (proto = 0 → sdoMissing k = none → last = true → 8 * all.length = widthOf k →
          exec (.sdoDownload key data last proto) s =
            .next (if r.2 = eNone then r.1.sdoSend (0x60 :: sdoMux k ++ leBytes 4 0) else r.1.sdoAbort k (sdoCode r.2))) ∧
        (∀ c, sdoMissing k = some c → exec (.sdoUpload key) s = .next (t.sdoAbort k c)) ∧
        (sdoMissing k = none → t.gate k false = eNone →
          exec (.sdoUpload key) s = .next ((t.readBy .can k).sdoReply k (leBytes (widthOf k / 8) (t.readObj k)))) ∧
        (sdoMissing k = none → t.gate k false ≠ eNone →
          exec (.sdoUpload key) s = .next ((t.refuse .can k (t.gate k false)).sdoAbort k (sdoCode (t.gate k false))))) ∧
       (s.host.sdo = none → exec .sdoTimeout s = .next s) ∧
       (∀ j b, s.host.sdo = some (j, b) → exec .sdoTimeout s = .next (s.sdoAbort j 0x05040000))) ∧
     (s.engineStopped = true → (∀ r, exec (.busOff r) s = .next s) ∧ ∀ a b, exec (.canErrorPassive a b) s = .next s) ∧
     (s.engineStopped = false →
       (s.host.busOff = true → exec (.busOff false) s = .next s ∧ ∃ t, exec (.busOff true) s = .next t ∧
         ({ s with host := { s.host with busOff := false } } : State).wrote t [(O.ERR_COUNTERS, 0)]) ∧
       (s.host.busOff = false → exec (.busOff true) s = .next s ∧
         ∃ t tec, tec < 256 ∧ exec (.busOff false) s = .next t ∧
           ({ s with host := { s.host with busOff := true }, fresh := s.fresh + 1 } : State).wrote t
             [(O.BUS_OFFS, satAdd (widthOf O.BUS_OFFS) (s.obj O.BUS_OFFS) 1),
              (O.ERROR_REGISTER, setBit (s.obj O.ERROR_REGISTER) 4 true),
              (O.ERR_COUNTERS, s.obj O.ERR_COUNTERS / 256 * 256 + tec)]) ∧
       (∀ tec rec_ : BitVec 8, ∃ t, exec (.canErrorPassive tec rec_) s = .next t ∧
         s.wrote t ((O.ERR_COUNTERS, tec.toNat + 256 * rec_.toNat) ::
           if 127 < tec.toNat ∨ 127 < rec_.toNat then [(O.ERROR_REGISTER, setBit (s.obj O.ERROR_REGISTER) 4 true)] else []))))

/-- R405, R407, R408, R414, R415, R499, R500: faults and failed clusters as a master handles them, where the object is served. FAULT_SEL
latches a record that the ring still holds, or with 0 none while there is none; FAULT_ACK acknowledges up to a record there is;
FAIL_SET and FAIL_CLEAR take a cluster's selector while the module is held or in STANDBY; REMAP_LC queues a logical cluster whose
physical one is marked. The remap or rewrite first in line then completes, or the recovery fails where no copy is retained. -/
def Obligations.FaultsAreHandled : Prop :=
  ∀ (s : State) (m : Master),
    (s.serves O.FAULT_SEL → ∀ v : BitVec 32,
      let n := v.toNat
      (∀ r, ¬ (n = 0 ∧ s.obj O.FAULT_TOTAL = 0) → s.faults.ring.find? (fun r => r.number == n) = some r → s.obj O.FAULT_OLDEST ≤ n → n ≤ s.obj O.FAULT_TOTAL →
        ∃ t, exec (.faultSel m v) s = .next t ∧
          ({ s with faults := { s.faults with latch := r } } : State).wrote t [(O.FAULT_SEL, n), (O.FAULT_LATCHED, n)]) ∧
      (n = 0 → s.obj O.FAULT_TOTAL = 0 →
        ∃ t, exec (.faultSel m v) s = .next t ∧ s.wrote t [(O.FAULT_SEL, 0), (O.FAULT_LATCHED, 0)]) ∧
      (¬ (n = 0 ∧ s.obj O.FAULT_TOTAL = 0) →
        (s.faults.ring.find? (fun r => r.number == n) = none ∨ n < s.obj O.FAULT_OLDEST ∨ s.obj O.FAULT_TOTAL < n) →
        exec (.faultSel m v) s = .next (s.refuse m O.FAULT_SEL eRange))) ∧
    (s.serves O.FAULT_ACK → ∀ v : BitVec 32,
      let n := v.toNat
      (s.obj O.FAULT_TOTAL < n → exec (.faultAck m v) s = .next (s.refuse m O.FAULT_ACK eRange)) ∧
      (n ≤ s.obj O.FAULT_TOTAL → n ≤ s.obj O.FAULT_ACKED → exec (.faultAck m v) s = .next s) ∧
      (n ≤ s.obj O.FAULT_TOTAL → s.obj O.FAULT_ACKED < n →
        let t := s.setObj O.FAULT_ACKED n
        exec (.faultAck m v) s =
          .next (if s.errorRegister ≠ 0 ∧ t.errorRegister = 0 then t.emcy 0 0 else t))) ∧
    (s.serves O.FAIL_SET → ∀ v : BitVec 16,
      let may := s.mode = mStandby ∨ s.held = true
      let cid := selectorCid v.toNat
      (selectorOk v.toNat = false → exec (.failSet m v) s = .next (s.refuse m O.FAIL_SET eRange)) ∧
      (selectorOk v.toNat = true → ¬ may → exec (.failSet m v) s = .next (s.refuse m O.FAIL_SET eMode)) ∧
      (selectorOk v.toNat = true → may → (s.cl cid).mark ≠ 0 → exec (.failSet m v) s = .next s) ∧
      (selectorOk v.toNat = true → may → (s.cl cid).mark = 0 →
        let t := s.markFailed cid 6
        (t.cl cid).mark = 6 ∧ exec (.failSet m v) s = .next (if t.lcOf cid = none then t.isolate cid else t))) ∧
    (s.serves O.FAIL_CLEAR → ∀ v : BitVec 16,
      let may := s.mode = mStandby ∨ s.held = true
      let cid := selectorCid v.toNat
      (selectorOk v.toNat = false → exec (.failClear m v) s = .next (s.refuse m O.FAIL_CLEAR eRange)) ∧
      (selectorOk v.toNat = true → ¬ may → exec (.failClear m v) s = .next (s.refuse m O.FAIL_CLEAR eMode)) ∧
      (selectorOk v.toNat = true → may → exec (.failClear m v) s = .next (s.setCl cid { s.cl cid with mark := 0 }))) ∧
    (s.serves O.REMAP_LC → ∀ v : BitVec 16,
      let n := v.toNat
      let die := field n 8 2
      let lc := field n 0 6
      let pc := bindingOf s.bound die lc
      let names := n < 1024 ∧ field n 6 2 = 0 ∧ pc ≠ 0xFF ∧ (s.cl (cidOf die pc)).mark ≠ 0
      let t : State := { s with faults := { s.faults with
        failed := if s.faults.failed.contains (64 * die + lc) then s.faults.failed else s.faults.failed ++ [64 * die + lc] } }
      (s.held = false → exec (.remapLc m v) s = .next (s.refuse m O.REMAP_LC eMode)) ∧
      (s.held = true → ¬ names → exec (.remapLc m v) s = .next (s.refuse m O.REMAP_LC eRange)) ∧
      (s.held = true → names → exec (.remapLc m v) s = .next (if s.recovering then t else t.setObj O.RECOVERY_STATE 2))) ∧
    (let works := s.obj O.RECOVERY_STATE = 2 ∧ s.clockWait = false ∧ s.run.abandon = none
     (¬ works → exec .remapDone s = .next s) ∧
     (works → s.faults.failed = [] → s.faults.rewrites = [] → exec .remapDone s = .next s.afterRemap) ∧
     (works → (s.faults.failed ≠ [] ∨ s.faults.rewrites ≠ []) → s.noCopy = true → exec .remapDone s = .next (s.recoveryFails 7)) ∧
     (∀ x rest, works → s.faults.failed = x :: rest → s.noCopy = false → exec .remapDone s = .next (State.afterRemap
       (State.remapOne { s with faults := { s.faults with failed := rest } } (x / 64) (x % 64)))) ∧
     (∀ d rest, works → s.faults.failed = [] → s.faults.rewrites = d :: rest → s.noCopy = false → exec .remapDone s =
       .next (State.afterRemap (State.rewriteDie { s with faults := { s.faults with rewrites := rest } } d))))

/-- R161–R168: loading an image. An order is taken in STANDBY, READY and HOLD, supersedes the orders of the window and begins the fetch;
elsewhere it is answered REFUSED. The fetched bytes come to lie in the image window; a short fetch, and a check that fails, refuse the
load with cause and detail; the end of the writing is the completion point, after which the module is READY. -/
def Obligations.LoadsRunInPhases : Prop :=
  ∀ (s : State) (m : Master),
    (s.serves O.LOAD_CMD →
      let turned := (s.recovering = true ∧ s.obj O.RECOVERY_STATE ≠ 4) ∨ s.keys.target ≠ none
      let may := s.mode = mStandby ∨ s.held = true
      (s.loading = true → exec (.loadCmdLoad m) s = .next s) ∧
      (s.loading = false → turned → exec (.loadCmdLoad m) s = .next (s.refuse m O.LOAD_CMD eMode)) ∧
      (s.loading = false → ¬ turned → may →
        let t := s.supersede (s.run.window ++ s.run.due) none
        exec (.loadCmdLoad m) s =
          .next ((State.setObj { t with run := { t.run with window := [], due := [], loadFrom := t.mode } } O.LOAD_STATE 1).loadMode mLoad)) ∧
      (s.loading = false → ¬ turned → ¬ may → exec (.loadCmdLoad m) s =
        .next ((s.setObjs [(O.LOAD_STATE, 5), (O.REFUSE_CAUSE, 1), (O.REFUSE_DETAIL, 0)]).msix 3)) ∧
      (s.loading = false → ∃ t, exec (.loadCmdAbort m) s = .next t ∧ s.wrote t [(O.ABORT_RESULT, 2)]) ∧
      (s.loading = true → s.obj O.LOAD_STATE ≠ 3 → exec (.loadCmdAbort m) s = .next ((s.setObj O.ABORT_RESULT 1).loadEnds 6)) ∧
      (s.loading = true → s.obj O.LOAD_STATE = 3 →
        let t := s.setObj O.ABORT_RESULT 1
        let u := if t.obj O.FAB_STATE = 1 ∧ t.fabric.phase = 0 then t.fabClear else t
        exec (.loadCmdAbort m) s = .next ((((u.setObj O.LOAD_STATE 6).msix 3).unload).loadMode mStandby))) ∧
    (∀ data : List Byte,
      let d := data.take (s.obj O.IMAGE_BYTES)
      let t := s.hbmWrite imageBase d
      ((s.obj O.LOAD_STATE ≠ 1 ∨ s.clockWait = true) → exec (.loadFetchDone data) s = .next s) ∧
      (s.obj O.LOAD_STATE = 1 → s.clockWait = false →
        (data.length < s.obj O.IMAGE_BYTES → exec (.loadFetchDone data) s = .next (t.loadRefuse 2 data.length)) ∧
        (s.obj O.IMAGE_BYTES ≤ data.length → exec (.loadFetchDone data) s = .next (t.setObj O.LOAD_STATE 2)))) ∧
    (∀ vddio : List Nat,
      let b := s.imageBytes
      let t := match s.firstBad imageBase b.length with | some a => (s.hbmBad a).draw | none => s
      ((s.obj O.LOAD_STATE ≠ 2 ∨ s.clockWait = true) → exec (.loadCheckDone vddio) s = .next s) ∧
      (s.obj O.LOAD_STATE = 2 → s.clockWait = false →
        (∀ cause detail, t.openImage b (t.obj O.IMAGE_BYTES) = .error (cause, detail) →
          exec (.loadCheckDone vddio) s = .next (t.loadRefuse cause detail)) ∧
        (∀ p, t.openImage b (t.obj O.IMAGE_BYTES) = .ok p →
          let u := if (imgFlags b).testBit 1 then t.hbmWrite imageBase p else t
          (∀ e, plainFault p = some e → exec (.loadCheckDone vddio) s = .next (u.loadRefuse e.1 e.2)) ∧
          (plainFault p = none → exec (.loadCheckDone vddio) s = .next (u.contentStage p vddio))))) ∧
    ((s.obj O.LOAD_STATE ≠ 3 ∨ s.clockWait = true) → exec .loadWriteDone s = .next s) ∧
    (s.obj O.LOAD_STATE = 3 → s.clockWait = false →
      let b := s.imageBytes
      let t := ((s.retain b).clearPorts.writeClusters b s.run.loadBinding).writeTables b
      let u := (t.writeTies (imgDomains b (imgSections b))).loadEngines.loadHub.loadRun
      exec .loadWriteDone s = .next (((((u.loadIdentity b).loadFabric b).setObj O.LOAD_STATE 4).msix 3).loadMode mReady))

/-- R181, R183–R186, R254, R322, R336: Orders answered. The answer to a RUN_CMD value is shown for its master, whose last order it is; an
order that is not accepted changes nothing else. What an order asks for decides its answer: DENIED for the debug master of an
identity-only port, MODE where the mode, a recovery, an invalid state or, for TIED, the time base does not take it, RANGE for a STEP of
0 and for a self-test that does not exist. Accepted orders, where no master's port is closed and no recovery runs. RUN, STEP and TIED
wait in the order window for the start point, in a module that advances as in one that is held; HOLD stops a module that advances at
the end of the window, and is forwarded; SNAPSHOT waits for the boundary of a module that advances, and of a held one begins in the
first slot there is; STANDBY and DIAG unload a held module at once. -/
def Obligations.OrdersAreAnswered : Prop :=
  (∀ (s : State) (m : Master),
     (s.serves O.RUN_CMD →
       ∀ c k, (c, k) ∈ [(Instr.runCmdRun m, OrderKind.run), (.runCmdStep m, .step), (.runCmdTied m, .tied), (.runCmdHold m, .hold),
           (.runCmdSnapshot m, .snapshot), (.runCmdStandby m, .standby), (.runCmdDiag m, .diag)] →
         exec c s = .next (s.runOrder m k) ∧ (s.orderAnswer m k ≠ 1 → exec c s = .next (s.answered m (s.orderAnswer m k)))) ∧
     (∀ r, let n := s.run.serial + 1
       ({ s with run := { s.run with serial := n, lastOrder := tput (fun _ => 0) s.run.lastOrder (Master.number m) n } } : State).wrote
         (s.answered m r) [(orderKey m, r)]) ∧
     (∀ k,
       let table := orderTable k s.judgedMode
       let denied := m = .debug ∧ s.identityOnly = true
       let busy := s.recovering = true ∧ s.obj O.RECOVERY_STATE ≠ 4 ∧ k ≠ .hold
       let void := (k = .run ∨ k = .step ∨ k = .tied ∨ k = .snapshot) ∧ s.obj O.STATE_VALID = 0
       let untied := k = .tied ∧ s.tiedReady = false
       (denied → s.orderAnswer m k = 5) ∧
       (¬ denied → (table = 0 ∨ busy ∨ void ∨ untied) → s.orderAnswer m k = 2) ∧
       (¬ denied → ¬ (table = 0 ∨ busy ∨ void ∨ untied) →
         (table = 2 → s.orderAnswer m k = 1) ∧
         (table ≠ 2 → k = .step → s.orderAnswer m k = if s.obj O.STEP_COUNT = 0 then 3 else 1) ∧
         (table ≠ 2 → k = .diag → s.orderAnswer m k =
           if s.keys.target.isSome then 2 else if diagTest (s.obj O.DIAG_SEL) then 1 else 3) ∧
         (table ≠ 2 → k ≠ .step → k ≠ .diag → s.orderAnswer m k = 1)))) ∧
  (∀ (s : State) (m : Master), s.serves O.RUN_CMD → (m = .debug → s.identityOnly = false) → s.recovering = false →
     s.obj O.STATE_VALID ≠ 0 →
     let t := s.answered m 1
     let waits := fun (k : OrderKind) =>
       ({ t with run := { t.run with window := t.run.window ++ [⟨k, m, t.obj O.STEP_COUNT, t.run.serial⟩] } } : State)
     ((s.mode = mReady ∨ s.mode = mHold ∨ s.mode = mRun ∨ s.mode = mStep) → exec (.runCmdRun m) s = .next (waits .run)) ∧
     ((s.mode = mReady ∨ s.mode = mHold ∨ s.mode = mRun ∨ s.mode = mStep) → s.obj O.STEP_COUNT ≠ 0 →
       exec (.runCmdStep m) s = .next (waits .step)) ∧
     ((s.mode = mReady ∨ s.mode = mHold ∨ s.mode = mTied) → s.tiedReady = true → exec (.runCmdTied m) s = .next (waits .tied)) ∧
     (s.advancing = true → exec (.runCmdHold m) s = .next ((waits .hold).forwardStop 1)) ∧
     (s.advancing = true →
       exec (.runCmdSnapshot m) s = .next { t with run := { t.run with snaps := t.run.snaps ++ [0] } }) ∧
     (∀ slot, (s.mode = mReady ∨ s.mode = mHold) → s.run.pause = none → s.snapSlot = .inl slot →
       exec (.runCmdSnapshot m) s = .next (t.beginSnapshot slot 0)) ∧
     ((s.mode = mReady ∨ s.mode = mHold) → s.run.moving = none →
       exec (.runCmdStandby m) s = .next (t.beginMove mStandby) ∧
       (s.keys.target = none → diagTest (s.obj O.DIAG_SEL) = true → exec (.runCmdDiag m) s = .next (t.beginMove mDiag))))

/-- R178, R181, R182, R184, R185, R411: orders taking effect. At the start point the window's orders act on a held module, or wait for the
end of its pause; the only order of a window, RUN, STEP or TIED, starts the module in its mode, STEP with its count; a module that is
neither held nor advancing leaves them superseded. A move to STANDBY or DIAG completes and gives way to one ordered meanwhile, which
Table 08-3 judges once more; a self-test leaves its result and the module in STANDBY. -/
def Obligations.OrdersTakeEffect : Prop :=
  ∀ (s : State),
    ((s.engineStopped = true ∨ s.clockWait = true ∨ s.run.window = [] ∨ s.advancing = true) → exec .startPoint s = .next s) ∧
    (s.engineStopped = false → s.clockWait = false → s.run.window ≠ [] → s.advancing = false →
      let t : State := { s with run := { s.run with window := [] } }
      let u : State := { t with run := { t.run with due := t.run.due ++ s.run.window } }
      (s.run.pause ≠ none → exec .startPoint s = .next u) ∧
      (s.run.pause = none → s.held = true → exec .startPoint s = .next u.resolveDue) ∧
      (s.run.pause = none → s.held = false → exec .startPoint s = .next (t.supersede s.run.window none)) ∧
      (∀ o, s.run.window = [o] → s.run.due = [] → s.run.dueCauses = [] → s.run.snapOrders = [] → s.run.arm = .none →
        s.held = true → s.run.pause = none → (o.kind = .run ∨ o.kind = .tied ∨ (o.kind = .step ∧ o.count ≠ 0)) →
        exec .startPoint s = .next ((t.supersede [o] (some o)).released.takeOrder o).tiesOff)) ∧
    (∀ o, s.held = true → (o.kind = .run ∨ o.kind = .step ∨ o.kind = .tied) →
      let t := (s.supersede [o] (some o)).released
      s.resolveHeld [o] = (t.takeOrder o).tiesOff ∧
      (o.kind = .run → t.takeOrder o = (t.setObj O.STEP_REMAIN 0).setMode mRun) ∧
      (o.kind = .step → t.takeOrder o = (t.setObj O.STEP_REMAIN o.count).setMode mStep) ∧
      (o.kind = .tied → t.mode ≠ mTied → t.takeOrder o = ((t.setObj O.STEP_REMAIN 0).setMode mTied).tiedStart)) ∧
    (s.run.moving = none ∨ s.clockWait = true → exec .modeMoveDone s = .next s) ∧
    (∀ to_, s.run.moving = some to_ → s.clockWait = false →
      let t : State := { s with run := { s.run with moving := none, nextMove := none } }
      let u := if to_ = mDiag then t.testBegins else t
      (s.run.nextMove = none → exec .modeMoveDone s = .next u) ∧
      (∀ n, s.run.nextMove = some n → orderTable n.kind u.mode = 0 → exec .modeMoveDone s = .next (u.fate n 2)) ∧
      (∀ n, s.run.nextMove = some n → orderTable n.kind u.mode ≠ 0 → exec .modeMoveDone s = .next (u.orderMove n))) ∧
    (∀ (detail : Option (BitVec 28)) (failed : List (Die × Pc)),
      let tests := s.mode = mDiag ∧ s.run.moving = none ∧ s.clockWait = false
      let result := match detail with | none => 0x10000000 | some d => 0x20000000 + d.toNat
      let t := s.testLeaves.setObj O.DIAG_RESULT result
      (¬ tests → exec (.diagTestDone detail failed) s = .next s) ∧
      (tests → exec (.diagTestDone detail failed) s =
        .next ((failed.foldl (fun u c => u.diagMark (cidOf c.1 c.2)) t).setMode mStandby)))

/-- R191–R200: staging. CHECK takes 1 and begins the check of what is staged; its end is CHECKED where everything passed and nothing was
staged meanwhile, else PENDING, with the code and detail; COMMIT, at once, at a time or at a DC, is taken in CHECKED only and for an
instant to come; a module that advances arms it, one in a pause queues it, any other begins the pause; DISCARD empties what is staged
and says what it ended. -/
def Obligations.StagingChecksAndCommits : Prop :=
  ∀ (s : State) (m : Master),
    let st := s.obj O.STAGE_STATE
    (s.serves O.CHECK → ∀ v : Byte,
      let may := st = stEmpty ∨ st = stPending ∨ st = stChecked
      (v.toNat ≠ 1 → exec (.check m v) s = .next (s.refuse m O.CHECK eRange)) ∧
      (v.toNat = 1 → ¬ may → exec (.check m v) s = .next (s.refuse m O.CHECK eMode)) ∧
      (v.toNat = 1 → may → ∃ t, exec (.check m v) s = .next t ∧
        ({ s with run := { s.run with
            checking := tput (fun _ => none) s.shadow O.STAGE_LIST_RECORDS (some (s.obj O.STAGE_LIST_RECORDS)), checkDirty := false } }
          : State).wrote t [(O.STAGE_STATE, stChecking)])) ∧
    (∀ list : List Byte,
      let n := (tget (fun _ => none) s.run.checking O.STAGE_LIST_RECORDS).getD 0
      let r := s.checkAll (tput (fun _ => none) s.run.checking O.STAGE_LIST_RECORDS none) list n
      let pass := decide (r.1 = 1) && ! s.run.checkDirty
      let t : State := { s with run := { s.run with
        checking := [], checkDirty := false, stageList := if pass then list.take (32 * n) else [] } }
      ((st ≠ stChecking ∨ s.engineStopped = true) → exec (.checkDone list) s = .next s) ∧
      (st = stChecking → s.engineStopped = false → exec (.checkDone list) s = .next ((t.setObjs
        [(O.CHECK_RESULT, r.1), (O.CHECK_DETAIL, r.2), (O.STAGE_STATE, if pass then stChecked else stPending)]).msix 3))) ∧
    (s.serves O.COMMIT → ∀ v : Byte,
      let t : State := { s with run := { s.run with armMaster := m } }
      (v.toNat ≠ 1 → exec (.commit m v) s = .next (s.refuse m O.COMMIT eRange)) ∧
      (v.toNat = 1 → st ≠ stChecked → exec (.commit m v) s = .next ((s.setObj O.COMMIT_RESULT 2).msix 3)) ∧
      (v.toNat = 1 → st = stChecked → s.advancing = true → ∃ u, exec (.commit m v) s = .next u ∧
        ({ t with run := { t.run with arm := .now } } : State).wrote u [(O.STAGE_STATE, stArmed)]) ∧
      (v.toNat = 1 → st = stChecked → s.advancing = false → s.run.pause ≠ none → ∃ u, exec (.commit m v) s = .next u ∧
        ({ t with run := { t.run with queued := t.run.queued ++ [.commit true] } } : State).wrote u [(O.STAGE_STATE, stArmed)]) ∧
      (v.toNat = 1 → st = stChecked → s.advancing = false → s.run.pause = none → exec (.commit m v) s = .next t.beginCommit)) ∧
    (s.serves O.COMMIT_AT_TIME → ∀ at_ : BitVec 64,
      (st ≠ stChecked → exec (.commitAtTime m at_) s = .next ((s.setObj O.COMMIT_RESULT 2).msix 3)) ∧
      (st = stChecked → s.reached at_.toNat = true → exec (.commitAtTime m at_) s = .next ((s.setObj O.COMMIT_RESULT 3).msix 3)) ∧
      (st = stChecked → s.reached at_.toNat = false → ∃ u, exec (.commitAtTime m at_) s = .next u ∧
        ({ s with run := { s.run with arm := .time at_.toNat, armMaster := m } } : State).wrote u [(O.STAGE_STATE, stArmed)])) ∧
    (s.serves O.COMMIT_AT_DC → ∀ dc : BitVec 64,
      (st ≠ stChecked → exec (.commitAtDc m dc) s = .next ((s.setObj O.COMMIT_RESULT 2).msix 3)) ∧
      (st = stChecked → dc.toNat ≤ s.dcNum → exec (.commitAtDc m dc) s = .next ((s.setObj O.COMMIT_RESULT 3).msix 3)) ∧
      (st = stChecked → s.dcNum < dc.toNat → ∃ u, exec (.commitAtDc m dc) s = .next u ∧
        ({ s with run := { s.run with arm := .dc dc.toNat, armMaster := m } } : State).wrote u [(O.STAGE_STATE, stArmed)])) ∧
    (s.serves O.DISCARD → ∀ v : Byte,
      (v.toNat ≠ 1 → exec (.discard m v) s = .next (s.refuse m O.DISCARD eRange)) ∧
      (v.toNat = 1 → (st = stPending ∨ st = stChecked) →
        exec (.discard m v) s = .next (s.stageEmpty.setObjs [(O.DISCARD_RESULT, 1), (O.CHECK_RESULT, 0)])) ∧
      (v.toNat = 1 → st = stChecking →
        exec (.discard m v) s = .next ((s.stageEmpty.setObjs [(O.DISCARD_RESULT, 1), (O.CHECK_RESULT, 6)]).msix 3)) ∧
      (v.toNat = 1 → st = stArmed → exec (.discard m v) s =
        .next ((s.disarm.stageEmpty.setObjs [(O.DISCARD_RESULT, 1), (O.CHECK_RESULT, 0), (O.COMMIT_RESULT, 5)]).msix 3)) ∧
      (v.toNat = 1 → (st = stEmpty ∨ stArmed < st) →
        ∃ t, exec (.discard m v) s = .next t ∧ s.wrote t [(O.DISCARD_RESULT, 2)])) ∧
    ((∀ t, s.run.arm ≠ .time t) → exec .commitTimeReached s = .next s) ∧
    (∀ t, s.run.arm = .time t →
      let due := s.reached t = true ∧ s.advancing = false ∧ s.run.pause = none ∧ s.recovering = false ∧ s.run.abandon = none
        ∧ s.engineStopped = false
      (due → exec .commitTimeReached s = .next s.beginCommit) ∧ (¬ due → exec .commitTimeReached s = .next s)) ∧
    ((s.engineStopped = true ∨ s.clockWait = true ∨ ∀ b, s.run.pause ≠ some (.commit b)) → exec .commitPauseEnd s = .next s) ∧
    (s.engineStopped = false → s.clockWait = false →
      (s.run.pause = some (.commit true) → exec .commitPauseEnd s = .next s.endCommit) ∧
      (s.run.pause = some (.commit false) → exec .commitPauseEnd s = .next s.flushPause.afterPause))

/-- R18, R418–R423, R447: clocks that fail. A lost reference or an unstable PLL is shown, enters CLOCK-WAIT with its cause and, where the
system clocks derive from it, stops them; PCIE_REFCLK is not judged while PERST_N is low; the HBM PLL is gated with its stacks in
self-refresh; a PLL that does not relock is reported; the judging window shows what it found, a clock it finds out of its window being
lost; CLOCK-WAIT ends once every clock is good: a debug access that waits is served and what the endpoint has held is passed on in
order. -/
def Obligations.ClocksFailAndRestart : Prop :=
  ∀ (s : State),
    (∀ ref : Fin 2,
      let a := s.setObjBit O.REF_STATE ref false
      let b := if 1 ≤ a.obj O.BOOT_STATE ∧ a.obj O.BOOT_STATE ≤ 5 then a.setObj O.BOOT_STATE 1 else a
      let t := b.enterClockWait (match b.obj O.REF_STATE % 4 with | 0 => 3 | 1 => 2 | _ => 1)
      (ref = 1 → s.host.perstHigh = false → exec (.referenceLost ref) s = .next s) ∧
      (ref = 1 → s.host.perstHigh = true → exec (.referenceLost ref) s = .next t) ∧
      (ref = 0 → exec (.referenceLost ref) s = .next { t with clk := { t.clk with sysStopped := true } })) ∧
    (∀ pll : Fin 4,
      let t := (s.setObjBit O.PLL_STATE pll false).enterClockWait 4
      (pll = 0 → exec (.pllUnstable pll) s = .next { t with clk := { t.clk with sysStopped := true } }) ∧
      (pll ≠ 0 → exec (.pllUnstable pll) s = .next t) ∧
      (s.clockWait = false → exec (.pllRelockFail pll) s = .next s) ∧
      (s.clockWait = true →
        let u := s.setObjBit O.PLL_STATE pll false
        exec (.pllRelockFail pll) s =
          .next (u.raiseFault 0x0D FaultLoc.hub (u.obj O.CW_LAST_CAUSE + 256 * u.obj O.PLL_STATE) 0 0))) ∧
    (let gates := s.clockWait = true ∧ (s.objBit O.REF_STATE 0 = false ∨ s.objBit O.PLL_STATE 2 = false)
     (gates → exec .hbmPllGate s =
       .next { s with clk := { s.clk with hbmGated := true }, hbm := { s.hbm with selfRefresh := true } }) ∧
     (¬ gates → exec .hbmPllGate s = .next s)) ∧
    (∀ us : BitVec 32,
      ((s.clockWait = false ∨ s.clocksGood = false) → exec (.clockWaitEnd us) s = .next s) ∧
      (s.clockWait = true → s.clocksGood = true →
        let t := State.clocksRestart { s with run := { s.run with heldWrites := [] } } us.toNat
        exec (.clockWaitEnd us) s = .next (s.run.heldWrites.foldl State.passOn t.serveTap) ∧
        (s.run.heldWrites = [] → s.tap.busy = none → exec (.clockWaitEnd us) s = .next t))) ∧
    (∀ (sysKhz pcieKhz : BitVec 32) (plls : BitVec 4),
      let sysGood := inWindow sysKhz.toNat 125000
      let pcieGood := inWindow pcieKhz.toNat 100000
      let a := (s.setObj O.SYS_REF_FREQ sysKhz.toNat).judgeReference 0 sysGood
      let b := (a.setObj O.PCIE_REF_FREQ pcieKhz.toNat).judgeReference 1 pcieGood
      (s.host.perstHigh = false → exec (.judgingWindowEnd sysKhz pcieKhz plls) s =
        .next ([0, 1, 2].foldl (fun u p => u.judgePll plls.toNat p) a)) ∧
      (s.host.perstHigh = true → exec (.judgingWindowEnd sysKhz pcieKhz plls) s =
        .next ([0, 1, 2, 3].foldl (fun u p => u.judgePll plls.toNat p) b)) ∧
      (sysGood = true → pcieGood = true → plls = 15#4 → s.host.perstHigh = true →
        ∃ t, exec (.judgingWindowEnd sysKhz pcieKhz plls) s = .next t ∧ s.wrote t [(O.SYS_REF_FREQ, sysKhz.toNat),
          (O.PCIE_REF_FREQ, pcieKhz.toNat), (O.REF_STATE, s.obj O.REF_STATE ||| 3), (O.PLL_STATE, s.obj O.PLL_STATE ||| 15)]) ∧
      (s.objBit O.REF_STATE 0 = true → sysGood = false →
        ∃ t, exec (.judgingWindowEnd sysKhz pcieKhz plls) s = .next t ∧ t.clockWait = true ∧ t.clk.sysStopped = true))

/-- R424, R426–R428, R430, R431: operating point and power. A multiplexer's switch completes and begins the one asked for meanwhile, a
forced one is shown; the rails of a point in progress report one by one, the last one completing it, and one that is late raises a
fault and ends the change; a poll shows its rail's voltage, a fourth failed frame raises a fault; samples of power, and of the hottest
sensor, show themselves and set or clear the causes of halving. -/
def Obligations.PointsAndPowerChange : Prop :=
  ∀ (s : State),
    (∀ forced : Bool,
      (s.clk.coreMux = none → exec (.stepMuxSwitch true forced) s = .next s) ∧
      (∀ h, s.clk.coreMux = some h →
        let t := if forced then s.setObjBit O.CLK_FORCED_HUB 1 true else s
        (h = s.clk.coreHalved →
          exec (.stepMuxSwitch true forced) s = .next { t with clk := { t.clk with coreMux := none } }) ∧
        (h ≠ s.clk.coreHalved →
          exec (.stepMuxSwitch true forced) s = .next { t with clk := { t.clk with coreHalved := h } })) ∧
      (s.clk.stepMux = none → exec (.stepMuxSwitch false forced) s = .next s) ∧
      (∀ d, s.clk.stepMux = some d →
        let t := if forced then s.setObjBit O.CLK_FORCED_HUB 0 true else s
        (d = t.obj O.STEP_DIV → exec (.stepMuxSwitch false forced) s = .next { t with clk := { t.clk with stepMux := none } }) ∧
        (d ≠ t.obj O.STEP_DIV → exec (.stepMuxSwitch false forced) s = .next (t.setObj O.STEP_DIV d)))) ∧
    (∀ rail : Fin 4,
      let open_ := s.obj O.OP_STATE ≠ 0 ∧ s.clk.railsAt.testBit rail = false
      (¬ open_ → exec (.railTargetReached rail) s = .next s ∧ exec (.rampLimitExpiry rail) s = .next s) ∧
      (open_ →
        (let t : State := { s with clk := { s.clk with railsAt := setBit s.clk.railsAt rail true } }
         exec (.railTargetReached rail) s = .next (if t.clk.railsAt % 16 = 15 then t.railsDone.pointNext else t)) ∧
        (let t := s.raiseFault 0x0E FaultLoc.hub rail 0 0
         exec (.rampLimitExpiry rail) s =
           .next (State.pointNext (State.setObj { t with clk := { t.clk with pointTo := none, dividerDue := false } } O.OP_STATE 0))))) ∧
    (∀ (rail : Fin 4) (mv : BitVec 16) (fails : Nat),
      (s.engineStopped = true → exec (.avsbusPoll rail mv fails) s = .next s) ∧
      (s.engineStopped = false → 3 < fails →
        exec (.avsbusPoll rail mv fails) s = .next (s.raiseFault 0x0E FaultLoc.hub (rail + 256) 0 0)) ∧
      (s.engineStopped = false → fails ≤ 3 →
        ∃ t, exec (.avsbusPoll rail mv fails) s = .next t ∧ s.wrote t [(O.RAIL_MV rail, mv.toNat)])) ∧
    (∀ watts : BitVec 16,
      let w := watts.toNat
      let above := if s.obj O.POWER_LIMIT < w then min 3 (s.clk.above + 1) else 0
      let under := if 100 * w < 95 * s.obj O.POWER_LIMIT then min 100 (s.clk.under + 1) else 0
      let t := (State.setObj { s with clk := { s.clk with above := above, under := under } } O.POWER_NOW w).raise O.POWER_MAX w
      (above = 3 → exec (.powerSample watts) s = .next (t.setObjBit O.HALVE_CAUSES 1 true)) ∧
      (above ≠ 3 → under = 100 → exec (.powerSample watts) s = .next (t.setObjBit O.HALVE_CAUSES 1 false)) ∧
      (above ≠ 3 → under ≠ 100 → exec (.powerSample watts) s = .next t)) ∧
    (∀ temp : BitVec 16,
      let hot := toSigned 16 (s.obj O.TJ_THROTTLE) ≤ toSigned 16 temp.toNat
      ∃ t, exec (.thermalSample temp) s = .next t ∧ s.wrote t ((O.TJ_HOT, temp.toNat) ::
        if hot then [(O.HALVE_CAUSES, setBit (s.obj O.HALVE_CAUSES) 2 true)] else [])) ∧
    (let cool := toSigned 16 (s.obj O.TJ_HOT) + 3 ≤ toSigned 16 (s.obj O.TJ_THROTTLE)
     let t := if cool then s.setObjBit O.HALVE_CAUSES 2 false else s
     ((t.obj O.HALVE_CAUSES ≠ 0 ∨ t.inOpening = false) → exec .halveEnd s = .next t) ∧
     (t.obj O.HALVE_CAUSES = 0 → t.inOpening = true → exec .halveEnd s = .next t.applyHalving))

/-- R429–R432, R435, R436: Brown-out and over-temperature. A warning level is shown, counted and halves the step clock, and that of the
cores where the rail is the hub's; at 96 % of the setpoint the rail is good again, at 91 % a reset one warns; the reset level of a
die's rail resets the die, that of the hub's and HBM's rails the module, and that of the last rail is a power-on reset; a sensor at 105
°C, once, raises a fault and shuts the module down. Ageing. A master's AGE_PLAN takes 1 only and starts a plan, as each 1,000th powered
hour does; the plan raises each die's voltage to what its worst sensor asks for, never lowers it, withdraws P3 where a raise passes its
limit and reports a die past what the rail can give; a cluster's report shows its worst sensor and the module's worst cluster; what is
to be kept is written to the persistent store. -/
def Obligations.SupplyHeatAndAgeingAct : Prop :=
  (∀ (s : State) (rail : RailIx) (mv : BitVec 16),
     let v := mv.toNat
     let t := s.setObj (O.RAIL_MV rail) v
     let setpoint := t.setpointOf rail
     (let warns := rail ≠ 6 ∧ 100 * v < 95 * setpoint ∧ t.obj (O.BO_STATE rail) = 0
      let u := ((((t.setObj (O.BO_STATE rail) 1).bump (O.BO_WARNINGS rail) 1).setObjBit O.HALVE_CAUSES 0 true)).applyHalving
      (¬ warns → ∃ x, exec (.brownOutWarning rail mv) s = .next x ∧ s.wrote x [(O.RAIL_MV rail, v)]) ∧
      (warns → exec (.brownOutWarning rail mv) s = .next (if 4 ≤ rail.val then u.askCore true else u))) ∧
     ((t.obj (O.BO_STATE rail) = 0 ∨ 100 * v < 91 * setpoint) → exec (.brownOutWarningEnd rail mv) s = .next t) ∧
     (t.obj (O.BO_STATE rail) ≠ 0 → 91 * setpoint ≤ 100 * v → 100 * v < 96 * setpoint →
       exec (.brownOutWarningEnd rail mv) s = .next (t.setObj (O.BO_STATE rail) 1)) ∧
     (t.obj (O.BO_STATE rail) ≠ 0 → 91 * setpoint ≤ 100 * v → 96 * setpoint ≤ 100 * v →
       let u := t.setObj (O.BO_STATE rail) 0
       let warned := (List.range 6).filter fun r => u.obj (O.BO_STATE r) != 0
       let w := u.setObjBit O.HALVE_CAUSES 0 (warned != [])
       exec (.brownOutWarningEnd rail mv) s = .next (if warned.any (· ≥ 4) then w else w.askCore false)) ∧
     (let resets := 100 * v < 90 * setpoint ∧ t.obj (O.BO_STATE rail) ≠ 2
      let u := (t.setObj (O.BO_STATE rail) 2).bump (O.BO_RESETS rail) 1
      (¬ resets → exec (.brownOutResetLevel rail mv) s = .next t) ∧
      (resets → rail.val < 4 → exec (.brownOutResetLevel rail mv) s = .next (if u.host.up then u.dieReset rail else u)) ∧
      (resets → rail.val = 4 → exec (.brownOutResetLevel rail mv) s = .next (u.persistMaybe.warmReset 3 false)) ∧
      (resets → rail.val = 5 → exec (.brownOutResetLevel rail mv) s = .next (u.persistMaybe.warmReset 4 false)) ∧
      (resets → rail.val = 6 → exec (.brownOutResetLevel rail mv) s = .next u.persistMaybe.powerReset)) ∧
     (∀ (die : Fin 5) (sensor : Fin 16) (temp : BitVec 16),
       ((toSigned 16 temp.toNat < 105 ∨ s.clk.shutdown = true) → exec (.thermalShutdown die sensor temp) s = .next s) ∧
       (105 ≤ toSigned 16 temp.toNat → s.clk.shutdown = false → exec (.thermalShutdown die sensor temp) s =
         .next ((s.interruptRecovery.raiseFault 0x0F ⟨die, 255, 255, 0xFFFF⟩ (die + 16 * sensor) temp.toNat 0).shutdownNow)))) ∧
  (∀ (s : State),
     (∀ m v, s.serves O.AGE_PLAN →
       (v.toNat = 1 → ∃ t, exec (.agePlan (some m) v) s = .next t ∧ s.wrote t [(O.AGE_STATE, 1)]) ∧
       (v.toNat ≠ 1 → exec (.agePlan (some m) v) s = .next (s.refuse m O.AGE_PLAN eRange))) ∧
     (∀ v,
       let t := s.bump O.POWER_HOURS 1
       (s.engineStopped = true → exec (.agePlan none v) s = .next s) ∧
       (s.engineStopped = false → t.obj O.POWER_HOURS % 1000 ≠ 0 → exec (.agePlan none v) s = .next t) ∧
       (s.engineStopped = false → t.obj O.POWER_HOURS % 1000 = 0 → exec (.agePlan none v) s = .next (t.setObj O.AGE_STATE 1))) ∧
     ((s.obj O.AGE_STATE ≠ 1 ∨ s.engineStopped = true) → exec .agePlanCommit s = .next s) ∧
     (s.obj O.AGE_STATE = 1 → s.engineStopped = false →
       let plan := (List.range 4).map fun d => (d, max (s.raiseNow d) (raiseFor (s.dieWorst d)))
       let changed := plan.any fun e => e.2 != s.raiseNow e.1
       let withdrawn := decide (s.obj O.P3_AVAILABLE = 1) && plan.any fun e => 850 + e.2 > 900
       let spent := plan.filter fun e => 720 + e.2 > 780
       let a := s.setObjs [(O.AGE_STATE, 0), (O.AGE_LAST_HOURS, s.obj O.POWER_HOURS),
         (O.AGE_RESULT, if spent ≠ [] then 4 else if withdrawn then 3 else if changed then 2 else 1)]
       let b := if withdrawn then a.setObj O.P3_AVAILABLE 0 else a
       let c := plan.foldl (fun u e => u.setRaise e.1 e.2) b
       let d := spent.foldl (fun u e => u.raiseFault 0x10 FaultLoc.hub (e.1 + 65536 * (720 + e.2)) 0 0) c
       exec .agePlanCommit s = .next (if changed || withdrawn then d.planPoint withdrawn else d)) ∧
     (s.engineStopped = true → exec .persistentStoreWrite s = .next s) ∧
     (s.engineStopped = false → exec .persistentStoreWrite s = .next s.persistWrite) ∧
     (∀ (die : Die) (pc : Pc) (a b c d : BitVec 32),
       let t := s.setObj (O.AGE_PPM die pc) (max (max a.toNat b.toNat) (max c.toNat d.toNat))
       ∃ u, exec (.ageingSensorReport die pc a b c d) s = .next u ∧
         t.wrote u [(O.AGE_WORST, t.ageWorst.1), (O.AGE_WORST_WHERE, t.ageWorst.2)]))

/-- R439–R443: resets. A power-on reset and the watchdog's; MODULE_RESET_N is taken after 1 µs of low, or after 100 ns with its rise, and
is left open between; a warm and a management reset are ordered by their values once pending persistent data is written; a die is reset
where a boot has completed. -/
def Obligations.ResetsTakeEffect : Prop :=
  ∀ (s : State),
    exec .powerOnReset s = .next s.persistMaybe.powerReset ∧
    (∀ m, s.serves O.RESET_CMD → exec (.resetCmdWarm m) s = .next (s.persistWrite.warmReset 2 true) ∧
      exec (.resetCmdManagement m) s = .next (s.persistWrite.managementReset 2)) ∧
    (s.engineStopped = false → 4 ≤ s.obj O.BOOT_STATE → exec .managementWatchdog s = .next (s.managementReset 6)) ∧
    ((s.engineStopped = true ∨ s.obj O.BOOT_STATE < 4) → exec .managementWatchdog s = .next s) ∧
    (∀ die : Die, exec (.dieReset die) s = .next (if s.host.up then s.dieReset die else s)) ∧
    (∀ ns : BitVec 32,
      let t := s.draw
      let taken := t.persistMaybe.warmReset 1 true
      (s.host.resetHigh = true → 1000 ≤ ns.toNat →
        exec (.moduleResetN true ns) s = .next { taken with host := { taken.host with resetHigh := false } } ∧
        exec (.moduleResetN false ns) s = .next { taken with host := { taken.host with resetHigh := true } }) ∧
      ((s.host.resetHigh = false ∨ ns.toNat < 1000) → exec (.moduleResetN true ns) s = .next t) ∧
      ((s.host.resetHigh = false ∨ ns.toNat < 100) →
        exec (.moduleResetN false ns) s = .next { t with host := { t.host with resetHigh := true } }) ∧
      (s.host.resetHigh = true → 100 ≤ ns.toNat → ns.toNat < 1000 → ∃ b : Bool,
        let u := if b then taken else t
        exec (.moduleResetN false ns) s = .next { u with host := { u.host with resetHigh := true } }))

/-- R404, R441, R446, R448, R450, R484, R486, R487: the steps of boot, each from its own BOOT_STATE only. AUX_START gives way to CLOCKS,
which starts the time base once the reference and the root PLL are good; HUB_START samples the straps with MODULE_RESET_N high; the ROM
verifies the copies, in SCRAPPED nothing starts, and an interrupted RETURN is completed first; firmware shows its version and raises
the security version's minimum; trained HBM, zeroed where its contents are not kept, ends the boot in STANDBY, failed training leaves
it FAILED. -/
def Obligations.BootGoesStepByStep : Prop :=
  ∀ (s : State),
    (s.obj O.BOOT_STATE = 0 → s.booting = 0 → ∃ t, exec .auxStartDone s = .next t ∧ s.wrote t [(O.BOOT_STATE, 1)]) ∧
    ((s.obj O.BOOT_STATE ≠ 0 ∨ s.booting ≠ 0) → exec .auxStartDone s = .next s) ∧
    (let good := s.obj O.BOOT_STATE = 1 ∧ s.clockWait = false ∧ s.obj O.REF_STATE % 2 = 1 ∧ s.obj O.PLL_STATE % 2 = 1
     (good → ∃ t, exec .clocksDone s = .next t ∧
       ({ s with tb := { s.tb with running := true } } : State).wrote t [(O.BOOT_STATE, 2)]) ∧
     (¬ good → exec .clocksDone s = .next s)) ∧
    (∀ (moduleId : BitVec 10) (mgmtId : BitVec 7),
      (s.obj O.BOOT_STATE = 2 → s.host.up = false → s.host.resetHigh = true →
        let t : State := { s with host := { s.host with mgmtStrap := mgmtId.toNat, bootAt := s.nowNs } }
        exec (.hubStart moduleId mgmtId) s =
          .next (t.setObjs [(O.MODULE_ID, moduleId.toNat), (O.BOOT_STATE, 3)]).nodeObjs.serveTap) ∧
      (s.obj O.BOOT_STATE = 2 → s.host.up = true → exec (.hubStart moduleId mgmtId) s = .next (s.setObj O.BOOT_STATE 3).serveTap) ∧
      (s.tap.busy = none → s.serveTap = s) ∧
      ((s.obj O.BOOT_STATE ≠ 2 ∨ (s.host.up = false ∧ s.host.resetHigh = false)) →
        exec (.hubStart moduleId mgmtId) s = .next s)) ∧
    (∀ a b : Option (BitVec 16),
      ((s.obj O.BOOT_STATE ≠ 3 ∨ s.engineStopped = true) → exec (.romDone a b) s = .next s) ∧
      (s.obj O.BOOT_STATE = 3 → s.engineStopped = false →
        (s.obj O.LC_STATE = 5 → ∃ t, exec (.romDone a b) s = .next t ∧ s.wrote t [(O.BOOT_STATE, 7)]) ∧
        (s.obj O.LC_STATE ≠ 5 → s.keys.returnPending = true → s.hbm.zeroing = false →
          exec (.romDone a b) s = .next s.returnErase.returnReset) ∧
        (s.obj O.LC_STATE ≠ 5 → s.keys.returnPending = true → s.hbm.zeroing = true →
          let u := s.returnErase.returnFuse
          let t : State := { u with hub := { u.hub with sramOpen := [] } }
          exec (.romDone a b) s = .next (t.romStarts (t.copyGood a) (t.copyGood b))) ∧
        (s.obj O.LC_STATE ≠ 5 → s.keys.returnPending = false →
          exec (.romDone a b) s = .next (s.romStarts (s.copyGood a) (s.copyGood b))))) ∧
    (∀ (version : BitVec 32) (svn : Option (BitVec 16)),
      ((s.obj O.BOOT_STATE ≠ 4 ∨ s.engineStopped = true) → exec (.firmwareDone version svn) s = .next s) ∧
      (s.obj O.BOOT_STATE = 4 → s.engineStopped = false →
        let t := (s.setObj O.FW_VERSION version.toNat).raise O.FW_SVN_MIN ((svn.map BitVec.toNat).getD 0)
        exec (.firmwareDone version svn) s = .next ((if s.host.up then t else t.restorePersist).setObj O.BOOT_STATE 5))) ∧
    (∀ trained : Bool,
      ((s.obj O.BOOT_STATE ≠ 5 ∨ s.engineStopped = true) → exec (.hbmDone trained) s = .next s)) ∧
    (s.obj O.BOOT_STATE = 5 → s.engineStopped = false →
      (∃ t, exec (.hbmDone false) s = .next t ∧ s.wrote t [(O.BOOT_STATE, 7), (O.BOOT_ERROR, 3)]) ∧
      (let time := (s.nowNs + 2 ^ 64 - s.host.bootAt) % 2 ^ 64 / 1000 % 2 ^ 32
       let ends := fun (t : State) =>
         let u : State := { t with host := { t.host with up := true } }
         (u.setObjs [(O.BOOT_TIME, time), (O.BOOT_STATE, 6)]).bootUp
       (s.host.up = true → exec (.hbmDone true) s = .next (ends s)) ∧
       (s.host.up = false → s.hbm.zeroing = true → exec (.hbmDone true) s = .next (ends { s with hbm := { s.hbm with
         mem := [], bad := [], open_ := [], zeroing := false, selfRefresh := true } })) ∧
       (s.host.up = false → s.hbm.zeroing = false →
         exec (.hbmDone true) s = .next (ends { s with hbm := { s.hbm with selfRefresh := true } }))))

/-- R454–R459, R468–R471: The test access port. Test-Logic-Reset selects IDCODE and ends an access in progress; each instruction selects
its register: IDCODE, DSTAT and BYPASS always, the boundary instructions only while the debug port is open, else BYPASS stands in;
EXTEST and SAMPLE/PRELOAD update the boundary register and capture the balls; a capture of DACC shows the last access's status, code
and data. Debug accesses. One that meets another in progress is ignored and says so; through a closed port it is DENIED, to a space
that does not exist it is RANGE; any other is taken, and waits until its space is served: a read of an object gives its value, an
access to the bus is the bus's, one to a core's debug registers acts on that core. The virtual terminal is reached by accesses to its
registers: its transmit side gives the oldest byte, its receive side takes one where it has room. DHALT takes 1 only, stops a module
that advances with cause DEBUG and halts the design's cores, and is answered to its master. -/
def Obligations.DebugPortActs : Prop :=
  (∀ (s : State),
     (let t := s.orphan (· == .debug)
      exec .testLogicReset s =
        .next { t with tap := { t.tap with busy := none, ir := irIdcode, drLen := 32, dr := 0 } }) ∧
     exec .idcode s = .next { s with tap := { s.tap with ir := irIdcode, drLen := 32, dr := s.idcode } } ∧
     exec .dstat s = .next { s with tap := { s.tap with ir := irDstat, drLen := 32, dr := s.dstatWord } } ∧
     exec .bypass s = .next { s with tap := { s.tap with ir := irBypass, drLen := 1, dr := 0 } } ∧
     exec .daccCapture s = .next { s with tap := { s.tap with
       ignored := false, ir := irDacc, drLen := 112, dr := s.tap.data + 2 ^ 64 * s.tap.shown + 2 ^ 72 * s.tap.code } } ∧
     (s.portOpen = true →
       exec .clamp s = .next { s with tap := { s.tap with ir := irClamp, drLen := 1, dr := 0 } } ∧
       exec .highz s = .next { s with tap := { s.tap with ir := irHighz, drLen := 1, dr := 0 } } ∧
       (∀ v : Option (BitVec 392),
         let t : State := { s with tap := { s.tap with boundary := match v with | some b => b.toNat | none => s.tap.boundary } }
         exec (.extest v) s =
           .next ({ t with tap := { t.tap with ir := irExtest, drLen := boundaryLen, dr := s.ballLevels } } : State).draw.draw ∧
         exec (.samplePreload v) s =
           .next ({ t with tap := { t.tap with ir := irSample, drLen := boundaryLen, dr := s.ballLevels } } : State).draw.draw)) ∧
     (s.portOpen = false →
       let bypassed : State := { s with tap := { s.tap with ir := irBypass, drLen := 1, dr := 0 } }
       exec .clamp s = .next bypassed ∧ exec .highz s = .next bypassed ∧
       ∀ v : Option (BitVec 392), exec (.extest v) s = .next bypassed.draw.draw ∧
         exec (.samplePreload v) s = .next bypassed.draw.draw)) ∧
  (∀ (s : State),
     (∀ a : DebugAccess, ∀ c : Instr,
       ((∃ consume space size addr, c = .daccRead consume space size addr ∧ a = ⟨false, consume, space, size, addr.toNat, 0, false⟩) ∨
         (∃ space size addr data, c = .daccWrite space size addr data ∧ a = ⟨true, false, space, size, addr.toNat, data.toNat, false⟩) ∨
         (∃ core consume, c = .vtTx core consume ∧ a = ⟨false, consume, 2, 0, coreReg core 0x2002, 0, false⟩) ∨
         (∃ core v, c = .vtRx core v ∧ a = ⟨v.isSome, false, 2, 0, coreReg core 0x2003, (v.getD 0).toNat, false⟩)) →
       let t : State := { s with tap := { s.tap with ir := irDacc, drLen := 112 } }
       (s.tap.busy ≠ none → exec c s = .next { t with tap := { t.tap with ignored := true } }) ∧
       (s.tap.busy = none → s.portOpen = false →
         exec c s = .next ((if a.space = 0 then t.refuse .debug (a.addr % 2 ^ 24) eDenied else t).tapRefused eDenied)) ∧
       (s.tap.busy = none → s.portOpen = true → a.space = 3 → exec c s = .next (t.tapRefused eRange)) ∧
       (s.tap.busy = none → s.portOpen = true → a.space ≠ 3 →
         let runs := 3 ≤ s.obj O.BOOT_STATE ∧ if a.space = 0 then s.engineStopped = false else s.clockWait = false
         let u : State := { t with tap := { t.tap with busy := some a } }
         (¬ runs → exec c s = .next u) ∧
         (runs → a.space = 0 → a.addr < 2 ^ 24 → s.gate a.addr a.write = eNone → a.write = false → a.consume = false →
           (rowOf a.addr).isSome → exec c s = .next (u.tapDone 0 0 (some (u.readObj a.addr)))) ∧
         (runs → a.space = 1 → exec c s = .next (u.tapBus a)) ∧
         (runs → a.space = 2 → ∀ core : CoreIx,
           (a.addr = coreReg core 0x2000 → a.write = true → exec c s = .next ((u.writeCdctl core a.data).tapDone 0 0 none)) ∧
           (a.addr = coreReg core 0x2001 → a.write = false → exec c s = .next (u.tapDone 0 0 (some (s.cdstat core)))) ∧
           (a.addr = coreReg core 0x2002 → a.write = false →
             let k := s.core core
             let v := match k.vtTx with | [] => 0 | b :: _ => 256 + b.toNat + 65536 * k.vtTx.length
             exec c s = .next ((if a.consume then u.setCore core { k with vtTx := k.vtTx.tail } else u).tapDone 0 0 (some v))) ∧
           (a.addr = coreReg core 0x2003 →
             let k := s.core core
             (a.write = false → exec c s = .next (u.tapDone 0 0 (some (64 - k.vtRx.length)))) ∧
             (a.write = true → k.vtRx.length < 64 → exec c s =
               .next ((u.setCore core { k with vtRx := k.vtRx ++ [BitVec.ofNat 8 a.data] }).tapDone 0 0 none)) ∧
             (a.write = true → 64 ≤ k.vtRx.length → exec c s = .next (u.tapDone 4 0 none)))))) ∧
     (∀ m, s.serves O.DHALT → ∀ v : Byte,
       (v.toNat ≠ 1 → exec (.dhalt m v) s = .next (s.refuse m O.DHALT eRange)) ∧
       (v.toNat = 1 → s.advancing = true → s.recovering = false →
         exec (.dhalt m v) s = .next ((s.raiseStop 8 0 (Master.number m)).designHalts.answered m 1)) ∧
       (v.toNat = 1 → (s.held = true ∨ s.mode = mStandby) → exec (.dhalt m v) s = .next (s.answered m 1)) ∧
       (v.toNat = 1 → s.mode = mDiag → exec (.dhalt m v) s = .next (s.answered m 2))))

/-- R472, R479–R481, R486: flash commands, life cycle and keys. A flash command is for the debug master while the module is in STANDBY or
its boot has failed, on an aligned address that the life-cycle state lets it change; its end changes the area and shows whether it
verified, an area that did not being left open. A life-cycle request is judged by the mode, Table 22-2's row, the keys, the limit of
returns and its signature, is answered, consumes the nonce and, accepted, begins its transition; that moves LC_STATE, RETURN erasing
first. The key commands are for the host and debug masters in the states that have keys; they fill a free slot, set the owner's key,
once, empty a slot, and say so. -/
def Obligations.FlashLifeCycleAndKeys : Prop :=
  ∀ (s : State),
    (∀ m, s.serves O.FL_CMD →
      let a := s.obj O.FL_ADDR
      let may := m = .debug ∧ (s.mode = mStandby ∨ s.obj O.BOOT_STATE = 7) ∧ s.obj O.FL_STATE ≠ 1
      ∀ c n cmd, (c = Instr.flCmdProgram m ∧ n = 256 ∧ cmd = 1) ∨ (c = Instr.flCmdErase m ∧ n = 4096 ∧ cmd = 2) →
        (¬ may → exec c s = .next (s.refuse m O.FL_CMD eMode)) ∧
        (may → a % n ≠ 0 → exec c s = .next (s.refuse m O.FL_CMD eRange)) ∧
        (may → a % n = 0 → flashAllowed (s.obj O.LC_STATE) a n = false →
          ∃ t, exec c s = .next t ∧ s.wrote t [(O.FL_RESULT, 2)]) ∧
        (may → a % n = 0 → flashAllowed (s.obj O.LC_STATE) a n = true → ∃ t, exec c s = .next t ∧
          ({ s with tap := { s.tap with flOp := some (cmd, a) } } : State).wrote t [(O.FL_STATE, 1)])) ∧
    (s.tap.flOp = none → ∀ b, exec (.flDone b) s = .next s) ∧
    (∀ v a, s.tap.flOp = some (v, a) →
      let flash := if v = 1 then flashWrite s.flash a (mread s.tap.page 0 256) else flashErase s.flash a 4096
      let base := if 0x3F0000 ≤ a ∧ a < 0x400000 then s.openPersist else s
      let ends := fun (f : Tab Byte) =>
        ({ base with flash := f, tap := { base.tap with flOp := none }, fresh := base.fresh + 1 } : State)
      (∃ t, exec (.flDone true) s = .next t ∧ (ends flash).wrote t [(O.FL_STATE, 0), (O.FL_RESULT, 1)]) ∧
      (∃ t f, exec (.flDone false) s = .next t ∧ (ends f).wrote t [(O.FL_STATE, 0), (O.FL_RESULT, 3)])) ∧
    (∀ (target : Byte) (sig : BitVec 768),
      (∀ m, s.serves O.LC_REQ →
        (5 < target.toNat → exec (.lcReq (some m) target sig) s = .next (s.refuse m O.LC_REQ eRange)) ∧
        (target.toNat ≤ 5 → s.obj O.LC_RESULT = 6 → exec (.lcReq (some m) target sig) s = .next (s.newNonce.refuse m O.LC_REQ eMode))) ∧
      (s.engineStopped = true → exec (.lcReq none target sig) s = .next s) ∧
      (s.engineStopped = false → s.obj O.LC_RESULT = 6 → exec (.lcReq none target sig) s = .next s.newNonce) ∧
      (s.obj O.LC_RESULT ≠ 6 → ∀ c to_ sg,
        ((∃ m, s.serves O.LC_REQ ∧ target.toNat ≤ 5 ∧ c = Instr.lcReq (some m) target sig ∧ to_ = target.toNat ∧ sg = s.lcSig) ∨
          (s.engineStopped = false ∧ c = .lcReq none target sig ∧ to_ = target.toNat % 16 ∧ sg = leBytes 96 sig.toNat)) →
        let r := s.lcAnswer to_ sg
        let t := s.newNonce.setObj O.LC_RESULT r
        exec c s = .next (if r = 6 then { t with keys := { t.keys with
          target := some to_, returnPending := t.keys.returnPending || to_ == 4 } } else t))) ∧
    (∀ to_ sg,
      let here := s.obj O.LC_STATE
      (s.mode ≠ mStandby → s.obj O.BOOT_STATE ≠ 7 → s.lcAnswer to_ sg = 2) ∧
      ((s.mode = mStandby ∨ s.obj O.BOOT_STATE = 7) →
        (lcRow here to_ = none → s.lcAnswer to_ sg = 3) ∧
        (lcRow here to_ = some false → s.obj O.OWNER_SET = 0 → s.lcAnswer to_ sg = 4) ∧
        ((lcRow here to_ = some true ∨ (lcRow here to_ = some false ∧ s.obj O.OWNER_SET ≠ 0)) →
          (to_ = 4 → s.obj O.RETURNS_LEFT = 0 → s.lcAnswer to_ sg = 7) ∧
          ((to_ ≠ 4 ∨ s.obj O.RETURNS_LEFT ≠ 0) → s.lcAnswer to_ sg =
            if ecdsaOk (if lcRow here to_ = some true then Config.makerKey else s.keys.owner) (s.lcMessage to_) sg then 6 else 5)))) ∧
    ((s.engineStopped = true ∨ s.keys.target = none) → exec .lcTransitionDone s = .next s) ∧
    (∀ to_, s.engineStopped = false → s.keys.target = some to_ →
      (to_ ≠ 4 → ∃ t, exec .lcTransitionDone s = .next t ∧
        ({ s with keys := { s.keys with target := none } } : State).wrote t [(O.LC_STATE, to_), (O.LC_RESULT, 1)]) ∧
      (to_ = 4 → exec .lcTransitionDone s =
        .next (if s.obj O.BOOT_STATE = 3 ∧ s.hbm.zeroing = true then s.returnFuse else s.returnErase.returnReset))) ∧
    (∀ m, s.serves O.KEY_CMD →
      let may := (m = .pcie ∨ m = .debug) ∧ (s.obj O.LC_STATE = 1 ∨ s.obj O.LC_STATE = 2)
      ∀ c n, (c, n) ∈ [(Instr.keyCmdInstallImageKey m, 1), (.keyCmdInstallSigningKey m, 2), (.keyCmdSetOwnerKey m, 3),
          (.keyCmdRevoke m, 4)] →
        (¬ may → exec c s = .next (s.refuse m O.KEY_CMD eDenied)) ∧
        (may → s.obj O.LC_RESULT = 6 → exec c s = .next (s.keyEnds 4)) ∧
        (may → s.obj O.LC_RESULT ≠ 6 →
          let slot := s.obj O.KEY_SLOT
          let key := s.keyData (if n = 1 then 32 else 96)
          let images := fun (l : Tab (List Byte)) => ({ s with keys := { s.keys with image := l } } : State)
          let signings := fun (l : Tab (List Byte)) => ({ s with keys := { s.keys with signing := l } } : State)
          (n ≠ 3 → (slot = 0 ∨ 8 < slot) → exec c s = .next (s.keyEnds 3)) ∧
          (n = 1 → 1 ≤ slot → slot ≤ 8 →
            (s.objBit O.IMG_KEYS (slot - 1) = true → exec c s = .next (s.keyEnds 2)) ∧
            (s.objBit O.IMG_KEYS (slot - 1) = false → exec c s =
              .next ((images (tput (fun _ => []) s.keys.image slot key)).setObjBit
                O.IMG_KEYS (slot - 1) true |>.keyEnds 1))) ∧
          (n = 2 → 1 ≤ slot → slot ≤ 8 →
            (s.objBit O.SIG_KEYS (slot - 1) = true → exec c s = .next (s.keyEnds 2)) ∧
            (s.objBit O.SIG_KEYS (slot - 1) = false → onCurve key = false → exec c s = .next (s.keyEnds 3)) ∧
            (s.objBit O.SIG_KEYS (slot - 1) = false → onCurve key = true → exec c s =
              .next ((signings (tput (fun _ => []) s.keys.signing slot key)).setObjBit
                O.SIG_KEYS (slot - 1) true |>.keyEnds 1))) ∧
          (n = 3 →
            (s.obj O.OWNER_SET = 1 → exec c s = .next (s.keyEnds 2)) ∧
            (s.obj O.OWNER_SET ≠ 1 → onCurve key = false → exec c s = .next (s.keyEnds 3)) ∧
            (s.obj O.OWNER_SET ≠ 1 → onCurve key = true → exec c s =
              .next ((State.setObj { s with keys := { s.keys with owner := key } } O.OWNER_SET 1).keyEnds 1))) ∧
          (n = 4 → 1 ≤ slot → slot ≤ 8 →
            (s.obj O.KEY_KIND = 0 → exec c s =
              .next ((images (tput (fun _ => []) s.keys.image slot [])).setObjBit
                O.IMG_KEYS (slot - 1) false |>.keyEnds 1)) ∧
            (s.obj O.KEY_KIND ≠ 0 → exec c s =
              .next ((signings (tput (fun _ => []) s.keys.signing slot [])).setObjBit
                O.SIG_KEYS (slot - 1) false |>.keyEnds 1)))))

/-- A command at the front of the queue runs: the step is `exec` of it on the state with the queue's rest. -/
def Obligations.StepRunsFrontCommand : Prop :=
  ∀ (s : State) (c : Instr) (rest : List Instr),
    step { s with pending := c :: rest } = exec c { s with pending := rest }

/-- With an empty queue a step is one tick of the time base, in which the fabric and the cores run on too (the model's choice, assumption
1). R234: the counter takes INCREMENT, or the time that a TIME_SET has left for the tick, or INCREMENT with the step of R246; while its
clock is stopped or has not started it stands still. R238, R248: the whole second that TIME_PPS_OUT waits for falls due in the tick
that reaches it, and the next one is then waited for. Where no fabric is configured and no core executes, the tick is all that happens. -/
def Obligations.EmptyQueueCountsTime : Prop :=
  ∀ (s : State),
    (s.pending = [] → step s = .next s.idle) ∧
    (s.pending = [] → s.obj O.FAB_STATE ≠ 2 → (∀ c, c < 32 → s.coreRuns c = false) → step s = .next s.tick) ∧
    ((s.clk.sysStopped = true ∨ s.tb.running = false) → s.tick = s) ∧
    (s.clk.sysStopped = false → s.tb.running = true →
      let t := s.tick
      { t with tb := s.tb } = s ∧
      { t.tb with counter := s.tb.counter, setTo := s.tb.setTo, stepBy := s.tb.stepBy, ppsNext := s.tb.ppsNext,
                  ppsDue := s.tb.ppsDue } = s.tb ∧
      t.tb.setTo = none ∧ t.tb.stepBy = none ∧ t.tb.ppsDue = t.reached s.tb.ppsNext ∧
      (t.tb.ppsDue = false → t.tb.ppsNext = s.tb.ppsNext) ∧
      (t.tb.ppsDue = true → t.nowNs < 2 ^ 64 - 1000000000 → t.tb.ppsNext % 1000000000 = 0 ∧ t.nowNs < t.tb.ppsNext ∧
        t.tb.ppsNext ≤ t.nowNs + 1000000000) ∧
      (s.tb.setTo = none → s.tb.stepBy = none → t.tb.counter = (s.tb.counter + s.obj O.INCREMENT) % 2 ^ 96) ∧
      (∀ d, s.tb.setTo = none → s.tb.stepBy = some d →
        t.tb.counter = (((s.tb.counter : Int) + s.obj O.INCREMENT + d) % 2 ^ 96).toNat) ∧
      (∀ v, s.tb.setTo = some v → t.tb.counter = v * ns % 2 ^ 96))

/-- R401, R441, R448, R454: after a power-on reset every object reads its default, the boot begins in AUX_START, no record is in the fault
ring, HBM is to be zeroed and the TAP selects IDCODE; the stores are canonical and nothing waits. What the cluster stores and core
registers hold is the model's choice (assumptions 11, 12 and 20) and is not stated here. -/
def Obligations.ResetHoldsTheDefaults : Prop :=
  (∀ k, State.reset.obj k = dflt k) ∧ State.reset.obj O.BOOT_STATE = 0 ∧ State.reset.mode = mOff ∧ State.reset.host.up = false ∧
    State.reset.faults.ring = [] ∧ State.reset.hbm.zeroing = true ∧ State.reset.tap.ir = irIdcode ∧ State.reset.pending = [] ∧
    State.reset.tidy = true ∧ State.reset.bounded = true

/-- An invariant of every step: the dictionary, its shadows, the hub's SRAM and HBM keep their canonical form, and what may wait keeps
within the places the spec gives it (R380, R394, R413). -/
def Obligations.StepKeepsStoresAndBounds : Prop :=
  ∀ (s t : State), s.tidy = true → s.bounded = true → step s = .next t → t.tidy = true ∧ t.bounded = true

/-- Every step takes exactly the command at the front: no command changes what waits behind it. -/
def Obligations.StepTakesOnlyTheFront : Prop :=
  ∀ (s t : State), s.tidy = true → s.bounded = true → step s = .next t → t.pending = s.pending.tail

/-- R70: a NOP about to execute changes nothing but that its BP has had its op of the step, whatever its other fields are; it depends on no
operand and queues no route read, so that it never holds its cluster. The BP of an all-zero word has no op to mark. -/
def Obligations.NopDoesNothing : Prop :=
  ∀ (s : State) (die : Die) (pc : Pc) (bp : BpIx) (w : Nat), iClass w = .nop →
    (s.opReady die pc bp w → exec (.nop die pc bp) s = .next (s.opDone die pc bp)) ∧
    (((s.cl (cidOf die pc)).ops.find? fun o => o.1 == (bp : Nat)) = none → exec (.nop die pc bp) s = .next s) ∧
    (∀ (c : Cluster) (b : Nat) (before after : List (Nat × Nat)),
      waitingOperand c (before ++ (b, w) :: after) = waitingOperand c (before ++ after) ∧
      routeOverflow c (before ++ (b, w) :: after) = routeOverflow c (before ++ after))

/-- R31: a LUT op waits for an operand exactly when its truth table changes with that operand alone for some setting of the other three,
and never for a STATE operand. -/
def Obligations.LutWaitsForWhatItDependsOn : Prop :=
  ∀ (c : Cluster) (bp w : Nat), iClass w = .lut →
    let index := fun (f : Nat → Bool) => (f 0).toNat + 2 * (f 1).toNat + 4 * (f 2).toNat + 8 * (f 3).toNat
    let depends := fun (i : Nat) => ∃ f g : Nat → Bool, (∀ j, j ≠ i → f j = g j) ∧ (iTt w).testBit (index f) ≠ (iTt w).testBit (index g)
    (waitingOperand c [(bp, w)] = none ↔ ∀ i, i < 4 → depends i → selReady c bp (iSel w i) = true) ∧
    (∀ sel, waitingOperand c [(bp, w)] = some (bp, sel) → ∃ i, i < 4 ∧ depends i ∧ iSel w i = sel) ∧
    (∀ sel, 0x600 ≤ sel → selReady c bp sel = true)

/-- R413: no record is written before the reset of range 0x4000; each record takes the next number and goes to the front of the ring, which
keeps the 256 newest; the oldest then goes, and is counted in FAULT_LOST where it was not acknowledged. -/
def Obligations.FaultRecordsAreNumberedAndKept : Prop :=
  State.reset.obj O.FAULT_TOTAL = 0 ∧ State.reset.faults.ring = [] ∧
  ∀ (s : State) (r : FaultRec), 1 ≤ r.code → r.code ≤ 20 →
    let t := s.writeRecord r
    let n := s.obj O.FAULT_TOTAL + 1
    t.obj O.FAULT_TOTAL = n ∧
    (s.faults.ring.length < 256 →
      t.faults.ring = { r with number := n } :: s.faults.ring ∧ t.obj O.FAULT_LOST = s.obj O.FAULT_LOST) ∧
    (∀ newer old, s.faults.ring = newer ++ [old] → newer.length = 255 → s.obj O.FAULT_OLDEST = old.number →
      t.faults.ring = { r with number := n } :: newer ∧ t.obj O.FAULT_OLDEST = old.number + 1 ∧
      t.obj O.FAULT_LOST = if s.obj O.FAULT_ACKED < old.number then satAdd 32 (s.obj O.FAULT_LOST) 1 else s.obj O.FAULT_LOST)
end

