-- ==== Sys2Proof/Laws/Tab.lean ====
section
/-!
SUPPORT. Sparse tables and byte memories: a read after a write, and that every operation keeps the canonical form.
-/

namespace Sys2Proof.Machine

/-! ### Reading after writing -/

theorem tget_del_same {α : Type} (d : Nat → α) (t : Tab α) (k : Nat) : tget d (tdel t k) k = d k := by
  induction t with
  | nil => rfl
  | cons e t ih =>
    obtain ⟨j, v⟩ := e
    by_cases h : j = k
    · simpa [tdel, List.filter_cons, h] using ih
    · simpa [tdel, List.filter_cons, h, tget] using ih

theorem tget_del_other {α : Type} (d : Nat → α) (t : Tab α) {k a : Nat} (h : a ≠ k) : tget d (tdel t k) a = tget d t a := by
  induction t with
  | nil => rfl
  | cons e t ih =>
    obtain ⟨j, v⟩ := e
    by_cases hj : j = k
    · subst hj
      simpa [tdel, List.filter_cons, tget, Ne.symm h] using ih
    · by_cases ha : j = a
      · simp [tdel, List.filter_cons, tget, ha]
        rw [if_neg h]
        simp [tget]
      · simpa [tdel, List.filter_cons, hj, tget, ha] using ih

theorem tget_ins_same {α : Type} (d : Nat → α) (t : Tab α) (k : Nat) (v : α) (h : t.all fun e => e.1 != k) :
    tget d (tins t k v) k = v := by
  induction t with
  | nil => simp [tins, tget]
  | cons e t ih =>
    obtain ⟨j, w⟩ := e
    simp only [List.all_cons, Bool.and_eq_true, bne_iff_ne] at h
    unfold tins
    split
    · simp [tget]
    · simp only [tget, if_neg h.1]
      exact ih h.2

theorem tget_ins_other {α : Type} (d : Nat → α) (t : Tab α) {k a : Nat} (v : α) (h : a ≠ k) :
    tget d (tins t k v) a = tget d t a := by
  induction t with
  | nil => simp [tins, tget, Ne.symm h]
  | cons e t ih =>
    obtain ⟨j, w⟩ := e
    unfold tins
    split
    · simp [tget, Ne.symm h]
    · simp only [tget, ih]

theorem tdel_all {α : Type} (t : Tab α) (k : Nat) : (tdel t k).all fun e => e.1 != k := by
  simp [tdel, List.all_filter]

/-- What was written is read back. -/
@[simp] theorem tget_tput_same {α : Type} [DecidableEq α] (d : Nat → α) (t : Tab α) (k : Nat) (v : α) :
    tget d (tput d t k v) k = v := by
  unfold tput
  split
  · rename_i h
    rw [tget_del_same, h]
  · exact tget_ins_same d _ k v (tdel_all t k)

/-- A write leaves every other key as it was. -/
theorem tget_tput_other {α : Type} [DecidableEq α] (d : Nat → α) (t : Tab α) {k a : Nat} (v : α) (h : a ≠ k) :
    tget d (tput d t k v) a = tget d t a := by
  unfold tput
  split
  · exact tget_del_other d t h
  · rw [tget_ins_other d _ v h, tget_del_other d t h]

/-! ### The canonical form -/

theorem risingFrom_weaken {α : Type} {lo : Option Nat} {t : Tab α} (h : risingFrom lo t) : risingFrom none t := by
  cases t with
  | nil => rfl
  | cons e t =>
    simp only [risingFrom, Bool.and_eq_true] at h ⊢
    exact ⟨trivial, h.2⟩

theorem risingFrom_lower {α : Type} {a b : Nat} {t : Tab α} (hab : a ≤ b) (h : risingFrom (some b) t) : risingFrom (some a) t := by
  cases t with
  | nil => rfl
  | cons e t =>
    simp only [risingFrom, Bool.and_eq_true, decide_eq_true_eq] at h ⊢
    exact ⟨Nat.lt_of_le_of_lt hab h.1, h.2⟩

theorem risingFrom_filter {α : Type} (p : Nat × α → Bool) {lo : Option Nat} {t : Tab α} (h : risingFrom lo t) :
    risingFrom lo (t.filter p) := by
  induction t generalizing lo with
  | nil => exact h
  | cons e t ih =>
    obtain ⟨k, v⟩ := e
    simp only [risingFrom, Bool.and_eq_true] at h
    rw [List.filter_cons]
    split
    · simp only [risingFrom, Bool.and_eq_true]
      exact ⟨h.1, ih h.2⟩
    · have h2 := ih h.2
      cases lo with
      | none => exact risingFrom_weaken h2
      | some a => exact risingFrom_lower (Nat.le_of_lt (by simpa using h.1)) h2

theorem risingFrom_ins {α : Type} {lo : Option Nat} {t : Tab α} {k : Nat} {v : α} (h : risingFrom lo t)
    (hk : t.all fun e => e.1 != k) (hl : ∀ a, lo = some a → a < k) : risingFrom lo (tins t k v) := by
  induction t generalizing lo with
  | nil =>
    cases lo with
    | none => simp [tins, risingFrom]
    | some a => simpa [tins, risingFrom] using hl a rfl
  | cons e t ih =>
    obtain ⟨j, w⟩ := e
    simp only [risingFrom, Bool.and_eq_true] at h
    simp only [List.all_cons, Bool.and_eq_true, bne_iff_ne] at hk
    unfold tins
    split
    · rename_i hkj
      simp only [risingFrom, Bool.and_eq_true, decide_eq_true_eq]
      refine ⟨?_, hkj, h.2⟩
      cases lo with
      | none => rfl
      | some a => simpa using hl a rfl
    · rename_i hkj
      simp only [risingFrom, Bool.and_eq_true]
      refine ⟨h.1, ih h.2 hk.2 ?_⟩
      intro a ha
      cases ha
      have := hk.1
      omega

theorem tins_all {α : Type} (p : Nat × α → Bool) {t : Tab α} {k : Nat} {v : α} (h : t.all p) (hv : p (k, v)) :
    (tins t k v).all p := by
  induction t with
  | nil => simpa [tins] using hv
  | cons e t ih =>
    obtain ⟨j, w⟩ := e
    simp only [List.all_cons, Bool.and_eq_true] at h
    unfold tins
    split
    · simp only [List.all_cons, Bool.and_eq_true]
      exact ⟨hv, h.1, h.2⟩
    · simp only [List.all_cons, Bool.and_eq_true]
      exact ⟨h.1, ih h.2⟩

theorem Tab.wf_iff {α : Type} [DecidableEq α] (d : Nat → α) (t : Tab α) :
    Tab.wf d t = true ↔ risingFrom none t = true ∧ (t.all fun e => ! decide (e.2 = d e.1)) = true := by
  simp [Tab.wf]

/-- A part of a canonical table is canonical. -/
theorem filter_wf {α : Type} [DecidableEq α] (d : Nat → α) (p : Nat × α → Bool) {t : Tab α} (h : Tab.wf d t = true) :
    Tab.wf d (t.filter p) = true := by
  rw [Tab.wf_iff] at h ⊢
  refine ⟨risingFrom_filter p h.1, ?_⟩
  rw [List.all_filter]
  rw [List.all_eq_true] at h ⊢
  intro e he
  simp [h.2 e he]

/-- A write keeps the canonical form. -/
theorem tput_wf {α : Type} [DecidableEq α] (d : Nat → α) {t : Tab α} (h : Tab.wf d t = true) (k : Nat) (v : α) :
    Tab.wf d (tput d t k v) = true := by
  unfold tput
  have hd : Tab.wf d (tdel t k) = true := filter_wf d _ h
  split
  · exact hd
  · rename_i hv
    rw [Tab.wf_iff] at hd ⊢
    exact ⟨risingFrom_ins hd.1 (tdel_all t k) (by intro a ha; cases ha), tins_all _ hd.2 (by simpa using hv)⟩

/-! ### Byte memories -/

theorem mput_wf {m : Memory} (h : m.wf = true) (a : Nat) (b : Byte) : (mput m a b).wf = true := tput_wf _ h a b

theorem mwrite_wf {m : Memory} (h : m.wf = true) (a : Nat) (bs : List Byte) : (mwrite m a bs).wf = true := by
  induction bs generalizing m a with
  | nil => exact h
  | cons b bs ih => exact ih (mput_wf h a b) (a + 1)

theorem mputNat_wf {m : Memory} (h : m.wf = true) (a n v : Nat) : (mputNat m a n v).wf = true := mwrite_wf h a _

theorem mputBit_wf {m : Memory} (h : m.wf = true) (a i : Nat) (b : Bool) : (mputBit m a i b).wf = true := mput_wf h _ _

theorem mclear_wf {m : Memory} (h : m.wf = true) (lo hi : Nat) : (mclear m lo hi).wf = true := filter_wf _ _ h

theorem mlay_wf {m : Memory} (h : m.wf = true) (a : Nat) (img : Memory) : (mlay m a img).wf = true := by
  unfold mlay
  induction img generalizing m with
  | nil => exact h
  | cons c img ih => exact ih (mput_wf h (a + c.1) c.2)

theorem foldl_wf {α : Type} {f : Memory → α → Memory} {m : Memory} {l : List α} (h : m.wf = true)
    (hf : ∀ m a, m.wf = true → (f m a).wf = true) : (l.foldl f m).wf = true := by
  induction l generalizing m with
  | nil => exact h
  | cons a l ih => exact ih (hf m a h)

/-- A byte written is read back; every other address reads as before. -/
@[simp] theorem mget_mput_same (m : Memory) (a : Nat) (b : Byte) : mget (mput m a b) a = b := tget_tput_same _ m a b

theorem mget_mput_other (m : Memory) {a x : Nat} (b : Byte) (h : x ≠ a) : mget (mput m a b) x = mget m x :=
  tget_tput_other _ m b h

theorem mget_mwrite_other (m : Memory) (a : Nat) (bs : List Byte) {x : Nat} (h : x < a ∨ a + bs.length ≤ x) :
    mget (mwrite m a bs) x = mget m x := by
  induction bs generalizing m a with
  | nil => rfl
  | cons b bs ih =>
    simp only [List.length_cons] at h
    rw [mwrite, ih _ _ (by omega), mget_mput_other _ _ (by omega)]

theorem mread_mwrite (m : Memory) (a : Nat) (bs : List Byte) : mread (mwrite m a bs) a bs.length = bs := by
  induction bs generalizing m a with
  | nil => rfl
  | cons b bs ih =>
    simp only [List.length_cons, mread, mwrite]
    rw [mget_mwrite_other _ _ _ (by omega), mget_mput_same, ih]

end Sys2Proof.Machine
end

