-- ==== Sys2Proof/Laws/State.lean ====
section
/-!
SUPPORT. What each update of the state leaves as it was, field by field, and what it reads back.
-/

namespace Sys2Proof.Machine

/-! ### State.setObj -/

@[simp] theorem State.setObj_pending (s : State) (k v : Nat) : (s.setObj k v).pending = s.pending := rfl
@[simp] theorem State.setObj_shadow (s : State) (k v : Nat) : (s.setObj k v).shadow = s.shadow := rfl
@[simp] theorem State.setObj_clusters (s : State) (k v : Nat) : (s.setObj k v).clusters = s.clusters := rfl
@[simp] theorem State.setObj_sluice (s : State) (k v : Nat) : (s.setObj k v).sluice = s.sluice := rfl
@[simp] theorem State.setObj_net (s : State) (k v : Nat) : (s.setObj k v).net = s.net := rfl
@[simp] theorem State.setObj_hbm (s : State) (k v : Nat) : (s.setObj k v).hbm = s.hbm := rfl
@[simp] theorem State.setObj_retained (s : State) (k v : Nat) : (s.setObj k v).retained = s.retained := rfl
@[simp] theorem State.setObj_seam (s : State) (k v : Nat) : (s.setObj k v).seam = s.seam := rfl
@[simp] theorem State.setObj_tb (s : State) (k v : Nat) : (s.setObj k v).tb = s.tb := rfl
@[simp] theorem State.setObj_run (s : State) (k v : Nat) : (s.setObj k v).run = s.run := rfl
@[simp] theorem State.setObj_faults (s : State) (k v : Nat) : (s.setObj k v).faults = s.faults := rfl
@[simp] theorem State.setObj_hub (s : State) (k v : Nat) : (s.setObj k v).hub = s.hub := rfl
@[simp] theorem State.setObj_fabric (s : State) (k v : Nat) : (s.setObj k v).fabric = s.fabric := rfl
@[simp] theorem State.setObj_ties (s : State) (k v : Nat) : (s.setObj k v).ties = s.ties := rfl
@[simp] theorem State.setObj_slipDone (s : State) (k v : Nat) : (s.setObj k v).slipDone = s.slipDone := rfl
@[simp] theorem State.setObj_anchored (s : State) (k v : Nat) : (s.setObj k v).anchored = s.anchored := rfl
@[simp] theorem State.setObj_trig (s : State) (k v : Nat) : (s.setObj k v).trig = s.trig := rfl
@[simp] theorem State.setObj_trace (s : State) (k v : Nat) : (s.setObj k v).trace = s.trace := rfl
@[simp] theorem State.setObj_flash (s : State) (k v : Nat) : (s.setObj k v).flash = s.flash := rfl
@[simp] theorem State.setObj_clk (s : State) (k v : Nat) : (s.setObj k v).clk = s.clk := rfl
@[simp] theorem State.setObj_persist (s : State) (k v : Nat) : (s.setObj k v).persist = s.persist := rfl
@[simp] theorem State.setObj_keys (s : State) (k v : Nat) : (s.setObj k v).keys = s.keys := rfl
@[simp] theorem State.setObj_tap (s : State) (k v : Nat) : (s.setObj k v).tap = s.tap := rfl
@[simp] theorem State.setObj_host (s : State) (k v : Nat) : (s.setObj k v).host = s.host := rfl
@[simp] theorem State.setObj_emcyQ (s : State) (k v : Nat) : (s.setObj k v).emcyQ = s.emcyQ := rfl
@[simp] theorem State.setObj_emcyDropped (s : State) (k v : Nat) : (s.setObj k v).emcyDropped = s.emcyDropped := rfl
@[simp] theorem State.setObj_vecPending (s : State) (k v : Nat) : (s.setObj k v).vecPending = s.vecPending := rfl
@[simp] theorem State.setObj_vecMasked (s : State) (k v : Nat) : (s.setObj k v).vecMasked = s.vecMasked := rfl
@[simp] theorem State.setObj_sent (s : State) (k v : Nat) : (s.setObj k v).sent = s.sent := rfl
@[simp] theorem State.setObj_fresh (s : State) (k v : Nat) : (s.setObj k v).fresh = s.fresh := rfl

/-! ### State.draw -/

@[simp] theorem State.draw_pending (s : State) : (s.draw).pending = s.pending := rfl
@[simp] theorem State.draw_dict (s : State) : (s.draw).dict = s.dict := rfl
@[simp] theorem State.draw_shadow (s : State) : (s.draw).shadow = s.shadow := rfl
@[simp] theorem State.draw_clusters (s : State) : (s.draw).clusters = s.clusters := rfl
@[simp] theorem State.draw_sluice (s : State) : (s.draw).sluice = s.sluice := rfl
@[simp] theorem State.draw_net (s : State) : (s.draw).net = s.net := rfl
@[simp] theorem State.draw_hbm (s : State) : (s.draw).hbm = s.hbm := rfl
@[simp] theorem State.draw_retained (s : State) : (s.draw).retained = s.retained := rfl
@[simp] theorem State.draw_seam (s : State) : (s.draw).seam = s.seam := rfl
@[simp] theorem State.draw_tb (s : State) : (s.draw).tb = s.tb := rfl
@[simp] theorem State.draw_run (s : State) : (s.draw).run = s.run := rfl
@[simp] theorem State.draw_faults (s : State) : (s.draw).faults = s.faults := rfl
@[simp] theorem State.draw_hub (s : State) : (s.draw).hub = s.hub := rfl
@[simp] theorem State.draw_fabric (s : State) : (s.draw).fabric = s.fabric := rfl
@[simp] theorem State.draw_ties (s : State) : (s.draw).ties = s.ties := rfl
@[simp] theorem State.draw_slipDone (s : State) : (s.draw).slipDone = s.slipDone := rfl
@[simp] theorem State.draw_anchored (s : State) : (s.draw).anchored = s.anchored := rfl
@[simp] theorem State.draw_trig (s : State) : (s.draw).trig = s.trig := rfl
@[simp] theorem State.draw_trace (s : State) : (s.draw).trace = s.trace := rfl
@[simp] theorem State.draw_flash (s : State) : (s.draw).flash = s.flash := rfl
@[simp] theorem State.draw_clk (s : State) : (s.draw).clk = s.clk := rfl
@[simp] theorem State.draw_persist (s : State) : (s.draw).persist = s.persist := rfl
@[simp] theorem State.draw_keys (s : State) : (s.draw).keys = s.keys := rfl
@[simp] theorem State.draw_tap (s : State) : (s.draw).tap = s.tap := rfl
@[simp] theorem State.draw_host (s : State) : (s.draw).host = s.host := rfl
@[simp] theorem State.draw_emcyQ (s : State) : (s.draw).emcyQ = s.emcyQ := rfl
@[simp] theorem State.draw_emcyDropped (s : State) : (s.draw).emcyDropped = s.emcyDropped := rfl
@[simp] theorem State.draw_vecPending (s : State) : (s.draw).vecPending = s.vecPending := rfl
@[simp] theorem State.draw_vecMasked (s : State) : (s.draw).vecMasked = s.vecMasked := rfl
@[simp] theorem State.draw_sent (s : State) : (s.draw).sent = s.sent := rfl

/-! ### State.emit -/

@[simp] theorem State.emit_pending (s : State) (m : Sent) : (s.emit m).pending = s.pending := rfl
@[simp] theorem State.emit_dict (s : State) (m : Sent) : (s.emit m).dict = s.dict := rfl
@[simp] theorem State.emit_shadow (s : State) (m : Sent) : (s.emit m).shadow = s.shadow := rfl
@[simp] theorem State.emit_clusters (s : State) (m : Sent) : (s.emit m).clusters = s.clusters := rfl
@[simp] theorem State.emit_sluice (s : State) (m : Sent) : (s.emit m).sluice = s.sluice := rfl
@[simp] theorem State.emit_net (s : State) (m : Sent) : (s.emit m).net = s.net := rfl
@[simp] theorem State.emit_hbm (s : State) (m : Sent) : (s.emit m).hbm = s.hbm := rfl
@[simp] theorem State.emit_retained (s : State) (m : Sent) : (s.emit m).retained = s.retained := rfl
@[simp] theorem State.emit_seam (s : State) (m : Sent) : (s.emit m).seam = s.seam := rfl
@[simp] theorem State.emit_tb (s : State) (m : Sent) : (s.emit m).tb = s.tb := rfl
@[simp] theorem State.emit_run (s : State) (m : Sent) : (s.emit m).run = s.run := rfl
@[simp] theorem State.emit_faults (s : State) (m : Sent) : (s.emit m).faults = s.faults := rfl
@[simp] theorem State.emit_hub (s : State) (m : Sent) : (s.emit m).hub = s.hub := rfl
@[simp] theorem State.emit_fabric (s : State) (m : Sent) : (s.emit m).fabric = s.fabric := rfl
@[simp] theorem State.emit_ties (s : State) (m : Sent) : (s.emit m).ties = s.ties := rfl
@[simp] theorem State.emit_slipDone (s : State) (m : Sent) : (s.emit m).slipDone = s.slipDone := rfl
@[simp] theorem State.emit_anchored (s : State) (m : Sent) : (s.emit m).anchored = s.anchored := rfl
@[simp] theorem State.emit_trig (s : State) (m : Sent) : (s.emit m).trig = s.trig := rfl
@[simp] theorem State.emit_trace (s : State) (m : Sent) : (s.emit m).trace = s.trace := rfl
@[simp] theorem State.emit_flash (s : State) (m : Sent) : (s.emit m).flash = s.flash := rfl
@[simp] theorem State.emit_clk (s : State) (m : Sent) : (s.emit m).clk = s.clk := rfl
@[simp] theorem State.emit_persist (s : State) (m : Sent) : (s.emit m).persist = s.persist := rfl
@[simp] theorem State.emit_keys (s : State) (m : Sent) : (s.emit m).keys = s.keys := rfl
@[simp] theorem State.emit_tap (s : State) (m : Sent) : (s.emit m).tap = s.tap := rfl
@[simp] theorem State.emit_host (s : State) (m : Sent) : (s.emit m).host = s.host := rfl
@[simp] theorem State.emit_emcyQ (s : State) (m : Sent) : (s.emit m).emcyQ = s.emcyQ := rfl
@[simp] theorem State.emit_emcyDropped (s : State) (m : Sent) : (s.emit m).emcyDropped = s.emcyDropped := rfl
@[simp] theorem State.emit_vecPending (s : State) (m : Sent) : (s.emit m).vecPending = s.vecPending := rfl
@[simp] theorem State.emit_vecMasked (s : State) (m : Sent) : (s.emit m).vecMasked = s.vecMasked := rfl
@[simp] theorem State.emit_fresh (s : State) (m : Sent) : (s.emit m).fresh = s.fresh := rfl

/-! ### State.setCl -/

@[simp] theorem State.setCl_pending (s : State) (cid : Nat) (c : Cluster) : (s.setCl cid c).pending = s.pending := rfl
@[simp] theorem State.setCl_dict (s : State) (cid : Nat) (c : Cluster) : (s.setCl cid c).dict = s.dict := rfl
@[simp] theorem State.setCl_shadow (s : State) (cid : Nat) (c : Cluster) : (s.setCl cid c).shadow = s.shadow := rfl
@[simp] theorem State.setCl_sluice (s : State) (cid : Nat) (c : Cluster) : (s.setCl cid c).sluice = s.sluice := rfl
@[simp] theorem State.setCl_net (s : State) (cid : Nat) (c : Cluster) : (s.setCl cid c).net = s.net := rfl
@[simp] theorem State.setCl_hbm (s : State) (cid : Nat) (c : Cluster) : (s.setCl cid c).hbm = s.hbm := rfl
@[simp] theorem State.setCl_retained (s : State) (cid : Nat) (c : Cluster) : (s.setCl cid c).retained = s.retained := rfl
@[simp] theorem State.setCl_seam (s : State) (cid : Nat) (c : Cluster) : (s.setCl cid c).seam = s.seam := rfl
@[simp] theorem State.setCl_tb (s : State) (cid : Nat) (c : Cluster) : (s.setCl cid c).tb = s.tb := rfl
@[simp] theorem State.setCl_run (s : State) (cid : Nat) (c : Cluster) : (s.setCl cid c).run = s.run := rfl
@[simp] theorem State.setCl_faults (s : State) (cid : Nat) (c : Cluster) : (s.setCl cid c).faults = s.faults := rfl
@[simp] theorem State.setCl_hub (s : State) (cid : Nat) (c : Cluster) : (s.setCl cid c).hub = s.hub := rfl
@[simp] theorem State.setCl_fabric (s : State) (cid : Nat) (c : Cluster) : (s.setCl cid c).fabric = s.fabric := rfl
@[simp] theorem State.setCl_ties (s : State) (cid : Nat) (c : Cluster) : (s.setCl cid c).ties = s.ties := rfl
@[simp] theorem State.setCl_slipDone (s : State) (cid : Nat) (c : Cluster) : (s.setCl cid c).slipDone = s.slipDone := rfl
@[simp] theorem State.setCl_anchored (s : State) (cid : Nat) (c : Cluster) : (s.setCl cid c).anchored = s.anchored := rfl
@[simp] theorem State.setCl_trig (s : State) (cid : Nat) (c : Cluster) : (s.setCl cid c).trig = s.trig := rfl
@[simp] theorem State.setCl_trace (s : State) (cid : Nat) (c : Cluster) : (s.setCl cid c).trace = s.trace := rfl
@[simp] theorem State.setCl_flash (s : State) (cid : Nat) (c : Cluster) : (s.setCl cid c).flash = s.flash := rfl
@[simp] theorem State.setCl_clk (s : State) (cid : Nat) (c : Cluster) : (s.setCl cid c).clk = s.clk := rfl
@[simp] theorem State.setCl_persist (s : State) (cid : Nat) (c : Cluster) : (s.setCl cid c).persist = s.persist := rfl
@[simp] theorem State.setCl_keys (s : State) (cid : Nat) (c : Cluster) : (s.setCl cid c).keys = s.keys := rfl
@[simp] theorem State.setCl_tap (s : State) (cid : Nat) (c : Cluster) : (s.setCl cid c).tap = s.tap := rfl
@[simp] theorem State.setCl_host (s : State) (cid : Nat) (c : Cluster) : (s.setCl cid c).host = s.host := rfl
@[simp] theorem State.setCl_emcyQ (s : State) (cid : Nat) (c : Cluster) : (s.setCl cid c).emcyQ = s.emcyQ := rfl
@[simp] theorem State.setCl_emcyDropped (s : State) (cid : Nat) (c : Cluster) : (s.setCl cid c).emcyDropped = s.emcyDropped := rfl
@[simp] theorem State.setCl_vecPending (s : State) (cid : Nat) (c : Cluster) : (s.setCl cid c).vecPending = s.vecPending := rfl
@[simp] theorem State.setCl_vecMasked (s : State) (cid : Nat) (c : Cluster) : (s.setCl cid c).vecMasked = s.vecMasked := rfl
@[simp] theorem State.setCl_sent (s : State) (cid : Nat) (c : Cluster) : (s.setCl cid c).sent = s.sent := rfl
@[simp] theorem State.setCl_fresh (s : State) (cid : Nat) (c : Cluster) : (s.setCl cid c).fresh = s.fresh := rfl

/-! ### State.setLink -/

@[simp] theorem State.setLink_pending (s : State) (l : Nat) (k : SeamLink) : (s.setLink l k).pending = s.pending := rfl
@[simp] theorem State.setLink_dict (s : State) (l : Nat) (k : SeamLink) : (s.setLink l k).dict = s.dict := rfl
@[simp] theorem State.setLink_shadow (s : State) (l : Nat) (k : SeamLink) : (s.setLink l k).shadow = s.shadow := rfl
@[simp] theorem State.setLink_clusters (s : State) (l : Nat) (k : SeamLink) : (s.setLink l k).clusters = s.clusters := rfl
@[simp] theorem State.setLink_sluice (s : State) (l : Nat) (k : SeamLink) : (s.setLink l k).sluice = s.sluice := rfl
@[simp] theorem State.setLink_net (s : State) (l : Nat) (k : SeamLink) : (s.setLink l k).net = s.net := rfl
@[simp] theorem State.setLink_hbm (s : State) (l : Nat) (k : SeamLink) : (s.setLink l k).hbm = s.hbm := rfl
@[simp] theorem State.setLink_retained (s : State) (l : Nat) (k : SeamLink) : (s.setLink l k).retained = s.retained := rfl
@[simp] theorem State.setLink_tb (s : State) (l : Nat) (k : SeamLink) : (s.setLink l k).tb = s.tb := rfl
@[simp] theorem State.setLink_run (s : State) (l : Nat) (k : SeamLink) : (s.setLink l k).run = s.run := rfl
@[simp] theorem State.setLink_faults (s : State) (l : Nat) (k : SeamLink) : (s.setLink l k).faults = s.faults := rfl
@[simp] theorem State.setLink_hub (s : State) (l : Nat) (k : SeamLink) : (s.setLink l k).hub = s.hub := rfl
@[simp] theorem State.setLink_fabric (s : State) (l : Nat) (k : SeamLink) : (s.setLink l k).fabric = s.fabric := rfl
@[simp] theorem State.setLink_ties (s : State) (l : Nat) (k : SeamLink) : (s.setLink l k).ties = s.ties := rfl
@[simp] theorem State.setLink_slipDone (s : State) (l : Nat) (k : SeamLink) : (s.setLink l k).slipDone = s.slipDone := rfl
@[simp] theorem State.setLink_anchored (s : State) (l : Nat) (k : SeamLink) : (s.setLink l k).anchored = s.anchored := rfl
@[simp] theorem State.setLink_trig (s : State) (l : Nat) (k : SeamLink) : (s.setLink l k).trig = s.trig := rfl
@[simp] theorem State.setLink_trace (s : State) (l : Nat) (k : SeamLink) : (s.setLink l k).trace = s.trace := rfl
@[simp] theorem State.setLink_flash (s : State) (l : Nat) (k : SeamLink) : (s.setLink l k).flash = s.flash := rfl
@[simp] theorem State.setLink_clk (s : State) (l : Nat) (k : SeamLink) : (s.setLink l k).clk = s.clk := rfl
@[simp] theorem State.setLink_persist (s : State) (l : Nat) (k : SeamLink) : (s.setLink l k).persist = s.persist := rfl
@[simp] theorem State.setLink_keys (s : State) (l : Nat) (k : SeamLink) : (s.setLink l k).keys = s.keys := rfl
@[simp] theorem State.setLink_tap (s : State) (l : Nat) (k : SeamLink) : (s.setLink l k).tap = s.tap := rfl
@[simp] theorem State.setLink_host (s : State) (l : Nat) (k : SeamLink) : (s.setLink l k).host = s.host := rfl
@[simp] theorem State.setLink_emcyQ (s : State) (l : Nat) (k : SeamLink) : (s.setLink l k).emcyQ = s.emcyQ := rfl
@[simp] theorem State.setLink_emcyDropped (s : State) (l : Nat) (k : SeamLink) : (s.setLink l k).emcyDropped = s.emcyDropped := rfl
@[simp] theorem State.setLink_vecPending (s : State) (l : Nat) (k : SeamLink) : (s.setLink l k).vecPending = s.vecPending := rfl
@[simp] theorem State.setLink_vecMasked (s : State) (l : Nat) (k : SeamLink) : (s.setLink l k).vecMasked = s.vecMasked := rfl
@[simp] theorem State.setLink_sent (s : State) (l : Nat) (k : SeamLink) : (s.setLink l k).sent = s.sent := rfl
@[simp] theorem State.setLink_fresh (s : State) (l : Nat) (k : SeamLink) : (s.setLink l k).fresh = s.fresh := rfl

/-! ### State.nextGen -/

@[simp] theorem State.nextGen_pending (s : State) (t : Nat) : (s.nextGen t).pending = s.pending := rfl
@[simp] theorem State.nextGen_dict (s : State) (t : Nat) : (s.nextGen t).dict = s.dict := rfl
@[simp] theorem State.nextGen_shadow (s : State) (t : Nat) : (s.nextGen t).shadow = s.shadow := rfl
@[simp] theorem State.nextGen_clusters (s : State) (t : Nat) : (s.nextGen t).clusters = s.clusters := rfl
@[simp] theorem State.nextGen_sluice (s : State) (t : Nat) : (s.nextGen t).sluice = s.sluice := rfl
@[simp] theorem State.nextGen_hbm (s : State) (t : Nat) : (s.nextGen t).hbm = s.hbm := rfl
@[simp] theorem State.nextGen_retained (s : State) (t : Nat) : (s.nextGen t).retained = s.retained := rfl
@[simp] theorem State.nextGen_seam (s : State) (t : Nat) : (s.nextGen t).seam = s.seam := rfl
@[simp] theorem State.nextGen_tb (s : State) (t : Nat) : (s.nextGen t).tb = s.tb := rfl
@[simp] theorem State.nextGen_run (s : State) (t : Nat) : (s.nextGen t).run = s.run := rfl
@[simp] theorem State.nextGen_faults (s : State) (t : Nat) : (s.nextGen t).faults = s.faults := rfl
@[simp] theorem State.nextGen_hub (s : State) (t : Nat) : (s.nextGen t).hub = s.hub := rfl
@[simp] theorem State.nextGen_fabric (s : State) (t : Nat) : (s.nextGen t).fabric = s.fabric := rfl
@[simp] theorem State.nextGen_ties (s : State) (t : Nat) : (s.nextGen t).ties = s.ties := rfl
@[simp] theorem State.nextGen_slipDone (s : State) (t : Nat) : (s.nextGen t).slipDone = s.slipDone := rfl
@[simp] theorem State.nextGen_anchored (s : State) (t : Nat) : (s.nextGen t).anchored = s.anchored := rfl
@[simp] theorem State.nextGen_trig (s : State) (t : Nat) : (s.nextGen t).trig = s.trig := rfl
@[simp] theorem State.nextGen_trace (s : State) (t : Nat) : (s.nextGen t).trace = s.trace := rfl
@[simp] theorem State.nextGen_flash (s : State) (t : Nat) : (s.nextGen t).flash = s.flash := rfl
@[simp] theorem State.nextGen_clk (s : State) (t : Nat) : (s.nextGen t).clk = s.clk := rfl
@[simp] theorem State.nextGen_persist (s : State) (t : Nat) : (s.nextGen t).persist = s.persist := rfl
@[simp] theorem State.nextGen_keys (s : State) (t : Nat) : (s.nextGen t).keys = s.keys := rfl
@[simp] theorem State.nextGen_tap (s : State) (t : Nat) : (s.nextGen t).tap = s.tap := rfl
@[simp] theorem State.nextGen_host (s : State) (t : Nat) : (s.nextGen t).host = s.host := rfl
@[simp] theorem State.nextGen_emcyQ (s : State) (t : Nat) : (s.nextGen t).emcyQ = s.emcyQ := rfl
@[simp] theorem State.nextGen_emcyDropped (s : State) (t : Nat) : (s.nextGen t).emcyDropped = s.emcyDropped := rfl
@[simp] theorem State.nextGen_vecPending (s : State) (t : Nat) : (s.nextGen t).vecPending = s.vecPending := rfl
@[simp] theorem State.nextGen_vecMasked (s : State) (t : Nat) : (s.nextGen t).vecMasked = s.vecMasked := rfl
@[simp] theorem State.nextGen_sent (s : State) (t : Nat) : (s.nextGen t).sent = s.sent := rfl
@[simp] theorem State.nextGen_fresh (s : State) (t : Nat) : (s.nextGen t).fresh = s.fresh := rfl
@[simp] theorem State.nextGen_net_links (s : State) (t : Nat) : (s.nextGen t).net.links = s.net.links := rfl
@[simp] theorem State.nextGen_net_arrived (s : State) (t : Nat) : (s.nextGen t).net.arrived = s.net.arrived := rfl
@[simp] theorem State.nextGen_net_tags (s : State) (t : Nat) : (s.nextGen t).net.tags = s.net.tags := rfl
@[simp] theorem State.nextGen_net_held (s : State) (t : Nat) : (s.nextGen t).net.held = s.net.held := rfl
@[simp] theorem State.nextGen_net_done (s : State) (t : Nat) : (s.nextGen t).net.done = s.net.done := rfl

/-! ### State.setOutLink -/

@[simp] theorem State.setOutLink_pending (s : State) (k : Nat) (o : OutLink) : (s.setOutLink k o).pending = s.pending := rfl
@[simp] theorem State.setOutLink_dict (s : State) (k : Nat) (o : OutLink) : (s.setOutLink k o).dict = s.dict := rfl
@[simp] theorem State.setOutLink_shadow (s : State) (k : Nat) (o : OutLink) : (s.setOutLink k o).shadow = s.shadow := rfl
@[simp] theorem State.setOutLink_clusters (s : State) (k : Nat) (o : OutLink) : (s.setOutLink k o).clusters = s.clusters := rfl
@[simp] theorem State.setOutLink_sluice (s : State) (k : Nat) (o : OutLink) : (s.setOutLink k o).sluice = s.sluice := rfl
@[simp] theorem State.setOutLink_hbm (s : State) (k : Nat) (o : OutLink) : (s.setOutLink k o).hbm = s.hbm := rfl
@[simp] theorem State.setOutLink_retained (s : State) (k : Nat) (o : OutLink) : (s.setOutLink k o).retained = s.retained := rfl
@[simp] theorem State.setOutLink_seam (s : State) (k : Nat) (o : OutLink) : (s.setOutLink k o).seam = s.seam := rfl
@[simp] theorem State.setOutLink_tb (s : State) (k : Nat) (o : OutLink) : (s.setOutLink k o).tb = s.tb := rfl
@[simp] theorem State.setOutLink_run (s : State) (k : Nat) (o : OutLink) : (s.setOutLink k o).run = s.run := rfl
@[simp] theorem State.setOutLink_faults (s : State) (k : Nat) (o : OutLink) : (s.setOutLink k o).faults = s.faults := rfl
@[simp] theorem State.setOutLink_hub (s : State) (k : Nat) (o : OutLink) : (s.setOutLink k o).hub = s.hub := rfl
@[simp] theorem State.setOutLink_fabric (s : State) (k : Nat) (o : OutLink) : (s.setOutLink k o).fabric = s.fabric := rfl
@[simp] theorem State.setOutLink_ties (s : State) (k : Nat) (o : OutLink) : (s.setOutLink k o).ties = s.ties := rfl
@[simp] theorem State.setOutLink_slipDone (s : State) (k : Nat) (o : OutLink) : (s.setOutLink k o).slipDone = s.slipDone := rfl
@[simp] theorem State.setOutLink_anchored (s : State) (k : Nat) (o : OutLink) : (s.setOutLink k o).anchored = s.anchored := rfl
@[simp] theorem State.setOutLink_trig (s : State) (k : Nat) (o : OutLink) : (s.setOutLink k o).trig = s.trig := rfl
@[simp] theorem State.setOutLink_trace (s : State) (k : Nat) (o : OutLink) : (s.setOutLink k o).trace = s.trace := rfl
@[simp] theorem State.setOutLink_flash (s : State) (k : Nat) (o : OutLink) : (s.setOutLink k o).flash = s.flash := rfl
@[simp] theorem State.setOutLink_clk (s : State) (k : Nat) (o : OutLink) : (s.setOutLink k o).clk = s.clk := rfl
@[simp] theorem State.setOutLink_persist (s : State) (k : Nat) (o : OutLink) : (s.setOutLink k o).persist = s.persist := rfl
@[simp] theorem State.setOutLink_keys (s : State) (k : Nat) (o : OutLink) : (s.setOutLink k o).keys = s.keys := rfl
@[simp] theorem State.setOutLink_tap (s : State) (k : Nat) (o : OutLink) : (s.setOutLink k o).tap = s.tap := rfl
@[simp] theorem State.setOutLink_host (s : State) (k : Nat) (o : OutLink) : (s.setOutLink k o).host = s.host := rfl
@[simp] theorem State.setOutLink_emcyQ (s : State) (k : Nat) (o : OutLink) : (s.setOutLink k o).emcyQ = s.emcyQ := rfl
@[simp] theorem State.setOutLink_emcyDropped (s : State) (k : Nat) (o : OutLink) : (s.setOutLink k o).emcyDropped = s.emcyDropped := rfl
@[simp] theorem State.setOutLink_vecPending (s : State) (k : Nat) (o : OutLink) : (s.setOutLink k o).vecPending = s.vecPending := rfl
@[simp] theorem State.setOutLink_vecMasked (s : State) (k : Nat) (o : OutLink) : (s.setOutLink k o).vecMasked = s.vecMasked := rfl
@[simp] theorem State.setOutLink_sent (s : State) (k : Nat) (o : OutLink) : (s.setOutLink k o).sent = s.sent := rfl
@[simp] theorem State.setOutLink_fresh (s : State) (k : Nat) (o : OutLink) : (s.setOutLink k o).fresh = s.fresh := rfl
@[simp] theorem State.setOutLink_net_arrived (s : State) (k : Nat) (o : OutLink) : (s.setOutLink k o).net.arrived = s.net.arrived := rfl
@[simp] theorem State.setOutLink_net_tags (s : State) (k : Nat) (o : OutLink) : (s.setOutLink k o).net.tags = s.net.tags := rfl
@[simp] theorem State.setOutLink_net_gens (s : State) (k : Nat) (o : OutLink) : (s.setOutLink k o).net.gens = s.net.gens := rfl
@[simp] theorem State.setOutLink_net_held (s : State) (k : Nat) (o : OutLink) : (s.setOutLink k o).net.held = s.net.held := rfl
@[simp] theorem State.setOutLink_net_done (s : State) (k : Nat) (o : OutLink) : (s.setOutLink k o).net.done = s.net.done := rfl

/-! ### State.hbmWrite -/

@[simp] theorem State.hbmWrite_pending (s : State) (a : Nat) (data : List Byte) : (s.hbmWrite a data).pending = s.pending := rfl
@[simp] theorem State.hbmWrite_dict (s : State) (a : Nat) (data : List Byte) : (s.hbmWrite a data).dict = s.dict := rfl
@[simp] theorem State.hbmWrite_shadow (s : State) (a : Nat) (data : List Byte) : (s.hbmWrite a data).shadow = s.shadow := rfl
@[simp] theorem State.hbmWrite_clusters (s : State) (a : Nat) (data : List Byte) : (s.hbmWrite a data).clusters = s.clusters := rfl
@[simp] theorem State.hbmWrite_sluice (s : State) (a : Nat) (data : List Byte) : (s.hbmWrite a data).sluice = s.sluice := rfl
@[simp] theorem State.hbmWrite_net (s : State) (a : Nat) (data : List Byte) : (s.hbmWrite a data).net = s.net := rfl
@[simp] theorem State.hbmWrite_retained (s : State) (a : Nat) (data : List Byte) : (s.hbmWrite a data).retained = s.retained := rfl
@[simp] theorem State.hbmWrite_seam (s : State) (a : Nat) (data : List Byte) : (s.hbmWrite a data).seam = s.seam := rfl
@[simp] theorem State.hbmWrite_tb (s : State) (a : Nat) (data : List Byte) : (s.hbmWrite a data).tb = s.tb := rfl
@[simp] theorem State.hbmWrite_run (s : State) (a : Nat) (data : List Byte) : (s.hbmWrite a data).run = s.run := rfl
@[simp] theorem State.hbmWrite_faults (s : State) (a : Nat) (data : List Byte) : (s.hbmWrite a data).faults = s.faults := rfl
@[simp] theorem State.hbmWrite_hub (s : State) (a : Nat) (data : List Byte) : (s.hbmWrite a data).hub = s.hub := rfl
@[simp] theorem State.hbmWrite_fabric (s : State) (a : Nat) (data : List Byte) : (s.hbmWrite a data).fabric = s.fabric := rfl
@[simp] theorem State.hbmWrite_ties (s : State) (a : Nat) (data : List Byte) : (s.hbmWrite a data).ties = s.ties := rfl
@[simp] theorem State.hbmWrite_slipDone (s : State) (a : Nat) (data : List Byte) : (s.hbmWrite a data).slipDone = s.slipDone := rfl
@[simp] theorem State.hbmWrite_anchored (s : State) (a : Nat) (data : List Byte) : (s.hbmWrite a data).anchored = s.anchored := rfl
@[simp] theorem State.hbmWrite_trig (s : State) (a : Nat) (data : List Byte) : (s.hbmWrite a data).trig = s.trig := rfl
@[simp] theorem State.hbmWrite_trace (s : State) (a : Nat) (data : List Byte) : (s.hbmWrite a data).trace = s.trace := rfl
@[simp] theorem State.hbmWrite_flash (s : State) (a : Nat) (data : List Byte) : (s.hbmWrite a data).flash = s.flash := rfl
@[simp] theorem State.hbmWrite_clk (s : State) (a : Nat) (data : List Byte) : (s.hbmWrite a data).clk = s.clk := rfl
@[simp] theorem State.hbmWrite_persist (s : State) (a : Nat) (data : List Byte) : (s.hbmWrite a data).persist = s.persist := rfl
@[simp] theorem State.hbmWrite_keys (s : State) (a : Nat) (data : List Byte) : (s.hbmWrite a data).keys = s.keys := rfl
@[simp] theorem State.hbmWrite_tap (s : State) (a : Nat) (data : List Byte) : (s.hbmWrite a data).tap = s.tap := rfl
@[simp] theorem State.hbmWrite_host (s : State) (a : Nat) (data : List Byte) : (s.hbmWrite a data).host = s.host := rfl
@[simp] theorem State.hbmWrite_emcyQ (s : State) (a : Nat) (data : List Byte) : (s.hbmWrite a data).emcyQ = s.emcyQ := rfl
@[simp] theorem State.hbmWrite_emcyDropped (s : State) (a : Nat) (data : List Byte) : (s.hbmWrite a data).emcyDropped = s.emcyDropped := rfl
@[simp] theorem State.hbmWrite_vecPending (s : State) (a : Nat) (data : List Byte) : (s.hbmWrite a data).vecPending = s.vecPending := rfl
@[simp] theorem State.hbmWrite_vecMasked (s : State) (a : Nat) (data : List Byte) : (s.hbmWrite a data).vecMasked = s.vecMasked := rfl
@[simp] theorem State.hbmWrite_sent (s : State) (a : Nat) (data : List Byte) : (s.hbmWrite a data).sent = s.sent := rfl
@[simp] theorem State.hbmWrite_fresh (s : State) (a : Nat) (data : List Byte) : (s.hbmWrite a data).fresh = s.fresh := rfl
@[simp] theorem State.hbmWrite_hbm_ovbHead (s : State) (a : Nat) (data : List Byte) : (s.hbmWrite a data).hbm.ovbHead = s.hbm.ovbHead := rfl
@[simp] theorem State.hbmWrite_hbm_ovb (s : State) (a : Nat) (data : List Byte) : (s.hbmWrite a data).hbm.ovb = s.hbm.ovb := rfl
@[simp] theorem State.hbmWrite_hbm_refreshing (s : State) (a : Nat) (data : List Byte) : (s.hbmWrite a data).hbm.refreshing = s.hbm.refreshing := rfl
@[simp] theorem State.hbmWrite_hbm_waited (s : State) (a : Nat) (data : List Byte) : (s.hbmWrite a data).hbm.waited = s.hbm.waited := rfl
@[simp] theorem State.hbmWrite_hbm_selfRefresh (s : State) (a : Nat) (data : List Byte) : (s.hbmWrite a data).hbm.selfRefresh = s.hbm.selfRefresh := rfl
@[simp] theorem State.hbmWrite_hbm_replay (s : State) (a : Nat) (data : List Byte) : (s.hbmWrite a data).hbm.replay = s.hbm.replay := rfl
@[simp] theorem State.hbmWrite_hbm_replayHead (s : State) (a : Nat) (data : List Byte) : (s.hbmWrite a data).hbm.replayHead = s.hbm.replayHead := rfl
@[simp] theorem State.hbmWrite_hbm_zeroing (s : State) (a : Nat) (data : List Byte) : (s.hbmWrite a data).hbm.zeroing = s.hbm.zeroing := rfl

/-! ### State.setCore -/

@[simp] theorem State.setCore_pending (s : State) (c : Nat) (k : Core) : (s.setCore c k).pending = s.pending := rfl
@[simp] theorem State.setCore_dict (s : State) (c : Nat) (k : Core) : (s.setCore c k).dict = s.dict := rfl
@[simp] theorem State.setCore_shadow (s : State) (c : Nat) (k : Core) : (s.setCore c k).shadow = s.shadow := rfl
@[simp] theorem State.setCore_clusters (s : State) (c : Nat) (k : Core) : (s.setCore c k).clusters = s.clusters := rfl
@[simp] theorem State.setCore_sluice (s : State) (c : Nat) (k : Core) : (s.setCore c k).sluice = s.sluice := rfl
@[simp] theorem State.setCore_net (s : State) (c : Nat) (k : Core) : (s.setCore c k).net = s.net := rfl
@[simp] theorem State.setCore_hbm (s : State) (c : Nat) (k : Core) : (s.setCore c k).hbm = s.hbm := rfl
@[simp] theorem State.setCore_retained (s : State) (c : Nat) (k : Core) : (s.setCore c k).retained = s.retained := rfl
@[simp] theorem State.setCore_seam (s : State) (c : Nat) (k : Core) : (s.setCore c k).seam = s.seam := rfl
@[simp] theorem State.setCore_tb (s : State) (c : Nat) (k : Core) : (s.setCore c k).tb = s.tb := rfl
@[simp] theorem State.setCore_run (s : State) (c : Nat) (k : Core) : (s.setCore c k).run = s.run := rfl
@[simp] theorem State.setCore_faults (s : State) (c : Nat) (k : Core) : (s.setCore c k).faults = s.faults := rfl
@[simp] theorem State.setCore_fabric (s : State) (c : Nat) (k : Core) : (s.setCore c k).fabric = s.fabric := rfl
@[simp] theorem State.setCore_ties (s : State) (c : Nat) (k : Core) : (s.setCore c k).ties = s.ties := rfl
@[simp] theorem State.setCore_slipDone (s : State) (c : Nat) (k : Core) : (s.setCore c k).slipDone = s.slipDone := rfl
@[simp] theorem State.setCore_anchored (s : State) (c : Nat) (k : Core) : (s.setCore c k).anchored = s.anchored := rfl
@[simp] theorem State.setCore_trig (s : State) (c : Nat) (k : Core) : (s.setCore c k).trig = s.trig := rfl
@[simp] theorem State.setCore_trace (s : State) (c : Nat) (k : Core) : (s.setCore c k).trace = s.trace := rfl
@[simp] theorem State.setCore_flash (s : State) (c : Nat) (k : Core) : (s.setCore c k).flash = s.flash := rfl
@[simp] theorem State.setCore_clk (s : State) (c : Nat) (k : Core) : (s.setCore c k).clk = s.clk := rfl
@[simp] theorem State.setCore_persist (s : State) (c : Nat) (k : Core) : (s.setCore c k).persist = s.persist := rfl
@[simp] theorem State.setCore_keys (s : State) (c : Nat) (k : Core) : (s.setCore c k).keys = s.keys := rfl
@[simp] theorem State.setCore_tap (s : State) (c : Nat) (k : Core) : (s.setCore c k).tap = s.tap := rfl
@[simp] theorem State.setCore_host (s : State) (c : Nat) (k : Core) : (s.setCore c k).host = s.host := rfl
@[simp] theorem State.setCore_emcyQ (s : State) (c : Nat) (k : Core) : (s.setCore c k).emcyQ = s.emcyQ := rfl
@[simp] theorem State.setCore_emcyDropped (s : State) (c : Nat) (k : Core) : (s.setCore c k).emcyDropped = s.emcyDropped := rfl
@[simp] theorem State.setCore_vecPending (s : State) (c : Nat) (k : Core) : (s.setCore c k).vecPending = s.vecPending := rfl
@[simp] theorem State.setCore_vecMasked (s : State) (c : Nat) (k : Core) : (s.setCore c k).vecMasked = s.vecMasked := rfl
@[simp] theorem State.setCore_sent (s : State) (c : Nat) (k : Core) : (s.setCore c k).sent = s.sent := rfl
@[simp] theorem State.setCore_fresh (s : State) (c : Nat) (k : Core) : (s.setCore c k).fresh = s.fresh := rfl
@[simp] theorem State.setCore_hub_threads (s : State) (c : Nat) (k : Core) : (s.setCore c k).hub.threads = s.hub.threads := rfl
@[simp] theorem State.setCore_hub_ready (s : State) (c : Nat) (k : Core) : (s.setCore c k).hub.ready = s.hub.ready := rfl
@[simp] theorem State.setCore_hub_flagQ (s : State) (c : Nat) (k : Core) : (s.setCore c k).hub.flagQ = s.hub.flagQ := rfl
@[simp] theorem State.setCore_hub_locks (s : State) (c : Nat) (k : Core) : (s.setCore c k).hub.locks = s.hub.locks := rfl
@[simp] theorem State.setCore_hub_xports (s : State) (c : Nat) (k : Core) : (s.setCore c k).hub.xports = s.hub.xports := rfl
@[simp] theorem State.setCore_hub_outDc (s : State) (c : Nat) (k : Core) : (s.setCore c k).hub.outDc = s.hub.outDc := rfl
@[simp] theorem State.setCore_hub_pace (s : State) (c : Nat) (k : Core) : (s.setCore c k).hub.pace = s.hub.pace := rfl
@[simp] theorem State.setCore_hub_reqQ (s : State) (c : Nat) (k : Core) : (s.setCore c k).hub.reqQ = s.hub.reqQ := rfl
@[simp] theorem State.setCore_hub_sram (s : State) (c : Nat) (k : Core) : (s.setCore c k).hub.sram = s.hub.sram := rfl
@[simp] theorem State.setCore_hub_sramOpen (s : State) (c : Nat) (k : Core) : (s.setCore c k).hub.sramOpen = s.hub.sramOpen := rfl
@[simp] theorem State.setCore_hub_writes (s : State) (c : Nat) (k : Core) : (s.setCore c k).hub.writes = s.hub.writes := rfl

/-! ### State.setThread -/

@[simp] theorem State.setThread_pending (s : State) (t : Nat) (k : Thread) : (s.setThread t k).pending = s.pending := rfl
@[simp] theorem State.setThread_dict (s : State) (t : Nat) (k : Thread) : (s.setThread t k).dict = s.dict := rfl
@[simp] theorem State.setThread_shadow (s : State) (t : Nat) (k : Thread) : (s.setThread t k).shadow = s.shadow := rfl
@[simp] theorem State.setThread_clusters (s : State) (t : Nat) (k : Thread) : (s.setThread t k).clusters = s.clusters := rfl
@[simp] theorem State.setThread_sluice (s : State) (t : Nat) (k : Thread) : (s.setThread t k).sluice = s.sluice := rfl
@[simp] theorem State.setThread_net (s : State) (t : Nat) (k : Thread) : (s.setThread t k).net = s.net := rfl
@[simp] theorem State.setThread_hbm (s : State) (t : Nat) (k : Thread) : (s.setThread t k).hbm = s.hbm := rfl
@[simp] theorem State.setThread_retained (s : State) (t : Nat) (k : Thread) : (s.setThread t k).retained = s.retained := rfl
@[simp] theorem State.setThread_seam (s : State) (t : Nat) (k : Thread) : (s.setThread t k).seam = s.seam := rfl
@[simp] theorem State.setThread_tb (s : State) (t : Nat) (k : Thread) : (s.setThread t k).tb = s.tb := rfl
@[simp] theorem State.setThread_run (s : State) (t : Nat) (k : Thread) : (s.setThread t k).run = s.run := rfl
@[simp] theorem State.setThread_faults (s : State) (t : Nat) (k : Thread) : (s.setThread t k).faults = s.faults := rfl
@[simp] theorem State.setThread_fabric (s : State) (t : Nat) (k : Thread) : (s.setThread t k).fabric = s.fabric := rfl
@[simp] theorem State.setThread_ties (s : State) (t : Nat) (k : Thread) : (s.setThread t k).ties = s.ties := rfl
@[simp] theorem State.setThread_slipDone (s : State) (t : Nat) (k : Thread) : (s.setThread t k).slipDone = s.slipDone := rfl
@[simp] theorem State.setThread_anchored (s : State) (t : Nat) (k : Thread) : (s.setThread t k).anchored = s.anchored := rfl
@[simp] theorem State.setThread_trig (s : State) (t : Nat) (k : Thread) : (s.setThread t k).trig = s.trig := rfl
@[simp] theorem State.setThread_trace (s : State) (t : Nat) (k : Thread) : (s.setThread t k).trace = s.trace := rfl
@[simp] theorem State.setThread_flash (s : State) (t : Nat) (k : Thread) : (s.setThread t k).flash = s.flash := rfl
@[simp] theorem State.setThread_clk (s : State) (t : Nat) (k : Thread) : (s.setThread t k).clk = s.clk := rfl
@[simp] theorem State.setThread_persist (s : State) (t : Nat) (k : Thread) : (s.setThread t k).persist = s.persist := rfl
@[simp] theorem State.setThread_keys (s : State) (t : Nat) (k : Thread) : (s.setThread t k).keys = s.keys := rfl
@[simp] theorem State.setThread_tap (s : State) (t : Nat) (k : Thread) : (s.setThread t k).tap = s.tap := rfl
@[simp] theorem State.setThread_host (s : State) (t : Nat) (k : Thread) : (s.setThread t k).host = s.host := rfl
@[simp] theorem State.setThread_emcyQ (s : State) (t : Nat) (k : Thread) : (s.setThread t k).emcyQ = s.emcyQ := rfl
@[simp] theorem State.setThread_emcyDropped (s : State) (t : Nat) (k : Thread) : (s.setThread t k).emcyDropped = s.emcyDropped := rfl
@[simp] theorem State.setThread_vecPending (s : State) (t : Nat) (k : Thread) : (s.setThread t k).vecPending = s.vecPending := rfl
@[simp] theorem State.setThread_vecMasked (s : State) (t : Nat) (k : Thread) : (s.setThread t k).vecMasked = s.vecMasked := rfl
@[simp] theorem State.setThread_sent (s : State) (t : Nat) (k : Thread) : (s.setThread t k).sent = s.sent := rfl
@[simp] theorem State.setThread_fresh (s : State) (t : Nat) (k : Thread) : (s.setThread t k).fresh = s.fresh := rfl
@[simp] theorem State.setThread_hub_cores (s : State) (t : Nat) (k : Thread) : (s.setThread t k).hub.cores = s.hub.cores := rfl
@[simp] theorem State.setThread_hub_ready (s : State) (t : Nat) (k : Thread) : (s.setThread t k).hub.ready = s.hub.ready := rfl
@[simp] theorem State.setThread_hub_flagQ (s : State) (t : Nat) (k : Thread) : (s.setThread t k).hub.flagQ = s.hub.flagQ := rfl
@[simp] theorem State.setThread_hub_locks (s : State) (t : Nat) (k : Thread) : (s.setThread t k).hub.locks = s.hub.locks := rfl
@[simp] theorem State.setThread_hub_xports (s : State) (t : Nat) (k : Thread) : (s.setThread t k).hub.xports = s.hub.xports := rfl
@[simp] theorem State.setThread_hub_outDc (s : State) (t : Nat) (k : Thread) : (s.setThread t k).hub.outDc = s.hub.outDc := rfl
@[simp] theorem State.setThread_hub_pace (s : State) (t : Nat) (k : Thread) : (s.setThread t k).hub.pace = s.hub.pace := rfl
@[simp] theorem State.setThread_hub_reqQ (s : State) (t : Nat) (k : Thread) : (s.setThread t k).hub.reqQ = s.hub.reqQ := rfl
@[simp] theorem State.setThread_hub_sram (s : State) (t : Nat) (k : Thread) : (s.setThread t k).hub.sram = s.hub.sram := rfl
@[simp] theorem State.setThread_hub_sramOpen (s : State) (t : Nat) (k : Thread) : (s.setThread t k).hub.sramOpen = s.hub.sramOpen := rfl
@[simp] theorem State.setThread_hub_writes (s : State) (t : Nat) (k : Thread) : (s.setThread t k).hub.writes = s.hub.writes := rfl

/-! ### State.setXport -/

@[simp] theorem State.setXport_pending (s : State) (x : Nat) (k : Xport) : (s.setXport x k).pending = s.pending := rfl
@[simp] theorem State.setXport_dict (s : State) (x : Nat) (k : Xport) : (s.setXport x k).dict = s.dict := rfl
@[simp] theorem State.setXport_shadow (s : State) (x : Nat) (k : Xport) : (s.setXport x k).shadow = s.shadow := rfl
@[simp] theorem State.setXport_clusters (s : State) (x : Nat) (k : Xport) : (s.setXport x k).clusters = s.clusters := rfl
@[simp] theorem State.setXport_sluice (s : State) (x : Nat) (k : Xport) : (s.setXport x k).sluice = s.sluice := rfl
@[simp] theorem State.setXport_net (s : State) (x : Nat) (k : Xport) : (s.setXport x k).net = s.net := rfl
@[simp] theorem State.setXport_hbm (s : State) (x : Nat) (k : Xport) : (s.setXport x k).hbm = s.hbm := rfl
@[simp] theorem State.setXport_retained (s : State) (x : Nat) (k : Xport) : (s.setXport x k).retained = s.retained := rfl
@[simp] theorem State.setXport_seam (s : State) (x : Nat) (k : Xport) : (s.setXport x k).seam = s.seam := rfl
@[simp] theorem State.setXport_tb (s : State) (x : Nat) (k : Xport) : (s.setXport x k).tb = s.tb := rfl
@[simp] theorem State.setXport_run (s : State) (x : Nat) (k : Xport) : (s.setXport x k).run = s.run := rfl
@[simp] theorem State.setXport_faults (s : State) (x : Nat) (k : Xport) : (s.setXport x k).faults = s.faults := rfl
@[simp] theorem State.setXport_fabric (s : State) (x : Nat) (k : Xport) : (s.setXport x k).fabric = s.fabric := rfl
@[simp] theorem State.setXport_ties (s : State) (x : Nat) (k : Xport) : (s.setXport x k).ties = s.ties := rfl
@[simp] theorem State.setXport_slipDone (s : State) (x : Nat) (k : Xport) : (s.setXport x k).slipDone = s.slipDone := rfl
@[simp] theorem State.setXport_anchored (s : State) (x : Nat) (k : Xport) : (s.setXport x k).anchored = s.anchored := rfl
@[simp] theorem State.setXport_trig (s : State) (x : Nat) (k : Xport) : (s.setXport x k).trig = s.trig := rfl
@[simp] theorem State.setXport_trace (s : State) (x : Nat) (k : Xport) : (s.setXport x k).trace = s.trace := rfl
@[simp] theorem State.setXport_flash (s : State) (x : Nat) (k : Xport) : (s.setXport x k).flash = s.flash := rfl
@[simp] theorem State.setXport_clk (s : State) (x : Nat) (k : Xport) : (s.setXport x k).clk = s.clk := rfl
@[simp] theorem State.setXport_persist (s : State) (x : Nat) (k : Xport) : (s.setXport x k).persist = s.persist := rfl
@[simp] theorem State.setXport_keys (s : State) (x : Nat) (k : Xport) : (s.setXport x k).keys = s.keys := rfl
@[simp] theorem State.setXport_tap (s : State) (x : Nat) (k : Xport) : (s.setXport x k).tap = s.tap := rfl
@[simp] theorem State.setXport_host (s : State) (x : Nat) (k : Xport) : (s.setXport x k).host = s.host := rfl
@[simp] theorem State.setXport_emcyQ (s : State) (x : Nat) (k : Xport) : (s.setXport x k).emcyQ = s.emcyQ := rfl
@[simp] theorem State.setXport_emcyDropped (s : State) (x : Nat) (k : Xport) : (s.setXport x k).emcyDropped = s.emcyDropped := rfl
@[simp] theorem State.setXport_vecPending (s : State) (x : Nat) (k : Xport) : (s.setXport x k).vecPending = s.vecPending := rfl
@[simp] theorem State.setXport_vecMasked (s : State) (x : Nat) (k : Xport) : (s.setXport x k).vecMasked = s.vecMasked := rfl
@[simp] theorem State.setXport_sent (s : State) (x : Nat) (k : Xport) : (s.setXport x k).sent = s.sent := rfl
@[simp] theorem State.setXport_fresh (s : State) (x : Nat) (k : Xport) : (s.setXport x k).fresh = s.fresh := rfl
@[simp] theorem State.setXport_hub_cores (s : State) (x : Nat) (k : Xport) : (s.setXport x k).hub.cores = s.hub.cores := rfl
@[simp] theorem State.setXport_hub_threads (s : State) (x : Nat) (k : Xport) : (s.setXport x k).hub.threads = s.hub.threads := rfl
@[simp] theorem State.setXport_hub_ready (s : State) (x : Nat) (k : Xport) : (s.setXport x k).hub.ready = s.hub.ready := rfl
@[simp] theorem State.setXport_hub_flagQ (s : State) (x : Nat) (k : Xport) : (s.setXport x k).hub.flagQ = s.hub.flagQ := rfl
@[simp] theorem State.setXport_hub_locks (s : State) (x : Nat) (k : Xport) : (s.setXport x k).hub.locks = s.hub.locks := rfl
@[simp] theorem State.setXport_hub_outDc (s : State) (x : Nat) (k : Xport) : (s.setXport x k).hub.outDc = s.hub.outDc := rfl
@[simp] theorem State.setXport_hub_pace (s : State) (x : Nat) (k : Xport) : (s.setXport x k).hub.pace = s.hub.pace := rfl
@[simp] theorem State.setXport_hub_reqQ (s : State) (x : Nat) (k : Xport) : (s.setXport x k).hub.reqQ = s.hub.reqQ := rfl
@[simp] theorem State.setXport_hub_sram (s : State) (x : Nat) (k : Xport) : (s.setXport x k).hub.sram = s.hub.sram := rfl
@[simp] theorem State.setXport_hub_sramOpen (s : State) (x : Nat) (k : Xport) : (s.setXport x k).hub.sramOpen = s.hub.sramOpen := rfl
@[simp] theorem State.setXport_hub_writes (s : State) (x : Nat) (k : Xport) : (s.setXport x k).hub.writes = s.hub.writes := rfl

/-! ### State.setLock -/

@[simp] theorem State.setLock_pending (s : State) (n : Nat) (o : Option Nat) : (s.setLock n o).pending = s.pending := rfl
@[simp] theorem State.setLock_dict (s : State) (n : Nat) (o : Option Nat) : (s.setLock n o).dict = s.dict := rfl
@[simp] theorem State.setLock_shadow (s : State) (n : Nat) (o : Option Nat) : (s.setLock n o).shadow = s.shadow := rfl
@[simp] theorem State.setLock_clusters (s : State) (n : Nat) (o : Option Nat) : (s.setLock n o).clusters = s.clusters := rfl
@[simp] theorem State.setLock_sluice (s : State) (n : Nat) (o : Option Nat) : (s.setLock n o).sluice = s.sluice := rfl
@[simp] theorem State.setLock_net (s : State) (n : Nat) (o : Option Nat) : (s.setLock n o).net = s.net := rfl
@[simp] theorem State.setLock_hbm (s : State) (n : Nat) (o : Option Nat) : (s.setLock n o).hbm = s.hbm := rfl
@[simp] theorem State.setLock_retained (s : State) (n : Nat) (o : Option Nat) : (s.setLock n o).retained = s.retained := rfl
@[simp] theorem State.setLock_seam (s : State) (n : Nat) (o : Option Nat) : (s.setLock n o).seam = s.seam := rfl
@[simp] theorem State.setLock_tb (s : State) (n : Nat) (o : Option Nat) : (s.setLock n o).tb = s.tb := rfl
@[simp] theorem State.setLock_run (s : State) (n : Nat) (o : Option Nat) : (s.setLock n o).run = s.run := rfl
@[simp] theorem State.setLock_faults (s : State) (n : Nat) (o : Option Nat) : (s.setLock n o).faults = s.faults := rfl
@[simp] theorem State.setLock_fabric (s : State) (n : Nat) (o : Option Nat) : (s.setLock n o).fabric = s.fabric := rfl
@[simp] theorem State.setLock_ties (s : State) (n : Nat) (o : Option Nat) : (s.setLock n o).ties = s.ties := rfl
@[simp] theorem State.setLock_slipDone (s : State) (n : Nat) (o : Option Nat) : (s.setLock n o).slipDone = s.slipDone := rfl
@[simp] theorem State.setLock_anchored (s : State) (n : Nat) (o : Option Nat) : (s.setLock n o).anchored = s.anchored := rfl
@[simp] theorem State.setLock_trig (s : State) (n : Nat) (o : Option Nat) : (s.setLock n o).trig = s.trig := rfl
@[simp] theorem State.setLock_trace (s : State) (n : Nat) (o : Option Nat) : (s.setLock n o).trace = s.trace := rfl
@[simp] theorem State.setLock_flash (s : State) (n : Nat) (o : Option Nat) : (s.setLock n o).flash = s.flash := rfl
@[simp] theorem State.setLock_clk (s : State) (n : Nat) (o : Option Nat) : (s.setLock n o).clk = s.clk := rfl
@[simp] theorem State.setLock_persist (s : State) (n : Nat) (o : Option Nat) : (s.setLock n o).persist = s.persist := rfl
@[simp] theorem State.setLock_keys (s : State) (n : Nat) (o : Option Nat) : (s.setLock n o).keys = s.keys := rfl
@[simp] theorem State.setLock_tap (s : State) (n : Nat) (o : Option Nat) : (s.setLock n o).tap = s.tap := rfl
@[simp] theorem State.setLock_host (s : State) (n : Nat) (o : Option Nat) : (s.setLock n o).host = s.host := rfl
@[simp] theorem State.setLock_emcyQ (s : State) (n : Nat) (o : Option Nat) : (s.setLock n o).emcyQ = s.emcyQ := rfl
@[simp] theorem State.setLock_emcyDropped (s : State) (n : Nat) (o : Option Nat) : (s.setLock n o).emcyDropped = s.emcyDropped := rfl
@[simp] theorem State.setLock_vecPending (s : State) (n : Nat) (o : Option Nat) : (s.setLock n o).vecPending = s.vecPending := rfl
@[simp] theorem State.setLock_vecMasked (s : State) (n : Nat) (o : Option Nat) : (s.setLock n o).vecMasked = s.vecMasked := rfl
@[simp] theorem State.setLock_sent (s : State) (n : Nat) (o : Option Nat) : (s.setLock n o).sent = s.sent := rfl
@[simp] theorem State.setLock_fresh (s : State) (n : Nat) (o : Option Nat) : (s.setLock n o).fresh = s.fresh := rfl
@[simp] theorem State.setLock_hub_cores (s : State) (n : Nat) (o : Option Nat) : (s.setLock n o).hub.cores = s.hub.cores := rfl
@[simp] theorem State.setLock_hub_threads (s : State) (n : Nat) (o : Option Nat) : (s.setLock n o).hub.threads = s.hub.threads := rfl
@[simp] theorem State.setLock_hub_ready (s : State) (n : Nat) (o : Option Nat) : (s.setLock n o).hub.ready = s.hub.ready := rfl
@[simp] theorem State.setLock_hub_flagQ (s : State) (n : Nat) (o : Option Nat) : (s.setLock n o).hub.flagQ = s.hub.flagQ := rfl
@[simp] theorem State.setLock_hub_xports (s : State) (n : Nat) (o : Option Nat) : (s.setLock n o).hub.xports = s.hub.xports := rfl
@[simp] theorem State.setLock_hub_outDc (s : State) (n : Nat) (o : Option Nat) : (s.setLock n o).hub.outDc = s.hub.outDc := rfl
@[simp] theorem State.setLock_hub_pace (s : State) (n : Nat) (o : Option Nat) : (s.setLock n o).hub.pace = s.hub.pace := rfl
@[simp] theorem State.setLock_hub_reqQ (s : State) (n : Nat) (o : Option Nat) : (s.setLock n o).hub.reqQ = s.hub.reqQ := rfl
@[simp] theorem State.setLock_hub_sram (s : State) (n : Nat) (o : Option Nat) : (s.setLock n o).hub.sram = s.hub.sram := rfl
@[simp] theorem State.setLock_hub_sramOpen (s : State) (n : Nat) (o : Option Nat) : (s.setLock n o).hub.sramOpen = s.hub.sramOpen := rfl
@[simp] theorem State.setLock_hub_writes (s : State) (n : Nat) (o : Option Nat) : (s.setLock n o).hub.writes = s.hub.writes := rfl

/-! ### State.setReadyList -/

@[simp] theorem State.setReadyList_pending (s : State) (c p : Nat) (l : List Nat) : (s.setReadyList c p l).pending = s.pending := rfl
@[simp] theorem State.setReadyList_dict (s : State) (c p : Nat) (l : List Nat) : (s.setReadyList c p l).dict = s.dict := rfl
@[simp] theorem State.setReadyList_shadow (s : State) (c p : Nat) (l : List Nat) : (s.setReadyList c p l).shadow = s.shadow := rfl
@[simp] theorem State.setReadyList_clusters (s : State) (c p : Nat) (l : List Nat) : (s.setReadyList c p l).clusters = s.clusters := rfl
@[simp] theorem State.setReadyList_sluice (s : State) (c p : Nat) (l : List Nat) : (s.setReadyList c p l).sluice = s.sluice := rfl
@[simp] theorem State.setReadyList_net (s : State) (c p : Nat) (l : List Nat) : (s.setReadyList c p l).net = s.net := rfl
@[simp] theorem State.setReadyList_hbm (s : State) (c p : Nat) (l : List Nat) : (s.setReadyList c p l).hbm = s.hbm := rfl
@[simp] theorem State.setReadyList_retained (s : State) (c p : Nat) (l : List Nat) : (s.setReadyList c p l).retained = s.retained := rfl
@[simp] theorem State.setReadyList_seam (s : State) (c p : Nat) (l : List Nat) : (s.setReadyList c p l).seam = s.seam := rfl
@[simp] theorem State.setReadyList_tb (s : State) (c p : Nat) (l : List Nat) : (s.setReadyList c p l).tb = s.tb := rfl
@[simp] theorem State.setReadyList_run (s : State) (c p : Nat) (l : List Nat) : (s.setReadyList c p l).run = s.run := rfl
@[simp] theorem State.setReadyList_faults (s : State) (c p : Nat) (l : List Nat) : (s.setReadyList c p l).faults = s.faults := rfl
@[simp] theorem State.setReadyList_fabric (s : State) (c p : Nat) (l : List Nat) : (s.setReadyList c p l).fabric = s.fabric := rfl
@[simp] theorem State.setReadyList_ties (s : State) (c p : Nat) (l : List Nat) : (s.setReadyList c p l).ties = s.ties := rfl
@[simp] theorem State.setReadyList_slipDone (s : State) (c p : Nat) (l : List Nat) : (s.setReadyList c p l).slipDone = s.slipDone := rfl
@[simp] theorem State.setReadyList_anchored (s : State) (c p : Nat) (l : List Nat) : (s.setReadyList c p l).anchored = s.anchored := rfl
@[simp] theorem State.setReadyList_trig (s : State) (c p : Nat) (l : List Nat) : (s.setReadyList c p l).trig = s.trig := rfl
@[simp] theorem State.setReadyList_trace (s : State) (c p : Nat) (l : List Nat) : (s.setReadyList c p l).trace = s.trace := rfl
@[simp] theorem State.setReadyList_flash (s : State) (c p : Nat) (l : List Nat) : (s.setReadyList c p l).flash = s.flash := rfl
@[simp] theorem State.setReadyList_clk (s : State) (c p : Nat) (l : List Nat) : (s.setReadyList c p l).clk = s.clk := rfl
@[simp] theorem State.setReadyList_persist (s : State) (c p : Nat) (l : List Nat) : (s.setReadyList c p l).persist = s.persist := rfl
@[simp] theorem State.setReadyList_keys (s : State) (c p : Nat) (l : List Nat) : (s.setReadyList c p l).keys = s.keys := rfl
@[simp] theorem State.setReadyList_tap (s : State) (c p : Nat) (l : List Nat) : (s.setReadyList c p l).tap = s.tap := rfl
@[simp] theorem State.setReadyList_host (s : State) (c p : Nat) (l : List Nat) : (s.setReadyList c p l).host = s.host := rfl
@[simp] theorem State.setReadyList_emcyQ (s : State) (c p : Nat) (l : List Nat) : (s.setReadyList c p l).emcyQ = s.emcyQ := rfl
@[simp] theorem State.setReadyList_emcyDropped (s : State) (c p : Nat) (l : List Nat) : (s.setReadyList c p l).emcyDropped = s.emcyDropped := rfl
@[simp] theorem State.setReadyList_vecPending (s : State) (c p : Nat) (l : List Nat) : (s.setReadyList c p l).vecPending = s.vecPending := rfl
@[simp] theorem State.setReadyList_vecMasked (s : State) (c p : Nat) (l : List Nat) : (s.setReadyList c p l).vecMasked = s.vecMasked := rfl
@[simp] theorem State.setReadyList_sent (s : State) (c p : Nat) (l : List Nat) : (s.setReadyList c p l).sent = s.sent := rfl
@[simp] theorem State.setReadyList_fresh (s : State) (c p : Nat) (l : List Nat) : (s.setReadyList c p l).fresh = s.fresh := rfl
@[simp] theorem State.setReadyList_hub_cores (s : State) (c p : Nat) (l : List Nat) : (s.setReadyList c p l).hub.cores = s.hub.cores := rfl
@[simp] theorem State.setReadyList_hub_threads (s : State) (c p : Nat) (l : List Nat) : (s.setReadyList c p l).hub.threads = s.hub.threads := rfl
@[simp] theorem State.setReadyList_hub_flagQ (s : State) (c p : Nat) (l : List Nat) : (s.setReadyList c p l).hub.flagQ = s.hub.flagQ := rfl
@[simp] theorem State.setReadyList_hub_locks (s : State) (c p : Nat) (l : List Nat) : (s.setReadyList c p l).hub.locks = s.hub.locks := rfl
@[simp] theorem State.setReadyList_hub_xports (s : State) (c p : Nat) (l : List Nat) : (s.setReadyList c p l).hub.xports = s.hub.xports := rfl
@[simp] theorem State.setReadyList_hub_outDc (s : State) (c p : Nat) (l : List Nat) : (s.setReadyList c p l).hub.outDc = s.hub.outDc := rfl
@[simp] theorem State.setReadyList_hub_pace (s : State) (c p : Nat) (l : List Nat) : (s.setReadyList c p l).hub.pace = s.hub.pace := rfl
@[simp] theorem State.setReadyList_hub_reqQ (s : State) (c p : Nat) (l : List Nat) : (s.setReadyList c p l).hub.reqQ = s.hub.reqQ := rfl
@[simp] theorem State.setReadyList_hub_sram (s : State) (c p : Nat) (l : List Nat) : (s.setReadyList c p l).hub.sram = s.hub.sram := rfl
@[simp] theorem State.setReadyList_hub_sramOpen (s : State) (c p : Nat) (l : List Nat) : (s.setReadyList c p l).hub.sramOpen = s.hub.sramOpen := rfl
@[simp] theorem State.setReadyList_hub_writes (s : State) (c p : Nat) (l : List Nat) : (s.setReadyList c p l).hub.writes = s.hub.writes := rfl

/-! ### State.setPad -/

@[simp] theorem State.setPad_pending (s : State) (p : Nat) (v : Pad) : (s.setPad p v).pending = s.pending := rfl
@[simp] theorem State.setPad_dict (s : State) (p : Nat) (v : Pad) : (s.setPad p v).dict = s.dict := rfl
@[simp] theorem State.setPad_shadow (s : State) (p : Nat) (v : Pad) : (s.setPad p v).shadow = s.shadow := rfl
@[simp] theorem State.setPad_clusters (s : State) (p : Nat) (v : Pad) : (s.setPad p v).clusters = s.clusters := rfl
@[simp] theorem State.setPad_sluice (s : State) (p : Nat) (v : Pad) : (s.setPad p v).sluice = s.sluice := rfl
@[simp] theorem State.setPad_net (s : State) (p : Nat) (v : Pad) : (s.setPad p v).net = s.net := rfl
@[simp] theorem State.setPad_hbm (s : State) (p : Nat) (v : Pad) : (s.setPad p v).hbm = s.hbm := rfl
@[simp] theorem State.setPad_retained (s : State) (p : Nat) (v : Pad) : (s.setPad p v).retained = s.retained := rfl
@[simp] theorem State.setPad_seam (s : State) (p : Nat) (v : Pad) : (s.setPad p v).seam = s.seam := rfl
@[simp] theorem State.setPad_tb (s : State) (p : Nat) (v : Pad) : (s.setPad p v).tb = s.tb := rfl
@[simp] theorem State.setPad_run (s : State) (p : Nat) (v : Pad) : (s.setPad p v).run = s.run := rfl
@[simp] theorem State.setPad_faults (s : State) (p : Nat) (v : Pad) : (s.setPad p v).faults = s.faults := rfl
@[simp] theorem State.setPad_hub (s : State) (p : Nat) (v : Pad) : (s.setPad p v).hub = s.hub := rfl
@[simp] theorem State.setPad_ties (s : State) (p : Nat) (v : Pad) : (s.setPad p v).ties = s.ties := rfl
@[simp] theorem State.setPad_slipDone (s : State) (p : Nat) (v : Pad) : (s.setPad p v).slipDone = s.slipDone := rfl
@[simp] theorem State.setPad_anchored (s : State) (p : Nat) (v : Pad) : (s.setPad p v).anchored = s.anchored := rfl
@[simp] theorem State.setPad_trig (s : State) (p : Nat) (v : Pad) : (s.setPad p v).trig = s.trig := rfl
@[simp] theorem State.setPad_trace (s : State) (p : Nat) (v : Pad) : (s.setPad p v).trace = s.trace := rfl
@[simp] theorem State.setPad_flash (s : State) (p : Nat) (v : Pad) : (s.setPad p v).flash = s.flash := rfl
@[simp] theorem State.setPad_clk (s : State) (p : Nat) (v : Pad) : (s.setPad p v).clk = s.clk := rfl
@[simp] theorem State.setPad_persist (s : State) (p : Nat) (v : Pad) : (s.setPad p v).persist = s.persist := rfl
@[simp] theorem State.setPad_keys (s : State) (p : Nat) (v : Pad) : (s.setPad p v).keys = s.keys := rfl
@[simp] theorem State.setPad_tap (s : State) (p : Nat) (v : Pad) : (s.setPad p v).tap = s.tap := rfl
@[simp] theorem State.setPad_host (s : State) (p : Nat) (v : Pad) : (s.setPad p v).host = s.host := rfl
@[simp] theorem State.setPad_emcyQ (s : State) (p : Nat) (v : Pad) : (s.setPad p v).emcyQ = s.emcyQ := rfl
@[simp] theorem State.setPad_emcyDropped (s : State) (p : Nat) (v : Pad) : (s.setPad p v).emcyDropped = s.emcyDropped := rfl
@[simp] theorem State.setPad_vecPending (s : State) (p : Nat) (v : Pad) : (s.setPad p v).vecPending = s.vecPending := rfl
@[simp] theorem State.setPad_vecMasked (s : State) (p : Nat) (v : Pad) : (s.setPad p v).vecMasked = s.vecMasked := rfl
@[simp] theorem State.setPad_sent (s : State) (p : Nat) (v : Pad) : (s.setPad p v).sent = s.sent := rfl
@[simp] theorem State.setPad_fresh (s : State) (p : Nat) (v : Pad) : (s.setPad p v).fresh = s.fresh := rfl
@[simp] theorem State.setPad_fabric_regions (s : State) (p : Nat) (v : Pad) : (s.setPad p v).fabric.regions = s.fabric.regions := rfl
@[simp] theorem State.setPad_fabric_fin (s : State) (p : Nat) (v : Pad) : (s.setPad p v).fabric.fin = s.fabric.fin := rfl
@[simp] theorem State.setPad_fabric_pend (s : State) (p : Nat) (v : Pad) : (s.setPad p v).fabric.pend = s.fabric.pend := rfl
@[simp] theorem State.setPad_fabric_fout (s : State) (p : Nat) (v : Pad) : (s.setPad p v).fabric.fout = s.fabric.fout := rfl
@[simp] theorem State.setPad_fabric_foutDesign (s : State) (p : Nat) (v : Pad) : (s.setPad p v).fabric.foutDesign = s.fabric.foutDesign := rfl
@[simp] theorem State.setPad_fabric_foutSeq (s : State) (p : Nat) (v : Pad) : (s.setPad p v).fabric.foutSeq = s.fabric.foutSeq := rfl
@[simp] theorem State.setPad_fabric_tieSafe (s : State) (p : Nat) (v : Pad) : (s.setPad p v).fabric.tieSafe = s.fabric.tieSafe := rfl
@[simp] theorem State.setPad_fabric_cfgFault (s : State) (p : Nat) (v : Pad) : (s.setPad p v).fabric.cfgFault = s.fabric.cfgFault := rfl
@[simp] theorem State.setPad_fabric_phase (s : State) (p : Nat) (v : Pad) : (s.setPad p v).fabric.phase = s.fabric.phase := rfl
@[simp] theorem State.setPad_fabric_fetched (s : State) (p : Nat) (v : Pad) : (s.setPad p v).fabric.fetched = s.fabric.fetched := rfl
@[simp] theorem State.setPad_fabric_flashOp (s : State) (p : Nat) (v : Pad) : (s.setPad p v).fabric.flashOp = s.fabric.flashOp := rfl
@[simp] theorem State.setPad_fabric_flashReply (s : State) (p : Nat) (v : Pad) : (s.setPad p v).fabric.flashReply = s.fabric.flashReply := rfl
@[simp] theorem State.setPad_fabric_time (s : State) (p : Nat) (v : Pad) : (s.setPad p v).fabric.time = s.fabric.time := rfl
@[simp] theorem State.setPad_fabric_conf (s : State) (p : Nat) (v : Pad) : (s.setPad p v).fabric.conf = s.fabric.conf := rfl
@[simp] theorem State.setPad_fabric_flops (s : State) (p : Nat) (v : Pad) : (s.setPad p v).fabric.flops = s.fabric.flops := rfl
@[simp] theorem State.setPad_fabric_ram (s : State) (p : Nat) (v : Pad) : (s.setPad p v).fabric.ram = s.fabric.ram := rfl
@[simp] theorem State.setPad_fabric_ramOut (s : State) (p : Nat) (v : Pad) : (s.setPad p v).fabric.ramOut = s.fabric.ramOut := rfl

/-! ### State.setRegion -/

@[simp] theorem State.setRegion_pending (s : State) (r : Nat) (v : Region) : (s.setRegion r v).pending = s.pending := rfl
@[simp] theorem State.setRegion_dict (s : State) (r : Nat) (v : Region) : (s.setRegion r v).dict = s.dict := rfl
@[simp] theorem State.setRegion_shadow (s : State) (r : Nat) (v : Region) : (s.setRegion r v).shadow = s.shadow := rfl
@[simp] theorem State.setRegion_clusters (s : State) (r : Nat) (v : Region) : (s.setRegion r v).clusters = s.clusters := rfl
@[simp] theorem State.setRegion_sluice (s : State) (r : Nat) (v : Region) : (s.setRegion r v).sluice = s.sluice := rfl
@[simp] theorem State.setRegion_net (s : State) (r : Nat) (v : Region) : (s.setRegion r v).net = s.net := rfl
@[simp] theorem State.setRegion_hbm (s : State) (r : Nat) (v : Region) : (s.setRegion r v).hbm = s.hbm := rfl
@[simp] theorem State.setRegion_retained (s : State) (r : Nat) (v : Region) : (s.setRegion r v).retained = s.retained := rfl
@[simp] theorem State.setRegion_seam (s : State) (r : Nat) (v : Region) : (s.setRegion r v).seam = s.seam := rfl
@[simp] theorem State.setRegion_tb (s : State) (r : Nat) (v : Region) : (s.setRegion r v).tb = s.tb := rfl
@[simp] theorem State.setRegion_run (s : State) (r : Nat) (v : Region) : (s.setRegion r v).run = s.run := rfl
@[simp] theorem State.setRegion_faults (s : State) (r : Nat) (v : Region) : (s.setRegion r v).faults = s.faults := rfl
@[simp] theorem State.setRegion_hub (s : State) (r : Nat) (v : Region) : (s.setRegion r v).hub = s.hub := rfl
@[simp] theorem State.setRegion_ties (s : State) (r : Nat) (v : Region) : (s.setRegion r v).ties = s.ties := rfl
@[simp] theorem State.setRegion_slipDone (s : State) (r : Nat) (v : Region) : (s.setRegion r v).slipDone = s.slipDone := rfl
@[simp] theorem State.setRegion_anchored (s : State) (r : Nat) (v : Region) : (s.setRegion r v).anchored = s.anchored := rfl
@[simp] theorem State.setRegion_trig (s : State) (r : Nat) (v : Region) : (s.setRegion r v).trig = s.trig := rfl
@[simp] theorem State.setRegion_trace (s : State) (r : Nat) (v : Region) : (s.setRegion r v).trace = s.trace := rfl
@[simp] theorem State.setRegion_flash (s : State) (r : Nat) (v : Region) : (s.setRegion r v).flash = s.flash := rfl
@[simp] theorem State.setRegion_clk (s : State) (r : Nat) (v : Region) : (s.setRegion r v).clk = s.clk := rfl
@[simp] theorem State.setRegion_persist (s : State) (r : Nat) (v : Region) : (s.setRegion r v).persist = s.persist := rfl
@[simp] theorem State.setRegion_keys (s : State) (r : Nat) (v : Region) : (s.setRegion r v).keys = s.keys := rfl
@[simp] theorem State.setRegion_tap (s : State) (r : Nat) (v : Region) : (s.setRegion r v).tap = s.tap := rfl
@[simp] theorem State.setRegion_host (s : State) (r : Nat) (v : Region) : (s.setRegion r v).host = s.host := rfl
@[simp] theorem State.setRegion_emcyQ (s : State) (r : Nat) (v : Region) : (s.setRegion r v).emcyQ = s.emcyQ := rfl
@[simp] theorem State.setRegion_emcyDropped (s : State) (r : Nat) (v : Region) : (s.setRegion r v).emcyDropped = s.emcyDropped := rfl
@[simp] theorem State.setRegion_vecPending (s : State) (r : Nat) (v : Region) : (s.setRegion r v).vecPending = s.vecPending := rfl
@[simp] theorem State.setRegion_vecMasked (s : State) (r : Nat) (v : Region) : (s.setRegion r v).vecMasked = s.vecMasked := rfl
@[simp] theorem State.setRegion_sent (s : State) (r : Nat) (v : Region) : (s.setRegion r v).sent = s.sent := rfl
@[simp] theorem State.setRegion_fresh (s : State) (r : Nat) (v : Region) : (s.setRegion r v).fresh = s.fresh := rfl
@[simp] theorem State.setRegion_fabric_pads (s : State) (r : Nat) (v : Region) : (s.setRegion r v).fabric.pads = s.fabric.pads := rfl
@[simp] theorem State.setRegion_fabric_fin (s : State) (r : Nat) (v : Region) : (s.setRegion r v).fabric.fin = s.fabric.fin := rfl
@[simp] theorem State.setRegion_fabric_pend (s : State) (r : Nat) (v : Region) : (s.setRegion r v).fabric.pend = s.fabric.pend := rfl
@[simp] theorem State.setRegion_fabric_fout (s : State) (r : Nat) (v : Region) : (s.setRegion r v).fabric.fout = s.fabric.fout := rfl
@[simp] theorem State.setRegion_fabric_foutDesign (s : State) (r : Nat) (v : Region) : (s.setRegion r v).fabric.foutDesign = s.fabric.foutDesign := rfl
@[simp] theorem State.setRegion_fabric_foutSeq (s : State) (r : Nat) (v : Region) : (s.setRegion r v).fabric.foutSeq = s.fabric.foutSeq := rfl
@[simp] theorem State.setRegion_fabric_tieSafe (s : State) (r : Nat) (v : Region) : (s.setRegion r v).fabric.tieSafe = s.fabric.tieSafe := rfl
@[simp] theorem State.setRegion_fabric_cfgFault (s : State) (r : Nat) (v : Region) : (s.setRegion r v).fabric.cfgFault = s.fabric.cfgFault := rfl
@[simp] theorem State.setRegion_fabric_phase (s : State) (r : Nat) (v : Region) : (s.setRegion r v).fabric.phase = s.fabric.phase := rfl
@[simp] theorem State.setRegion_fabric_fetched (s : State) (r : Nat) (v : Region) : (s.setRegion r v).fabric.fetched = s.fabric.fetched := rfl
@[simp] theorem State.setRegion_fabric_flashOp (s : State) (r : Nat) (v : Region) : (s.setRegion r v).fabric.flashOp = s.fabric.flashOp := rfl
@[simp] theorem State.setRegion_fabric_flashReply (s : State) (r : Nat) (v : Region) : (s.setRegion r v).fabric.flashReply = s.fabric.flashReply := rfl
@[simp] theorem State.setRegion_fabric_time (s : State) (r : Nat) (v : Region) : (s.setRegion r v).fabric.time = s.fabric.time := rfl
@[simp] theorem State.setRegion_fabric_conf (s : State) (r : Nat) (v : Region) : (s.setRegion r v).fabric.conf = s.fabric.conf := rfl
@[simp] theorem State.setRegion_fabric_flops (s : State) (r : Nat) (v : Region) : (s.setRegion r v).fabric.flops = s.fabric.flops := rfl
@[simp] theorem State.setRegion_fabric_ram (s : State) (r : Nat) (v : Region) : (s.setRegion r v).fabric.ram = s.fabric.ram := rfl
@[simp] theorem State.setRegion_fabric_ramOut (s : State) (r : Nat) (v : Region) : (s.setRegion r v).fabric.ramOut = s.fabric.ramOut := rfl

/-! ### State.setTie -/

@[simp] theorem State.setTie_pending (s : State) (i : Nat) (u : TieUnit) : (s.setTie i u).pending = s.pending := rfl
@[simp] theorem State.setTie_dict (s : State) (i : Nat) (u : TieUnit) : (s.setTie i u).dict = s.dict := rfl
@[simp] theorem State.setTie_shadow (s : State) (i : Nat) (u : TieUnit) : (s.setTie i u).shadow = s.shadow := rfl
@[simp] theorem State.setTie_clusters (s : State) (i : Nat) (u : TieUnit) : (s.setTie i u).clusters = s.clusters := rfl
@[simp] theorem State.setTie_sluice (s : State) (i : Nat) (u : TieUnit) : (s.setTie i u).sluice = s.sluice := rfl
@[simp] theorem State.setTie_net (s : State) (i : Nat) (u : TieUnit) : (s.setTie i u).net = s.net := rfl
@[simp] theorem State.setTie_hbm (s : State) (i : Nat) (u : TieUnit) : (s.setTie i u).hbm = s.hbm := rfl
@[simp] theorem State.setTie_retained (s : State) (i : Nat) (u : TieUnit) : (s.setTie i u).retained = s.retained := rfl
@[simp] theorem State.setTie_seam (s : State) (i : Nat) (u : TieUnit) : (s.setTie i u).seam = s.seam := rfl
@[simp] theorem State.setTie_tb (s : State) (i : Nat) (u : TieUnit) : (s.setTie i u).tb = s.tb := rfl
@[simp] theorem State.setTie_run (s : State) (i : Nat) (u : TieUnit) : (s.setTie i u).run = s.run := rfl
@[simp] theorem State.setTie_faults (s : State) (i : Nat) (u : TieUnit) : (s.setTie i u).faults = s.faults := rfl
@[simp] theorem State.setTie_hub (s : State) (i : Nat) (u : TieUnit) : (s.setTie i u).hub = s.hub := rfl
@[simp] theorem State.setTie_fabric (s : State) (i : Nat) (u : TieUnit) : (s.setTie i u).fabric = s.fabric := rfl
@[simp] theorem State.setTie_slipDone (s : State) (i : Nat) (u : TieUnit) : (s.setTie i u).slipDone = s.slipDone := rfl
@[simp] theorem State.setTie_anchored (s : State) (i : Nat) (u : TieUnit) : (s.setTie i u).anchored = s.anchored := rfl
@[simp] theorem State.setTie_trig (s : State) (i : Nat) (u : TieUnit) : (s.setTie i u).trig = s.trig := rfl
@[simp] theorem State.setTie_trace (s : State) (i : Nat) (u : TieUnit) : (s.setTie i u).trace = s.trace := rfl
@[simp] theorem State.setTie_flash (s : State) (i : Nat) (u : TieUnit) : (s.setTie i u).flash = s.flash := rfl
@[simp] theorem State.setTie_clk (s : State) (i : Nat) (u : TieUnit) : (s.setTie i u).clk = s.clk := rfl
@[simp] theorem State.setTie_persist (s : State) (i : Nat) (u : TieUnit) : (s.setTie i u).persist = s.persist := rfl
@[simp] theorem State.setTie_keys (s : State) (i : Nat) (u : TieUnit) : (s.setTie i u).keys = s.keys := rfl
@[simp] theorem State.setTie_tap (s : State) (i : Nat) (u : TieUnit) : (s.setTie i u).tap = s.tap := rfl
@[simp] theorem State.setTie_host (s : State) (i : Nat) (u : TieUnit) : (s.setTie i u).host = s.host := rfl
@[simp] theorem State.setTie_emcyQ (s : State) (i : Nat) (u : TieUnit) : (s.setTie i u).emcyQ = s.emcyQ := rfl
@[simp] theorem State.setTie_emcyDropped (s : State) (i : Nat) (u : TieUnit) : (s.setTie i u).emcyDropped = s.emcyDropped := rfl
@[simp] theorem State.setTie_vecPending (s : State) (i : Nat) (u : TieUnit) : (s.setTie i u).vecPending = s.vecPending := rfl
@[simp] theorem State.setTie_vecMasked (s : State) (i : Nat) (u : TieUnit) : (s.setTie i u).vecMasked = s.vecMasked := rfl
@[simp] theorem State.setTie_sent (s : State) (i : Nat) (u : TieUnit) : (s.setTie i u).sent = s.sent := rfl
@[simp] theorem State.setTie_fresh (s : State) (i : Nat) (u : TieUnit) : (s.setTie i u).fresh = s.fresh := rfl

/-! ### State.holdAtPort -/

@[simp] theorem State.holdAtPort_pending (s : State) (cid : Nat) (p : Packet) : (s.holdAtPort cid p).pending = s.pending := rfl
@[simp] theorem State.holdAtPort_dict (s : State) (cid : Nat) (p : Packet) : (s.holdAtPort cid p).dict = s.dict := rfl
@[simp] theorem State.holdAtPort_shadow (s : State) (cid : Nat) (p : Packet) : (s.holdAtPort cid p).shadow = s.shadow := rfl
@[simp] theorem State.holdAtPort_clusters (s : State) (cid : Nat) (p : Packet) : (s.holdAtPort cid p).clusters = s.clusters := rfl
@[simp] theorem State.holdAtPort_sluice (s : State) (cid : Nat) (p : Packet) : (s.holdAtPort cid p).sluice = s.sluice := rfl
@[simp] theorem State.holdAtPort_hbm (s : State) (cid : Nat) (p : Packet) : (s.holdAtPort cid p).hbm = s.hbm := rfl
@[simp] theorem State.holdAtPort_retained (s : State) (cid : Nat) (p : Packet) : (s.holdAtPort cid p).retained = s.retained := rfl
@[simp] theorem State.holdAtPort_seam (s : State) (cid : Nat) (p : Packet) : (s.holdAtPort cid p).seam = s.seam := rfl
@[simp] theorem State.holdAtPort_tb (s : State) (cid : Nat) (p : Packet) : (s.holdAtPort cid p).tb = s.tb := rfl
@[simp] theorem State.holdAtPort_run (s : State) (cid : Nat) (p : Packet) : (s.holdAtPort cid p).run = s.run := rfl
@[simp] theorem State.holdAtPort_faults (s : State) (cid : Nat) (p : Packet) : (s.holdAtPort cid p).faults = s.faults := rfl
@[simp] theorem State.holdAtPort_hub (s : State) (cid : Nat) (p : Packet) : (s.holdAtPort cid p).hub = s.hub := rfl
@[simp] theorem State.holdAtPort_fabric (s : State) (cid : Nat) (p : Packet) : (s.holdAtPort cid p).fabric = s.fabric := rfl
@[simp] theorem State.holdAtPort_ties (s : State) (cid : Nat) (p : Packet) : (s.holdAtPort cid p).ties = s.ties := rfl
@[simp] theorem State.holdAtPort_slipDone (s : State) (cid : Nat) (p : Packet) : (s.holdAtPort cid p).slipDone = s.slipDone := rfl
@[simp] theorem State.holdAtPort_anchored (s : State) (cid : Nat) (p : Packet) : (s.holdAtPort cid p).anchored = s.anchored := rfl
@[simp] theorem State.holdAtPort_trig (s : State) (cid : Nat) (p : Packet) : (s.holdAtPort cid p).trig = s.trig := rfl
@[simp] theorem State.holdAtPort_trace (s : State) (cid : Nat) (p : Packet) : (s.holdAtPort cid p).trace = s.trace := rfl
@[simp] theorem State.holdAtPort_flash (s : State) (cid : Nat) (p : Packet) : (s.holdAtPort cid p).flash = s.flash := rfl
@[simp] theorem State.holdAtPort_clk (s : State) (cid : Nat) (p : Packet) : (s.holdAtPort cid p).clk = s.clk := rfl
@[simp] theorem State.holdAtPort_persist (s : State) (cid : Nat) (p : Packet) : (s.holdAtPort cid p).persist = s.persist := rfl
@[simp] theorem State.holdAtPort_keys (s : State) (cid : Nat) (p : Packet) : (s.holdAtPort cid p).keys = s.keys := rfl
@[simp] theorem State.holdAtPort_tap (s : State) (cid : Nat) (p : Packet) : (s.holdAtPort cid p).tap = s.tap := rfl
@[simp] theorem State.holdAtPort_host (s : State) (cid : Nat) (p : Packet) : (s.holdAtPort cid p).host = s.host := rfl
@[simp] theorem State.holdAtPort_emcyQ (s : State) (cid : Nat) (p : Packet) : (s.holdAtPort cid p).emcyQ = s.emcyQ := rfl
@[simp] theorem State.holdAtPort_emcyDropped (s : State) (cid : Nat) (p : Packet) : (s.holdAtPort cid p).emcyDropped = s.emcyDropped := rfl
@[simp] theorem State.holdAtPort_vecPending (s : State) (cid : Nat) (p : Packet) : (s.holdAtPort cid p).vecPending = s.vecPending := rfl
@[simp] theorem State.holdAtPort_vecMasked (s : State) (cid : Nat) (p : Packet) : (s.holdAtPort cid p).vecMasked = s.vecMasked := rfl
@[simp] theorem State.holdAtPort_sent (s : State) (cid : Nat) (p : Packet) : (s.holdAtPort cid p).sent = s.sent := rfl
@[simp] theorem State.holdAtPort_fresh (s : State) (cid : Nat) (p : Packet) : (s.holdAtPort cid p).fresh = s.fresh := rfl
@[simp] theorem State.holdAtPort_net_links (s : State) (cid : Nat) (p : Packet) : (s.holdAtPort cid p).net.links = s.net.links := rfl
@[simp] theorem State.holdAtPort_net_arrived (s : State) (cid : Nat) (p : Packet) : (s.holdAtPort cid p).net.arrived = s.net.arrived := rfl
@[simp] theorem State.holdAtPort_net_tags (s : State) (cid : Nat) (p : Packet) : (s.holdAtPort cid p).net.tags = s.net.tags := rfl
@[simp] theorem State.holdAtPort_net_gens (s : State) (cid : Nat) (p : Packet) : (s.holdAtPort cid p).net.gens = s.net.gens := rfl
@[simp] theorem State.holdAtPort_net_done (s : State) (cid : Nat) (p : Packet) : (s.holdAtPort cid p).net.done = s.net.done := rfl

/-! ### State.tapIr -/

@[simp] theorem State.tapIr_pending (s : State) (ir len dr : Nat) : (s.tapIr ir len dr).pending = s.pending := rfl
@[simp] theorem State.tapIr_dict (s : State) (ir len dr : Nat) : (s.tapIr ir len dr).dict = s.dict := rfl
@[simp] theorem State.tapIr_shadow (s : State) (ir len dr : Nat) : (s.tapIr ir len dr).shadow = s.shadow := rfl
@[simp] theorem State.tapIr_clusters (s : State) (ir len dr : Nat) : (s.tapIr ir len dr).clusters = s.clusters := rfl
@[simp] theorem State.tapIr_sluice (s : State) (ir len dr : Nat) : (s.tapIr ir len dr).sluice = s.sluice := rfl
@[simp] theorem State.tapIr_net (s : State) (ir len dr : Nat) : (s.tapIr ir len dr).net = s.net := rfl
@[simp] theorem State.tapIr_hbm (s : State) (ir len dr : Nat) : (s.tapIr ir len dr).hbm = s.hbm := rfl
@[simp] theorem State.tapIr_retained (s : State) (ir len dr : Nat) : (s.tapIr ir len dr).retained = s.retained := rfl
@[simp] theorem State.tapIr_seam (s : State) (ir len dr : Nat) : (s.tapIr ir len dr).seam = s.seam := rfl
@[simp] theorem State.tapIr_tb (s : State) (ir len dr : Nat) : (s.tapIr ir len dr).tb = s.tb := rfl
@[simp] theorem State.tapIr_run (s : State) (ir len dr : Nat) : (s.tapIr ir len dr).run = s.run := rfl
@[simp] theorem State.tapIr_faults (s : State) (ir len dr : Nat) : (s.tapIr ir len dr).faults = s.faults := rfl
@[simp] theorem State.tapIr_hub (s : State) (ir len dr : Nat) : (s.tapIr ir len dr).hub = s.hub := rfl
@[simp] theorem State.tapIr_fabric (s : State) (ir len dr : Nat) : (s.tapIr ir len dr).fabric = s.fabric := rfl
@[simp] theorem State.tapIr_ties (s : State) (ir len dr : Nat) : (s.tapIr ir len dr).ties = s.ties := rfl
@[simp] theorem State.tapIr_slipDone (s : State) (ir len dr : Nat) : (s.tapIr ir len dr).slipDone = s.slipDone := rfl
@[simp] theorem State.tapIr_anchored (s : State) (ir len dr : Nat) : (s.tapIr ir len dr).anchored = s.anchored := rfl
@[simp] theorem State.tapIr_trig (s : State) (ir len dr : Nat) : (s.tapIr ir len dr).trig = s.trig := rfl
@[simp] theorem State.tapIr_trace (s : State) (ir len dr : Nat) : (s.tapIr ir len dr).trace = s.trace := rfl
@[simp] theorem State.tapIr_flash (s : State) (ir len dr : Nat) : (s.tapIr ir len dr).flash = s.flash := rfl
@[simp] theorem State.tapIr_clk (s : State) (ir len dr : Nat) : (s.tapIr ir len dr).clk = s.clk := rfl
@[simp] theorem State.tapIr_persist (s : State) (ir len dr : Nat) : (s.tapIr ir len dr).persist = s.persist := rfl
@[simp] theorem State.tapIr_keys (s : State) (ir len dr : Nat) : (s.tapIr ir len dr).keys = s.keys := rfl
@[simp] theorem State.tapIr_host (s : State) (ir len dr : Nat) : (s.tapIr ir len dr).host = s.host := rfl
@[simp] theorem State.tapIr_emcyQ (s : State) (ir len dr : Nat) : (s.tapIr ir len dr).emcyQ = s.emcyQ := rfl
@[simp] theorem State.tapIr_emcyDropped (s : State) (ir len dr : Nat) : (s.tapIr ir len dr).emcyDropped = s.emcyDropped := rfl
@[simp] theorem State.tapIr_vecPending (s : State) (ir len dr : Nat) : (s.tapIr ir len dr).vecPending = s.vecPending := rfl
@[simp] theorem State.tapIr_vecMasked (s : State) (ir len dr : Nat) : (s.tapIr ir len dr).vecMasked = s.vecMasked := rfl
@[simp] theorem State.tapIr_sent (s : State) (ir len dr : Nat) : (s.tapIr ir len dr).sent = s.sent := rfl
@[simp] theorem State.tapIr_fresh (s : State) (ir len dr : Nat) : (s.tapIr ir len dr).fresh = s.fresh := rfl
@[simp] theorem State.tapIr_tap_boundary (s : State) (ir len dr : Nat) : (s.tapIr ir len dr).tap.boundary = s.tap.boundary := rfl
@[simp] theorem State.tapIr_tap_busy (s : State) (ir len dr : Nat) : (s.tapIr ir len dr).tap.busy = s.tap.busy := rfl
@[simp] theorem State.tapIr_tap_ignored (s : State) (ir len dr : Nat) : (s.tapIr ir len dr).tap.ignored = s.tap.ignored := rfl
@[simp] theorem State.tapIr_tap_status (s : State) (ir len dr : Nat) : (s.tapIr ir len dr).tap.status = s.tap.status := rfl
@[simp] theorem State.tapIr_tap_code (s : State) (ir len dr : Nat) : (s.tapIr ir len dr).tap.code = s.tap.code := rfl
@[simp] theorem State.tapIr_tap_data (s : State) (ir len dr : Nat) : (s.tapIr ir len dr).tap.data = s.tap.data := rfl
@[simp] theorem State.tapIr_tap_page (s : State) (ir len dr : Nat) : (s.tapIr ir len dr).tap.page = s.tap.page := rfl
@[simp] theorem State.tapIr_tap_flOp (s : State) (ir len dr : Nat) : (s.tapIr ir len dr).tap.flOp = s.tap.flOp := rfl

/-! ### State.disarm -/

@[simp] theorem State.disarm_pending (s : State) : (s.disarm).pending = s.pending := rfl
@[simp] theorem State.disarm_dict (s : State) : (s.disarm).dict = s.dict := rfl
@[simp] theorem State.disarm_shadow (s : State) : (s.disarm).shadow = s.shadow := rfl
@[simp] theorem State.disarm_clusters (s : State) : (s.disarm).clusters = s.clusters := rfl
@[simp] theorem State.disarm_sluice (s : State) : (s.disarm).sluice = s.sluice := rfl
@[simp] theorem State.disarm_net (s : State) : (s.disarm).net = s.net := rfl
@[simp] theorem State.disarm_hbm (s : State) : (s.disarm).hbm = s.hbm := rfl
@[simp] theorem State.disarm_retained (s : State) : (s.disarm).retained = s.retained := rfl
@[simp] theorem State.disarm_seam (s : State) : (s.disarm).seam = s.seam := rfl
@[simp] theorem State.disarm_tb (s : State) : (s.disarm).tb = s.tb := rfl
@[simp] theorem State.disarm_faults (s : State) : (s.disarm).faults = s.faults := rfl
@[simp] theorem State.disarm_hub (s : State) : (s.disarm).hub = s.hub := rfl
@[simp] theorem State.disarm_fabric (s : State) : (s.disarm).fabric = s.fabric := rfl
@[simp] theorem State.disarm_ties (s : State) : (s.disarm).ties = s.ties := rfl
@[simp] theorem State.disarm_slipDone (s : State) : (s.disarm).slipDone = s.slipDone := rfl
@[simp] theorem State.disarm_anchored (s : State) : (s.disarm).anchored = s.anchored := rfl
@[simp] theorem State.disarm_trig (s : State) : (s.disarm).trig = s.trig := rfl
@[simp] theorem State.disarm_trace (s : State) : (s.disarm).trace = s.trace := rfl
@[simp] theorem State.disarm_flash (s : State) : (s.disarm).flash = s.flash := rfl
@[simp] theorem State.disarm_clk (s : State) : (s.disarm).clk = s.clk := rfl
@[simp] theorem State.disarm_persist (s : State) : (s.disarm).persist = s.persist := rfl
@[simp] theorem State.disarm_keys (s : State) : (s.disarm).keys = s.keys := rfl
@[simp] theorem State.disarm_tap (s : State) : (s.disarm).tap = s.tap := rfl
@[simp] theorem State.disarm_host (s : State) : (s.disarm).host = s.host := rfl
@[simp] theorem State.disarm_emcyQ (s : State) : (s.disarm).emcyQ = s.emcyQ := rfl
@[simp] theorem State.disarm_emcyDropped (s : State) : (s.disarm).emcyDropped = s.emcyDropped := rfl
@[simp] theorem State.disarm_vecPending (s : State) : (s.disarm).vecPending = s.vecPending := rfl
@[simp] theorem State.disarm_vecMasked (s : State) : (s.disarm).vecMasked = s.vecMasked := rfl
@[simp] theorem State.disarm_sent (s : State) : (s.disarm).sent = s.sent := rfl
@[simp] theorem State.disarm_fresh (s : State) : (s.disarm).fresh = s.fresh := rfl
@[simp] theorem State.disarm_run_window (s : State) : (s.disarm).run.window = s.run.window := rfl
@[simp] theorem State.disarm_run_causes (s : State) : (s.disarm).run.causes = s.run.causes := rfl
@[simp] theorem State.disarm_run_due (s : State) : (s.disarm).run.due = s.run.due := rfl
@[simp] theorem State.disarm_run_dueCauses (s : State) : (s.disarm).run.dueCauses = s.run.dueCauses := rfl
@[simp] theorem State.disarm_run_snaps (s : State) : (s.disarm).run.snaps = s.run.snaps := rfl
@[simp] theorem State.disarm_run_dueSnaps (s : State) : (s.disarm).run.dueSnaps = s.run.dueSnaps := rfl
@[simp] theorem State.disarm_run_resumeMode (s : State) : (s.disarm).run.resumeMode = s.run.resumeMode := rfl
@[simp] theorem State.disarm_run_moving (s : State) : (s.disarm).run.moving = s.run.moving := rfl
@[simp] theorem State.disarm_run_nextMove (s : State) : (s.disarm).run.nextMove = s.run.nextMove := rfl
@[simp] theorem State.disarm_run_snapOrders (s : State) : (s.disarm).run.snapOrders = s.run.snapOrders := rfl
@[simp] theorem State.disarm_run_pause (s : State) : (s.disarm).run.pause = s.run.pause := rfl
@[simp] theorem State.disarm_run_armMaster (s : State) : (s.disarm).run.armMaster = s.run.armMaster := rfl
@[simp] theorem State.disarm_run_stageList (s : State) : (s.disarm).run.stageList = s.run.stageList := rfl
@[simp] theorem State.disarm_run_checkDirty (s : State) : (s.disarm).run.checkDirty = s.run.checkDirty := rfl
@[simp] theorem State.disarm_run_heldWrites (s : State) : (s.disarm).run.heldWrites = s.run.heldWrites := rfl
@[simp] theorem State.disarm_run_restoreMaster (s : State) : (s.disarm).run.restoreMaster = s.run.restoreMaster := rfl
@[simp] theorem State.disarm_run_loadFrom (s : State) : (s.disarm).run.loadFrom = s.run.loadFrom := rfl
@[simp] theorem State.disarm_run_loadBinding (s : State) : (s.disarm).run.loadBinding = s.run.loadBinding := rfl
@[simp] theorem State.disarm_run_diagTest (s : State) : (s.disarm).run.diagTest = s.run.diagTest := rfl
@[simp] theorem State.disarm_run_abandon (s : State) : (s.disarm).run.abandon = s.run.abandon := rfl
@[simp] theorem State.disarm_run_retreated (s : State) : (s.disarm).run.retreated = s.run.retreated := rfl
@[simp] theorem State.disarm_run_discarding (s : State) : (s.disarm).run.discarding = s.run.discarding := rfl
@[simp] theorem State.disarm_run_runOnHold (s : State) : (s.disarm).run.runOnHold = s.run.runOnHold := rfl
@[simp] theorem State.disarm_run_forwarded (s : State) : (s.disarm).run.forwarded = s.run.forwarded := rfl
@[simp] theorem State.disarm_run_checking (s : State) : (s.disarm).run.checking = s.run.checking := rfl
@[simp] theorem State.disarm_run_pauseWrites (s : State) : (s.disarm).run.pauseWrites = s.run.pauseWrites := rfl
@[simp] theorem State.disarm_run_serial (s : State) : (s.disarm).run.serial = s.run.serial := rfl
@[simp] theorem State.disarm_run_lastOrder (s : State) : (s.disarm).run.lastOrder = s.run.lastOrder := rfl
@[simp] theorem State.disarm_run_boundaryAt (s : State) : (s.disarm).run.boundaryAt = s.run.boundaryAt := rfl

/-! ### State.bump -/

@[simp] theorem State.bump_pending (s : State) (k n : Nat) : (s.bump k n).pending = s.pending := rfl
@[simp] theorem State.bump_shadow (s : State) (k n : Nat) : (s.bump k n).shadow = s.shadow := rfl
@[simp] theorem State.bump_clusters (s : State) (k n : Nat) : (s.bump k n).clusters = s.clusters := rfl
@[simp] theorem State.bump_sluice (s : State) (k n : Nat) : (s.bump k n).sluice = s.sluice := rfl
@[simp] theorem State.bump_net (s : State) (k n : Nat) : (s.bump k n).net = s.net := rfl
@[simp] theorem State.bump_hbm (s : State) (k n : Nat) : (s.bump k n).hbm = s.hbm := rfl
@[simp] theorem State.bump_retained (s : State) (k n : Nat) : (s.bump k n).retained = s.retained := rfl
@[simp] theorem State.bump_seam (s : State) (k n : Nat) : (s.bump k n).seam = s.seam := rfl
@[simp] theorem State.bump_tb (s : State) (k n : Nat) : (s.bump k n).tb = s.tb := rfl
@[simp] theorem State.bump_run (s : State) (k n : Nat) : (s.bump k n).run = s.run := rfl
@[simp] theorem State.bump_faults (s : State) (k n : Nat) : (s.bump k n).faults = s.faults := rfl
@[simp] theorem State.bump_hub (s : State) (k n : Nat) : (s.bump k n).hub = s.hub := rfl
@[simp] theorem State.bump_fabric (s : State) (k n : Nat) : (s.bump k n).fabric = s.fabric := rfl
@[simp] theorem State.bump_ties (s : State) (k n : Nat) : (s.bump k n).ties = s.ties := rfl
@[simp] theorem State.bump_slipDone (s : State) (k n : Nat) : (s.bump k n).slipDone = s.slipDone := rfl
@[simp] theorem State.bump_anchored (s : State) (k n : Nat) : (s.bump k n).anchored = s.anchored := rfl
@[simp] theorem State.bump_trig (s : State) (k n : Nat) : (s.bump k n).trig = s.trig := rfl
@[simp] theorem State.bump_trace (s : State) (k n : Nat) : (s.bump k n).trace = s.trace := rfl
@[simp] theorem State.bump_flash (s : State) (k n : Nat) : (s.bump k n).flash = s.flash := rfl
@[simp] theorem State.bump_clk (s : State) (k n : Nat) : (s.bump k n).clk = s.clk := rfl
@[simp] theorem State.bump_persist (s : State) (k n : Nat) : (s.bump k n).persist = s.persist := rfl
@[simp] theorem State.bump_keys (s : State) (k n : Nat) : (s.bump k n).keys = s.keys := rfl
@[simp] theorem State.bump_tap (s : State) (k n : Nat) : (s.bump k n).tap = s.tap := rfl
@[simp] theorem State.bump_host (s : State) (k n : Nat) : (s.bump k n).host = s.host := rfl
@[simp] theorem State.bump_emcyQ (s : State) (k n : Nat) : (s.bump k n).emcyQ = s.emcyQ := rfl
@[simp] theorem State.bump_emcyDropped (s : State) (k n : Nat) : (s.bump k n).emcyDropped = s.emcyDropped := rfl
@[simp] theorem State.bump_vecPending (s : State) (k n : Nat) : (s.bump k n).vecPending = s.vecPending := rfl
@[simp] theorem State.bump_vecMasked (s : State) (k n : Nat) : (s.bump k n).vecMasked = s.vecMasked := rfl
@[simp] theorem State.bump_sent (s : State) (k n : Nat) : (s.bump k n).sent = s.sent := rfl
@[simp] theorem State.bump_fresh (s : State) (k n : Nat) : (s.bump k n).fresh = s.fresh := rfl

/-! ### State.setObjBit -/

@[simp] theorem State.setObjBit_pending (s : State) (k i : Nat) (b : Bool) : (s.setObjBit k i b).pending = s.pending := rfl
@[simp] theorem State.setObjBit_shadow (s : State) (k i : Nat) (b : Bool) : (s.setObjBit k i b).shadow = s.shadow := rfl
@[simp] theorem State.setObjBit_clusters (s : State) (k i : Nat) (b : Bool) : (s.setObjBit k i b).clusters = s.clusters := rfl
@[simp] theorem State.setObjBit_sluice (s : State) (k i : Nat) (b : Bool) : (s.setObjBit k i b).sluice = s.sluice := rfl
@[simp] theorem State.setObjBit_net (s : State) (k i : Nat) (b : Bool) : (s.setObjBit k i b).net = s.net := rfl
@[simp] theorem State.setObjBit_hbm (s : State) (k i : Nat) (b : Bool) : (s.setObjBit k i b).hbm = s.hbm := rfl
@[simp] theorem State.setObjBit_retained (s : State) (k i : Nat) (b : Bool) : (s.setObjBit k i b).retained = s.retained := rfl
@[simp] theorem State.setObjBit_seam (s : State) (k i : Nat) (b : Bool) : (s.setObjBit k i b).seam = s.seam := rfl
@[simp] theorem State.setObjBit_tb (s : State) (k i : Nat) (b : Bool) : (s.setObjBit k i b).tb = s.tb := rfl
@[simp] theorem State.setObjBit_run (s : State) (k i : Nat) (b : Bool) : (s.setObjBit k i b).run = s.run := rfl
@[simp] theorem State.setObjBit_faults (s : State) (k i : Nat) (b : Bool) : (s.setObjBit k i b).faults = s.faults := rfl
@[simp] theorem State.setObjBit_hub (s : State) (k i : Nat) (b : Bool) : (s.setObjBit k i b).hub = s.hub := rfl
@[simp] theorem State.setObjBit_fabric (s : State) (k i : Nat) (b : Bool) : (s.setObjBit k i b).fabric = s.fabric := rfl
@[simp] theorem State.setObjBit_ties (s : State) (k i : Nat) (b : Bool) : (s.setObjBit k i b).ties = s.ties := rfl
@[simp] theorem State.setObjBit_slipDone (s : State) (k i : Nat) (b : Bool) : (s.setObjBit k i b).slipDone = s.slipDone := rfl
@[simp] theorem State.setObjBit_anchored (s : State) (k i : Nat) (b : Bool) : (s.setObjBit k i b).anchored = s.anchored := rfl
@[simp] theorem State.setObjBit_trig (s : State) (k i : Nat) (b : Bool) : (s.setObjBit k i b).trig = s.trig := rfl
@[simp] theorem State.setObjBit_trace (s : State) (k i : Nat) (b : Bool) : (s.setObjBit k i b).trace = s.trace := rfl
@[simp] theorem State.setObjBit_flash (s : State) (k i : Nat) (b : Bool) : (s.setObjBit k i b).flash = s.flash := rfl
@[simp] theorem State.setObjBit_clk (s : State) (k i : Nat) (b : Bool) : (s.setObjBit k i b).clk = s.clk := rfl
@[simp] theorem State.setObjBit_persist (s : State) (k i : Nat) (b : Bool) : (s.setObjBit k i b).persist = s.persist := rfl
@[simp] theorem State.setObjBit_keys (s : State) (k i : Nat) (b : Bool) : (s.setObjBit k i b).keys = s.keys := rfl
@[simp] theorem State.setObjBit_tap (s : State) (k i : Nat) (b : Bool) : (s.setObjBit k i b).tap = s.tap := rfl
@[simp] theorem State.setObjBit_host (s : State) (k i : Nat) (b : Bool) : (s.setObjBit k i b).host = s.host := rfl
@[simp] theorem State.setObjBit_emcyQ (s : State) (k i : Nat) (b : Bool) : (s.setObjBit k i b).emcyQ = s.emcyQ := rfl
@[simp] theorem State.setObjBit_emcyDropped (s : State) (k i : Nat) (b : Bool) : (s.setObjBit k i b).emcyDropped = s.emcyDropped := rfl
@[simp] theorem State.setObjBit_vecPending (s : State) (k i : Nat) (b : Bool) : (s.setObjBit k i b).vecPending = s.vecPending := rfl
@[simp] theorem State.setObjBit_vecMasked (s : State) (k i : Nat) (b : Bool) : (s.setObjBit k i b).vecMasked = s.vecMasked := rfl
@[simp] theorem State.setObjBit_sent (s : State) (k i : Nat) (b : Bool) : (s.setObjBit k i b).sent = s.sent := rfl
@[simp] theorem State.setObjBit_fresh (s : State) (k i : Nat) (b : Bool) : (s.setObjBit k i b).fresh = s.fresh := rfl

/-! ### State.setPort -/

@[simp] theorem State.setPort_pending (s : State) (cid v : Nat) : (s.setPort cid v).pending = s.pending := rfl
@[simp] theorem State.setPort_shadow (s : State) (cid v : Nat) : (s.setPort cid v).shadow = s.shadow := rfl
@[simp] theorem State.setPort_clusters (s : State) (cid v : Nat) : (s.setPort cid v).clusters = s.clusters := rfl
@[simp] theorem State.setPort_sluice (s : State) (cid v : Nat) : (s.setPort cid v).sluice = s.sluice := rfl
@[simp] theorem State.setPort_net (s : State) (cid v : Nat) : (s.setPort cid v).net = s.net := rfl
@[simp] theorem State.setPort_hbm (s : State) (cid v : Nat) : (s.setPort cid v).hbm = s.hbm := rfl
@[simp] theorem State.setPort_retained (s : State) (cid v : Nat) : (s.setPort cid v).retained = s.retained := rfl
@[simp] theorem State.setPort_seam (s : State) (cid v : Nat) : (s.setPort cid v).seam = s.seam := rfl
@[simp] theorem State.setPort_tb (s : State) (cid v : Nat) : (s.setPort cid v).tb = s.tb := rfl
@[simp] theorem State.setPort_run (s : State) (cid v : Nat) : (s.setPort cid v).run = s.run := rfl
@[simp] theorem State.setPort_faults (s : State) (cid v : Nat) : (s.setPort cid v).faults = s.faults := rfl
@[simp] theorem State.setPort_hub (s : State) (cid v : Nat) : (s.setPort cid v).hub = s.hub := rfl
@[simp] theorem State.setPort_fabric (s : State) (cid v : Nat) : (s.setPort cid v).fabric = s.fabric := rfl
@[simp] theorem State.setPort_ties (s : State) (cid v : Nat) : (s.setPort cid v).ties = s.ties := rfl
@[simp] theorem State.setPort_slipDone (s : State) (cid v : Nat) : (s.setPort cid v).slipDone = s.slipDone := rfl
@[simp] theorem State.setPort_anchored (s : State) (cid v : Nat) : (s.setPort cid v).anchored = s.anchored := rfl
@[simp] theorem State.setPort_trig (s : State) (cid v : Nat) : (s.setPort cid v).trig = s.trig := rfl
@[simp] theorem State.setPort_trace (s : State) (cid v : Nat) : (s.setPort cid v).trace = s.trace := rfl
@[simp] theorem State.setPort_flash (s : State) (cid v : Nat) : (s.setPort cid v).flash = s.flash := rfl
@[simp] theorem State.setPort_clk (s : State) (cid v : Nat) : (s.setPort cid v).clk = s.clk := rfl
@[simp] theorem State.setPort_persist (s : State) (cid v : Nat) : (s.setPort cid v).persist = s.persist := rfl
@[simp] theorem State.setPort_keys (s : State) (cid v : Nat) : (s.setPort cid v).keys = s.keys := rfl
@[simp] theorem State.setPort_tap (s : State) (cid v : Nat) : (s.setPort cid v).tap = s.tap := rfl
@[simp] theorem State.setPort_host (s : State) (cid v : Nat) : (s.setPort cid v).host = s.host := rfl
@[simp] theorem State.setPort_emcyQ (s : State) (cid v : Nat) : (s.setPort cid v).emcyQ = s.emcyQ := rfl
@[simp] theorem State.setPort_emcyDropped (s : State) (cid v : Nat) : (s.setPort cid v).emcyDropped = s.emcyDropped := rfl
@[simp] theorem State.setPort_vecPending (s : State) (cid v : Nat) : (s.setPort cid v).vecPending = s.vecPending := rfl
@[simp] theorem State.setPort_vecMasked (s : State) (cid v : Nat) : (s.setPort cid v).vecMasked = s.vecMasked := rfl
@[simp] theorem State.setPort_sent (s : State) (cid v : Nat) : (s.setPort cid v).sent = s.sent := rfl
@[simp] theorem State.setPort_fresh (s : State) (cid v : Nat) : (s.setPort cid v).fresh = s.fresh := rfl

/-! ### Reading back -/

@[simp] theorem State.obj_setObj_same (s : State) (k v : Nat) : (s.setObj k v).obj k = v := tget_tput_same dflt s.dict k v

theorem State.obj_setObj_other (s : State) {k j : Nat} (v : Nat) (h : j ≠ k) : (s.setObj k v).obj j = s.obj j :=
  tget_tput_other dflt s.dict v h

theorem State.obj_setObj (s : State) (k v j : Nat) : (s.setObj k v).obj j = if j = k then v else s.obj j := by
  split
  · subst j
    exact State.obj_setObj_same s k v
  · exact State.obj_setObj_other s v ‹_›

theorem State.obj_setObjs (s : State) (l : List (Nat × Nat)) {j : Nat} (h : ∀ e ∈ l, e.1 ≠ j) : (s.setObjs l).obj j = s.obj j := by
  induction l generalizing s with
  | nil => rfl
  | cons e l ih =>
    refine (ih (s.setObj e.1 e.2) fun x hx => h x (List.mem_cons_of_mem e hx)).trans ?_
    exact State.obj_setObj_other s e.2 (Ne.symm (h e (List.mem_cons_self ..)))

/-- Writes to distinct keys are all read back. -/
theorem State.obj_setObjs_mem (s : State) (l : List (Nat × Nat)) (hn : (l.map Prod.fst).Nodup) {e : Nat × Nat} (he : e ∈ l) :
    (s.setObjs l).obj e.1 = e.2 := by
  induction l generalizing s with
  | nil => cases he
  | cons x l ih =>
    simp only [List.map_cons, List.nodup_cons] at hn
    rcases List.mem_cons.1 he with rfl | he
    · refine (State.obj_setObjs (s.setObj e.1 e.2) l fun y hy hc => hn.1 ?_).trans (State.obj_setObj_same s e.1 e.2)
      exact hc ▸ List.mem_map_of_mem hy
    · exact ih (s.setObj x.1 x.2) hn.2 he

theorem State.setObjs_other (s : State) (l : List (Nat × Nat)) : { s.setObjs l with dict := s.dict } = s := by
  induction l generalizing s with
  | nil => rfl
  | cons e l ih =>
    have h := ih (s.setObj e.1 e.2)
    exact congrArg (fun t : State => { t with dict := s.dict }) h

@[simp] theorem State.obj_bump_same (s : State) (k n : Nat) : (s.bump k n).obj k = satAdd (widthOf k) (s.obj k) n :=
  State.obj_setObj_same ..

theorem State.obj_bump_other (s : State) {k j : Nat} (n : Nat) (h : j ≠ k) : (s.bump k n).obj j = s.obj j :=
  State.obj_setObj_other s _ h

@[simp] theorem State.obj_setObjBit_same (s : State) (k i : Nat) (b : Bool) : (s.setObjBit k i b).obj k = setBit (s.obj k) i b :=
  State.obj_setObj_same ..

theorem State.obj_setObjBit_other (s : State) {k j : Nat} (i : Nat) (b : Bool) (h : j ≠ k) : (s.setObjBit k i b).obj j = s.obj j :=
  State.obj_setObj_other s _ h

theorem State.obj_raise_same (s : State) (k v : Nat) : (s.raise k v).obj k = max (s.obj k) v := by
  unfold State.raise
  split
  · rw [State.obj_setObj_same]
    omega
  · omega

theorem State.obj_raise_other (s : State) {k j : Nat} (v : Nat) (h : j ≠ k) : (s.raise k v).obj j = s.obj j := by
  unfold State.raise
  split
  · exact State.obj_setObj_other s v h
  · rfl

theorem State.raise_other (s : State) (k v : Nat) : { s.raise k v with dict := s.dict } = s := by
  unfold State.raise
  split <;> rfl

@[simp] theorem State.cl_setCl_same (s : State) (c : Nat) (k : Cluster) : (s.setCl c k).cl c = k := tget_tput_same ..
theorem State.cl_setCl_other (s : State) {c d : Nat} (k : Cluster) (h : d ≠ c) : (s.setCl c k).cl d = s.cl d := tget_tput_other _ _ k h
@[simp] theorem State.link_setLink_same (s : State) (l : Nat) (k : SeamLink) : (s.setLink l k).link l = k := tget_tput_same ..
theorem State.link_setLink_other (s : State) {l d : Nat} (k : SeamLink) (h : d ≠ l) : (s.setLink l k).link d = s.link d := tget_tput_other _ _ k h
@[simp] theorem State.core_setCore_same (s : State) (c : Nat) (k : Core) : (s.setCore c k).core c = k := tget_tput_same ..
theorem State.core_setCore_other (s : State) {c d : Nat} (k : Core) (h : d ≠ c) : (s.setCore c k).core d = s.core d := tget_tput_other _ _ k h
@[simp] theorem State.thread_setThread_same (s : State) (t : Nat) (k : Thread) : (s.setThread t k).thread t = k := tget_tput_same ..
theorem State.thread_setThread_other (s : State) {t d : Nat} (k : Thread) (h : d ≠ t) : (s.setThread t k).thread d = s.thread d :=
  tget_tput_other _ _ k h
@[simp] theorem State.xport_setXport_same (s : State) (x : Nat) (k : Xport) : (s.setXport x k).xport x = k := tget_tput_same ..
@[simp] theorem State.lockOwner_setLock_same (s : State) (n : Nat) (o : Option Nat) : (s.setLock n o).lockOwner n = o := tget_tput_same ..
@[simp] theorem State.tie_setTie_same (s : State) (i : Nat) (u : TieUnit) : (s.setTie i u).tie i = u := tget_tput_same ..
@[simp] theorem State.pad_setPad_same (s : State) (p : Nat) (v : Pad) : (s.setPad p v).pad p = v := tget_tput_same ..
@[simp] theorem State.region_setRegion_same (s : State) (r : Nat) (v : Region) : (s.setRegion r v).region r = v := tget_tput_same ..

end Sys2Proof.Machine
end

