-- ==== Sys2Proof/Laws/Access.lean ====
section
/-!
SUPPORT. What a served write does, what an op about to execute does, and what a list of written objects is.
-/

namespace Sys2Proof.Machine

/-- A served write that its object accepts. -/
theorem State.write_accepted {s t : State} {m : Master} {k v : Nat} {f : State → State × Nat} (h : s.serves k) (e : f s = (t, eNone)) :
    s.write m k v f = .next t := by
  obtain ⟨h1, h2⟩ := h
  simp [State.write, State.access, h1, h2, e]

/-- A served write that its object refuses leaves its record (R374), with what the object's own rule says of a refusal. -/
theorem State.write_refused {s u : State} {m : Master} {k v c : Nat} {f : State → State × Nat} (h : s.serves k) (e : f s = (u, c))
    (hc : c ≠ eNone) : s.write m k v f = .next (u.refuse m k c) := by
  obtain ⟨h1, h2⟩ := h
  simp [State.write, State.access, h1, h2, e, hc]

/-- An op about to execute executes, and its BP has then no op left in the step. -/
theorem State.opAt_executes {s : State} {die pc bp w : Nat} {f : Nat → Bool} (h : s.opReady die pc bp w) (hf : f w = true) :
    s.opAt die pc bp f = .next ((s.opDone die pc bp).execOp (cidOf die pc) bp w) := by
  obtain ⟨h1, h2⟩ := h
  unfold State.opAt
  simp only [h2, h1, hf, Bool.and_self, if_true]

/-- One object written. -/
theorem State.wrote_setObj (s : State) (k v : Nat) : s.wrote (s.setObj k v) [(k, v)] := by
  refine ⟨rfl, ?_, ?_⟩
  · intro e he
    simp at he
    subst he
    exact State.obj_setObj_same ..
  · intro j hj
    exact State.obj_setObj_other _ _ (Ne.symm (hj (k, v) (by simp)))

/-- Objects with different keys written. -/
theorem State.wrote_setObjs (s : State) (l : List (Nat × Nat)) (h : (l.map Prod.fst).Nodup) : s.wrote (s.setObjs l) l := by
  induction l generalizing s with
  | nil => exact ⟨rfl, by simp, fun _ _ => rfl⟩
  | cons e l ih =>
    obtain ⟨k, v⟩ := e
    simp only [List.map_cons, List.nodup_cons] at h
    obtain ⟨h1, h2, h3⟩ := ih (s.setObj k v) h.2
    have hk : ∀ x ∈ l, x.1 ≠ k := fun x hx e => h.1 (e ▸ List.mem_map_of_mem hx)
    refine ⟨?_, ?_, ?_⟩
    · have := congrArg (fun u : State => { u with dict := s.dict }) h1
      exact this
    · intro x hx
      rcases List.mem_cons.1 hx with rfl | hx
      · exact (h3 k hk).trans (State.obj_setObj_same ..)
      · exact h2 x hx
    · intro j hj
      refine (h3 j fun x hx => hj x (List.mem_cons_of_mem _ hx)).trans ?_
      exact State.obj_setObj_other _ _ (Ne.symm (hj (k, v) (by simp)))

end Sys2Proof.Machine
end

