-- ==== Sys2Proof/Laws/KeptBase.lean ====
section
/-!
SUPPORT. What every operation keeps: the queue of waiting commands, the canonical form of the stores, and the bounds on what may wait.
-/

namespace Sys2Proof.Machine

/-- The queue is `ql`, the stores are canonical and what may wait is within its bounds. -/
structure State.Kept (ql : List Instr) (s : State) : Prop where
  queue : s.pending = ql
  dict : Tab.wf dflt s.dict = true
  shadow : Tab.wf (fun _ => none) s.shadow = true
  sram : s.hub.sram.wf = true
  hbm : s.hbm.mem.wf = true
  emcy : s.emcyQ.length ≤ 16
  ring : s.faults.ring.length ≤ 256
  held : s.run.heldWrites.length ≤ 64

/-- The state of a pair is kept. -/
def Kept1 {α : Type} (ql : List Instr) (p : State × α) : Prop := p.1.Kept ql

/-- An outcome that goes on goes on to a kept state. -/
def Out.Kept (ql : List Instr) (o : Out) : Prop := ∀ t, o = .next t → t.Kept ql

theorem Out.next_kept {ql : List Instr} {t : State} (h : t.Kept ql) : Out.Kept ql (.next t) := by
  intro u e
  cases e
  exact h

theorem Out.fault_kept (ql : List Instr) (r : Fault) : Out.Kept ql (.fault r) := fun _ e => nomatch e

theorem Out.refused_kept (ql : List Instr) (r : Refusal) : Out.Kept ql (.refused r) := fun _ e => nomatch e

theorem next_of_kept {ql : List Instr} {o : Out} {t : State} (e : o = .next t) (h : Out.Kept ql o) : t.Kept ql := h t e

theorem mk1_kept {α : Type} {ql : List Instr} {a : State} {b : α} (h : a.Kept ql) : Kept1 ql (a, b) := h

theorem fst_kept {α : Type} {ql : List Instr} {p : State × α} (h : Kept1 ql p) : p.1.Kept ql := h

theorem fst_mk_kept {α : Type} {ql : List Instr} {a : State} {b : α} (h : Kept1 ql (a, b)) : a.Kept ql := h

theorem fst_of_kept {α : Type} {ql : List Instr} {p : State × α} {a : State} {b : α} (e : p = (a, b)) (h : Kept1 ql p) : a.Kept ql := by
  subst e
  exact h

theorem ite_kept {ql : List Instr} {c : Prop} [Decidable c] {a b : State} (ha : c → a.Kept ql) (hb : ¬c → b.Kept ql) :
    State.Kept ql (if c then a else b) := by
  split
  · exact ha ‹_›
  · exact hb ‹_›

theorem ite1_kept {α : Type} {ql : List Instr} {c : Prop} [Decidable c] {a b : State × α} (ha : c → Kept1 ql a) (hb : ¬c → Kept1 ql b) :
    Kept1 ql (if c then a else b) := by
  split
  · exact ha ‹_›
  · exact hb ‹_›

theorem ite_out_kept {ql : List Instr} {c : Prop} [Decidable c] {a b : Out} (ha : c → Out.Kept ql a) (hb : ¬c → Out.Kept ql b) :
    Out.Kept ql (if c then a else b) := by
  split
  · exact ha ‹_›
  · exact hb ‹_›

theorem let_kept {ql : List Instr} {e : State} {P : State → Prop} (he : e.Kept ql) (hp : ∀ x : State, x.Kept ql → P x) :
    ∀ x : State, x = e → P x := fun x h => hp x (h ▸ he)

theorem let1_kept {α : Type} {ql : List Instr} {e : State × α} {P : State × α → Prop} (he : Kept1 ql e)
    (hp : ∀ x : State × α, Kept1 ql x → P x) : ∀ x : State × α, x = e → P x := fun x h => hp x (h ▸ he)

theorem foldl_kept {α : Type} {ql : List Instr} {f : State → α → State} {xs : List α} {s : State}
    (h : ∀ s a, s.Kept ql → (f s a).Kept ql) (hs : s.Kept ql) : (xs.foldl f s).Kept ql := by
  induction xs generalizing s with
  | nil => exact hs
  | cons a xs ih => exact ih (h s a hs)

theorem foldl_kept1 {α β : Type} {ql : List Instr} {f : State × β → α → State × β} {xs : List α} {s : State × β}
    (h : ∀ s a, Kept1 ql s → Kept1 ql (f s a)) (hs : Kept1 ql s) : Kept1 ql (xs.foldl f s) := by
  induction xs generalizing s with
  | nil => exact hs
  | cons a xs ih => exact ih (h s a hs)

theorem foldl_out_kept {α : Type} {ql : List Instr} {f : Out → α → Out} {xs : List α} {s : Out}
    (h : ∀ s a, Out.Kept ql s → Out.Kept ql (f s a)) (hs : Out.Kept ql s) : Out.Kept ql (xs.foldl f s) := by
  induction xs generalizing s with
  | nil => exact hs
  | cons a xs ih => exact ih (h s a hs)

/-- A change to none of these keeps them. -/
theorem mk_kept {ql : List Instr} {s : State} {clusters_ : Tab Cluster} {sluice_ : Sluice} {net_ : Net} {retained_ : Retained} {seam_ : Tab SeamLink} {tb_ : TimeBase} {fabric_ : Fabric} {ties_ : Tab TieUnit} {slipDone_ : Bool} {anchored_ : Bool} {trig_ : Trigger} {trace_ : Trace} {flash_ : Tab Byte} {clk_ : Clocks} {persist_ : Persist} {keys_ : Keys} {tap_ : Tap} {host_ : HostIf} {emcyDropped_ : Option Nat} {vecPending_ : List Nat} {vecMasked_ : List Nat} {sent_ : List Sent} {fresh_ : Nat} (h : s.Kept ql) :
    State.Kept ql (State.mk s.pending s.dict s.shadow clusters_ sluice_ net_ s.hbm retained_ seam_ tb_ s.run s.faults s.hub fabric_ ties_ slipDone_ anchored_ trig_ trace_ flash_ clk_ persist_ keys_ tap_ host_ s.emcyQ emcyDropped_ vecPending_ vecMasked_ sent_ fresh_) :=
  ⟨h.queue, h.dict, h.shadow, h.sram, h.hbm, h.emcy, h.ring, h.held⟩

/-- Any change but to the queue keeps them if it keeps each. -/
theorem mk_all_kept {ql : List Instr} {s : State} {dict_ : Tab Nat} {shadow_ : Tab (Option Nat)} {clusters_ : Tab Cluster} {sluice_ : Sluice} {net_ : Net} {hbm_ : Hbm} {retained_ : Retained} {seam_ : Tab SeamLink} {tb_ : TimeBase} {run_ : Run} {faults_ : Faults} {hub_ : Hub} {fabric_ : Fabric} {ties_ : Tab TieUnit} {slipDone_ : Bool} {anchored_ : Bool} {trig_ : Trigger} {trace_ : Trace} {flash_ : Tab Byte} {clk_ : Clocks} {persist_ : Persist} {keys_ : Keys} {tap_ : Tap} {host_ : HostIf} {emcyQ_ : List (Nat × Nat)} {emcyDropped_ : Option Nat} {vecPending_ : List Nat} {vecMasked_ : List Nat} {sent_ : List Sent} {fresh_ : Nat} (h : s.Kept ql)
    (hd : Tab.wf dflt s.dict = true → Tab.wf dflt dict_ = true)
    (hs : Tab.wf (fun _ => none) s.shadow = true → Tab.wf (fun _ => none) shadow_ = true)
    (hu : s.hub.sram.wf = true → hub_.sram.wf = true) (hb : s.hbm.mem.wf = true → hbm_.mem.wf = true)
    (he : s.emcyQ.length ≤ 16 → emcyQ_.length ≤ 16) (hf : s.faults.ring.length ≤ 256 → faults_.ring.length ≤ 256)
    (hr : s.run.heldWrites.length ≤ 64 → run_.heldWrites.length ≤ 64) :
    State.Kept ql (State.mk s.pending dict_ shadow_ clusters_ sluice_ net_ hbm_ retained_ seam_ tb_ run_ faults_ hub_ fabric_ ties_ slipDone_ anchored_ trig_ trace_ flash_ clk_ persist_ keys_ tap_ host_ emcyQ_ emcyDropped_ vecPending_ vecMasked_ sent_ fresh_) :=
  ⟨h.queue, hd h.dict, hs h.shadow, hu h.sram, hb h.hbm, he h.emcy, hf h.ring, hr h.held⟩

end Sys2Proof.Machine
end

