-- ==== Sys2Proof/Laws/KeptOps.lean ====
section
/-!
SUPPORT. Every operation of Machine/Ops.lean leaves the queue of waiting commands as it is, the stores canonical and what waits within bounds.
-/

set_option linter.tactic.unusedName false
set_option linter.unusedVariables false

namespace Sys2Proof.Machine

theorem State.setObj_kept {ql : List Instr} {s : State} {k v : Nat} (h : s.Kept ql) : (s.setObj k v).Kept ql :=
  mk_all_kept h (fun w => tput_wf dflt w k v) id id id id id id

theorem State.setObjs_kept {ql : List Instr} {s : State} {es : List (Nat × Nat)} (h : s.Kept ql) : (s.setObjs es).Kept ql := by
  induction es generalizing s with
  | nil => exact h
  | cons e es ih => exact ih (State.setObj_kept h)

theorem State.bump_kept {ql : List Instr} {s : State} {k n : Nat} (h1 : s.Kept ql) : State.Kept ql (State.bump s k n) := by
  unfold State.bump
  repeat' first
    | with_reducible assumption
    | (with_reducible refine State.setObj_kept ?_)

theorem State.raise_kept {ql : List Instr} {s : State} {k v : Nat} (h1 : s.Kept ql) : State.Kept ql (State.raise s k v) := by
  unfold State.raise
  repeat' first
    | with_reducible assumption
    | (with_reducible refine State.setObj_kept ?_)
    | (with_reducible refine ite_kept (fun _ => ?_) (fun _ => ?_))

theorem State.setObjBit_kept {ql : List Instr} {s : State} {k i : Nat} {b : Bool} (h1 : s.Kept ql) : State.Kept ql (State.setObjBit s k i b) := by
  unfold State.setObjBit
  repeat' first
    | with_reducible assumption
    | (with_reducible refine State.setObj_kept ?_)

theorem State.draw_kept {ql : List Instr} {s : State} (h1 : s.Kept ql) : State.Kept ql (State.draw s) := by
  unfold State.draw
  repeat' first
    | (with_reducible exact mk_kept (by assumption))

theorem State.emit_kept {ql : List Instr} {s : State} {m : Sent} (h1 : s.Kept ql) : State.Kept ql (State.emit s m) := by
  unfold State.emit
  repeat' first
    | (with_reducible exact mk_kept (by assumption))

theorem State.msix_kept {ql : List Instr} {s : State} {v : Nat} (h1 : s.Kept ql) : State.Kept ql (State.msix s v) := by
  unfold State.msix
  repeat' first
    | with_reducible assumption
    | (with_reducible refine State.emit_kept ?_)
    | (with_reducible refine ite_kept (fun _ => ?_) (fun _ => ?_))
    | split
    | (with_reducible exact mk_kept (by assumption))

theorem State.emcy_kept {ql : List Instr} {s : State} {code record : Nat} (h1 : s.Kept ql) : State.Kept ql (State.emcy s code record) := by
  unfold State.emcy
  repeat' first
    | with_reducible assumption
    | (with_reducible refine ite_kept (fun _ => ?_) (fun _ => ?_))
    | split
    | (with_reducible exact mk_kept (by assumption))
    | ((with_reducible refine mk_all_kept (by assumption) ?_ ?_ ?_ ?_ ?_ ?_ ?_) <;> first | exact id | (intro _; simp only [List.length_append, List.length_cons, List.length_nil]; omega))

theorem State.setMode_kept {ql : List Instr} {s : State} {m : Nat} (h1 : s.Kept ql) : State.Kept ql (State.setMode s m) := by
  unfold State.setMode
  repeat' first
    | with_reducible assumption
    | (with_reducible refine State.setObj_kept ?_)
    | (with_reducible refine State.msix_kept ?_)
    | (with_reducible refine ite_kept (fun _ => ?_) (fun _ => ?_))

theorem State.setCl_kept {ql : List Instr} {s : State} {cid : Nat} {c : Cluster} (h1 : s.Kept ql) : State.Kept ql (State.setCl s cid c) := by
  unfold State.setCl
  repeat' first
    | (with_reducible exact mk_kept (by assumption))

theorem State.setPort_kept {ql : List Instr} {s : State} {cid v : Nat} (h1 : s.Kept ql) : State.Kept ql (State.setPort s cid v) := by
  unfold State.setPort
  repeat' first
    | with_reducible assumption
    | (with_reducible refine State.setObj_kept ?_)

theorem State.setLink_kept {ql : List Instr} {s : State} {l : Nat} {k : SeamLink} (h1 : s.Kept ql) : State.Kept ql (State.setLink s l k) := by
  unfold State.setLink
  repeat' first
    | (with_reducible exact mk_kept (by assumption))

theorem State.onLinks_kept {ql : List Instr} {s : State} {ls : List Nat} {f : Nat → SeamLink → SeamLink} (h1 : s.Kept ql) : State.Kept ql (State.onLinks s ls f) := by
  unfold State.onLinks
  repeat' first
    | with_reducible assumption
    | (with_reducible refine State.setLink_kept ?_)
    | (with_reducible refine foldl_kept (fun _ _ _ => ?_) ?_)

theorem State.sendXtrig_kept {ql : List Instr} {s : State} {lines originDc : Nat} (h1 : s.Kept ql) : State.Kept ql (State.sendXtrig s lines originDc) := by
  unfold State.sendXtrig
  repeat' first
    | with_reducible assumption
    | (extract_lets +onlyGivenNames x; clear_value (hx : x = _); revert x; refine let_kept (ql := ql) ?_ fun x _ => ?_)
    | (extract_lets +onlyGivenNames x; clear_value (hx : x = _); clear hx)
    | (with_reducible refine State.onLinks_kept ?_)
    | (with_reducible exact mk_kept (by assumption))

theorem State.tagObjs_kept {ql : List Instr} {s : State} (h1 : s.Kept ql) : State.Kept ql (State.tagObjs s) := by
  unfold State.tagObjs
  repeat' first
    | with_reducible assumption
    | (extract_lets +onlyGivenNames x; clear_value (hx : x = _); clear hx)
    | (with_reducible refine State.setObj_kept ?_)
    | (with_reducible refine State.raise_kept ?_)

theorem takeTag_kept {ql : List Instr} {s : State} {die : Nat} {w : TagOwner} {t : Nat} {u : State}
    (e : s.takeTag die w = some (t, u)) (h : s.Kept ql) : u.Kept ql := by
  unfold State.takeTag at e
  dsimp only at e
  split at e
  · cases e
  · cases e
    exact State.tagObjs_kept (mk_kept h)

theorem State.freeTagNo_kept {ql : List Instr} {s : State} {t : Nat} (h1 : s.Kept ql) : State.Kept ql (State.freeTagNo s t) := by
  unfold State.freeTagNo
  repeat' first
    | (extract_lets +onlyGivenNames x; clear_value (hx : x = _); clear hx)
    | (with_reducible refine State.tagObjs_kept ?_)
    | (with_reducible exact mk_kept (by assumption))

theorem State.nextGen_kept {ql : List Instr} {s : State} {t : Nat} (h1 : s.Kept ql) : State.Kept ql (State.nextGen s t) := by
  unfold State.nextGen
  repeat' first
    | (extract_lets +onlyGivenNames x; clear_value (hx : x = _); clear hx)
    | (with_reducible exact mk_kept (by assumption))

end Sys2Proof.Machine
end

