-- ==== Sys2Proof/Laws/KeptFaults.lean ====
section
/-!
SUPPORT. Every operation of Machine/Faults.lean leaves the queue of waiting commands as it is, the stores canonical and what waits within bounds.
-/

set_option linter.tactic.unusedName false
set_option linter.unusedVariables false

namespace Sys2Proof.Machine

theorem State.writeRecord_kept {ql : List Instr} {s : State} {r : FaultRec} (h1 : s.Kept ql) : State.Kept ql (State.writeRecord s r) := by
  unfold State.writeRecord
  repeat' first
    | with_reducible assumption
    | (extract_lets +onlyGivenNames x; clear_value (hx : x = _); revert x; refine let_kept (ql := ql) ?_ fun x _ => ?_)
    | (extract_lets +onlyGivenNames x; clear_value (hx : x = _); replace hx : (_ : Faults) = _ := hx; subst hx)
    | (extract_lets +onlyGivenNames x; clear_value (hx : x = _); clear hx)
    | (extract_lets +onlyGivenNames x; subst x)
    | (with_reducible refine State.setObj_kept ?_)
    | (with_reducible refine State.bump_kept ?_)
    | (with_reducible refine State.msix_kept ?_)
    | (with_reducible refine State.emcy_kept ?_)
    | (with_reducible refine ite_kept (fun _ => ?_) (fun _ => ?_))
    | ((with_reducible refine mk_all_kept (by assumption) ?_ ?_ ?_ ?_ ?_ ?_ ?_) <;> first | exact id | (intro _; simp only [List.length_take, List.length_cons]; omega))

theorem State.isolate_kept {ql : List Instr} {s : State} {cid : Nat} (h1 : s.Kept ql) : State.Kept ql (State.isolate s cid) := by
  unfold State.isolate
  repeat' first
    | with_reducible assumption
    | (extract_lets +onlyGivenNames x; clear_value (hx : x = _); revert x; refine let_kept (ql := ql) ?_ fun x _ => ?_)
    | (extract_lets +onlyGivenNames x; clear_value (hx : x = _); clear hx)
    | (with_reducible refine State.setCl_kept ?_)
    | (with_reducible refine State.setPort_kept ?_)
    | (with_reducible refine State.freeTagNo_kept ?_)
    | (with_reducible refine State.nextGen_kept ?_)
    | (with_reducible refine foldl_kept (fun _ _ _ => ?_) ?_)
    | (with_reducible exact mk_kept (by assumption))

theorem State.markFailed_kept {ql : List Instr} {s : State} {cid cause : Nat} (h1 : s.Kept ql) : State.Kept ql (State.markFailed s cid cause) := by
  unfold State.markFailed
  repeat' first
    | with_reducible assumption
    | (extract_lets +onlyGivenNames x; clear_value (hx : x = _); clear hx)
    | (with_reducible refine State.setCl_kept ?_)
    | (with_reducible refine ite_kept (fun _ => ?_) (fun _ => ?_))

theorem State.startAbandon_kept {ql : List Instr} {s : State} {record : Nat} (h1 : s.Kept ql) : State.Kept ql (State.startAbandon s record) := by
  unfold State.startAbandon
  repeat' first
    | (extract_lets +onlyGivenNames x; clear_value (hx : x = _); replace hx : (_ : Run) = _ := hx; subst hx)
    | (extract_lets +onlyGivenNames x; clear_value (hx : x = _); clear hx)
    | split
    | ((with_reducible refine mk_all_kept (by assumption) ?_ ?_ ?_ ?_ ?_ ?_ ?_) <;> exact id)

theorem State.noteRepeat_kept {ql : List Instr} {s : State} {cid attempt : Nat} (h1 : s.Kept ql) : State.Kept ql (State.noteRepeat s cid attempt) := by
  unfold State.noteRepeat
  repeat' first
    | with_reducible assumption
    | (extract_lets +onlyGivenNames x; clear_value (hx : x = _); revert x; refine let_kept (ql := ql) ?_ fun x _ => ?_)
    | (extract_lets +onlyGivenNames x; clear_value (hx : x = _); replace hx : (_ : Faults) = _ := hx; subst hx)
    | (extract_lets +onlyGivenNames x; clear_value (hx : x = _); clear hx)
    | (with_reducible refine State.setCl_kept ?_)
    | (with_reducible refine ite_kept (fun _ => ?_) (fun _ => ?_))
    | ((with_reducible refine mk_all_kept (by assumption) ?_ ?_ ?_ ?_ ?_ ?_ ?_) <;> exact id)

theorem State.clusterFault_kept {ql : List Instr} {s : State} {cid code : Nat} {loc : FaultLoc} {abandons auto starts : Bool} (h1 : s.Kept ql) : State.Kept ql (State.clusterFault s cid code loc abandons auto starts) := by
  unfold State.clusterFault
  repeat' first
    | with_reducible assumption
    | (extract_lets +onlyGivenNames x; clear_value (hx : x = _); revert x; refine let_kept (ql := ql) ?_ fun x _ => ?_)
    | (extract_lets +onlyGivenNames x; clear_value (hx : x = _); replace hx : (_ : Faults) = _ := hx; subst hx)
    | (extract_lets +onlyGivenNames x; clear_value (hx : x = _); clear hx)
    | (extract_lets +onlyGivenNames x; subst x)
    | (with_reducible refine State.setObj_kept ?_)
    | (with_reducible refine State.isolate_kept ?_)
    | (with_reducible refine State.markFailed_kept ?_)
    | (with_reducible refine State.noteRepeat_kept ?_)
    | (with_reducible refine ite_kept (fun _ => ?_) (fun _ => ?_))
    | ((with_reducible refine mk_all_kept (by assumption) ?_ ?_ ?_ ?_ ?_ ?_ ?_) <;> exact id)

theorem State.startRecovery_kept {ql : List Instr} {s : State} {mode : Nat} (h1 : s.Kept ql) : State.Kept ql (State.startRecovery s mode) := by
  unfold State.startRecovery
  repeat' first
    | (extract_lets +onlyGivenNames x; clear_value (hx : x = _); replace hx : (_ : Faults) = _ := hx; subst hx)
    | (with_reducible refine State.setObj_kept ?_)
    | split
    | ((with_reducible refine mk_all_kept (by assumption) ?_ ?_ ?_ ?_ ?_ ?_ ?_) <;> exact id)

theorem State.raiseFault_kept {ql : List Instr} {s : State} {code : Nat} {loc : FaultLoc} {d0 d1 d2 : Nat} (h1 : s.Kept ql) : State.Kept ql (State.raiseFault s code loc d0 d1 d2) := by
  unfold State.raiseFault
  repeat' first
    | with_reducible assumption
    | (extract_lets +onlyGivenNames x; clear_value (hx : x = _); revert x; refine let_kept (ql := ql) ?_ fun x _ => ?_)
    | (extract_lets +onlyGivenNames x; clear_value (hx : x = _); replace hx : (_ : Faults) = _ := hx; subst hx)
    | (extract_lets +onlyGivenNames x; clear_value (hx : x = _); clear hx)
    | (extract_lets +onlyGivenNames x; subst x)
    | (with_reducible refine State.setObj_kept ?_)
    | (with_reducible refine State.sendXtrig_kept ?_)
    | (with_reducible refine State.writeRecord_kept ?_)
    | (with_reducible refine State.startAbandon_kept ?_)
    | (with_reducible refine State.clusterFault_kept ?_)
    | (with_reducible refine State.startRecovery_kept ?_)
    | (with_reducible refine ite_kept (fun _ => ?_) (fun _ => ?_))
    | split
    | ((with_reducible refine mk_all_kept (by assumption) ?_ ?_ ?_ ?_ ?_ ?_ ?_) <;> exact id)

theorem State.forwardStop_kept {ql : List Instr} {s : State} {code : Nat} (h1 : s.Kept ql) : State.Kept ql (State.forwardStop s code) := by
  unfold State.forwardStop
  repeat' first
    | with_reducible assumption
    | (extract_lets +onlyGivenNames x; clear_value (hx : x = _); revert x; refine let_kept (ql := ql) ?_ fun x _ => ?_)
    | (extract_lets +onlyGivenNames x; clear_value (hx : x = _); replace hx : (_ : Run) = _ := hx; subst hx)
    | (extract_lets +onlyGivenNames x; clear_value (hx : x = _); clear hx)
    | (with_reducible refine State.bump_kept ?_)
    | (with_reducible refine State.sendXtrig_kept ?_)
    | (with_reducible refine ite_kept (fun _ => ?_) (fun _ => ?_))
    | ((with_reducible refine mk_all_kept (by assumption) ?_ ?_ ?_ ?_ ?_ ?_ ?_) <;> first | exact id | exact fun _ => h1.held)

theorem State.raiseStop_kept {ql : List Instr} {s : State} {code detail master : Nat} (h1 : s.Kept ql) : State.Kept ql (State.raiseStop s code detail master) := by
  unfold State.raiseStop
  repeat' first
    | with_reducible assumption
    | (extract_lets +onlyGivenNames x; clear_value (hx : x = _); replace hx : (_ : Run) = _ := hx; subst hx)
    | (with_reducible refine State.forwardStop_kept ?_)
    | (with_reducible refine ite_kept (fun _ => ?_) (fun _ => ?_))
    | ((with_reducible refine mk_all_kept (by assumption) ?_ ?_ ?_ ?_ ?_ ?_ ?_) <;> exact id)

theorem State.recoveryFails_kept {ql : List Instr} {s : State} {result : Nat} (h1 : s.Kept ql) : State.Kept ql (State.recoveryFails s result) := by
  unfold State.recoveryFails
  repeat' first
    | (extract_lets +onlyGivenNames x; clear_value (hx : x = _); replace hx : (_ : Faults) = _ := hx; subst hx)
    | (with_reducible refine State.setObjs_kept ?_)
    | (with_reducible refine State.raiseFault_kept ?_)
    | ((with_reducible refine mk_all_kept (by assumption) ?_ ?_ ?_ ?_ ?_ ?_ ?_) <;> exact id)

end Sys2Proof.Machine
end

