-- ==== Sys2Proof/Laws/KeptHbm.lean ====
section
/-!
SUPPORT. Every operation of Machine/Hbm.lean leaves the queue of waiting commands as it is, the stores canonical and what waits within bounds.
-/

set_option linter.tactic.unusedName false
set_option linter.unusedVariables false

namespace Sys2Proof.Machine

theorem State.voidSlots_kept {ql : List Instr} {s : State} {f : Nat → Bool} (h1 : s.Kept ql) : State.Kept ql (State.voidSlots s f) := by
  unfold State.voidSlots
  repeat' first
    | with_reducible assumption
    | (with_reducible refine State.setObj_kept ?_)
    | (with_reducible refine foldl_kept (fun _ _ _ => ?_) ?_)
    | (with_reducible refine ite_kept (fun _ => ?_) (fun _ => ?_))

theorem State.hbmBad_kept {ql : List Instr} {s : State} {a : Nat} (h1 : s.Kept ql) : State.Kept ql (State.hbmBad s a) := by
  unfold State.hbmBad
  repeat' first
    | with_reducible assumption
    | (extract_lets +onlyGivenNames x; clear_value (hx : x = _); revert x; refine let_kept (ql := ql) ?_ fun x _ => ?_)
    | (extract_lets +onlyGivenNames x; clear_value (hx : x = _); replace hx : (_ : Hbm) = _ := hx; subst hx)
    | (extract_lets +onlyGivenNames x; clear_value (hx : x = _); clear hx)
    | (with_reducible refine State.setObj_kept ?_)
    | (with_reducible refine State.bump_kept ?_)
    | (with_reducible refine State.raiseFault_kept ?_)
    | (with_reducible refine State.voidSlots_kept ?_)
    | (with_reducible refine ite_kept (fun _ => ?_) (fun _ => ?_))
    | split
    | ((with_reducible refine mk_all_kept (by assumption) ?_ ?_ ?_ ?_ ?_ ?_ ?_) <;> exact id)

theorem State.hbmWrite_kept {ql : List Instr} {s : State} {a : Nat} {data : List Byte} (h1 : s.Kept ql) : State.Kept ql (State.hbmWrite s a data) := by
  unfold State.hbmWrite
  repeat' first
    | (extract_lets +onlyGivenNames x; clear_value (hx : x = _); replace hx : (_ : Hbm) = _ := hx; subst hx)
    | ((with_reducible refine mk_all_kept (by assumption) ?_ ?_ ?_ ?_ ?_ ?_ ?_) <;> first | exact id | exact fun w => mwrite_wf w _ _)

theorem State.hbmOpen_kept {ql : List Instr} {s : State} {lo hi : Nat} (h1 : s.Kept ql) : State.Kept ql (State.hbmOpen s lo hi) := by
  unfold State.hbmOpen
  repeat' first
    | with_reducible assumption
    | (extract_lets +onlyGivenNames x; clear_value (hx : x = _); replace hx : (_ : Hbm) = _ := hx; subst hx)
    | (with_reducible refine ite_kept (fun _ => ?_) (fun _ => ?_))
    | ((with_reducible refine mk_all_kept (by assumption) ?_ ?_ ?_ ?_ ?_ ?_ ?_) <;> first | exact id | exact fun w => mclear_wf w _ _)

theorem State.ovbObjs_kept {ql : List Instr} {s : State} (h1 : s.Kept ql) : State.Kept ql (State.ovbObjs s) := by
  unfold State.ovbObjs
  repeat' first
    | with_reducible assumption
    | (with_reducible refine State.setObjs_kept ?_)

theorem State.ovbRoom_kept {ql : List Instr} {s : State} (h1 : s.Kept ql) : Kept1 ql (State.ovbRoom s) := by
  unfold State.ovbRoom
  repeat' first
    | with_reducible assumption
    | (with_reducible refine State.voidSlots_kept ?_)
    | (with_reducible refine ite1_kept (fun _ => ?_) (fun _ => ?_))
    | split
    | (with_reducible refine mk1_kept ?_)

theorem State.ovbAppend_kept {ql : List Instr} {s : State} {dc old addr : Nat} (h1 : s.Kept ql) : State.Kept ql (State.ovbAppend s dc old addr) := by
  unfold State.ovbAppend
  repeat' first
    | with_reducible assumption
    | (extract_lets +onlyGivenNames x; clear_value (hx : x = _); revert x; refine let_kept (ql := ql) ?_ fun x _ => ?_)
    | (extract_lets +onlyGivenNames x; clear_value (hx : x = _); replace hx : (_ : Hbm) = _ := hx; subst hx)
    | (extract_lets +onlyGivenNames x; clear_value (hx : x = _); clear hx)
    | (with_reducible refine State.voidSlots_kept ?_)
    | (with_reducible refine State.hbmWrite_kept ?_)
    | (with_reducible refine State.ovbObjs_kept ?_)
    | (with_reducible refine State.ovbRoom_kept ?_)
    | (with_reducible refine ite_kept (fun _ => ?_) (fun _ => ?_))
    | (with_reducible refine fst_kept ?_)
    | ((with_reducible refine mk_all_kept (by assumption) ?_ ?_ ?_ ?_ ?_ ?_ ?_) <;> exact id)

theorem State.ovbUndo_kept {ql : List Instr} {s : State} {j : Nat} (h1 : s.Kept ql) : State.Kept ql (State.ovbUndo s j) := by
  unfold State.ovbUndo
  repeat' first
    | with_reducible assumption
    | (extract_lets +onlyGivenNames x; clear_value (hx : x = _); revert x; refine let_kept (ql := ql) ?_ fun x _ => ?_)
    | (extract_lets +onlyGivenNames x; clear_value (hx : x = _); replace hx : (_ : Hbm) = _ := hx; subst hx)
    | (extract_lets +onlyGivenNames x; clear_value (hx : x = _); clear hx)
    | (with_reducible refine State.hbmWrite_kept ?_)
    | (with_reducible refine State.ovbObjs_kept ?_)
    | (with_reducible refine foldl_kept (fun _ _ _ => ?_) ?_)
    | split
    | ((with_reducible refine mk_all_kept (by assumption) ?_ ?_ ?_ ?_ ?_ ?_ ?_) <;> exact id)

theorem State.replayObjs_kept {ql : List Instr} {s : State} (h1 : s.Kept ql) : State.Kept ql (State.replayObjs s) := by
  unfold State.replayObjs
  repeat' first
    | with_reducible assumption
    | (with_reducible refine State.setObjs_kept ?_)

theorem State.replayAppend_kept {ql : List Instr} {s : State} {dc : Nat} {data : List Byte} (h1 : s.Kept ql) : State.Kept ql (State.replayAppend s dc data) := by
  unfold State.replayAppend
  repeat' first
    | with_reducible assumption
    | (extract_lets +onlyGivenNames x; clear_value (hx : x = _); revert x; refine let_kept (ql := ql) ?_ fun x _ => ?_)
    | (extract_lets +onlyGivenNames x; clear_value (hx : x = _); replace hx : (_ : Hbm) = _ := hx; subst hx)
    | (extract_lets +onlyGivenNames x; clear_value (hx : x = _); clear hx)
    | (extract_lets +onlyGivenNames x; subst x)
    | (with_reducible refine State.voidSlots_kept ?_)
    | (with_reducible refine State.hbmWrite_kept ?_)
    | (with_reducible refine State.replayObjs_kept ?_)
    | (with_reducible refine ite_kept (fun _ => ?_) (fun _ => ?_))
    | ((with_reducible refine mk_all_kept (by assumption) ?_ ?_ ?_ ?_ ?_ ?_ ?_) <;> exact id)

theorem State.replayEmpty_kept {ql : List Instr} {s : State} (h1 : s.Kept ql) : State.Kept ql (State.replayEmpty s) := by
  unfold State.replayEmpty
  repeat' first
    | (extract_lets +onlyGivenNames x; clear_value (hx : x = _); replace hx : (_ : Hbm) = _ := hx; subst hx)
    | (with_reducible refine State.replayObjs_kept ?_)
    | ((with_reducible refine mk_all_kept (by assumption) ?_ ?_ ?_ ?_ ?_ ?_ ?_) <;> exact id)

theorem State.replayCut_kept {ql : List Instr} {s : State} {j : Nat} (h1 : s.Kept ql) : State.Kept ql (State.replayCut s j) := by
  unfold State.replayCut
  repeat' first
    | (extract_lets +onlyGivenNames x; clear_value (hx : x = _); replace hx : (_ : Hbm) = _ := hx; subst hx)
    | (extract_lets +onlyGivenNames x; clear_value (hx : x = _); clear hx)
    | (with_reducible refine State.replayObjs_kept ?_)
    | split
    | ((with_reducible refine mk_all_kept (by assumption) ?_ ?_ ?_ ?_ ?_ ?_ ?_) <;> exact id)

end Sys2Proof.Machine
end

