-- ==== Sys2Proof/Laws/KeptAstray.lean ====
section
/-!
SUPPORT. Every operation of Machine/Astray.lean leaves the queue of waiting commands as it is, the stores canonical and what waits within bounds.
-/

set_option linter.tactic.unusedName false
set_option linter.unusedVariables false

namespace Sys2Proof.Machine

theorem State.astray_kept {ql : List Instr} {s : State} (h1 : s.Kept ql) : State.Kept ql (State.astray s) := by
  unfold State.astray
  repeat' first
    | with_reducible assumption
    | (extract_lets +onlyGivenNames x; clear_value (hx : x = _); revert x; refine let_kept (ql := ql) ?_ fun x _ => ?_)
    | (extract_lets +onlyGivenNames x; clear_value (hx : x = _); replace hx : (_ : _ → _) = _ := hx; subst hx; first | dsimp -zeta only | skip)
    | (extract_lets +onlyGivenNames x; clear_value (hx : x = _); replace hx : (_ : Hub) = _ := hx; subst hx)
    | (extract_lets +onlyGivenNames x; clear_value (hx : x = _); clear hx)
    | (with_reducible refine State.setCl_kept ?_)
    | (with_reducible refine State.hbmOpen_kept ?_)
    | (with_reducible refine foldl_kept (fun _ _ _ => ?_) ?_)
    | (with_reducible exact mk_kept (by assumption))
    | ((with_reducible refine mk_all_kept (by assumption) ?_ ?_ ?_ ?_ ?_ ?_ ?_) <;> exact id)

end Sys2Proof.Machine
end

