-- ==== Sys2Proof/Laws/KeptMemory.lean ====
section
/-!
SUPPORT. Every operation of Machine/Memory.lean leaves the queue of waiting commands as it is, the stores canonical and what waits within bounds.
-/

set_option linter.tactic.unusedName false
set_option linter.unusedVariables false

namespace Sys2Proof.Machine

theorem State.readRouteAt_kept {ql : List Instr} {s : State} {cid e : Nat} {loc : FaultLoc} (h1 : s.Kept ql) : Kept1 ql (State.readRouteAt s cid e loc) := by
  unfold State.readRouteAt
  repeat' first
    | with_reducible assumption
    | (extract_lets +onlyGivenNames x; clear_value (hx : x = _); clear hx)
    | (with_reducible refine State.setCl_kept ?_)
    | (with_reducible refine State.raiseFault_kept ?_)
    | (with_reducible refine ite1_kept (fun _ => ?_) (fun _ => ?_))
    | split
    | (with_reducible refine mk1_kept ?_)

theorem State.readRoute_kept {ql : List Instr} {s : State} {cid e : Nat} (h1 : s.Kept ql) : Kept1 ql (State.readRoute s cid e) := by
  unfold State.readRoute
  repeat' first
    | with_reducible assumption
    | (with_reducible refine State.readRouteAt_kept ?_)

theorem State.returnBits_kept {ql : List Instr} {s : State} {cid e val due : Nat} {src : DelivSrc} {stamp : Bool} {rv : Nat} (h1 : s.Kept ql) : State.Kept ql (State.returnBits s cid e val due src stamp rv) := by
  induction rv generalizing s cid e val due src stamp with
  | zero =>
    unfold State.returnBits
    repeat' first
      | with_reducible assumption
      | (with_reducible refine State.setCl_kept ?_)
      | (with_reducible refine State.astray_kept ?_)
      | (with_reducible refine State.readRoute_kept ?_)
      | (with_reducible refine ite_kept (fun _ => ?_) (fun _ => ?_))
      | (with_reducible refine fst_of_kept (by assumption) ?_)
      | split
  | succ n ih =>
    unfold State.returnBits
    repeat' first
      | (with_reducible refine ih ?_)
      | with_reducible assumption
      | (with_reducible refine State.setCl_kept ?_)
      | (with_reducible refine State.astray_kept ?_)
      | (with_reducible refine State.readRoute_kept ?_)
      | (with_reducible refine ite_kept (fun _ => ?_) (fun _ => ?_))
      | (with_reducible refine fst_of_kept (by assumption) ?_)
      | split

theorem State.quarryGo_kept {ql : List Instr} {s : State} {cid : Nat} {r : QuarryReq} (h1 : s.Kept ql) : State.Kept ql (State.quarryGo s cid r) := by
  unfold State.quarryGo
  repeat' first
    | with_reducible assumption
    | (extract_lets +onlyGivenNames x; clear_value (hx : x = _); clear hx)
    | (with_reducible refine State.setCl_kept ?_)
    | (with_reducible refine State.raiseFault_kept ?_)
    | (with_reducible refine ite_kept (fun _ => ?_) (fun _ => ?_))

theorem State.mrdGo_kept {ql : List Instr} {s : State} {cid w : Nat} (h1 : s.Kept ql) : State.Kept ql (State.mrdGo s cid w) := by
  unfold State.mrdGo
  repeat' first
    | with_reducible assumption
    | (extract_lets +onlyGivenNames x; clear_value (hx : x = _); revert x; refine let_kept (ql := ql) ?_ fun x _ => ?_)
    | (extract_lets +onlyGivenNames x; clear_value (hx : x = _); replace hx : (_ : _ → _) = _ := hx; subst hx; first | dsimp -zeta only | skip)
    | (extract_lets +onlyGivenNames x; clear_value (hx : x = _); clear hx)
    | (with_reducible refine State.setCl_kept ?_)
    | (with_reducible refine State.raiseFault_kept ?_)
    | (with_reducible refine State.astray_kept ?_)
    | (with_reducible refine State.returnBits_kept ?_)
    | (with_reducible refine State.quarryGo_kept ?_)
    | (with_reducible refine ite_kept (fun _ => ?_) (fun _ => ?_))
    | split

theorem State.mwrGo_kept {ql : List Instr} {s : State} {cid w : Nat} (h1 : s.Kept ql) : State.Kept ql (State.mwrGo s cid w) := by
  unfold State.mwrGo
  repeat' first
    | with_reducible assumption
    | (extract_lets +onlyGivenNames x; clear_value (hx : x = _); replace hx : (_ : _ → _) = _ := hx; subst hx; first | dsimp -zeta only | skip)
    | (extract_lets +onlyGivenNames x; clear_value (hx : x = _); clear hx)
    | (with_reducible refine State.setCl_kept ?_)
    | (with_reducible refine State.raiseFault_kept ?_)
    | (with_reducible refine State.quarryGo_kept ?_)
    | (with_reducible refine ite_kept (fun _ => ?_) (fun _ => ?_))
    | split

end Sys2Proof.Machine
end

