-- ==== Sys2Proof/Laws/KeptCluster.lean ====
section
/-!
SUPPORT. Every operation of Machine/Cluster.lean leaves the queue of waiting commands as it is, the stores canonical and what waits within bounds.
-/

set_option linter.tactic.unusedName false
set_option linter.unusedVariables false

namespace Sys2Proof.Machine

theorem State.landOne_kept {ql : List Instr} {s : State} {cid : Nat} {d : Deliv} (h1 : s.Kept ql) : State.Kept ql (State.landOne s cid d) := by
  unfold State.landOne
  repeat' first
    | with_reducible assumption
    | (extract_lets +onlyGivenNames x; clear_value (hx : x = _); clear hx)
    | (with_reducible refine State.draw_kept ?_)
    | (with_reducible refine State.setCl_kept ?_)
    | (with_reducible refine ite_kept (fun _ => ?_) (fun _ => ?_))

theorem State.landDue_kept {ql : List Instr} {s : State} {cid : Nat} {f : Deliv → Bool} (h1 : s.Kept ql) : State.Kept ql (State.landDue s cid f) := by
  unfold State.landDue
  repeat' first
    | with_reducible assumption
    | (extract_lets +onlyGivenNames x; clear_value (hx : x = _); clear hx)
    | (with_reducible refine State.setCl_kept ?_)
    | (with_reducible refine State.landOne_kept ?_)
    | (with_reducible refine foldl_kept (fun _ _ _ => ?_) ?_)

theorem State.groupSend_kept {ql : List Instr} {s : State} {cid bp w : Nat} {r : Bool} (h1 : s.Kept ql) : State.Kept ql (State.groupSend s cid bp w r) := by
  unfold State.groupSend
  repeat' first
    | with_reducible assumption
    | (extract_lets +onlyGivenNames x; clear_value (hx : x = _); replace hx : (_ : _ → _) = _ := hx; subst hx; first | dsimp -zeta only | skip)
    | (extract_lets +onlyGivenNames x; clear_value (hx : x = _); clear hx)
    | (with_reducible refine State.draw_kept ?_)
    | (with_reducible refine State.setCl_kept ?_)
    | (with_reducible refine ite_kept (fun _ => ?_) (fun _ => ?_))

theorem State.routeSend_kept {ql : List Instr} {s : State} {cid bp w : Nat} {r : Bool} (h1 : s.Kept ql) : State.Kept ql (State.routeSend s cid bp w r) := by
  unfold State.routeSend
  repeat' first
    | with_reducible assumption
    | (extract_lets +onlyGivenNames x; clear_value (hx : x = _); clear hx)
    | (with_reducible refine State.setCl_kept ?_)

theorem State.stateSend_kept {ql : List Instr} {s : State} {cid bp w : Nat} {r : Bool} (h1 : s.Kept ql) : State.Kept ql (State.stateSend s cid bp w r) := by
  unfold State.stateSend
  repeat' first
    | with_reducible assumption
    | (extract_lets +onlyGivenNames x; clear_value (hx : x = _); clear hx)
    | (with_reducible refine State.setCl_kept ?_)

theorem State.deliver_kept {ql : List Instr} {s : State} {cid bp w : Nat} {r : Bool} (h1 : s.Kept ql) : State.Kept ql (State.deliver s cid bp w r) := by
  unfold State.deliver
  repeat' first
    | with_reducible assumption
    | (with_reducible refine State.groupSend_kept ?_)
    | (with_reducible refine State.routeSend_kept ?_)
    | (with_reducible refine State.stateSend_kept ?_)
    | split

theorem State.landLocal_kept {ql : List Instr} {s : State} {cid bp : Nat} {r : Bool} (h1 : s.Kept ql) : State.Kept ql (State.landLocal s cid bp r) := by
  unfold State.landLocal
  repeat' first
    | with_reducible assumption
    | (extract_lets +onlyGivenNames x; clear_value (hx : x = _); clear hx)
    | (with_reducible refine State.setCl_kept ?_)

theorem State.drive_kept {ql : List Instr} {s : State} {cid : Nat} {d : Drive} (h1 : s.Kept ql) : State.Kept ql (State.drive s cid d) := by
  unfold State.drive
  repeat' first
    | with_reducible assumption
    | (extract_lets +onlyGivenNames x; clear_value (hx : x = _); clear hx)
    | (with_reducible refine State.setCl_kept ?_)

theorem State.usePort_kept {ql : List Instr} {s : State} {cid p : Nat} (h1 : s.Kept ql) : State.Kept ql (State.usePort s cid p) := by
  unfold State.usePort
  repeat' first
    | with_reducible assumption
    | (extract_lets +onlyGivenNames x; clear_value (hx : x = _); clear hx)
    | (with_reducible refine State.setCl_kept ?_)
    | (with_reducible refine State.astray_kept ?_)
    | (with_reducible refine ite_kept (fun _ => ?_) (fun _ => ?_))

theorem State.result_kept {ql : List Instr} {s : State} {cid bp w : Nat} {r : Bool} (h1 : s.Kept ql) : State.Kept ql (State.result s cid bp w r) := by
  unfold State.result
  repeat' first
    | with_reducible assumption
    | (with_reducible refine State.deliver_kept ?_)
    | (with_reducible refine State.landLocal_kept ?_)

theorem State.opLut_kept {ql : List Instr} {s : State} {cid bp w : Nat} (h1 : s.Kept ql) : State.Kept ql (State.opLut s cid bp w) := by
  unfold State.opLut
  repeat' first
    | with_reducible assumption
    | (with_reducible refine State.result_kept ?_)

theorem State.opAddr_kept {ql : List Instr} {s : State} {cid bp w : Nat} (h1 : s.Kept ql) : State.Kept ql (State.opAddr s cid bp w) := by
  unfold State.opAddr
  repeat' first
    | with_reducible assumption
    | (extract_lets +onlyGivenNames x; clear_value (hx : x = _); revert x; refine let_kept (ql := ql) ?_ fun x _ => ?_)
    | (with_reducible refine State.setCl_kept ?_)
    | (with_reducible refine State.landLocal_kept ?_)
    | (with_reducible refine State.usePort_kept ?_)

theorem State.opData_kept {ql : List Instr} {s : State} {cid bp w : Nat} (h1 : s.Kept ql) : State.Kept ql (State.opData s cid bp w) := by
  unfold State.opData
  repeat' first
    | with_reducible assumption
    | (extract_lets +onlyGivenNames x; clear_value (hx : x = _); revert x; refine let_kept (ql := ql) ?_ fun x _ => ?_)
    | (with_reducible refine State.setCl_kept ?_)
    | (with_reducible refine State.landLocal_kept ?_)
    | (with_reducible refine State.usePort_kept ?_)

theorem State.opMrdGo_kept {ql : List Instr} {s : State} {cid bp w : Nat} (h1 : s.Kept ql) : State.Kept ql (State.opMrdGo s cid bp w) := by
  unfold State.opMrdGo
  repeat' first
    | with_reducible assumption
    | (with_reducible refine State.mrdGo_kept ?_)
    | (with_reducible refine State.landLocal_kept ?_)
    | (with_reducible refine State.usePort_kept ?_)

theorem State.opMwrGo_kept {ql : List Instr} {s : State} {cid bp w : Nat} (h1 : s.Kept ql) : State.Kept ql (State.opMwrGo s cid bp w) := by
  unfold State.opMwrGo
  repeat' first
    | with_reducible assumption
    | (extract_lets +onlyGivenNames x; clear_value (hx : x = _); revert x; refine let_kept (ql := ql) ?_ fun x _ => ?_)
    | (extract_lets +onlyGivenNames x; clear_value (hx : x = _); clear hx)
    | (with_reducible refine State.mwrGo_kept ?_)
    | (with_reducible refine State.usePort_kept ?_)
    | (with_reducible refine State.result_kept ?_)
    | (with_reducible refine ite_kept (fun _ => ?_) (fun _ => ?_))

theorem State.opForeign_kept {ql : List Instr} {s : State} {cid bp w : Nat} (h1 : s.Kept ql) : State.Kept ql (State.opForeign s cid bp w) := by
  unfold State.opForeign
  repeat' first
    | with_reducible assumption
    | (with_reducible refine State.draw_kept ?_)
    | (with_reducible refine State.astray_kept ?_)
    | (with_reducible refine State.result_kept ?_)

theorem State.opXin_kept {ql : List Instr} {s : State} {cid bp w : Nat} (h1 : s.Kept ql) : State.Kept ql (State.opXin s cid bp w) := by
  unfold State.opXin
  repeat' first
    | with_reducible assumption
    | (extract_lets +onlyGivenNames x; clear_value (hx : x = _); clear hx)
    | (with_reducible refine State.result_kept ?_)
    | (with_reducible refine State.opForeign_kept ?_)
    | (with_reducible refine ite_kept (fun _ => ?_) (fun _ => ?_))

theorem State.opXout_kept {ql : List Instr} {s : State} {cid bp w : Nat} (h1 : s.Kept ql) : State.Kept ql (State.opXout s cid bp w) := by
  unfold State.opXout
  repeat' first
    | with_reducible assumption
    | (extract_lets +onlyGivenNames x; clear_value (hx : x = _); clear hx)
    | (with_reducible refine State.drive_kept ?_)
    | (with_reducible refine State.result_kept ?_)
    | (with_reducible refine State.opForeign_kept ?_)
    | (with_reducible refine ite_kept (fun _ => ?_) (fun _ => ?_))

theorem State.opFin_kept {ql : List Instr} {s : State} {cid bp w : Nat} (h1 : s.Kept ql) : State.Kept ql (State.opFin s cid bp w) := by
  unfold State.opFin
  repeat' first
    | with_reducible assumption
    | (extract_lets +onlyGivenNames x; clear_value (hx : x = _); clear hx)
    | (with_reducible refine State.result_kept ?_)
    | (with_reducible refine State.opForeign_kept ?_)
    | (with_reducible refine ite_kept (fun _ => ?_) (fun _ => ?_))

theorem State.opFout_kept {ql : List Instr} {s : State} {cid bp w : Nat} (h1 : s.Kept ql) : State.Kept ql (State.opFout s cid bp w) := by
  unfold State.opFout
  repeat' first
    | with_reducible assumption
    | (extract_lets +onlyGivenNames x; clear_value (hx : x = _); clear hx)
    | (with_reducible refine State.drive_kept ?_)
    | (with_reducible refine State.result_kept ?_)
    | (with_reducible refine State.opForeign_kept ?_)
    | (with_reducible refine ite_kept (fun _ => ?_) (fun _ => ?_))

theorem State.opTrg_kept {ql : List Instr} {s : State} {cid bp w : Nat} (h1 : s.Kept ql) : State.Kept ql (State.opTrg s cid bp w) := by
  unfold State.opTrg
  repeat' first
    | with_reducible assumption
    | (extract_lets +onlyGivenNames x; clear_value (hx : x = _); clear hx)
    | (with_reducible refine State.drive_kept ?_)
    | (with_reducible refine State.result_kept ?_)

theorem State.opPrb_kept {ql : List Instr} {s : State} {cid bp w : Nat} (h1 : s.Kept ql) : State.Kept ql (State.opPrb s cid bp w) := by
  unfold State.opPrb
  repeat' first
    | with_reducible assumption
    | (extract_lets +onlyGivenNames x; clear_value (hx : x = _); clear hx)
    | (with_reducible refine State.drive_kept ?_)
    | (with_reducible refine State.result_kept ?_)

theorem State.opEvt_kept {ql : List Instr} {s : State} {cid bp w : Nat} (h1 : s.Kept ql) : State.Kept ql (State.opEvt s cid bp w) := by
  unfold State.opEvt
  repeat' first
    | with_reducible assumption
    | (extract_lets +onlyGivenNames x; clear_value (hx : x = _); clear hx)
    | (extract_lets +onlyGivenNames x; subst x)
    | (with_reducible refine State.drive_kept ?_)
    | (with_reducible refine State.result_kept ?_)
    | (with_reducible refine ite_kept (fun _ => ?_) (fun _ => ?_))

theorem State.opAsrt_kept {ql : List Instr} {s : State} {cid bp w : Nat} (h1 : s.Kept ql) : State.Kept ql (State.opAsrt s cid bp w) := by
  unfold State.opAsrt
  repeat' first
    | with_reducible assumption
    | (extract_lets +onlyGivenNames x; clear_value (hx : x = _); clear hx)
    | (extract_lets +onlyGivenNames x; subst x)
    | (with_reducible refine State.drive_kept ?_)
    | (with_reducible refine State.result_kept ?_)
    | (with_reducible refine ite_kept (fun _ => ?_) (fun _ => ?_))

theorem State.opCken_kept {ql : List Instr} {s : State} {cid bp w : Nat} (h1 : s.Kept ql) : State.Kept ql (State.opCken s cid bp w) := by
  unfold State.opCken
  repeat' first
    | with_reducible assumption
    | (with_reducible refine State.result_kept ?_)

theorem State.opEnd_kept {ql : List Instr} {s : State} {cid bp : Nat} (h1 : s.Kept ql) : State.Kept ql (State.opEnd s cid bp) := by
  unfold State.opEnd
  repeat' first
    | with_reducible assumption
    | (extract_lets +onlyGivenNames x; clear_value (hx : x = _); revert x; refine let_kept (ql := ql) ?_ fun x _ => ?_)
    | (extract_lets +onlyGivenNames x; clear_value (hx : x = _); clear hx)
    | (with_reducible refine State.setCl_kept ?_)
    | (with_reducible refine State.landLocal_kept ?_)

theorem State.execOp_kept {ql : List Instr} {s : State} {cid bp w : Nat} (h1 : s.Kept ql) : State.Kept ql (State.execOp s cid bp w) := by
  unfold State.execOp
  repeat' first
    | with_reducible assumption
    | (with_reducible refine State.astray_kept ?_)
    | (with_reducible refine State.opLut_kept ?_)
    | (with_reducible refine State.opAddr_kept ?_)
    | (with_reducible refine State.opData_kept ?_)
    | (with_reducible refine State.opMrdGo_kept ?_)
    | (with_reducible refine State.opMwrGo_kept ?_)
    | (with_reducible refine State.opXin_kept ?_)
    | (with_reducible refine State.opXout_kept ?_)
    | (with_reducible refine State.opFin_kept ?_)
    | (with_reducible refine State.opFout_kept ?_)
    | (with_reducible refine State.opTrg_kept ?_)
    | (with_reducible refine State.opPrb_kept ?_)
    | (with_reducible refine State.opEvt_kept ?_)
    | (with_reducible refine State.opAsrt_kept ?_)
    | (with_reducible refine State.opCken_kept ?_)
    | (with_reducible refine State.opEnd_kept ?_)
    | split

theorem State.holdPeriod_kept {ql : List Instr} {s : State} {cid : Nat} {w : Option (Nat × Nat)} (h1 : s.Kept ql) : State.Kept ql (State.holdPeriod s cid w) := by
  unfold State.holdPeriod
  repeat' first
    | with_reducible assumption
    | (extract_lets +onlyGivenNames x; clear_value (hx : x = _); revert x; refine let_kept (ql := ql) ?_ fun x _ => ?_)
    | (extract_lets +onlyGivenNames x; clear_value (hx : x = _); clear hx)
    | (with_reducible refine State.setObjs_kept ?_)
    | (with_reducible refine State.bump_kept ?_)
    | (with_reducible refine State.setCl_kept ?_)
    | (with_reducible refine ite_kept (fun _ => ?_) (fun _ => ?_))

theorem State.execAll_kept {ql : List Instr} {s : State} {cid : Nat} {rv : List (Nat × Nat)} (h1 : s.Kept ql) : State.Kept ql (State.execAll s cid rv) := by
  induction rv generalizing s cid with
  | nil =>
    unfold State.execAll
    repeat' first
      | with_reducible assumption
      | (with_reducible refine State.execOp_kept ?_)
  | cons e r ih =>
    unfold State.execAll
    repeat' first
      | (with_reducible refine ih ?_)
      | with_reducible assumption
      | (with_reducible refine State.execOp_kept ?_)

theorem State.scheduledStep_kept {ql : List Instr} {s : State} {cid : Nat} (h1 : s.Kept ql) : State.Kept ql (State.scheduledStep s cid) := by
  unfold State.scheduledStep
  repeat' first
    | with_reducible assumption
    | (extract_lets +onlyGivenNames x; clear_value (hx : x = _); revert x; refine let_kept (ql := ql) ?_ fun x _ => ?_)
    | (extract_lets +onlyGivenNames x; clear_value (hx : x = _); clear hx)
    | (extract_lets +onlyGivenNames x; subst x)
    | (with_reducible refine State.setCl_kept ?_)
    | (with_reducible refine State.raiseFault_kept ?_)
    | (with_reducible refine State.holdPeriod_kept ?_)
    | (with_reducible refine State.execAll_kept ?_)
    | (with_reducible refine ite_kept (fun _ => ?_) (fun _ => ?_))
    | split

theorem State.overheadStep_kept {ql : List Instr} {s : State} {cid : Nat} (h1 : s.Kept ql) : State.Kept ql (State.overheadStep s cid) := by
  unfold State.overheadStep
  repeat' first
    | with_reducible assumption
    | (extract_lets +onlyGivenNames x; clear_value (hx : x = _); revert x; refine let_kept (ql := ql) ?_ fun x _ => ?_)
    | (extract_lets +onlyGivenNames x; clear_value (hx : x = _); clear hx)
    | (with_reducible refine State.setCl_kept ?_)
    | (with_reducible exact mk_kept (by assumption))

theorem execClusterStep_kept {ql : List Instr} {die : Die} {pc : Pc} {upsets : List Upset} {s : State} (h1 : s.Kept ql) : Out.Kept ql (execClusterStep die pc upsets s) := by
  unfold execClusterStep
  repeat' first
    | with_reducible assumption
    | (extract_lets +onlyGivenNames x; clear_value (hx : x = _); revert x; refine let_kept (ql := ql) ?_ fun x _ => ?_)
    | (extract_lets +onlyGivenNames x; clear_value (hx : x = _); clear hx)
    | (with_reducible refine State.setCl_kept ?_)
    | (with_reducible refine State.landDue_kept ?_)
    | (with_reducible refine State.scheduledStep_kept ?_)
    | (with_reducible refine State.overheadStep_kept ?_)
    | (with_reducible refine Out.next_kept ?_)
    | (with_reducible refine ite_kept (fun _ => ?_) (fun _ => ?_))
    | (with_reducible refine ite_out_kept (fun _ => ?_) (fun _ => ?_))
    | split
    | (with_reducible exact mk_kept (by assumption))

theorem State.opAt_kept {ql : List Instr} {s : State} {die pc bp : Nat} {f : Nat → Bool} (h1 : s.Kept ql) : Out.Kept ql (State.opAt s die pc bp f) := by
  unfold State.opAt
  repeat' first
    | with_reducible assumption
    | (extract_lets +onlyGivenNames x; clear_value (hx : x = _); revert x; refine let_kept (ql := ql) ?_ fun x _ => ?_)
    | (extract_lets +onlyGivenNames x; clear_value (hx : x = _); clear hx)
    | (with_reducible refine State.setCl_kept ?_)
    | (with_reducible refine State.execOp_kept ?_)
    | (with_reducible refine Out.next_kept ?_)
    | (with_reducible refine ite_out_kept (fun _ => ?_) (fun _ => ?_))
    | split

theorem execNop_kept {ql : List Instr} {die : Die} {pc : Pc} {bp : BpIx} {s : State} (h1 : s.Kept ql) : Out.Kept ql (execNop die pc bp s) := by
  unfold execNop
  repeat' first
    | with_reducible assumption
    | (with_reducible refine State.opAt_kept ?_)

theorem execLut_kept {ql : List Instr} {die : Die} {pc : Pc} {bp : BpIx} {s : State} (h1 : s.Kept ql) : Out.Kept ql (execLut die pc bp s) := by
  unfold execLut
  repeat' first
    | with_reducible assumption
    | (with_reducible refine State.opAt_kept ?_)

theorem execMrdAddr_kept {ql : List Instr} {die : Die} {pc : Pc} {bp : BpIx} {s : State} (h1 : s.Kept ql) : Out.Kept ql (execMrdAddr die pc bp s) := by
  unfold execMrdAddr
  repeat' first
    | with_reducible assumption
    | (with_reducible refine State.opAt_kept ?_)

theorem execMrdGo_kept {ql : List Instr} {die : Die} {pc : Pc} {bp : BpIx} {s : State} (h1 : s.Kept ql) : Out.Kept ql (execMrdGo die pc bp s) := by
  unfold execMrdGo
  repeat' first
    | with_reducible assumption
    | (with_reducible refine State.opAt_kept ?_)

theorem execMwrAddr_kept {ql : List Instr} {die : Die} {pc : Pc} {bp : BpIx} {s : State} (h1 : s.Kept ql) : Out.Kept ql (execMwrAddr die pc bp s) := by
  unfold execMwrAddr
  repeat' first
    | with_reducible assumption
    | (with_reducible refine State.opAt_kept ?_)

theorem execMwrData_kept {ql : List Instr} {die : Die} {pc : Pc} {bp : BpIx} {s : State} (h1 : s.Kept ql) : Out.Kept ql (execMwrData die pc bp s) := by
  unfold execMwrData
  repeat' first
    | with_reducible assumption
    | (with_reducible refine State.opAt_kept ?_)

theorem execMwrGo_kept {ql : List Instr} {die : Die} {pc : Pc} {bp : BpIx} {s : State} (h1 : s.Kept ql) : Out.Kept ql (execMwrGo die pc bp s) := by
  unfold execMwrGo
  repeat' first
    | with_reducible assumption
    | (with_reducible refine State.opAt_kept ?_)

theorem execXin_kept {ql : List Instr} {die : Die} {pc : Pc} {bp : BpIx} {s : State} (h1 : s.Kept ql) : Out.Kept ql (execXin die pc bp s) := by
  unfold execXin
  repeat' first
    | with_reducible assumption
    | (with_reducible refine State.opAt_kept ?_)

theorem execXout_kept {ql : List Instr} {die : Die} {pc : Pc} {bp : BpIx} {s : State} (h1 : s.Kept ql) : Out.Kept ql (execXout die pc bp s) := by
  unfold execXout
  repeat' first
    | with_reducible assumption
    | (with_reducible refine State.opAt_kept ?_)

theorem execFin_kept {ql : List Instr} {die : Die} {pc : Pc} {bp : BpIx} {s : State} (h1 : s.Kept ql) : Out.Kept ql (execFin die pc bp s) := by
  unfold execFin
  repeat' first
    | with_reducible assumption
    | (with_reducible refine State.opAt_kept ?_)

theorem execFout_kept {ql : List Instr} {die : Die} {pc : Pc} {bp : BpIx} {s : State} (h1 : s.Kept ql) : Out.Kept ql (execFout die pc bp s) := by
  unfold execFout
  repeat' first
    | with_reducible assumption
    | (with_reducible refine State.opAt_kept ?_)

theorem execTrg_kept {ql : List Instr} {die : Die} {pc : Pc} {bp : BpIx} {s : State} (h1 : s.Kept ql) : Out.Kept ql (execTrg die pc bp s) := by
  unfold execTrg
  repeat' first
    | with_reducible assumption
    | (with_reducible refine State.opAt_kept ?_)

theorem execPrb_kept {ql : List Instr} {die : Die} {pc : Pc} {bp : BpIx} {s : State} (h1 : s.Kept ql) : Out.Kept ql (execPrb die pc bp s) := by
  unfold execPrb
  repeat' first
    | with_reducible assumption
    | (with_reducible refine State.opAt_kept ?_)

theorem execEvt_kept {ql : List Instr} {die : Die} {pc : Pc} {bp : BpIx} {s : State} (h1 : s.Kept ql) : Out.Kept ql (execEvt die pc bp s) := by
  unfold execEvt
  repeat' first
    | with_reducible assumption
    | (with_reducible refine State.opAt_kept ?_)

theorem execAsrt_kept {ql : List Instr} {die : Die} {pc : Pc} {bp : BpIx} {s : State} (h1 : s.Kept ql) : Out.Kept ql (execAsrt die pc bp s) := by
  unfold execAsrt
  repeat' first
    | with_reducible assumption
    | (with_reducible refine State.opAt_kept ?_)

theorem execCken_kept {ql : List Instr} {die : Die} {pc : Pc} {bp : BpIx} {s : State} (h1 : s.Kept ql) : Out.Kept ql (execCken die pc bp s) := by
  unfold execCken
  repeat' first
    | with_reducible assumption
    | (with_reducible refine State.opAt_kept ?_)

theorem execEnd_kept {ql : List Instr} {die : Die} {pc : Pc} {bp : BpIx} {s : State} (h1 : s.Kept ql) : Out.Kept ql (execEnd die pc bp s) := by
  unfold execEnd
  repeat' first
    | with_reducible assumption
    | (with_reducible refine State.opAt_kept ?_)

theorem execDeliveryLand_kept {ql : List Instr} {die : Die} {pc : Pc} {s : State} (h1 : s.Kept ql) : Out.Kept ql (execDeliveryLand die pc s) := by
  unfold execDeliveryLand
  repeat' first
    | with_reducible assumption
    | (extract_lets +onlyGivenNames x; clear_value (hx : x = _); clear hx)
    | (with_reducible refine State.setCl_kept ?_)
    | (with_reducible refine State.landOne_kept ?_)
    | (with_reducible refine Out.next_kept ?_)
    | split

theorem execMemoryReturn_kept {ql : List Instr} {die : Die} {pc : Pc} {s : State} (h1 : s.Kept ql) : Out.Kept ql (execMemoryReturn die pc s) := by
  unfold execMemoryReturn
  repeat' first
    | with_reducible assumption
    | (with_reducible refine State.landDue_kept ?_)
    | (with_reducible refine Out.next_kept ?_)

theorem execEccRewrite_kept {ql : List Instr} {die : Die} {pc : Pc} {s : State} (h1 : s.Kept ql) : Out.Kept ql (execEccRewrite die pc s) := by
  unfold execEccRewrite
  repeat' first
    | with_reducible assumption
    | (extract_lets +onlyGivenNames x; clear_value (hx : x = _); clear hx)
    | (with_reducible refine State.setCl_kept ?_)
    | (with_reducible refine Out.next_kept ?_)
    | (with_reducible refine ite_out_kept (fun _ => ?_) (fun _ => ?_))

theorem execRowRewrite_kept {ql : List Instr} {die : Die} {pc : Pc} {s : State} (h1 : s.Kept ql) : Out.Kept ql (execRowRewrite die pc s) := by
  unfold execRowRewrite
  repeat' first
    | with_reducible assumption
    | (extract_lets +onlyGivenNames x; clear_value (hx : x = _); clear hx)
    | (with_reducible refine State.setCl_kept ?_)
    | (with_reducible refine Out.next_kept ?_)
    | (with_reducible refine ite_out_kept (fun _ => ?_) (fun _ => ?_))
    | split

theorem execMemoryScrub_kept {ql : List Instr} {die : Die} {pc : Pc} {s : State} (h1 : s.Kept ql) : Out.Kept ql (execMemoryScrub die pc s) := by
  unfold execMemoryScrub
  repeat' first
    | with_reducible assumption
    | (extract_lets +onlyGivenNames x; clear_value (hx : x = _); clear hx)
    | (with_reducible refine State.setCl_kept ?_)
    | (with_reducible refine State.raiseFault_kept ?_)
    | (with_reducible refine Out.next_kept ?_)
    | (with_reducible refine ite_out_kept (fun _ => ?_) (fun _ => ?_))
    | split

theorem execClusterEnd_kept {ql : List Instr} {die : Die} {pc : Pc} {s : State} (h1 : s.Kept ql) : Out.Kept ql (execClusterEnd die pc s) := by
  unfold execClusterEnd
  repeat' first
    | with_reducible assumption
    | (extract_lets +onlyGivenNames x; clear_value (hx : x = _); clear hx)
    | (with_reducible refine State.bump_kept ?_)
    | (with_reducible refine State.setCl_kept ?_)
    | (with_reducible refine Out.next_kept ?_)
    | (with_reducible refine ite_out_kept (fun _ => ?_) (fun _ => ?_))

end Sys2Proof.Machine
end

