-- ==== Sys2Proof/Laws/KeptRoutes.lean ====
section
/-!
SUPPORT. Every operation of Machine/Routes.lean leaves the queue of waiting commands as it is, the stores canonical and what waits within bounds.
-/

set_option linter.tactic.unusedName false
set_option linter.unusedVariables false

namespace Sys2Proof.Machine

theorem State.setOutLink_kept {ql : List Instr} {s : State} {k : Nat} {o : OutLink} (h1 : s.Kept ql) : State.Kept ql (State.setOutLink s k o) := by
  unfold State.setOutLink
  repeat' first
    | (extract_lets +onlyGivenNames x; clear_value (hx : x = _); clear hx)
    | (with_reducible exact mk_kept (by assumption))

theorem State.putFlit_kept {ql : List Instr} {s : State} {die node now input : Nat} {f : Flit} (h1 : s.Kept ql) : State.Kept ql (State.putFlit s die node now input f) := by
  unfold State.putFlit
  repeat' first
    | with_reducible assumption
    | (extract_lets +onlyGivenNames x; clear_value (hx : x = _); clear hx)
    | (with_reducible refine State.setOutLink_kept ?_)

theorem State.putWhole_kept {ql : List Instr} {s : State} {k input : Nat} {p : Packet} (h1 : s.Kept ql) : State.Kept ql (State.putWhole s k input p) := by
  unfold State.putWhole
  repeat' first
    | with_reducible assumption
    | (with_reducible refine State.setOutLink_kept ?_)

theorem State.inject_kept {ql : List Instr} {s : State} {p : Packet} (h1 : s.Kept ql) : State.Kept ql (State.inject s p) := by
  unfold State.inject
  repeat' first
    | with_reducible assumption
    | (with_reducible refine State.putWhole_kept ?_)

theorem State.portSends_kept {ql : List Instr} {s : State} {p : Packet} (h1 : s.Kept ql) : State.Kept ql (State.portSends s p) := by
  unfold State.portSends
  repeat' first
    | with_reducible assumption
    | (extract_lets +onlyGivenNames x; clear_value (hx : x = _); clear hx)
    | (with_reducible refine State.putWhole_kept ?_)

end Sys2Proof.Machine
end

