-- ==== Sys2Proof/Laws/KeptEgress.lean ====
section
/-!
SUPPORT. Every operation of Machine/Egress.lean leaves the queue of waiting commands as it is, the stores canonical and what waits within bounds.
-/

set_option linter.tactic.unusedName false
set_option linter.unusedVariables false

namespace Sys2Proof.Machine

theorem State.seamEgress_kept {ql : List Instr} {s : State} {upstream : Option Nat} {dmod ddie dlc key bits dc : Nat} (h1 : s.Kept ql) : State.Kept ql (State.seamEgress s upstream dmod ddie dlc key bits dc) := by
  unfold State.seamEgress
  repeat' first
    | with_reducible assumption
    | (extract_lets +onlyGivenNames x; clear_value (hx : x = _); revert x; refine let_kept (ql := ql) ?_ fun x _ => ?_)
    | (extract_lets +onlyGivenNames x; clear_value (hx : x = _); clear hx)
    | (with_reducible refine State.bump_kept ?_)
    | (with_reducible refine State.setLink_kept ?_)
    | (with_reducible refine State.astray_kept ?_)
    | (with_reducible refine ite_kept (fun _ => ?_) (fun _ => ?_))
    | split

theorem State.sendMsg_kept {ql : List Instr} {s : State} {l : Nat} {m : SeamMsg} (h1 : s.Kept ql) : State.Kept ql (State.sendMsg s l m) := by
  unfold State.sendMsg
  repeat' first
    | with_reducible assumption
    | (extract_lets +onlyGivenNames x; clear_value (hx : x = _); clear hx)
    | (with_reducible refine State.setLink_kept ?_)

theorem State.sendAll_kept {ql : List Instr} {s : State} {skip : Option Nat} {m : SeamMsg} (h1 : s.Kept ql) : State.Kept ql (State.sendAll s skip m) := by
  unfold State.sendAll
  repeat' first
    | with_reducible assumption
    | (with_reducible refine State.onLinks_kept ?_)

theorem State.crcFailed_kept {ql : List Instr} {s : State} {l : Nat} (h1 : s.Kept ql) : State.Kept ql (State.crcFailed s l) := by
  unfold State.crcFailed
  repeat' first
    | with_reducible assumption
    | (with_reducible refine State.bump_kept ?_)

theorem State.hear_kept {ql : List Instr} {s : State} {l c : Nat} {f : Nat → Nat → State → State} (h1 : s.Kept ql) (h2 : ∀ (a0 : Nat) (a1 : Nat) (a2 : State), a2.Kept ql → State.Kept ql (f a0 a1 a2)) : State.Kept ql (State.hear s l c f) := by
  unfold State.hear
  repeat' first
    | with_reducible assumption
    | (with_reducible refine h2 _ _ _ ?_)
    | (extract_lets +onlyGivenNames x; clear_value (hx : x = _); revert x; refine let_kept (ql := ql) ?_ fun x _ => ?_)
    | (with_reducible refine State.setLink_kept ?_)
    | (with_reducible refine State.crcFailed_kept ?_)
    | (with_reducible refine ite_kept (fun _ => ?_) (fun _ => ?_))
    | split

end Sys2Proof.Machine
end

