-- ==== Sys2Proof/Laws/KeptCauseway.lean ====
section
/-!
SUPPORT. Every operation of Machine/Causeway.lean leaves the queue of waiting commands as it is, the stores canonical and what waits within bounds.
-/

set_option linter.tactic.unusedName false
set_option linter.unusedVariables false

namespace Sys2Proof.Machine

theorem State.routeRead_kept {ql : List Instr} {s : State} {cid : Nat} {r : RouteRead} (h1 : s.Kept ql) : State.Kept ql (State.routeRead s cid r) := by
  unfold State.routeRead
  repeat' first
    | with_reducible assumption
    | (extract_lets +onlyGivenNames x; clear_value (hx : x = _); revert x; refine let_kept (ql := ql) ?_ fun x _ => ?_)
    | (extract_lets +onlyGivenNames x; clear_value (hx : x = _); clear hx)
    | (with_reducible refine State.setCl_kept ?_)
    | (with_reducible refine State.astray_kept ?_)
    | (with_reducible refine State.readRouteAt_kept ?_)
    | (with_reducible refine ite_kept (fun _ => ?_) (fun _ => ?_))
    | (with_reducible refine fst_of_kept (by assumption) ?_)
    | split

theorem execRoutePortRead_kept {ql : List Instr} {die : Die} {pc : Pc} {g : GroupIx} {s : State} (h1 : s.Kept ql) : Out.Kept ql (execRoutePortRead die pc g s) := by
  unfold execRoutePortRead
  repeat' first
    | with_reducible assumption
    | (extract_lets +onlyGivenNames x; clear_value (hx : x = _); clear hx)
    | (with_reducible refine State.setCl_kept ?_)
    | (with_reducible refine State.routeRead_kept ?_)
    | (with_reducible refine Out.next_kept ?_)
    | (with_reducible refine ite_out_kept (fun _ => ?_) (fun _ => ?_))
    | split

theorem State.linkFault_kept {ql : List Instr} {s : State} {die node port kind : Nat} (h1 : s.Kept ql) : State.Kept ql (State.linkFault s die node port kind) := by
  unfold State.linkFault
  repeat' first
    | with_reducible assumption
    | (with_reducible refine State.bump_kept ?_)
    | (with_reducible refine State.raiseFault_kept ?_)

theorem execSlotFlitLeave_kept {ql : List Instr} {die : Die} {pc : Pc} {slot : SlotIx} {check : WordCheck} {s : State} (h1 : s.Kept ql) : Out.Kept ql (execSlotFlitLeave die pc slot check s) := by
  unfold execSlotFlitLeave
  repeat' first
    | with_reducible assumption
    | (extract_lets +onlyGivenNames x; clear_value (hx : x = _); revert x; refine let_kept (ql := ql) ?_ fun x _ => ?_)
    | (extract_lets +onlyGivenNames x; clear_value (hx : x = _); clear hx)
    | (with_reducible refine State.bump_kept ?_)
    | (with_reducible refine State.setCl_kept ?_)
    | (with_reducible refine State.setOutLink_kept ?_)
    | (with_reducible refine State.putFlit_kept ?_)
    | (with_reducible refine State.linkFault_kept ?_)
    | (with_reducible refine Out.next_kept ?_)
    | (with_reducible refine ite_kept (fun _ => ?_) (fun _ => ?_))
    | (with_reducible refine ite_out_kept (fun _ => ?_) (fun _ => ?_))
    | split

theorem State.flitArrives_kept {ql : List Instr} {s : State} {h : Hop} {k now : Nat} {f : Flit} (h1 : s.Kept ql) : State.Kept ql (State.flitArrives s h k now f) := by
  unfold State.flitArrives
  repeat' first
    | with_reducible assumption
    | (extract_lets +onlyGivenNames x; clear_value (hx : x = _); clear hx)
    | (with_reducible refine State.bump_kept ?_)
    | (with_reducible refine State.setCl_kept ?_)
    | (with_reducible refine State.putFlit_kept ?_)
    | (with_reducible refine State.seamEgress_kept ?_)
    | (with_reducible refine ite_kept (fun _ => ?_) (fun _ => ?_))
    | split

theorem State.sendSlot_kept {ql : List Instr} {s : State} {die node port i : Nat} {onTime : Bool} {w : SlotWait} {check : WordCheck} (h1 : s.Kept ql) : State.Kept ql (State.sendSlot s die node port i onTime w check) := by
  unfold State.sendSlot
  repeat' first
    | with_reducible assumption
    | (extract_lets +onlyGivenNames x; clear_value (hx : x = _); revert x; refine let_kept (ql := ql) ?_ fun x _ => ?_)
    | (extract_lets +onlyGivenNames x; clear_value (hx : x = _); replace hx : (_ : _ → _) = _ := hx; subst hx; first | dsimp -zeta only | skip)
    | (extract_lets +onlyGivenNames x; clear_value (hx : x = _); clear hx)
    | (with_reducible refine State.bump_kept ?_)
    | (with_reducible refine State.setCl_kept ?_)
    | (with_reducible refine State.setOutLink_kept ?_)
    | (with_reducible refine State.linkFault_kept ?_)
    | (with_reducible refine State.flitArrives_kept ?_)
    | (with_reducible refine ite_kept (fun _ => ?_) (fun _ => ?_))
    | split

theorem State.flitComes_kept {ql : List Instr} {s : State} {die node k : Nat} {p : Packet} {head tail : Bool} (h1 : s.Kept ql) : State.Kept ql (State.flitComes s die node k p head tail) := by
  unfold State.flitComes
  repeat' first
    | with_reducible assumption
    | (extract_lets +onlyGivenNames x; clear_value (hx : x = _); clear hx)
    | (with_reducible refine State.setOutLink_kept ?_)
    | (with_reducible refine ite_kept (fun _ => ?_) (fun _ => ?_))

theorem State.packetFlitArrives_kept {ql : List Instr} {s : State} {h : Hop} {k : Nat} {p : Packet} {head tail : Bool} (h1 : s.Kept ql) : State.Kept ql (State.packetFlitArrives s h k p head tail) := by
  unfold State.packetFlitArrives
  repeat' first
    | with_reducible assumption
    | (extract_lets +onlyGivenNames x; clear_value (hx : x = _); clear hx)
    | (with_reducible refine State.flitComes_kept ?_)
    | (with_reducible refine ite_kept (fun _ => ?_) (fun _ => ?_))
    | split
    | (with_reducible exact mk_kept (by assumption))

theorem State.sendFlit_kept {ql : List Instr} {s : State} {die node port vc wrr : Nat} {r : PacketRun} {rest : List PacketRun} {check : WordCheck} (h1 : s.Kept ql) : State.Kept ql (State.sendFlit s die node port vc wrr r rest check) := by
  unfold State.sendFlit
  repeat' first
    | with_reducible assumption
    | (extract_lets +onlyGivenNames x; clear_value (hx : x = _); revert x; refine let_kept (ql := ql) ?_ fun x _ => ?_)
    | (extract_lets +onlyGivenNames x; clear_value (hx : x = _); clear hx)
    | (extract_lets +onlyGivenNames x; subst x)
    | (with_reducible refine State.bump_kept ?_)
    | (with_reducible refine State.setOutLink_kept ?_)
    | (with_reducible refine State.linkFault_kept ?_)
    | (with_reducible refine State.packetFlitArrives_kept ?_)
    | split

theorem execLinkWordSend_kept {ql : List Instr} {die : Fin 5} {node : Fin 76} {port : Fin 72} {check : WordCheck} {s : State} (h1 : s.Kept ql) : Out.Kept ql (execLinkWordSend die node port check s) := by
  unfold execLinkWordSend
  repeat' first
    | with_reducible assumption
    | (extract_lets +onlyGivenNames x; clear_value (hx : x = _); clear hx)
    | (with_reducible refine State.sendSlot_kept ?_)
    | (with_reducible refine State.sendFlit_kept ?_)
    | (with_reducible refine Out.next_kept ?_)
    | (with_reducible refine ite_out_kept (fun _ => ?_) (fun _ => ?_))
    | split

theorem execSlotFlitLand_kept {ql : List Instr} {die : Die} {pc : Pc} {s : State} (h1 : s.Kept ql) : Out.Kept ql (execSlotFlitLand die pc s) := by
  unfold execSlotFlitLand
  repeat' first
    | with_reducible assumption
    | (extract_lets +onlyGivenNames x; clear_value (hx : x = _); clear hx)
    | (with_reducible refine State.setCl_kept ?_)
    | (with_reducible refine Out.next_kept ?_)
    | split

theorem execLandingPortWrite_kept {ql : List Instr} {die : Die} {pc : Pc} {g : GroupIx} {s : State} (h1 : s.Kept ql) : Out.Kept ql (execLandingPortWrite die pc g s) := by
  unfold execLandingPortWrite
  repeat' first
    | with_reducible assumption
    | (extract_lets +onlyGivenNames x; clear_value (hx : x = _); clear hx)
    | (with_reducible refine State.setCl_kept ?_)
    | (with_reducible refine State.landOne_kept ?_)
    | (with_reducible refine Out.next_kept ?_)
    | (with_reducible refine ite_out_kept (fun _ => ?_) (fun _ => ?_))
    | split

end Sys2Proof.Machine
end

