-- ==== Sys2Proof/Laws/KeptCores.lean ====
section
/-!
SUPPORT. Every operation of Machine/Cores.lean leaves the queue of waiting commands as it is, the stores canonical and what waits within bounds.
-/

set_option linter.tactic.unusedName false
set_option linter.unusedVariables false

namespace Sys2Proof.Machine

theorem State.setCore_kept {ql : List Instr} {s : State} {c : Nat} {k : Core} (h1 : s.Kept ql) : State.Kept ql (State.setCore s c k) := by
  unfold State.setCore
  repeat' first
    | (extract_lets +onlyGivenNames x; clear_value (hx : x = _); replace hx : (_ : Hub) = _ := hx; subst hx)
    | ((with_reducible refine mk_all_kept (by assumption) ?_ ?_ ?_ ?_ ?_ ?_ ?_) <;> exact id)

theorem State.setThread_kept {ql : List Instr} {s : State} {t : Nat} {k : Thread} (h1 : s.Kept ql) : State.Kept ql (State.setThread s t k) := by
  unfold State.setThread
  repeat' first
    | (extract_lets +onlyGivenNames x; clear_value (hx : x = _); replace hx : (_ : Hub) = _ := hx; subst hx)
    | ((with_reducible refine mk_all_kept (by assumption) ?_ ?_ ?_ ?_ ?_ ?_ ?_) <;> exact id)

theorem State.setXport_kept {ql : List Instr} {s : State} {x : Nat} {k : Xport} (h1 : s.Kept ql) : State.Kept ql (State.setXport s x k) := by
  unfold State.setXport
  repeat' first
    | (extract_lets +onlyGivenNames x; clear_value (hx : x = _); replace hx : (_ : Hub) = _ := hx; subst hx)
    | ((with_reducible refine mk_all_kept (by assumption) ?_ ?_ ?_ ?_ ?_ ?_ ?_) <;> exact id)

theorem State.setLock_kept {ql : List Instr} {s : State} {n : Nat} {o : Option Nat} (h1 : s.Kept ql) : State.Kept ql (State.setLock s n o) := by
  unfold State.setLock
  repeat' first
    | (extract_lets +onlyGivenNames x; clear_value (hx : x = _); replace hx : (_ : Hub) = _ := hx; subst hx)
    | ((with_reducible refine mk_all_kept (by assumption) ?_ ?_ ?_ ?_ ?_ ?_ ?_) <;> exact id)

theorem State.trap_kept {ql : List Instr} {s : State} {c cause tval : Nat} (h1 : s.Kept ql) : State.Kept ql (State.trap s c cause tval) := by
  unfold State.trap
  repeat' first
    | with_reducible assumption
    | (extract_lets +onlyGivenNames x; clear_value (hx : x = _); clear hx)
    | (with_reducible refine State.setCore_kept ?_)

theorem State.takeIrq_kept {ql : List Instr} {s : State} {c : Nat} (h1 : s.Kept ql) : State.Kept ql (State.takeIrq s c) := by
  unfold State.takeIrq
  repeat' first
    | with_reducible assumption
    | (extract_lets +onlyGivenNames x; clear_value (hx : x = _); clear hx)
    | (with_reducible refine State.setCore_kept ?_)
    | (with_reducible refine ite_kept (fun _ => ?_) (fun _ => ?_))
    | split

theorem State.breakResv_kept {ql : List Instr} {s : State} {cores : List Nat} {writer : Option Nat} {a n : Nat} (h1 : s.Kept ql) : State.Kept ql (State.breakResv s cores writer a n) := by
  unfold State.breakResv
  repeat' first
    | with_reducible assumption
    | (extract_lets +onlyGivenNames x; clear_value (hx : x = _); clear hx)
    | (with_reducible refine State.setCore_kept ?_)
    | (with_reducible refine foldl_kept (fun _ _ _ => ?_) ?_)
    | (with_reducible refine ite_kept (fun _ => ?_) (fun _ => ?_))

theorem State.noteWrite_kept {ql : List Instr} {s : State} {lo n : Nat} {writer : Option Nat} (h1 : s.Kept ql) : State.Kept ql (State.noteWrite s lo n writer) := by
  unfold State.noteWrite
  repeat' first
    | (extract_lets +onlyGivenNames x; clear_value (hx : x = _); replace hx : (_ : Hub) = _ := hx; subst hx)
    | ((with_reducible refine mk_all_kept (by assumption) ?_ ?_ ?_ ?_ ?_ ?_ ?_) <;> exact id)

theorem State.sramPut_kept {ql : List Instr} {s : State} {c a : Nat} {data : List Byte} {writer : Option Nat} (h1 : s.Kept ql) : State.Kept ql (State.sramPut s c a data writer) := by
  unfold State.sramPut
  repeat' first
    | with_reducible assumption
    | (extract_lets +onlyGivenNames x; clear_value (hx : x = _); revert x; refine let_kept (ql := ql) ?_ fun x _ => ?_)
    | (extract_lets +onlyGivenNames x; clear_value (hx : x = _); replace hx : (_ : Hub) = _ := hx; subst hx)
    | (extract_lets +onlyGivenNames x; clear_value (hx : x = _); clear hx)
    | (with_reducible refine State.setCore_kept ?_)
    | (with_reducible refine State.breakResv_kept ?_)
    | (with_reducible refine State.noteWrite_kept ?_)
    | (with_reducible refine ite_kept (fun _ => ?_) (fun _ => ?_))
    | ((with_reducible refine mk_all_kept (by assumption) ?_ ?_ ?_ ?_ ?_ ?_ ?_) <;> exact id)
    | ((with_reducible refine mk_all_kept (by assumption) ?_ ?_ ?_ ?_ ?_ ?_ ?_) <;> first | exact id | exact fun w => mwrite_wf w _ _)

theorem State.sramWrite_kept {ql : List Instr} {s : State} {c a n v : Nat} (h1 : s.Kept ql) : State.Kept ql (State.sramWrite s c a n v) := by
  unfold State.sramWrite
  repeat' first
    | with_reducible assumption
    | (with_reducible refine State.sramPut_kept ?_)

theorem execLr_kept {ql : List Instr} {core : CoreIx} {wide : Bool} {rd : Fin 32} {addr : BitVec 64} {s : State} (h1 : s.Kept ql) : Out.Kept ql (execLr core wide rd addr s) := by
  unfold execLr
  repeat' first
    | with_reducible assumption
    | (extract_lets +onlyGivenNames x; clear_value (hx : x = _); clear hx)
    | (with_reducible refine State.setCore_kept ?_)
    | (with_reducible refine State.trap_kept ?_)
    | (with_reducible refine Out.next_kept ?_)
    | split

theorem execSc_kept {ql : List Instr} {core : CoreIx} {wide : Bool} {rd : Fin 32} {addr value : BitVec 64} {s : State} (h1 : s.Kept ql) : Out.Kept ql (execSc core wide rd addr value s) := by
  unfold execSc
  repeat' first
    | with_reducible assumption
    | (extract_lets +onlyGivenNames x; clear_value (hx : x = _); revert x; refine let_kept (ql := ql) ?_ fun x _ => ?_)
    | (extract_lets +onlyGivenNames x; clear_value (hx : x = _); clear hx)
    | (extract_lets +onlyGivenNames x; subst x)
    | (with_reducible refine State.setCore_kept ?_)
    | (with_reducible refine State.trap_kept ?_)
    | (with_reducible refine State.sramWrite_kept ?_)
    | (with_reducible refine Out.next_kept ?_)
    | (with_reducible refine ite_kept (fun _ => ?_) (fun _ => ?_))
    | split

theorem execAmo_kept {ql : List Instr} {core : CoreIx} {op : AmoOp} {wide : Bool} {rd : Fin 32} {addr value : BitVec 64} {s : State} (h1 : s.Kept ql) : Out.Kept ql (execAmo core op wide rd addr value s) := by
  unfold execAmo
  repeat' first
    | with_reducible assumption
    | (extract_lets +onlyGivenNames x; clear_value (hx : x = _); revert x; refine let_kept (ql := ql) ?_ fun x _ => ?_)
    | (extract_lets +onlyGivenNames x; clear_value (hx : x = _); clear hx)
    | (with_reducible refine State.setCore_kept ?_)
    | (with_reducible refine State.trap_kept ?_)
    | (with_reducible refine State.sramWrite_kept ?_)
    | (with_reducible refine Out.next_kept ?_)
    | split

theorem execFenceI_kept {ql : List Instr} {core : CoreIx} {s : State} (h1 : s.Kept ql) : Out.Kept ql (execFenceI core s) := by
  unfold execFenceI
  repeat' first
    | with_reducible assumption
    | (extract_lets +onlyGivenNames x; clear_value (hx : x = _); clear hx)
    | (with_reducible refine State.setCore_kept ?_)
    | (with_reducible refine Out.next_kept ?_)
    | split

theorem execReservationExpiry_kept {ql : List Instr} {core : CoreIx} {s : State} (h1 : s.Kept ql) : Out.Kept ql (execReservationExpiry core s) := by
  unfold execReservationExpiry
  repeat' first
    | with_reducible assumption
    | (extract_lets +onlyGivenNames x; clear_value (hx : x = _); clear hx)
    | (with_reducible refine State.setCore_kept ?_)
    | (with_reducible refine Out.next_kept ?_)
    | (with_reducible refine ite_out_kept (fun _ => ?_) (fun _ => ?_))

theorem execLockLoad_kept {ql : List Instr} {core : CoreIx} {n : Fin 256} {width : Width} {rd : Fin 32} {s : State} (h1 : s.Kept ql) : Out.Kept ql (execLockLoad core n width rd s) := by
  unfold execLockLoad
  repeat' first
    | with_reducible assumption
    | (with_reducible refine State.setCore_kept ?_)
    | (with_reducible refine State.setLock_kept ?_)
    | (with_reducible refine State.trap_kept ?_)
    | (with_reducible refine Out.next_kept ?_)
    | (with_reducible refine ite_out_kept (fun _ => ?_) (fun _ => ?_))
    | split

theorem State.lockFreed_kept {ql : List Instr} {s : State} {c t : Nat} (h1 : s.Kept ql) : State.Kept ql (State.lockFreed s c t) := by
  unfold State.lockFreed
  repeat' first
    | with_reducible assumption
    | (extract_lets +onlyGivenNames x; clear_value (hx : x = _); clear hx)
    | (with_reducible refine State.setCore_kept ?_)
    | (with_reducible refine ite_kept (fun _ => ?_) (fun _ => ?_))

theorem execLockStore_kept {ql : List Instr} {core : CoreIx} {n : Fin 256} {width : Width} {s : State} (h1 : s.Kept ql) : Out.Kept ql (execLockStore core n width s) := by
  unfold execLockStore
  repeat' first
    | with_reducible assumption
    | (with_reducible refine State.bump_kept ?_)
    | (with_reducible refine State.setLock_kept ?_)
    | (with_reducible refine State.trap_kept ?_)
    | (with_reducible refine State.lockFreed_kept ?_)
    | (with_reducible refine Out.next_kept ?_)
    | (with_reducible refine ite_out_kept (fun _ => ?_) (fun _ => ?_))
    | split

theorem State.post_kept {ql : List Instr} {s : State} {x : Nat} (h1 : s.Kept ql) : State.Kept ql (State.post s x) := by
  unfold State.post
  repeat' first
    | with_reducible assumption
    | (extract_lets +onlyGivenNames x; clear_value (hx : x = _); revert x; refine let_kept (ql := ql) ?_ fun x _ => ?_)
    | (extract_lets +onlyGivenNames x; clear_value (hx : x = _); clear hx)
    | (with_reducible refine State.bump_kept ?_)
    | (with_reducible refine State.setXport_kept ?_)
    | (with_reducible refine ite_kept (fun _ => ?_) (fun _ => ?_))

theorem State.xportStore_kept {ql : List Instr} {s : State} {core x off n v : Nat} (h1 : s.Kept ql) : State.Kept ql (State.xportStore s core x off n v) := by
  unfold State.xportStore
  repeat' first
    | with_reducible assumption
    | (extract_lets +onlyGivenNames x; clear_value (hx : x = _); clear hx)
    | (with_reducible refine State.setXport_kept ?_)
    | (with_reducible refine State.trap_kept ?_)
    | (with_reducible refine State.post_kept ?_)
    | (with_reducible refine ite_kept (fun _ => ?_) (fun _ => ?_))

theorem execPost_kept {ql : List Instr} {core : CoreIx} {x : XportIx} {s : State} (h1 : s.Kept ql) : Out.Kept ql (execPost core x s) := by
  unfold execPost
  repeat' first
    | with_reducible assumption
    | (with_reducible refine State.xportStore_kept ?_)
    | (with_reducible refine Out.next_kept ?_)
    | split

theorem execInStageStore_kept {ql : List Instr} {core : CoreIx} {x : XportIx} {off : Fin 256} {width : Width} {value : BitVec 64} {s : State} (h1 : s.Kept ql) : Out.Kept ql (execInStageStore core x off width value s) := by
  unfold execInStageStore
  repeat' first
    | with_reducible assumption
    | (with_reducible refine State.xportStore_kept ?_)
    | (with_reducible refine Out.next_kept ?_)
    | split

theorem execOutLoad_kept {ql : List Instr} {core : CoreIx} {x : XportIx} {off : Fin 256} {width : Width} {rd : Fin 32} {s : State} (h1 : s.Kept ql) : Out.Kept ql (execOutLoad core x off width rd s) := by
  unfold execOutLoad
  repeat' first
    | with_reducible assumption
    | (extract_lets +onlyGivenNames x; clear_value (hx : x = _); revert x; refine let_kept (ql := ql) ?_ fun x _ => ?_)
    | (extract_lets +onlyGivenNames x; clear_value (hx : x = _); clear hx)
    | (with_reducible refine State.draw_kept ?_)
    | (with_reducible refine State.setCore_kept ?_)
    | (with_reducible refine State.trap_kept ?_)
    | (with_reducible refine Out.next_kept ?_)
    | (with_reducible refine ite_kept (fun _ => ?_) (fun _ => ?_))
    | (with_reducible refine ite_out_kept (fun _ => ?_) (fun _ => ?_))
    | split

theorem execPaceStore_kept {ql : List Instr} {core : CoreIx} {d : Fin 64} {value : BitVec 64} {s : State} (h1 : s.Kept ql) : Out.Kept ql (execPaceStore core d value s) := by
  unfold execPaceStore
  repeat' first
    | with_reducible assumption
    | (extract_lets +onlyGivenNames x; clear_value (hx : x = _); replace hx : (_ : Hub) = _ := hx; subst hx)
    | (extract_lets +onlyGivenNames x; clear_value (hx : x = _); clear hx)
    | (with_reducible refine State.trap_kept ?_)
    | (with_reducible refine Out.next_kept ?_)
    | (with_reducible refine ite_out_kept (fun _ => ?_) (fun _ => ?_))
    | split
    | ((with_reducible refine mk_all_kept (by assumption) ?_ ?_ ?_ ?_ ?_ ?_ ?_) <;> exact id)

theorem State.schedObjs_kept {ql : List Instr} {s : State} {c : Nat} (h1 : s.Kept ql) : State.Kept ql (State.schedObjs s c) := by
  unfold State.schedObjs
  repeat' first
    | with_reducible assumption
    | (extract_lets +onlyGivenNames x; clear_value (hx : x = _); revert x; refine let_kept (ql := ql) ?_ fun x _ => ?_)
    | (extract_lets +onlyGivenNames x; clear_value (hx : x = _); replace hx : (_ : _ → _) = _ := hx; subst hx; first | dsimp -zeta only | skip)
    | (extract_lets +onlyGivenNames x; clear_value (hx : x = _); clear hx)
    | (with_reducible refine State.setObj_kept ?_)
    | (with_reducible refine State.setObjs_kept ?_)
    | (with_reducible refine State.raise_kept ?_)
    | (with_reducible refine foldl_kept (fun _ _ _ => ?_) ?_)

theorem State.resetCore_kept {ql : List Instr} {s : State} {c state : Nat} (h1 : s.Kept ql) : State.Kept ql (State.resetCore s c state) := by
  unfold State.resetCore
  repeat' first
    | with_reducible assumption
    | (extract_lets +onlyGivenNames x; clear_value (hx : x = _); revert x; refine let_kept (ql := ql) ?_ fun x _ => ?_)
    | (extract_lets +onlyGivenNames x; clear_value (hx : x = _); replace hx : (_ : Hub) = _ := hx; subst hx)
    | (extract_lets +onlyGivenNames x; clear_value (hx : x = _); clear hx)
    | (with_reducible refine State.setObjs_kept ?_)
    | (with_reducible refine State.setObjBit_kept ?_)
    | (with_reducible refine State.setCore_kept ?_)
    | (with_reducible refine State.schedObjs_kept ?_)
    | ((with_reducible refine mk_all_kept (by assumption) ?_ ?_ ?_ ?_ ?_ ?_ ?_) <;> exact id)

theorem State.releaseCore_kept {ql : List Instr} {s : State} {c : Nat} (h1 : s.Kept ql) : State.Kept ql (State.releaseCore s c) := by
  unfold State.releaseCore
  repeat' first
    | with_reducible assumption
    | (extract_lets +onlyGivenNames x; clear_value (hx : x = _); revert x; refine let_kept (ql := ql) ?_ fun x _ => ?_)
    | (extract_lets +onlyGivenNames x; clear_value (hx : x = _); clear hx)
    | (with_reducible refine State.setObjs_kept ?_)
    | (with_reducible refine State.setCore_kept ?_)
    | (with_reducible refine State.setThread_kept ?_)
    | (with_reducible refine State.schedObjs_kept ?_)

theorem execWdtKick_kept {ql : List Instr} {core : CoreIx} {value : Byte} {s : State} (h1 : s.Kept ql) : Out.Kept ql (execWdtKick core value s) := by
  unfold execWdtKick
  repeat' first
    | with_reducible assumption
    | (extract_lets +onlyGivenNames x; clear_value (hx : x = _); clear hx)
    | (with_reducible refine State.setCore_kept ?_)
    | (with_reducible refine State.trap_kept ?_)
    | (with_reducible refine Out.next_kept ?_)
    | (with_reducible refine ite_out_kept (fun _ => ?_) (fun _ => ?_))
    | split

theorem State.wdtTick_kept {ql : List Instr} {s : State} {c : Nat} (h1 : s.Kept ql) : State.Kept ql (State.wdtTick s c) := by
  unfold State.wdtTick
  repeat' first
    | with_reducible assumption
    | (extract_lets +onlyGivenNames x; clear_value (hx : x = _); clear hx)
    | (with_reducible refine State.setCore_kept ?_)
    | (with_reducible refine ite_kept (fun _ => ?_) (fun _ => ?_))

theorem execWdtExpiry_kept {ql : List Instr} {core : CoreIx} {s : State} (h1 : s.Kept ql) : Out.Kept ql (execWdtExpiry core s) := by
  unfold execWdtExpiry
  repeat' first
    | with_reducible assumption
    | (extract_lets +onlyGivenNames x; clear_value (hx : x = _); revert x; refine let_kept (ql := ql) ?_ fun x _ => ?_)
    | (extract_lets +onlyGivenNames x; clear_value (hx : x = _); clear hx)
    | (with_reducible refine State.bump_kept ?_)
    | (with_reducible refine State.raiseFault_kept ?_)
    | (with_reducible refine State.setCore_kept ?_)
    | (with_reducible refine State.takeIrq_kept ?_)
    | (with_reducible refine State.resetCore_kept ?_)
    | (with_reducible refine Out.next_kept ?_)
    | (with_reducible refine ite_out_kept (fun _ => ?_) (fun _ => ?_))

theorem State.timerIrq_kept {ql : List Instr} {s : State} {c : Nat} (h1 : s.Kept ql) : State.Kept ql (State.timerIrq s c) := by
  unfold State.timerIrq
  repeat' first
    | with_reducible assumption
    | (extract_lets +onlyGivenNames x; clear_value (hx : x = _); clear hx)
    | (with_reducible refine State.setCore_kept ?_)
    | (with_reducible refine State.takeIrq_kept ?_)

theorem execMtimecmpReached_kept {ql : List Instr} {core : CoreIx} {s : State} (h1 : s.Kept ql) : Out.Kept ql (execMtimecmpReached core s) := by
  unfold execMtimecmpReached
  repeat' first
    | with_reducible assumption
    | (with_reducible refine State.timerIrq_kept ?_)
    | (with_reducible refine Out.next_kept ?_)
    | (with_reducible refine ite_out_kept (fun _ => ?_) (fun _ => ?_))

theorem execVttx_kept {ql : List Instr} {core : CoreIx} {rd : Fin 32} {value : Byte} {s : State} (h1 : s.Kept ql) : Out.Kept ql (execVttx core rd value s) := by
  unfold execVttx
  repeat' first
    | with_reducible assumption
    | (extract_lets +onlyGivenNames x; clear_value (hx : x = _); clear hx)
    | (with_reducible refine State.bump_kept ?_)
    | (with_reducible refine State.setCore_kept ?_)
    | (with_reducible refine Out.next_kept ?_)
    | (with_reducible refine ite_out_kept (fun _ => ?_) (fun _ => ?_))
    | split

theorem execVtrx_kept {ql : List Instr} {core : CoreIx} {rd : Fin 32} {s : State} (h1 : s.Kept ql) : Out.Kept ql (execVtrx core rd s) := by
  unfold execVtrx
  repeat' first
    | with_reducible assumption
    | (extract_lets +onlyGivenNames x; clear_value (hx : x = _); clear hx)
    | (with_reducible refine State.setCore_kept ?_)
    | (with_reducible refine Out.next_kept ?_)
    | split

end Sys2Proof.Machine
end

