-- ==== Sys2Proof/Laws/KeptThreads.lean ====
section
/-!
SUPPORT. Every operation of Machine/Threads.lean leaves the queue of waiting commands as it is, the stores canonical and what waits within bounds.
-/

set_option linter.tactic.unusedName false
set_option linter.unusedVariables false

namespace Sys2Proof.Machine

theorem State.setReadyList_kept {ql : List Instr} {s : State} {c p : Nat} {l : List Nat} (h1 : s.Kept ql) : State.Kept ql (State.setReadyList s c p l) := by
  unfold State.setReadyList
  repeat' first
    | (extract_lets +onlyGivenNames x; clear_value (hx : x = _); replace hx : (_ : Hub) = _ := hx; subst hx)
    | ((with_reducible refine mk_all_kept (by assumption) ?_ ?_ ?_ ?_ ?_ ?_ ?_) <;> exact id)

theorem State.refill_kept {ql : List Instr} {s : State} {c : Nat} (h1 : s.Kept ql) : State.Kept ql (State.refill s c) := by
  unfold State.refill
  repeat' first
    | with_reducible assumption
    | (extract_lets +onlyGivenNames x; clear_value (hx : x = _); clear hx)
    | (with_reducible refine State.setCore_kept ?_)

theorem State.readyChanged_kept {ql : List Instr} {s : State} {c : Nat} (h1 : s.Kept ql) : State.Kept ql (State.readyChanged s c) := by
  unfold State.readyChanged
  repeat' first
    | with_reducible assumption
    | (with_reducible refine State.schedObjs_kept ?_)
    | (with_reducible refine State.refill_kept ?_)

theorem State.makeReady_kept {ql : List Instr} {s : State} {t : Nat} {head : Bool} (h1 : s.Kept ql) : State.Kept ql (State.makeReady s t head) := by
  unfold State.makeReady
  repeat' first
    | with_reducible assumption
    | (extract_lets +onlyGivenNames x; clear_value (hx : x = _); revert x; refine let_kept (ql := ql) ?_ fun x _ => ?_)
    | (extract_lets +onlyGivenNames x; clear_value (hx : x = _); clear hx)
    | (with_reducible refine State.setThread_kept ?_)
    | (with_reducible refine State.setReadyList_kept ?_)
    | (with_reducible refine State.readyChanged_kept ?_)

theorem State.dropReady_kept {ql : List Instr} {s : State} {t : Nat} (h1 : s.Kept ql) : State.Kept ql (State.dropReady s t) := by
  unfold State.dropReady
  repeat' first
    | with_reducible assumption
    | (extract_lets +onlyGivenNames x; clear_value (hx : x = _); clear hx)
    | (with_reducible refine State.setReadyList_kept ?_)
    | (with_reducible refine State.readyChanged_kept ?_)

theorem State.switchOut_kept {ql : List Instr} {s : State} {c st : Nat} (h1 : s.Kept ql) : State.Kept ql (State.switchOut s c st) := by
  unfold State.switchOut
  repeat' first
    | with_reducible assumption
    | (extract_lets +onlyGivenNames x; clear_value (hx : x = _); revert x; refine let_kept (ql := ql) ?_ fun x _ => ?_)
    | (extract_lets +onlyGivenNames x; clear_value (hx : x = _); clear hx)
    | (with_reducible refine State.setObj_kept ?_)
    | (with_reducible refine State.setCore_kept ?_)
    | (with_reducible refine State.setThread_kept ?_)
    | split

theorem State.result4_kept {ql : List Instr} {s : State} {t code : Nat} (h1 : s.Kept ql) : State.Kept ql (State.result4 s t code) := by
  unfold State.result4
  repeat' first
    | with_reducible assumption
    | (extract_lets +onlyGivenNames x; clear_value (hx : x = _); clear hx)
    | (with_reducible refine State.setThread_kept ?_)

theorem State.flagArrives_kept {ql : List Instr} {s : State} {t f : Nat} (h1 : s.Kept ql) : State.Kept ql (State.flagArrives s t f) := by
  unfold State.flagArrives
  repeat' first
    | with_reducible assumption
    | (extract_lets +onlyGivenNames x; clear_value (hx : x = _); replace hx : (_ : Hub) = _ := hx; subst hx)
    | (with_reducible refine State.bump_kept ?_)
    | (with_reducible refine ite_kept (fun _ => ?_) (fun _ => ?_))
    | ((with_reducible refine mk_all_kept (by assumption) ?_ ?_ ?_ ?_ ?_ ?_ ?_) <;> exact id)

theorem State.countWake_kept {ql : List Instr} {s : State} {timeout : Bool} (h1 : s.Kept ql) : State.Kept ql (State.countWake s timeout) := by
  unfold State.countWake
  repeat' first
    | with_reducible assumption
    | (extract_lets +onlyGivenNames x; clear_value (hx : x = _); clear hx)
    | (with_reducible refine State.setObj_kept ?_)

theorem State.wake_kept {ql : List Instr} {s : State} {t : Nat} {timeout : Bool} (h1 : s.Kept ql) : State.Kept ql (State.wake s t timeout) := by
  unfold State.wake
  repeat' first
    | with_reducible assumption
    | (extract_lets +onlyGivenNames x; clear_value (hx : x = _); clear hx)
    | (with_reducible refine State.setThread_kept ?_)
    | (with_reducible refine State.makeReady_kept ?_)
    | (with_reducible refine State.countWake_kept ?_)

theorem State.applyFlags_kept {ql : List Instr} {s : State} (h1 : s.Kept ql) : State.Kept ql (State.applyFlags s) := by
  unfold State.applyFlags
  repeat' first
    | with_reducible assumption
    | (extract_lets +onlyGivenNames x; clear_value (hx : x = _); replace hx : (_ : Hub) = _ := hx; subst hx)
    | (extract_lets +onlyGivenNames x; clear_value (hx : x = _); clear hx)
    | (with_reducible refine State.bump_kept ?_)
    | (with_reducible refine State.setThread_kept ?_)
    | (with_reducible refine foldl_kept (fun _ _ _ => ?_) ?_)
    | (with_reducible refine ite_kept (fun _ => ?_) (fun _ => ?_))
    | ((with_reducible refine mk_all_kept (by assumption) ?_ ?_ ?_ ?_ ?_ ?_ ?_) <;> exact id)

theorem execFlagApply_kept {ql : List Instr} {s : State} (h1 : s.Kept ql) : Out.Kept ql (execFlagApply s) := by
  unfold execFlagApply
  repeat' first
    | with_reducible assumption
    | (with_reducible refine State.wake_kept ?_)
    | (with_reducible refine State.applyFlags_kept ?_)
    | (with_reducible refine foldl_kept (fun _ _ _ => ?_) ?_)
    | (with_reducible refine Out.next_kept ?_)
    | (with_reducible refine ite_out_kept (fun _ => ?_) (fun _ => ?_))
    | split

theorem execThreadTimeout_kept {ql : List Instr} {t : Tcx} {s : State} (h1 : s.Kept ql) : Out.Kept ql (execThreadTimeout t s) := by
  unfold execThreadTimeout
  repeat' first
    | with_reducible assumption
    | (extract_lets +onlyGivenNames x; clear_value (hx : x = _); clear hx)
    | (with_reducible refine State.wake_kept ?_)
    | (with_reducible refine Out.next_kept ?_)
    | (with_reducible refine ite_out_kept (fun _ => ?_) (fun _ => ?_))

theorem State.yield_kept {ql : List Instr} {s : State} {c t : Nat} (h1 : s.Kept ql) : State.Kept ql (State.yield s c t) := by
  unfold State.yield
  repeat' first
    | with_reducible assumption
    | (with_reducible refine State.makeReady_kept ?_)
    | (with_reducible refine State.switchOut_kept ?_)

theorem execTcmdWait_kept {ql : List Instr} {core : CoreIx} {mask : BitVec 32} {timeout : BitVec 64} {s : State} (h1 : s.Kept ql) : Out.Kept ql (execTcmdWait core mask timeout s) := by
  unfold execTcmdWait
  repeat' first
    | with_reducible assumption
    | (extract_lets +onlyGivenNames x; clear_value (hx : x = _); revert x; refine let_kept (ql := ql) ?_ fun x _ => ?_)
    | (extract_lets +onlyGivenNames x; clear_value (hx : x = _); clear hx)
    | (with_reducible refine State.setThread_kept ?_)
    | (with_reducible refine State.schedObjs_kept ?_)
    | (with_reducible refine State.switchOut_kept ?_)
    | (with_reducible refine State.yield_kept ?_)
    | (with_reducible refine Out.next_kept ?_)
    | (with_reducible refine ite_out_kept (fun _ => ?_) (fun _ => ?_))
    | split

theorem execTcmdYield_kept {ql : List Instr} {core : CoreIx} {s : State} (h1 : s.Kept ql) : Out.Kept ql (execTcmdYield core s) := by
  unfold execTcmdYield
  repeat' first
    | with_reducible assumption
    | (with_reducible refine State.result4_kept ?_)
    | (with_reducible refine State.yield_kept ?_)
    | (with_reducible refine Out.next_kept ?_)
    | split

theorem execTcmdExit_kept {ql : List Instr} {core : CoreIx} {s : State} (h1 : s.Kept ql) : Out.Kept ql (execTcmdExit core s) := by
  unfold execTcmdExit
  repeat' first
    | with_reducible assumption
    | (extract_lets +onlyGivenNames x; clear_value (hx : x = _); revert x; refine let_kept (ql := ql) ?_ fun x _ => ?_)
    | (extract_lets +onlyGivenNames x; clear_value (hx : x = _); clear hx)
    | (with_reducible refine State.bump_kept ?_)
    | (with_reducible refine State.setCore_kept ?_)
    | (with_reducible refine State.setThread_kept ?_)
    | (with_reducible refine State.setLock_kept ?_)
    | (with_reducible refine State.schedObjs_kept ?_)
    | (with_reducible refine State.switchOut_kept ?_)
    | (with_reducible refine foldl_kept (fun _ _ _ => ?_) ?_)
    | (with_reducible refine Out.next_kept ?_)
    | split

theorem execTcmdSignal_kept {ql : List Instr} {core : CoreIx} {tcx : Tcx} {flag : FlagIx} {s : State} (h1 : s.Kept ql) : Out.Kept ql (execTcmdSignal core tcx flag s) := by
  unfold execTcmdSignal
  repeat' first
    | with_reducible assumption
    | (with_reducible refine State.result4_kept ?_)
    | (with_reducible refine State.flagArrives_kept ?_)
    | (with_reducible refine Out.next_kept ?_)
    | split

theorem execTcmdSpawn_kept {ql : List Instr} {core : CoreIx} {tcx : Tcx} {home : CoreIx} {prio : Fin 32} {targ0 targ1 targ2 : BitVec 64} {s : State} (h1 : s.Kept ql) : Out.Kept ql (execTcmdSpawn core tcx home prio targ0 targ1 targ2 s) := by
  unfold execTcmdSpawn
  repeat' first
    | with_reducible assumption
    | (extract_lets +onlyGivenNames x; clear_value (hx : x = _); revert x; refine let_kept (ql := ql) ?_ fun x _ => ?_)
    | (extract_lets +onlyGivenNames x; clear_value (hx : x = _); clear hx)
    | (with_reducible refine State.setCore_kept ?_)
    | (with_reducible refine State.setThread_kept ?_)
    | (with_reducible refine State.makeReady_kept ?_)
    | (with_reducible refine State.result4_kept ?_)
    | (with_reducible refine Out.next_kept ?_)
    | (with_reducible refine ite_out_kept (fun _ => ?_) (fun _ => ?_))
    | split

theorem State.stopThread_kept {ql : List Instr} {s : State} {c : Option Nat} {t : Nat} (h1 : s.Kept ql) : Kept1 ql (State.stopThread s c t) := by
  unfold State.stopThread
  repeat' first
    | with_reducible assumption
    | (extract_lets +onlyGivenNames x; clear_value (hx : x = _); clear hx)
    | (with_reducible refine State.setThread_kept ?_)
    | (with_reducible refine State.schedObjs_kept ?_)
    | (with_reducible refine State.dropReady_kept ?_)
    | (with_reducible refine State.switchOut_kept ?_)
    | (with_reducible refine ite1_kept (fun _ => ?_) (fun _ => ?_))
    | (with_reducible refine mk1_kept ?_)

theorem State.startThread_kept {ql : List Instr} {s : State} {t : Nat} (h1 : s.Kept ql) : Kept1 ql (State.startThread s t) := by
  unfold State.startThread
  repeat' first
    | with_reducible assumption
    | (extract_lets +onlyGivenNames x; clear_value (hx : x = _); clear hx)
    | (with_reducible refine State.setThread_kept ?_)
    | (with_reducible refine State.makeReady_kept ?_)
    | (with_reducible refine ite1_kept (fun _ => ?_) (fun _ => ?_))
    | (with_reducible refine mk1_kept ?_)

theorem execTcmdStop_kept {ql : List Instr} {core : CoreIx} {tcx : Tcx} {s : State} (h1 : s.Kept ql) : Out.Kept ql (execTcmdStop core tcx s) := by
  unfold execTcmdStop
  repeat' first
    | with_reducible assumption
    | (extract_lets +onlyGivenNames x; clear_value (hx : x = _); revert x; refine let1_kept (ql := ql) ?_ fun x _ => ?_)
    | (with_reducible refine State.result4_kept ?_)
    | (with_reducible refine State.stopThread_kept ?_)
    | (with_reducible refine Out.next_kept ?_)
    | (with_reducible refine fst_kept ?_)
    | split

theorem execTcmdStart_kept {ql : List Instr} {core : CoreIx} {tcx : Tcx} {s : State} (h1 : s.Kept ql) : Out.Kept ql (execTcmdStart core tcx s) := by
  unfold execTcmdStart
  repeat' first
    | with_reducible assumption
    | (extract_lets +onlyGivenNames x; clear_value (hx : x = _); revert x; refine let1_kept (ql := ql) ?_ fun x _ => ?_)
    | (with_reducible refine State.result4_kept ?_)
    | (with_reducible refine State.startThread_kept ?_)
    | (with_reducible refine Out.next_kept ?_)
    | (with_reducible refine fst_kept ?_)
    | split

theorem execTcmdMigrate_kept {ql : List Instr} {core : CoreIx} {tcx : Tcx} {home : CoreIx} {s : State} (h1 : s.Kept ql) : Out.Kept ql (execTcmdMigrate core tcx home s) := by
  unfold execTcmdMigrate
  repeat' first
    | with_reducible assumption
    | (extract_lets +onlyGivenNames x; clear_value (hx : x = _); revert x; refine let_kept (ql := ql) ?_ fun x _ => ?_)
    | (extract_lets +onlyGivenNames x; clear_value (hx : x = _); clear hx)
    | (extract_lets +onlyGivenNames x; subst x)
    | (with_reducible refine State.setThread_kept ?_)
    | (with_reducible refine State.schedObjs_kept ?_)
    | (with_reducible refine State.makeReady_kept ?_)
    | (with_reducible refine State.dropReady_kept ?_)
    | (with_reducible refine State.switchOut_kept ?_)
    | (with_reducible refine State.result4_kept ?_)
    | (with_reducible refine Out.next_kept ?_)
    | (with_reducible refine ite_out_kept (fun _ => ?_) (fun _ => ?_))
    | split

theorem execTcmdAlarm_kept {ql : List Instr} {core : CoreIx} {unit : Fin 8} {tcx : Tcx} {flag : FlagIx} {targ0 targ1 : BitVec 64} {s : State} (h1 : s.Kept ql) : Out.Kept ql (execTcmdAlarm core unit tcx flag targ0 targ1 s) := by
  unfold execTcmdAlarm
  repeat' first
    | with_reducible assumption
    | (extract_lets +onlyGivenNames x; clear_value (hx : x = _); clear hx)
    | (with_reducible refine State.setCore_kept ?_)
    | (with_reducible refine State.result4_kept ?_)
    | (with_reducible refine Out.next_kept ?_)
    | (with_reducible refine ite_out_kept (fun _ => ?_) (fun _ => ?_))
    | split

theorem execAlarmFire_kept {ql : List Instr} {core : CoreIx} {unit : Fin 8} {s : State} (h1 : s.Kept ql) : Out.Kept ql (execAlarmFire core unit s) := by
  unfold execAlarmFire
  repeat' first
    | with_reducible assumption
    | (extract_lets +onlyGivenNames x; clear_value (hx : x = _); clear hx)
    | (with_reducible refine State.setCore_kept ?_)
    | (with_reducible refine State.flagArrives_kept ?_)
    | (with_reducible refine Out.next_kept ?_)
    | (with_reducible refine ite_out_kept (fun _ => ?_) (fun _ => ?_))
    | split

theorem execTflagsWrite_kept {ql : List Instr} {core : CoreIx} {op : CsrOp} {value : BitVec 32} {s : State} (h1 : s.Kept ql) : Out.Kept ql (execTflagsWrite core op value s) := by
  unfold execTflagsWrite
  repeat' first
    | with_reducible assumption
    | (extract_lets +onlyGivenNames x; clear_value (hx : x = _); revert x; refine let_kept (ql := ql) ?_ fun x _ => ?_)
    | (extract_lets +onlyGivenNames x; clear_value (hx : x = _); clear hx)
    | (with_reducible refine State.setThread_kept ?_)
    | (with_reducible refine State.flagArrives_kept ?_)
    | (with_reducible refine foldl_kept (fun _ _ _ => ?_) ?_)
    | (with_reducible refine Out.next_kept ?_)
    | (with_reducible refine ite_kept (fun _ => ?_) (fun _ => ?_))
    | split

theorem State.judgeRunning_kept {ql : List Instr} {s : State} {c r : Nat} (h1 : s.Kept ql) : State.Kept ql (State.judgeRunning s c r) := by
  unfold State.judgeRunning
  repeat' first
    | with_reducible assumption
    | (extract_lets +onlyGivenNames x; clear_value (hx : x = _); clear hx)
    | (with_reducible refine State.bump_kept ?_)
    | (with_reducible refine State.setCore_kept ?_)
    | (with_reducible refine ite_kept (fun _ => ?_) (fun _ => ?_))

theorem execTctlWrite_kept {ql : List Instr} {core : CoreIx} {value : BitVec 64} {s : State} (h1 : s.Kept ql) : Out.Kept ql (execTctlWrite core value s) := by
  unfold execTctlWrite
  repeat' first
    | with_reducible assumption
    | (extract_lets +onlyGivenNames x; clear_value (hx : x = _); clear hx)
    | (with_reducible refine State.setThread_kept ?_)
    | (with_reducible refine State.judgeRunning_kept ?_)
    | (with_reducible refine Out.next_kept ?_)
    | split

theorem State.switchIn_kept {ql : List Instr} {s : State} {c t wait : Nat} (h1 : s.Kept ql) : State.Kept ql (State.switchIn s c t wait) := by
  unfold State.switchIn
  repeat' first
    | with_reducible assumption
    | (extract_lets +onlyGivenNames x; clear_value (hx : x = _); revert x; refine let_kept (ql := ql) ?_ fun x _ => ?_)
    | (extract_lets +onlyGivenNames x; clear_value (hx : x = _); clear hx)
    | (with_reducible refine State.setObj_kept ?_)
    | (with_reducible refine State.bump_kept ?_)
    | (with_reducible refine State.setCore_kept ?_)
    | (with_reducible refine State.setThread_kept ?_)
    | (with_reducible refine State.readyChanged_kept ?_)
    | (with_reducible refine State.dropReady_kept ?_)

theorem execDispatch_kept {ql : List Instr} {core : CoreIx} {wait ran idle : Nat} {s : State} (h1 : s.Kept ql) : Out.Kept ql (execDispatch core wait ran idle s) := by
  unfold execDispatch
  repeat' first
    | with_reducible assumption
    | (extract_lets +onlyGivenNames x; clear_value (hx : x = _); revert x; refine let_kept (ql := ql) ?_ fun x _ => ?_)
    | (extract_lets +onlyGivenNames x; clear_value (hx : x = _); clear hx)
    | (with_reducible refine State.bump_kept ?_)
    | (with_reducible refine State.setCore_kept ?_)
    | (with_reducible refine State.takeIrq_kept ?_)
    | (with_reducible refine State.switchIn_kept ?_)
    | (with_reducible refine Out.next_kept ?_)
    | (with_reducible refine ite_out_kept (fun _ => ?_) (fun _ => ?_))
    | split

theorem execPrefetchFill_kept {ql : List Instr} {core : CoreIx} {s : State} (h1 : s.Kept ql) : Out.Kept ql (execPrefetchFill core s) := by
  unfold execPrefetchFill
  repeat' first
    | with_reducible assumption
    | (extract_lets +onlyGivenNames x; clear_value (hx : x = _); clear hx)
    | (with_reducible refine State.setCore_kept ?_)
    | (with_reducible refine Out.next_kept ?_)
    | (with_reducible refine ite_out_kept (fun _ => ?_) (fun _ => ?_))
    | split

theorem execPreemption_kept {ql : List Instr} {core : CoreIx} {wait ran : Nat} {s : State} (h1 : s.Kept ql) : Out.Kept ql (execPreemption core wait ran s) := by
  unfold execPreemption
  repeat' first
    | with_reducible assumption
    | (extract_lets +onlyGivenNames x; clear_value (hx : x = _); revert x; refine let_kept (ql := ql) ?_ fun x _ => ?_)
    | (with_reducible refine State.bump_kept ?_)
    | (with_reducible refine State.takeIrq_kept ?_)
    | (with_reducible refine State.makeReady_kept ?_)
    | (with_reducible refine State.switchOut_kept ?_)
    | (with_reducible refine State.judgeRunning_kept ?_)
    | (with_reducible refine State.switchIn_kept ?_)
    | (with_reducible refine Out.next_kept ?_)
    | (with_reducible refine ite_out_kept (fun _ => ?_) (fun _ => ?_))
    | split

theorem execContextWriteback_kept {ql : List Instr} {core : CoreIx} {s : State} (h1 : s.Kept ql) : Out.Kept ql (execContextWriteback core s) := by
  unfold execContextWriteback
  repeat' first
    | with_reducible assumption
    | (extract_lets +onlyGivenNames x; clear_value (hx : x = _); clear hx)
    | (with_reducible refine State.setCore_kept ?_)
    | (with_reducible refine State.setThread_kept ?_)
    | (with_reducible refine Out.next_kept ?_)
    | (with_reducible refine ite_out_kept (fun _ => ?_) (fun _ => ?_))
    | split

theorem State.sendThreadReqs_kept {ql : List Instr} {s : State} {rv : Nat} (h1 : s.Kept ql) : State.Kept ql (State.sendThreadReqs s rv) := by
  induction rv generalizing s with
  | zero =>
    unfold State.sendThreadReqs
    repeat' first
      | with_reducible assumption
      | (extract_lets +onlyGivenNames x; clear_value (hx : x = _); replace hx : (_ : Hub) = _ := hx; subst hx)
      | (extract_lets +onlyGivenNames x; clear_value (hx : x = _); clear hx)
      | (with_reducible refine State.inject_kept ?_)
      | split
      | ((with_reducible refine mk_all_kept (by first | assumption | exact fst_mk_kept (by assumption) | exact takeTag_kept (by assumption) (by assumption)) ?_ ?_ ?_ ?_ ?_ ?_ ?_) <;> exact id)
  | succ n ih =>
    unfold State.sendThreadReqs
    repeat' first
      | (with_reducible refine ih ?_)
      | with_reducible assumption
      | (extract_lets +onlyGivenNames x; clear_value (hx : x = _); replace hx : (_ : Hub) = _ := hx; subst hx)
      | (extract_lets +onlyGivenNames x; clear_value (hx : x = _); clear hx)
      | (with_reducible refine State.inject_kept ?_)
      | split
      | ((with_reducible refine mk_all_kept (by first | assumption | exact fst_mk_kept (by assumption) | exact takeTag_kept (by assumption) (by assumption)) ?_ ?_ ?_ ?_ ?_ ?_ ?_) <;> exact id)

theorem State.hubRequest_kept {ql : List Instr} {s : State} {w : WaitReq} (h1 : s.Kept ql) : State.Kept ql (State.hubRequest s w) := by
  unfold State.hubRequest
  repeat' first
    | with_reducible assumption
    | (extract_lets +onlyGivenNames x; clear_value (hx : x = _); revert x; refine let_kept (ql := ql) ?_ fun x _ => ?_)
    | (extract_lets +onlyGivenNames x; clear_value (hx : x = _); replace hx : (_ : Hub) = _ := hx; subst hx)
    | (extract_lets +onlyGivenNames x; clear_value (hx : x = _); clear hx)
    | (with_reducible refine State.bump_kept ?_)
    | (with_reducible refine State.sendThreadReqs_kept ?_)
    | (with_reducible refine ite_kept (fun _ => ?_) (fun _ => ?_))
    | ((with_reducible refine mk_all_kept (by assumption) ?_ ?_ ?_ ?_ ?_ ?_ ?_) <;> exact id)

theorem State.threadReq_kept {ql : List Instr} {s : State} {core : Nat} {write : Bool} {buf addr dmod ddie dnode words flag : Nat} (h1 : s.Kept ql) : Out.Kept ql (State.threadReq s core write buf addr dmod ddie dnode words flag) := by
  unfold State.threadReq
  repeat' first
    | with_reducible assumption
    | (extract_lets +onlyGivenNames x; clear_value (hx : x = _); revert x; refine let_kept (ql := ql) ?_ fun x _ => ?_)
    | (extract_lets +onlyGivenNames x; clear_value (hx : x = _); clear hx)
    | (with_reducible refine State.draw_kept ?_)
    | (with_reducible refine State.astray_kept ?_)
    | (with_reducible refine State.setCore_kept ?_)
    | (with_reducible refine State.setThread_kept ?_)
    | (with_reducible refine State.result4_kept ?_)
    | (with_reducible refine State.hubRequest_kept ?_)
    | (with_reducible refine Out.next_kept ?_)
    | (with_reducible refine ite_kept (fun _ => ?_) (fun _ => ?_))
    | (with_reducible refine ite_out_kept (fun _ => ?_) (fun _ => ?_))
    | split

theorem execTcmdReqRead_kept {ql : List Instr} {core : CoreIx} {buf addr : BitVec 64} {dmod : Fin 1024} {ddie : Fin 8} {dnode : Fin 256} {words : Fin 64} {flag : FlagIx} {s : State} (h1 : s.Kept ql) : Out.Kept ql (execTcmdReqRead core buf addr dmod ddie dnode words flag s) := by
  unfold execTcmdReqRead
  repeat' first
    | with_reducible assumption
    | (with_reducible refine State.threadReq_kept ?_)

theorem execTcmdReqWrite_kept {ql : List Instr} {core : CoreIx} {buf addr : BitVec 64} {dmod : Fin 1024} {ddie : Fin 8} {dnode : Fin 256} {words : Fin 64} {flag : FlagIx} {s : State} (h1 : s.Kept ql) : Out.Kept ql (execTcmdReqWrite core buf addr dmod ddie dnode words flag s) := by
  unfold execTcmdReqWrite
  repeat' first
    | with_reducible assumption
    | (with_reducible refine State.threadReq_kept ?_)

theorem execRequestCompletion_kept {ql : List Instr} {s : State} (h1 : s.Kept ql) : Out.Kept ql (execRequestCompletion s) := by
  unfold execRequestCompletion
  repeat' first
    | with_reducible assumption
    | (extract_lets +onlyGivenNames x; clear_value (hx : x = _); revert x; refine let_kept (ql := ql) ?_ fun x _ => ?_)
    | (extract_lets +onlyGivenNames x; subst x)
    | (with_reducible refine State.setThread_kept ?_)
    | (with_reducible refine State.sramWrite_kept ?_)
    | (with_reducible refine State.flagArrives_kept ?_)
    | (with_reducible refine Out.next_kept ?_)
    | (with_reducible refine ite_kept (fun _ => ?_) (fun _ => ?_))
    | (with_reducible refine ite_out_kept (fun _ => ?_) (fun _ => ?_))
    | split
    | (with_reducible exact mk_kept (by assumption))

end Sys2Proof.Machine
end

