-- ==== Sys2Proof/Laws/KeptAccess.lean ====
section
/-!
SUPPORT. Every operation of Machine/Access.lean leaves the queue of waiting commands as it is, the stores canonical and what waits within bounds.
-/

set_option linter.tactic.unusedName false
set_option linter.unusedVariables false

namespace Sys2Proof.Machine

theorem State.refuse_kept {ql : List Instr} {s : State} {m : Master} {k code : Nat} (h1 : s.Kept ql) : State.Kept ql (State.refuse s m k code) := by
  unfold State.refuse
  repeat' first
    | with_reducible assumption
    | (extract_lets +onlyGivenNames x; clear_value (hx : x = _); revert x; refine let_kept (ql := ql) ?_ fun x _ => ?_)
    | (with_reducible refine State.setObj_kept ?_)
    | (with_reducible refine State.bump_kept ?_)
    | (with_reducible refine State.msix_kept ?_)
    | (with_reducible refine ite_kept (fun _ => ?_) (fun _ => ?_))

theorem State.access_kept {ql : List Instr} {s : State} {m : Master} {k v : Nat} {f : State → State × Nat} (h1 : s.Kept ql) (h2 : ∀ (a0 : State), a0.Kept ql → Kept1 ql (f a0)) : Kept1 ql (State.access s m k v f) := by
  unfold State.access
  repeat' first
    | with_reducible assumption
    | (with_reducible refine h2 _ ?_)
    | (extract_lets +onlyGivenNames x; clear_value (hx : x = _); revert x; refine let1_kept (ql := ql) ?_ fun x _ => ?_)
    | (extract_lets +onlyGivenNames x; clear_value (hx : x = _); replace hx : (_ : Run) = _ := hx; subst hx)
    | (extract_lets +onlyGivenNames x; clear_value (hx : x = _); clear hx)
    | (with_reducible refine State.bump_kept ?_)
    | (with_reducible refine State.refuse_kept ?_)
    | (with_reducible refine ite1_kept (fun _ => ?_) (fun _ => ?_))
    | (with_reducible refine fst_kept ?_)
    | split
    | (with_reducible refine mk1_kept ?_)
    | ((with_reducible refine mk_all_kept (by assumption) ?_ ?_ ?_ ?_ ?_ ?_ ?_) <;> first | exact id | (intro _; simp only [List.length_append, List.length_cons, List.length_nil]; omega))

theorem State.readStopped_kept {ql : List Instr} {s : State} {m : Master} {k : Nat} (h1 : s.Kept ql) : State.Kept ql (State.readStopped s m k) := by
  unfold State.readStopped
  repeat' first
    | with_reducible assumption
    | (extract_lets +onlyGivenNames x; clear_value (hx : x = _); clear hx)
    | split
    | (with_reducible exact mk_kept (by assumption))

theorem State.write_kept {ql : List Instr} {s : State} {m : Master} {k v : Nat} {f : State → State × Nat} (h1 : s.Kept ql) (h2 : ∀ (a0 : State), a0.Kept ql → Kept1 ql (f a0)) : Out.Kept ql (State.write s m k v f) := by
  unfold State.write
  repeat' first
    | with_reducible assumption
    | (with_reducible refine h2 _ ?_)
    | (with_reducible refine State.access_kept ?_ (fun _ _ => ?_))
    | (with_reducible refine Out.next_kept ?_)
    | (with_reducible refine fst_kept ?_)

end Sys2Proof.Machine
end

