-- ==== Sys2Proof/Laws/KeptFabric.lean ====
section
/-!
SUPPORT. Every operation of Machine/Fabric.lean leaves the queue of waiting commands as it is, the stores canonical and what waits within bounds.
-/

set_option linter.tactic.unusedName false
set_option linter.unusedVariables false

namespace Sys2Proof.Machine

theorem State.setPad_kept {ql : List Instr} {s : State} {p : Nat} {v : Pad} (h1 : s.Kept ql) : State.Kept ql (State.setPad s p v) := by
  unfold State.setPad
  repeat' first
    | (extract_lets +onlyGivenNames x; clear_value (hx : x = _); clear hx)
    | (with_reducible exact mk_kept (by assumption))

theorem State.setRegion_kept {ql : List Instr} {s : State} {r : Nat} {v : Region} (h1 : s.Kept ql) : State.Kept ql (State.setRegion s r v) := by
  unfold State.setRegion
  repeat' first
    | (extract_lets +onlyGivenNames x; clear_value (hx : x = _); clear hx)
    | (with_reducible exact mk_kept (by assumption))

theorem State.fabObjs_kept {ql : List Instr} {s : State} (h1 : s.Kept ql) : State.Kept ql (State.fabObjs s) := by
  unfold State.fabObjs
  repeat' first
    | with_reducible assumption
    | (with_reducible refine State.setObj_kept ?_)

theorem execSafeStateBegin_kept {ql : List Instr} {levels enables : BitVec 384} {s : State} (h1 : s.Kept ql) : Out.Kept ql (execSafeStateBegin levels enables s) := by
  unfold execSafeStateBegin
  repeat' first
    | (extract_lets +onlyGivenNames x; clear_value (hx : x = _); clear hx)
    | (with_reducible refine State.fabObjs_kept ?_)
    | (with_reducible refine Out.next_kept ?_)
    | (with_reducible exact mk_kept (by assumption))

theorem execPadRelease_kept {ql : List Instr} {pad : Fin 384} {level enable : Bool} {s : State} (h1 : s.Kept ql) : Out.Kept ql (execPadRelease pad level enable s) := by
  unfold execPadRelease
  repeat' first
    | with_reducible assumption
    | (extract_lets +onlyGivenNames x; clear_value (hx : x = _); clear hx)
    | (with_reducible refine State.setPad_kept ?_)
    | (with_reducible refine State.fabObjs_kept ?_)
    | (with_reducible refine Out.next_kept ?_)
    | (with_reducible refine ite_out_kept (fun _ => ?_) (fun _ => ?_))

theorem State.writeSafeForce_kept {ql : List Instr} {s : State} {v : Nat} (h1 : s.Kept ql) : Kept1 ql (State.writeSafeForce s v) := by
  unfold State.writeSafeForce
  repeat' first
    | with_reducible assumption
    | (with_reducible refine State.setObj_kept ?_)
    | (with_reducible refine State.fabObjs_kept ?_)
    | (with_reducible refine ite1_kept (fun _ => ?_) (fun _ => ?_))
    | (with_reducible refine mk1_kept ?_)

theorem execSafeForce_kept {ql : List Instr} {m : Master} {v : Byte} {s : State} (h1 : s.Kept ql) : Out.Kept ql (execSafeForce m v s) := by
  unfold execSafeForce
  repeat' first
    | with_reducible assumption
    | (with_reducible refine State.write_kept ?_ (fun _ _ => ?_))
    | (with_reducible refine State.writeSafeForce_kept ?_)

theorem execRegionSelectChange_kept {ql : List Instr} {region : RegionIx} {sel alive : Bool} {s : State} (h1 : s.Kept ql) : Out.Kept ql (execRegionSelectChange region sel alive s) := by
  unfold execRegionSelectChange
  repeat' first
    | with_reducible assumption
    | (extract_lets +onlyGivenNames x; clear_value (hx : x = _); clear hx)
    | (with_reducible refine State.setRegion_kept ?_)
    | (with_reducible refine Out.next_kept ?_)
    | (with_reducible refine ite_out_kept (fun _ => ?_) (fun _ => ?_))
    | split

theorem execRegionForcedSwitch_kept {ql : List Instr} {region : RegionIx} {s : State} (h1 : s.Kept ql) : Out.Kept ql (execRegionForcedSwitch region s) := by
  unfold execRegionForcedSwitch
  repeat' first
    | with_reducible assumption
    | (extract_lets +onlyGivenNames x; clear_value (hx : x = _); clear hx)
    | (with_reducible refine State.setObjBit_kept ?_)
    | (with_reducible refine State.setRegion_kept ?_)
    | (with_reducible refine Out.next_kept ?_)
    | split

theorem execRegionLoss_kept {ql : List Instr} {region : RegionIx} {s : State} (h1 : s.Kept ql) : Out.Kept ql (execRegionLoss region s) := by
  unfold execRegionLoss
  repeat' first
    | with_reducible assumption
    | (extract_lets +onlyGivenNames x; clear_value (hx : x = _); clear hx)
    | (with_reducible refine State.setObjBit_kept ?_)
    | (with_reducible refine State.fabObjs_kept ?_)
    | (with_reducible refine Out.next_kept ?_)
    | (with_reducible refine ite_out_kept (fun _ => ?_) (fun _ => ?_))

theorem execRegionLossEnd_kept {ql : List Instr} {region : RegionIx} {s : State} (h1 : s.Kept ql) : Out.Kept ql (execRegionLossEnd region s) := by
  unfold execRegionLossEnd
  repeat' first
    | with_reducible assumption
    | (with_reducible refine State.setObjBit_kept ?_)
    | (with_reducible refine State.fabObjs_kept ?_)
    | (with_reducible refine Out.next_kept ?_)

theorem execRegionFreqMeasure_kept {ql : List Instr} {region : RegionIx} {khz : BitVec 32} {s : State} (h1 : s.Kept ql) : Out.Kept ql (execRegionFreqMeasure region khz s) := by
  unfold execRegionFreqMeasure
  repeat' first
    | with_reducible assumption
    | (with_reducible refine State.setObj_kept ?_)
    | (with_reducible refine Out.next_kept ?_)

theorem execRoFreqMeasure_kept {ql : List Instr} {osc : Fin 8} {khz : BitVec 32} {s : State} (h1 : s.Kept ql) : Out.Kept ql (execRoFreqMeasure osc khz s) := by
  unfold execRoFreqMeasure
  repeat' first
    | with_reducible assumption
    | (with_reducible refine State.setObj_kept ?_)
    | (with_reducible refine Out.next_kept ?_)
    | (with_reducible refine ite_out_kept (fun _ => ?_) (fun _ => ?_))

theorem execTapFsMeasure_kept {ql : List Instr} {bank : Fin 8} {fs : BitVec 16} {s : State} (h1 : s.Kept ql) : Out.Kept ql (execTapFsMeasure bank fs s) := by
  unfold execTapFsMeasure
  repeat' first
    | with_reducible assumption
    | (with_reducible refine State.setObj_kept ?_)
    | (with_reducible refine Out.next_kept ?_)

theorem execDelayTapStep_kept {ql : List Instr} {pad : Fin 384} {up : Bool} {s : State} (h1 : s.Kept ql) : Out.Kept ql (execDelayTapStep pad up s) := by
  unfold execDelayTapStep
  repeat' first
    | with_reducible assumption
    | (extract_lets +onlyGivenNames x; clear_value (hx : x = _); clear hx)
    | (with_reducible refine State.setPad_kept ?_)
    | (with_reducible refine Out.next_kept ?_)
    | (with_reducible refine ite_out_kept (fun _ => ?_) (fun _ => ?_))

theorem execFinLanePost_kept {ql : List Instr} {lane : Fin 128} {value : BitVec 64} {s : State} (h1 : s.Kept ql) : Out.Kept ql (execFinLanePost lane value s) := by
  unfold execFinLanePost
  repeat' first
    | with_reducible assumption
    | (extract_lets +onlyGivenNames x; clear_value (hx : x = _); revert x; refine let_kept (ql := ql) ?_ fun x _ => ?_)
    | (extract_lets +onlyGivenNames x; clear_value (hx : x = _); clear hx)
    | (with_reducible refine State.bump_kept ?_)
    | (with_reducible refine Out.next_kept ?_)
    | (with_reducible refine ite_kept (fun _ => ?_) (fun _ => ?_))
    | (with_reducible refine ite_out_kept (fun _ => ?_) (fun _ => ?_))
    | (with_reducible exact mk_kept (by assumption))

theorem execUserFlashAccess_kept {ql : List Instr} {op : UserFlash} {addr : BitVec 23} {s : State} (h1 : s.Kept ql) : Out.Kept ql (execUserFlashAccess op addr s) := by
  unfold execUserFlashAccess
  repeat' first
    | with_reducible assumption
    | (extract_lets +onlyGivenNames x; clear_value (hx : x = _); replace hx : (_ : _ → _) = _ := hx; subst hx; first | dsimp -zeta only | skip)
    | (extract_lets +onlyGivenNames x; clear_value (hx : x = _); clear hx)
    | with_reducible exact Out.fault_kept _ _
    | (with_reducible refine State.emit_kept ?_)
    | (with_reducible refine Out.next_kept ?_)
    | (with_reducible refine ite_out_kept (fun _ => ?_) (fun _ => ?_))
    | split
    | (with_reducible exact mk_kept (by assumption))

theorem execUserFlashDone_kept {ql : List Instr} {s : State} (h1 : s.Kept ql) : Out.Kept ql (execUserFlashDone s) := by
  unfold execUserFlashDone
  repeat' first
    | with_reducible assumption
    | (extract_lets +onlyGivenNames x; clear_value (hx : x = _); replace hx : (_ : _ → _) = _ := hx; subst hx; first | dsimp -zeta only | skip)
    | (extract_lets +onlyGivenNames x; clear_value (hx : x = _); clear hx)
    | (with_reducible refine State.emit_kept ?_)
    | (with_reducible refine Out.next_kept ?_)
    | (with_reducible refine ite_out_kept (fun _ => ?_) (fun _ => ?_))
    | split
    | (with_reducible exact mk_kept (by assumption))

theorem execConfigScrub_kept {ql : List Instr} {check : WordCheck} {frame : BitVec 32} {s : State} (h1 : s.Kept ql) : Out.Kept ql (execConfigScrub check frame s) := by
  unfold execConfigScrub
  repeat' first
    | with_reducible assumption
    | (extract_lets +onlyGivenNames x; clear_value (hx : x = _); clear hx)
    | (with_reducible refine State.bump_kept ?_)
    | (with_reducible refine State.raiseFault_kept ?_)
    | (with_reducible refine State.fabObjs_kept ?_)
    | (with_reducible refine Out.next_kept ?_)
    | (with_reducible refine ite_out_kept (fun _ => ?_) (fun _ => ?_))
    | split
    | (with_reducible exact mk_kept (by assumption))

theorem State.fabClear_kept {ql : List Instr} {s : State} (h1 : s.Kept ql) : State.Kept ql (State.fabClear s) := by
  unfold State.fabClear
  repeat' first
    | (extract_lets +onlyGivenNames x; clear_value (hx : x = _); clear hx)
    | (with_reducible refine State.setObjs_kept ?_)
    | (with_reducible refine State.fabObjs_kept ?_)
    | (with_reducible exact mk_kept (by assumption))

theorem State.fabConfigure_kept {ql : List Instr} {s : State} {b : List Byte} (h1 : s.Kept ql) : State.Kept ql (State.fabConfigure s b) := by
  unfold State.fabConfigure
  repeat' first
    | with_reducible assumption
    | (extract_lets +onlyGivenNames x; clear_value (hx : x = _); revert x; refine let_kept (ql := ql) ?_ fun x _ => ?_)
    | (extract_lets +onlyGivenNames x; clear_value (hx : x = _); clear hx)
    | (with_reducible refine State.setObjs_kept ?_)
    | (with_reducible refine State.fabObjs_kept ?_)
    | (with_reducible exact mk_kept (by assumption))

theorem State.fabLoadOrder_kept {ql : List Instr} {s : State} (h1 : s.Kept ql) : Kept1 ql (State.fabLoadOrder s) := by
  unfold State.fabLoadOrder
  repeat' first
    | with_reducible assumption
    | (extract_lets +onlyGivenNames x; clear_value (hx : x = _); clear hx)
    | (with_reducible refine State.setObjs_kept ?_)
    | (with_reducible refine State.msix_kept ?_)
    | (with_reducible refine ite1_kept (fun _ => ?_) (fun _ => ?_))
    | (with_reducible refine mk1_kept ?_)
    | (with_reducible exact mk_kept (by assumption))

theorem State.fabAbortOrder_kept {ql : List Instr} {s : State} (h1 : s.Kept ql) : Kept1 ql (State.fabAbortOrder s) := by
  unfold State.fabAbortOrder
  repeat' first
    | with_reducible assumption
    | (extract_lets +onlyGivenNames x; clear_value (hx : x = _); revert x; refine let_kept (ql := ql) ?_ fun x _ => ?_)
    | (extract_lets +onlyGivenNames x; clear_value (hx : x = _); clear hx)
    | (extract_lets +onlyGivenNames x; subst x)
    | (with_reducible refine State.setObj_kept ?_)
    | (with_reducible refine State.setObjs_kept ?_)
    | (with_reducible refine State.msix_kept ?_)
    | (with_reducible refine State.fabClear_kept ?_)
    | (with_reducible refine ite_kept (fun _ => ?_) (fun _ => ?_))
    | (with_reducible refine ite1_kept (fun _ => ?_) (fun _ => ?_))
    | (with_reducible refine mk1_kept ?_)
    | (with_reducible exact mk_kept (by assumption))

theorem State.fabUnconfigOrder_kept {ql : List Instr} {s : State} (h1 : s.Kept ql) : Kept1 ql (State.fabUnconfigOrder s) := by
  unfold State.fabUnconfigOrder
  repeat' first
    | with_reducible assumption
    | (with_reducible refine State.fabClear_kept ?_)
    | (with_reducible refine ite1_kept (fun _ => ?_) (fun _ => ?_))
    | (with_reducible refine mk1_kept ?_)

theorem execFabLoadCmdLoad_kept {ql : List Instr} {m : Master} {s : State} (h1 : s.Kept ql) : Out.Kept ql (execFabLoadCmdLoad m s) := by
  unfold execFabLoadCmdLoad
  repeat' first
    | with_reducible assumption
    | (with_reducible refine State.write_kept ?_ (fun _ _ => ?_))
    | (with_reducible refine State.fabLoadOrder_kept ?_)

theorem execFabLoadCmdAbort_kept {ql : List Instr} {m : Master} {s : State} (h1 : s.Kept ql) : Out.Kept ql (execFabLoadCmdAbort m s) := by
  unfold execFabLoadCmdAbort
  repeat' first
    | with_reducible assumption
    | (with_reducible refine State.write_kept ?_ (fun _ _ => ?_))
    | (with_reducible refine State.fabAbortOrder_kept ?_)

theorem execFabLoadCmdUnconfigure_kept {ql : List Instr} {m : Master} {s : State} (h1 : s.Kept ql) : Out.Kept ql (execFabLoadCmdUnconfigure m s) := by
  unfold execFabLoadCmdUnconfigure
  repeat' first
    | with_reducible assumption
    | (with_reducible refine State.write_kept ?_ (fun _ _ => ?_))
    | (with_reducible refine State.fabUnconfigOrder_kept ?_)

theorem State.fabRefuse_kept {ql : List Instr} {s : State} {code detail : Nat} (h1 : s.Kept ql) : State.Kept ql (State.fabRefuse s code detail) := by
  unfold State.fabRefuse
  repeat' first
    | (extract_lets +onlyGivenNames x; clear_value (hx : x = _); clear hx)
    | (with_reducible refine State.setObjs_kept ?_)
    | (with_reducible refine State.msix_kept ?_)
    | (with_reducible exact mk_kept (by assumption))

theorem execFabFetchDone_kept {ql : List Instr} {data : Option (List Byte)} {s : State} (h1 : s.Kept ql) : Out.Kept ql (execFabFetchDone data s) := by
  unfold execFabFetchDone
  repeat' first
    | with_reducible assumption
    | (extract_lets +onlyGivenNames x; clear_value (hx : x = _); clear hx)
    | (with_reducible refine State.fabRefuse_kept ?_)
    | (with_reducible refine Out.next_kept ?_)
    | (with_reducible refine ite_out_kept (fun _ => ?_) (fun _ => ?_))
    | split
    | (with_reducible exact mk_kept (by assumption))

theorem execFabCheckDone_kept {ql : List Instr} {vddio : List Nat} {s : State} (h1 : s.Kept ql) : Out.Kept ql (execFabCheckDone vddio s) := by
  unfold execFabCheckDone
  repeat' first
    | with_reducible assumption
    | (extract_lets +onlyGivenNames x; clear_value (hx : x = _); revert x; refine let_kept (ql := ql) ?_ fun x _ => ?_)
    | (extract_lets +onlyGivenNames x; clear_value (hx : x = _); clear hx)
    | (with_reducible refine State.setObjs_kept ?_)
    | (with_reducible refine State.fabObjs_kept ?_)
    | (with_reducible refine State.fabRefuse_kept ?_)
    | (with_reducible refine Out.next_kept ?_)
    | (with_reducible refine ite_out_kept (fun _ => ?_) (fun _ => ?_))
    | (with_reducible exact mk_kept (by assumption))

theorem execFabWriteDone_kept {ql : List Instr} {s : State} (h1 : s.Kept ql) : Out.Kept ql (execFabWriteDone s) := by
  unfold execFabWriteDone
  repeat' first
    | with_reducible assumption
    | (extract_lets +onlyGivenNames x; clear_value (hx : x = _); revert x; refine let_kept (ql := ql) ?_ fun x _ => ?_)
    | (extract_lets +onlyGivenNames x; clear_value (hx : x = _); clear hx)
    | (with_reducible refine State.setObj_kept ?_)
    | (with_reducible refine State.msix_kept ?_)
    | (with_reducible refine State.fabConfigure_kept ?_)
    | (with_reducible refine Out.next_kept ?_)
    | (with_reducible refine ite_out_kept (fun _ => ?_) (fun _ => ?_))
    | (with_reducible exact mk_kept (by assumption))

end Sys2Proof.Machine
end

