-- ==== Sys2Proof/Laws/KeptClocks.lean ====
section
/-!
SUPPORT. Every operation of Machine/Clocks.lean leaves the queue of waiting commands as it is, the stores canonical and what waits within bounds.
-/

set_option linter.tactic.unusedName false
set_option linter.unusedVariables false

namespace Sys2Proof.Machine

theorem State.enterClockWait_kept {ql : List Instr} {s : State} {cause : Nat} (h1 : s.Kept ql) : State.Kept ql (State.enterClockWait s cause) := by
  unfold State.enterClockWait
  repeat' first
    | with_reducible assumption
    | (with_reducible refine State.setObj_kept ?_)
    | (with_reducible refine State.setObjs_kept ?_)
    | (with_reducible refine State.bump_kept ?_)
    | (with_reducible refine State.setObjBit_kept ?_)
    | (with_reducible refine State.fabObjs_kept ?_)
    | (with_reducible refine ite_kept (fun _ => ?_) (fun _ => ?_))

theorem State.loseReference_kept {ql : List Instr} {s : State} {ref : Nat} (h1 : s.Kept ql) : State.Kept ql (State.loseReference s ref) := by
  unfold State.loseReference
  repeat' first
    | with_reducible assumption
    | (extract_lets +onlyGivenNames x; clear_value (hx : x = _); revert x; refine let_kept (ql := ql) ?_ fun x _ => ?_)
    | (extract_lets +onlyGivenNames x; clear_value (hx : x = _); clear hx)
    | (with_reducible refine State.setObj_kept ?_)
    | (with_reducible refine State.setObjBit_kept ?_)
    | (with_reducible refine State.enterClockWait_kept ?_)
    | (with_reducible refine ite_kept (fun _ => ?_) (fun _ => ?_))
    | (with_reducible exact mk_kept (by assumption))

theorem State.losePll_kept {ql : List Instr} {s : State} {pll : Nat} (h1 : s.Kept ql) : State.Kept ql (State.losePll s pll) := by
  unfold State.losePll
  repeat' first
    | with_reducible assumption
    | (extract_lets +onlyGivenNames x; clear_value (hx : x = _); revert x; refine let_kept (ql := ql) ?_ fun x _ => ?_)
    | (extract_lets +onlyGivenNames x; clear_value (hx : x = _); clear hx)
    | (with_reducible refine State.setObjBit_kept ?_)
    | (with_reducible refine State.enterClockWait_kept ?_)
    | (with_reducible refine ite_kept (fun _ => ?_) (fun _ => ?_))
    | (with_reducible exact mk_kept (by assumption))

theorem execReferenceLost_kept {ql : List Instr} {ref : Fin 2} {s : State} (h1 : s.Kept ql) : Out.Kept ql (execReferenceLost ref s) := by
  unfold execReferenceLost
  repeat' first
    | with_reducible assumption
    | (with_reducible refine State.loseReference_kept ?_)
    | (with_reducible refine Out.next_kept ?_)
    | (with_reducible refine ite_out_kept (fun _ => ?_) (fun _ => ?_))

theorem execPllUnstable_kept {ql : List Instr} {pll : Fin 4} {s : State} (h1 : s.Kept ql) : Out.Kept ql (execPllUnstable pll s) := by
  unfold execPllUnstable
  repeat' first
    | with_reducible assumption
    | (with_reducible refine State.losePll_kept ?_)
    | (with_reducible refine Out.next_kept ?_)

theorem execHbmPllGate_kept {ql : List Instr} {s : State} (h1 : s.Kept ql) : Out.Kept ql (execHbmPllGate s) := by
  unfold execHbmPllGate
  repeat' first
    | with_reducible assumption
    | (extract_lets +onlyGivenNames x; clear_value (hx : x = _); replace hx : (_ : Hbm) = _ := hx; subst hx)
    | (extract_lets +onlyGivenNames x; clear_value (hx : x = _); clear hx)
    | (with_reducible refine Out.next_kept ?_)
    | (with_reducible refine ite_out_kept (fun _ => ?_) (fun _ => ?_))
    | ((with_reducible refine mk_all_kept (by assumption) ?_ ?_ ?_ ?_ ?_ ?_ ?_) <;> exact id)

theorem execPllRelockFail_kept {ql : List Instr} {pll : Fin 4} {s : State} (h1 : s.Kept ql) : Out.Kept ql (execPllRelockFail pll s) := by
  unfold execPllRelockFail
  repeat' first
    | with_reducible assumption
    | (extract_lets +onlyGivenNames x; clear_value (hx : x = _); revert x; refine let_kept (ql := ql) ?_ fun x _ => ?_)
    | (with_reducible refine State.setObjBit_kept ?_)
    | (with_reducible refine State.raiseFault_kept ?_)
    | (with_reducible refine Out.next_kept ?_)
    | (with_reducible refine ite_out_kept (fun _ => ?_) (fun _ => ?_))

theorem State.judgeReference_kept {ql : List Instr} {s : State} {ref : Nat} {good : Bool} (h1 : s.Kept ql) : State.Kept ql (State.judgeReference s ref good) := by
  unfold State.judgeReference
  repeat' first
    | with_reducible assumption
    | (with_reducible refine State.setObjBit_kept ?_)
    | (with_reducible refine State.loseReference_kept ?_)
    | (with_reducible refine ite_kept (fun _ => ?_) (fun _ => ?_))

theorem State.judgePll_kept {ql : List Instr} {s : State} {good : Nat} {pll : Nat} (h1 : s.Kept ql) : State.Kept ql (State.judgePll s good pll) := by
  unfold State.judgePll
  repeat' first
    | with_reducible assumption
    | (with_reducible refine State.setObjBit_kept ?_)
    | (with_reducible refine State.losePll_kept ?_)
    | (with_reducible refine ite_kept (fun _ => ?_) (fun _ => ?_))

theorem execJudgingWindowEnd_kept {ql : List Instr} {sysKhz pcieKhz : BitVec 32} {plls : BitVec 4} {s : State} (h1 : s.Kept ql) : Out.Kept ql (execJudgingWindowEnd sysKhz pcieKhz plls s) := by
  unfold execJudgingWindowEnd
  repeat' first
    | with_reducible assumption
    | (extract_lets +onlyGivenNames x; clear_value (hx : x = _); revert x; refine let_kept (ql := ql) ?_ fun x _ => ?_)
    | (with_reducible refine State.setObj_kept ?_)
    | (with_reducible refine State.judgeReference_kept ?_)
    | (with_reducible refine State.judgePll_kept ?_)
    | (with_reducible refine foldl_kept (fun _ _ _ => ?_) ?_)
    | (with_reducible refine Out.next_kept ?_)
    | (with_reducible refine ite_kept (fun _ => ?_) (fun _ => ?_))

theorem State.clocksRestart_kept {ql : List Instr} {s : State} {us : Nat} (h1 : s.Kept ql) : State.Kept ql (State.clocksRestart s us) := by
  unfold State.clocksRestart
  repeat' first
    | with_reducible assumption
    | (extract_lets +onlyGivenNames x; clear_value (hx : x = _); revert x; refine let_kept (ql := ql) ?_ fun x _ => ?_)
    | (extract_lets +onlyGivenNames x; clear_value (hx : x = _); replace hx : (_ : Hbm) = _ := hx; subst hx)
    | (extract_lets +onlyGivenNames x; clear_value (hx : x = _); clear hx)
    | (with_reducible refine State.setObjs_kept ?_)
    | (with_reducible refine State.fabObjs_kept ?_)
    | ((with_reducible refine mk_all_kept (by assumption) ?_ ?_ ?_ ?_ ?_ ?_ ?_) <;> exact id)

theorem State.askDiv_kept {ql : List Instr} {s : State} {d : Nat} (h1 : s.Kept ql) : State.Kept ql (State.askDiv s d) := by
  unfold State.askDiv
  repeat' first
    | with_reducible assumption
    | (extract_lets +onlyGivenNames x; clear_value (hx : x = _); clear hx)
    | (with_reducible refine State.setObj_kept ?_)
    | (with_reducible refine ite_kept (fun _ => ?_) (fun _ => ?_))
    | (with_reducible exact mk_kept (by assumption))

theorem State.applyDiv_kept {ql : List Instr} {s : State} (h1 : s.Kept ql) : State.Kept ql (State.applyDiv s) := by
  unfold State.applyDiv
  repeat' first
    | with_reducible assumption
    | (with_reducible refine State.askDiv_kept ?_)

theorem State.askCore_kept {ql : List Instr} {s : State} {half : Bool} (h1 : s.Kept ql) : State.Kept ql (State.askCore s half) := by
  unfold State.askCore
  repeat' first
    | with_reducible assumption
    | (extract_lets +onlyGivenNames x; clear_value (hx : x = _); clear hx)
    | (with_reducible refine ite_kept (fun _ => ?_) (fun _ => ?_))
    | (with_reducible exact mk_kept (by assumption))

theorem execStepMuxSwitch_kept {ql : List Instr} {core forced : Bool} {s : State} (h1 : s.Kept ql) : Out.Kept ql (execStepMuxSwitch core forced s) := by
  unfold execStepMuxSwitch
  repeat' first
    | with_reducible assumption
    | (extract_lets +onlyGivenNames x; clear_value (hx : x = _); revert x; refine let_kept (ql := ql) ?_ fun x _ => ?_)
    | (extract_lets +onlyGivenNames x; clear_value (hx : x = _); clear hx)
    | (with_reducible refine State.setObj_kept ?_)
    | (with_reducible refine State.setObjBit_kept ?_)
    | (with_reducible refine Out.next_kept ?_)
    | (with_reducible refine ite_kept (fun _ => ?_) (fun _ => ?_))
    | (with_reducible refine ite_out_kept (fun _ => ?_) (fun _ => ?_))
    | split
    | (with_reducible exact mk_kept (by assumption))

theorem State.applyHalving_kept {ql : List Instr} {s : State} (h1 : s.Kept ql) : State.Kept ql (State.applyHalving s) := by
  unfold State.applyHalving
  repeat' first
    | (extract_lets +onlyGivenNames x; clear_value (hx : x = _); clear hx)
    | (with_reducible refine State.applyDiv_kept ?_)
    | (with_reducible exact mk_kept (by assumption))

theorem State.writeRails_kept {ql : List Instr} {s : State} {p : Nat} (h1 : s.Kept ql) : State.Kept ql (State.writeRails s p) := by
  unfold State.writeRails
  repeat' first
    | with_reducible assumption
    | (extract_lets +onlyGivenNames x; clear_value (hx : x = _); clear hx)
    | (with_reducible refine State.emit_kept ?_)
    | (with_reducible refine foldl_kept (fun _ _ _ => ?_) ?_)
    | (with_reducible exact mk_kept (by assumption))

theorem State.changeDivider_kept {ql : List Instr} {s : State} (h1 : s.Kept ql) : State.Kept ql (State.changeDivider s) := by
  unfold State.changeDivider
  repeat' first
    | with_reducible assumption
    | (extract_lets +onlyGivenNames x; clear_value (hx : x = _); revert x; refine let_kept (ql := ql) ?_ fun x _ => ?_)
    | (extract_lets +onlyGivenNames x; clear_value (hx : x = _); clear hx)
    | (with_reducible refine State.setObj_kept ?_)
    | (with_reducible refine State.bump_kept ?_)
    | (with_reducible refine State.applyDiv_kept ?_)
    | (with_reducible refine State.writeRails_kept ?_)
    | (with_reducible refine ite_kept (fun _ => ?_) (fun _ => ?_))
    | split
    | (with_reducible exact mk_kept (by assumption))

theorem State.dividerFalls_kept {ql : List Instr} {s : State} (h1 : s.Kept ql) : State.Kept ql (State.dividerFalls s) := by
  unfold State.dividerFalls
  repeat' first
    | with_reducible assumption
    | (extract_lets +onlyGivenNames x; clear_value (hx : x = _); clear hx)
    | (with_reducible refine State.changeDivider_kept ?_)
    | (with_reducible refine ite_kept (fun _ => ?_) (fun _ => ?_))
    | (with_reducible exact mk_kept (by assumption))

theorem State.pointTarget_kept {ql : List Instr} {s : State} {p : Nat} (h1 : s.Kept ql) : State.Kept ql (State.pointTarget s p) := by
  unfold State.pointTarget
  repeat' first
    | with_reducible assumption
    | (extract_lets +onlyGivenNames x; clear_value (hx : x = _); revert x; refine let_kept (ql := ql) ?_ fun x _ => ?_)
    | (extract_lets +onlyGivenNames x; clear_value (hx : x = _); clear hx)
    | (with_reducible refine State.setObj_kept ?_)
    | (with_reducible refine State.writeRails_kept ?_)
    | (with_reducible refine State.dividerFalls_kept ?_)
    | (with_reducible refine ite_kept (fun _ => ?_) (fun _ => ?_))
    | (with_reducible exact mk_kept (by assumption))

theorem State.rewriteRails_kept {ql : List Instr} {s : State} (h1 : s.Kept ql) : State.Kept ql (State.rewriteRails s) := by
  unfold State.rewriteRails
  repeat' first
    | (extract_lets +onlyGivenNames x; clear_value (hx : x = _); clear hx)
    | (with_reducible refine State.setObj_kept ?_)
    | (with_reducible refine State.writeRails_kept ?_)
    | (with_reducible exact mk_kept (by assumption))

theorem State.pointNext_kept {ql : List Instr} {s : State} (h1 : s.Kept ql) : State.Kept ql (State.pointNext s) := by
  unfold State.pointNext
  repeat' first
    | with_reducible assumption
    | (extract_lets +onlyGivenNames x; clear_value (hx : x = _); revert x; refine let_kept (ql := ql) ?_ fun x _ => ?_)
    | (extract_lets +onlyGivenNames x; clear_value (hx : x = _); clear hx)
    | (with_reducible refine State.pointTarget_kept ?_)
    | (with_reducible refine State.rewriteRails_kept ?_)
    | (with_reducible refine ite_kept (fun _ => ?_) (fun _ => ?_))
    | split
    | (with_reducible exact mk_kept (by assumption))

theorem State.railsDone_kept {ql : List Instr} {s : State} (h1 : s.Kept ql) : State.Kept ql (State.railsDone s) := by
  unfold State.railsDone
  repeat' first
    | with_reducible assumption
    | (extract_lets +onlyGivenNames x; clear_value (hx : x = _); clear hx)
    | (with_reducible refine State.setObj_kept ?_)
    | (with_reducible refine State.bump_kept ?_)
    | (with_reducible refine State.dividerFalls_kept ?_)
    | (with_reducible refine ite_kept (fun _ => ?_) (fun _ => ?_))
    | split
    | (with_reducible exact mk_kept (by assumption))

theorem execRailTargetReached_kept {ql : List Instr} {rail : Fin 4} {s : State} (h1 : s.Kept ql) : Out.Kept ql (execRailTargetReached rail s) := by
  unfold execRailTargetReached
  repeat' first
    | with_reducible assumption
    | (extract_lets +onlyGivenNames x; clear_value (hx : x = _); clear hx)
    | (extract_lets +onlyGivenNames x; subst x)
    | (with_reducible refine State.pointNext_kept ?_)
    | (with_reducible refine State.railsDone_kept ?_)
    | (with_reducible refine Out.next_kept ?_)
    | (with_reducible refine ite_kept (fun _ => ?_) (fun _ => ?_))
    | (with_reducible refine ite_out_kept (fun _ => ?_) (fun _ => ?_))
    | (with_reducible exact mk_kept (by assumption))

theorem execRampLimitExpiry_kept {ql : List Instr} {rail : Fin 4} {s : State} (h1 : s.Kept ql) : Out.Kept ql (execRampLimitExpiry rail s) := by
  unfold execRampLimitExpiry
  repeat' first
    | with_reducible assumption
    | (extract_lets +onlyGivenNames x; clear_value (hx : x = _); revert x; refine let_kept (ql := ql) ?_ fun x _ => ?_)
    | (extract_lets +onlyGivenNames x; clear_value (hx : x = _); clear hx)
    | (with_reducible refine State.setObj_kept ?_)
    | (with_reducible refine State.raiseFault_kept ?_)
    | (with_reducible refine State.pointNext_kept ?_)
    | (with_reducible refine Out.next_kept ?_)
    | (with_reducible refine ite_out_kept (fun _ => ?_) (fun _ => ?_))
    | (with_reducible exact mk_kept (by assumption))

theorem execAvsbusPoll_kept {ql : List Instr} {rail : Fin 4} {mv : BitVec 16} {fails : Nat} {s : State} (h1 : s.Kept ql) : Out.Kept ql (execAvsbusPoll rail mv fails s) := by
  unfold execAvsbusPoll
  repeat' first
    | with_reducible assumption
    | (with_reducible refine State.setObj_kept ?_)
    | (with_reducible refine State.raiseFault_kept ?_)
    | (with_reducible refine Out.next_kept ?_)
    | (with_reducible refine ite_out_kept (fun _ => ?_) (fun _ => ?_))

theorem execBrownOutWarning_kept {ql : List Instr} {rail : RailIx} {mv : BitVec 16} {s : State} (h1 : s.Kept ql) : Out.Kept ql (execBrownOutWarning rail mv s) := by
  unfold execBrownOutWarning
  repeat' first
    | with_reducible assumption
    | (extract_lets +onlyGivenNames x; clear_value (hx : x = _); revert x; refine let_kept (ql := ql) ?_ fun x _ => ?_)
    | (with_reducible refine State.setObj_kept ?_)
    | (with_reducible refine State.bump_kept ?_)
    | (with_reducible refine State.setObjBit_kept ?_)
    | (with_reducible refine State.askCore_kept ?_)
    | (with_reducible refine State.applyHalving_kept ?_)
    | (with_reducible refine Out.next_kept ?_)
    | (with_reducible refine ite_kept (fun _ => ?_) (fun _ => ?_))
    | (with_reducible refine ite_out_kept (fun _ => ?_) (fun _ => ?_))

theorem execBrownOutWarningEnd_kept {ql : List Instr} {rail : RailIx} {mv : BitVec 16} {s : State} (h1 : s.Kept ql) : Out.Kept ql (execBrownOutWarningEnd rail mv s) := by
  unfold execBrownOutWarningEnd
  repeat' first
    | with_reducible assumption
    | (extract_lets +onlyGivenNames x; clear_value (hx : x = _); revert x; refine let_kept (ql := ql) ?_ fun x _ => ?_)
    | (extract_lets +onlyGivenNames x; clear_value (hx : x = _); clear hx)
    | (with_reducible refine State.setObj_kept ?_)
    | (with_reducible refine State.setObjBit_kept ?_)
    | (with_reducible refine State.askCore_kept ?_)
    | (with_reducible refine Out.next_kept ?_)
    | (with_reducible refine ite_kept (fun _ => ?_) (fun _ => ?_))
    | (with_reducible refine ite_out_kept (fun _ => ?_) (fun _ => ?_))

theorem execPowerSample_kept {ql : List Instr} {watts : BitVec 16} {s : State} (h1 : s.Kept ql) : Out.Kept ql (execPowerSample watts s) := by
  unfold execPowerSample
  repeat' first
    | with_reducible assumption
    | (extract_lets +onlyGivenNames x; clear_value (hx : x = _); revert x; refine let_kept (ql := ql) ?_ fun x _ => ?_)
    | (extract_lets +onlyGivenNames x; clear_value (hx : x = _); clear hx)
    | (with_reducible refine State.setObj_kept ?_)
    | (with_reducible refine State.raise_kept ?_)
    | (with_reducible refine State.setObjBit_kept ?_)
    | (with_reducible refine Out.next_kept ?_)
    | (with_reducible refine ite_kept (fun _ => ?_) (fun _ => ?_))
    | (with_reducible exact mk_kept (by assumption))

theorem execThermalSample_kept {ql : List Instr} {temp : BitVec 16} {s : State} (h1 : s.Kept ql) : Out.Kept ql (execThermalSample temp s) := by
  unfold execThermalSample
  repeat' first
    | with_reducible assumption
    | (extract_lets +onlyGivenNames x; clear_value (hx : x = _); revert x; refine let_kept (ql := ql) ?_ fun x _ => ?_)
    | (with_reducible refine State.setObj_kept ?_)
    | (with_reducible refine State.setObjBit_kept ?_)
    | (with_reducible refine Out.next_kept ?_)
    | (with_reducible refine ite_kept (fun _ => ?_) (fun _ => ?_))

theorem execHalveEnd_kept {ql : List Instr} {s : State} (h1 : s.Kept ql) : Out.Kept ql (execHalveEnd s) := by
  unfold execHalveEnd
  repeat' first
    | with_reducible assumption
    | (extract_lets +onlyGivenNames x; clear_value (hx : x = _); revert x; refine let_kept (ql := ql) ?_ fun x _ => ?_)
    | (extract_lets +onlyGivenNames x; subst x)
    | (with_reducible refine State.setObjBit_kept ?_)
    | (with_reducible refine State.applyHalving_kept ?_)
    | (with_reducible refine Out.next_kept ?_)
    | (with_reducible refine ite_kept (fun _ => ?_) (fun _ => ?_))

theorem State.clockOpening_kept {ql : List Instr} {s : State} (h1 : s.Kept ql) : State.Kept ql (State.clockOpening s) := by
  unfold State.clockOpening
  repeat' first
    | with_reducible assumption
    | (extract_lets +onlyGivenNames x; clear_value (hx : x = _); revert x; refine let_kept (ql := ql) ?_ fun x _ => ?_)
    | (with_reducible refine State.bump_kept ?_)
    | (with_reducible refine State.applyHalving_kept ?_)
    | (with_reducible refine State.changeDivider_kept ?_)
    | (with_reducible refine State.pointNext_kept ?_)
    | (with_reducible refine ite_kept (fun _ => ?_) (fun _ => ?_))

theorem execAgeingSensorReport_kept {ql : List Instr} {die : Die} {pc : Pc} {a b c d : BitVec 32} {s : State} (h1 : s.Kept ql) : Out.Kept ql (execAgeingSensorReport die pc a b c d s) := by
  unfold execAgeingSensorReport
  repeat' first
    | with_reducible assumption
    | (extract_lets +onlyGivenNames x; clear_value (hx : x = _); revert x; refine let_kept (ql := ql) ?_ fun x _ => ?_)
    | (extract_lets +onlyGivenNames x; clear_value (hx : x = _); clear hx)
    | (with_reducible refine State.setObj_kept ?_)
    | (with_reducible refine State.setObjs_kept ?_)
    | (with_reducible refine Out.next_kept ?_)

theorem writeAgePlan_kept {ql : List Instr} {v : Nat} {s : State} (h1 : s.Kept ql) : Kept1 ql (writeAgePlan v s) := by
  unfold writeAgePlan
  repeat' first
    | with_reducible assumption
    | (with_reducible refine State.setObj_kept ?_)
    | (with_reducible refine ite1_kept (fun _ => ?_) (fun _ => ?_))
    | (with_reducible refine mk1_kept ?_)

theorem execAgePlan_kept {ql : List Instr} {by_ : Option Master} {v : Byte} {s : State} (h1 : s.Kept ql) : Out.Kept ql (execAgePlan by_ v s) := by
  unfold execAgePlan
  repeat' first
    | with_reducible assumption
    | (extract_lets +onlyGivenNames x; clear_value (hx : x = _); revert x; refine let_kept (ql := ql) ?_ fun x _ => ?_)
    | (with_reducible refine State.setObj_kept ?_)
    | (with_reducible refine State.bump_kept ?_)
    | (with_reducible refine State.write_kept ?_ (fun _ _ => ?_))
    | (with_reducible refine writeAgePlan_kept ?_)
    | (with_reducible refine Out.next_kept ?_)
    | (with_reducible refine ite_kept (fun _ => ?_) (fun _ => ?_))
    | (with_reducible refine ite_out_kept (fun _ => ?_) (fun _ => ?_))
    | split

theorem State.setRaise_kept {ql : List Instr} {s : State} {d raise_ : Nat} (h1 : s.Kept ql) : State.Kept ql (State.setRaise s d raise_) := by
  unfold State.setRaise
  repeat' first
    | with_reducible assumption
    | (with_reducible refine State.setObjs_kept ?_)

theorem State.planPoint_kept {ql : List Instr} {s : State} {withdrawn : Bool} (h1 : s.Kept ql) : State.Kept ql (State.planPoint s withdrawn) := by
  unfold State.planPoint
  repeat' first
    | with_reducible assumption
    | (extract_lets +onlyGivenNames x; clear_value (hx : x = _); clear hx)
    | (with_reducible refine State.setObj_kept ?_)
    | (with_reducible refine State.pointTarget_kept ?_)
    | (with_reducible refine State.rewriteRails_kept ?_)
    | (with_reducible refine ite_kept (fun _ => ?_) (fun _ => ?_))
    | (with_reducible exact mk_kept (by assumption))

theorem execAgePlanCommit_kept {ql : List Instr} {s : State} (h1 : s.Kept ql) : Out.Kept ql (execAgePlanCommit s) := by
  unfold execAgePlanCommit
  repeat' first
    | with_reducible assumption
    | (extract_lets +onlyGivenNames x; clear_value (hx : x = _); revert x; refine let_kept (ql := ql) ?_ fun x _ => ?_)
    | (extract_lets +onlyGivenNames x; clear_value (hx : x = _); clear hx)
    | (with_reducible refine State.setObj_kept ?_)
    | (with_reducible refine State.setObjs_kept ?_)
    | (with_reducible refine State.raiseFault_kept ?_)
    | (with_reducible refine State.setRaise_kept ?_)
    | (with_reducible refine State.planPoint_kept ?_)
    | (with_reducible refine foldl_kept (fun _ _ _ => ?_) ?_)
    | (with_reducible refine Out.next_kept ?_)
    | (with_reducible refine ite_kept (fun _ => ?_) (fun _ => ?_))
    | (with_reducible refine ite_out_kept (fun _ => ?_) (fun _ => ?_))

theorem State.persistWrite_kept {ql : List Instr} {s : State} (h1 : s.Kept ql) : State.Kept ql (State.persistWrite s) := by
  unfold State.persistWrite
  repeat' first
    | (with_reducible exact mk_kept (by assumption))

theorem execPersistentStoreWrite_kept {ql : List Instr} {s : State} (h1 : s.Kept ql) : Out.Kept ql (execPersistentStoreWrite s) := by
  unfold execPersistentStoreWrite
  repeat' first
    | with_reducible assumption
    | (with_reducible refine State.persistWrite_kept ?_)
    | (with_reducible refine Out.next_kept ?_)
    | (with_reducible refine ite_out_kept (fun _ => ?_) (fun _ => ?_))

end Sys2Proof.Machine
end

