-- ==== Sys2Proof/Laws/KeptTimeBase.lean ====
section
/-!
SUPPORT. Every operation of Machine/TimeBase.lean leaves the queue of waiting commands as it is, the stores canonical and what waits within bounds.
-/

set_option linter.tactic.unusedName false
set_option linter.unusedVariables false

namespace Sys2Proof.Machine

theorem State.ppsTarget_kept {ql : List Instr} {s : State} (h1 : s.Kept ql) : State.Kept ql (State.ppsTarget s) := by
  unfold State.ppsTarget
  repeat' first
    | (extract_lets +onlyGivenNames x; clear_value (hx : x = _); clear hx)
    | split
    | (with_reducible exact mk_kept (by assumption))

theorem State.tick_kept {ql : List Instr} {s : State} (h1 : s.Kept ql) : State.Kept ql (State.tick s) := by
  unfold State.tick
  repeat' first
    | with_reducible assumption
    | (extract_lets +onlyGivenNames x; clear_value (hx : x = _); clear hx)
    | (with_reducible refine State.ppsTarget_kept ?_)
    | (with_reducible refine ite_kept (fun _ => ?_) (fun _ => ?_))
    | (with_reducible exact mk_kept (by assumption))

theorem State.dropDelay_kept {ql : List Instr} {s : State} {l : Nat} (h1 : s.Kept ql) : State.Kept ql (State.dropDelay s l) := by
  unfold State.dropDelay
  repeat' first
    | (extract_lets +onlyGivenNames x; clear_value (hx : x = _); clear hx)
    | (with_reducible refine State.setObj_kept ?_)
    | (with_reducible exact mk_kept (by assumption))

theorem State.startDelay_kept {ql : List Instr} {s : State} {l : Nat} (h1 : s.Kept ql) : State.Kept ql (State.startDelay s l) := by
  unfold State.startDelay
  repeat' first
    | (extract_lets +onlyGivenNames x; clear_value (hx : x = _); clear hx)
    | (with_reducible refine State.sendMsg_kept ?_)
    | (with_reducible exact mk_kept (by assumption))

theorem execPdelayIntervalExpiry_kept {ql : List Instr} {s : State} (h1 : s.Kept ql) : Out.Kept ql (execPdelayIntervalExpiry s) := by
  unfold execPdelayIntervalExpiry
  repeat' first
    | with_reducible assumption
    | (extract_lets +onlyGivenNames x; clear_value (hx : x = _); revert x; refine let_kept (ql := ql) ?_ fun x _ => ?_)
    | (extract_lets +onlyGivenNames x; clear_value (hx : x = _); clear hx)
    | (with_reducible refine State.startDelay_kept ?_)
    | (with_reducible refine foldl_kept (fun _ _ _ => ?_) ?_)
    | (with_reducible refine Out.next_kept ?_)
    | (with_reducible refine ite_out_kept (fun _ => ?_) (fun _ => ?_))
    | (with_reducible exact mk_kept (by assumption))

theorem State.delayAsked_kept {ql : List Instr} {s : State} {l p arrive : Nat} (h1 : s.Kept ql) : State.Kept ql (State.delayAsked s l p arrive) := by
  unfold State.delayAsked
  repeat' first
    | with_reducible assumption
    | (with_reducible refine State.sendMsg_kept ?_)
    | (with_reducible refine ite_kept (fun _ => ?_) (fun _ => ?_))

theorem execPdelayReq_kept {ql : List Instr} {link : LinkIx} {s : State} (h1 : s.Kept ql) : Out.Kept ql (execPdelayReq link s) := by
  unfold execPdelayReq
  repeat' first
    | with_reducible assumption
    | (with_reducible refine State.hear_kept ?_ (fun _ _ _ _ => ?_))
    | (with_reducible refine State.delayAsked_kept ?_)
    | (with_reducible refine Out.next_kept ?_)

theorem State.delayMeasured_kept {ql : List Instr} {s : State} {l : Nat} {d : Int} (h1 : s.Kept ql) : State.Kept ql (State.delayMeasured s l d) := by
  unfold State.delayMeasured
  repeat' first
    | with_reducible assumption
    | (extract_lets +onlyGivenNames x; clear_value (hx : x = _); revert x; refine let_kept (ql := ql) ?_ fun x _ => ?_)
    | (extract_lets +onlyGivenNames x; clear_value (hx : x = _); clear hx)
    | (with_reducible refine State.setObj_kept ?_)
    | (with_reducible refine ite_kept (fun _ => ?_) (fun _ => ?_))
    | (with_reducible exact mk_kept (by assumption))

theorem State.delayAnswered_kept {ql : List Instr} {s : State} {l p arrive : Nat} (h1 : s.Kept ql) : State.Kept ql (State.delayAnswered s l p arrive) := by
  unfold State.delayAnswered
  repeat' first
    | with_reducible assumption
    | (extract_lets +onlyGivenNames x; clear_value (hx : x = _); revert x; refine let_kept (ql := ql) ?_ fun x _ => ?_)
    | (extract_lets +onlyGivenNames x; clear_value (hx : x = _); clear hx)
    | (with_reducible refine State.delayMeasured_kept ?_)
    | (with_reducible refine ite_kept (fun _ => ?_) (fun _ => ?_))
    | split
    | (with_reducible exact mk_kept (by assumption))

theorem execPdelayResp_kept {ql : List Instr} {link : LinkIx} {s : State} (h1 : s.Kept ql) : Out.Kept ql (execPdelayResp link s) := by
  unfold execPdelayResp
  repeat' first
    | with_reducible assumption
    | (with_reducible refine State.hear_kept ?_ (fun _ _ _ _ => ?_))
    | (with_reducible refine State.delayAnswered_kept ?_)
    | (with_reducible refine Out.next_kept ?_)

theorem State.correctRate_kept {ql : List Instr} {s : State} {theta : Int} {span : Nat} (h1 : s.Kept ql) : State.Kept ql (State.correctRate s theta span) := by
  unfold State.correctRate
  repeat' first
    | (extract_lets +onlyGivenNames x; clear_value (hx : x = _); clear hx)
    | (with_reducible refine State.setObj_kept ?_)
    | (with_reducible exact mk_kept (by assumption))

theorem State.ppsShown_kept {ql : List Instr} {s : State} (h1 : s.Kept ql) : State.Kept ql (State.ppsShown s) := by
  unfold State.ppsShown
  repeat' first
    | with_reducible assumption
    | (extract_lets +onlyGivenNames x; clear_value (hx : x = _); clear hx)
    | (with_reducible refine State.setObj_kept ?_)

theorem State.holdover_kept {ql : List Instr} {s : State} {cause : Nat} (h1 : s.Kept ql) : State.Kept ql (State.holdover s cause) := by
  unfold State.holdover
  repeat' first
    | with_reducible assumption
    | (extract_lets +onlyGivenNames x; clear_value (hx : x = _); revert x; refine let_kept (ql := ql) ?_ fun x _ => ?_)
    | (extract_lets +onlyGivenNames x; clear_value (hx : x = _); clear hx)
    | (with_reducible refine State.setObjs_kept ?_)
    | (with_reducible refine State.msix_kept ?_)
    | (with_reducible refine ite_kept (fun _ => ?_) (fun _ => ?_))

theorem State.refuseJump_kept {ql : List Instr} {s : State} {theta : Int} (h1 : s.Kept ql) : State.Kept ql (State.refuseJump s theta) := by
  unfold State.refuseJump
  repeat' first
    | with_reducible assumption
    | (with_reducible refine State.bump_kept ?_)
    | (with_reducible refine State.msix_kept ?_)
    | (with_reducible refine State.raiseFault_kept ?_)

theorem State.judge_kept {ql : List Instr} {s : State} {theta : Int} (h1 : s.Kept ql) : State.Kept ql (State.judge s theta) := by
  unfold State.judge
  repeat' first
    | with_reducible assumption
    | (extract_lets +onlyGivenNames x; clear_value (hx : x = _); revert x; refine let_kept (ql := ql) ?_ fun x _ => ?_)
    | (extract_lets +onlyGivenNames x; clear_value (hx : x = _); clear hx)
    | (with_reducible refine State.setObj_kept ?_)
    | (with_reducible refine State.setObjs_kept ?_)
    | (with_reducible refine State.correctRate_kept ?_)
    | (with_reducible refine State.refuseJump_kept ?_)
    | (with_reducible refine ite_kept (fun _ => ?_) (fun _ => ?_))
    | (with_reducible exact mk_kept (by assumption))

theorem State.elected_kept {ql : List Instr} {s : State} (h1 : s.Kept ql) : State.Kept ql (State.elected s) := by
  unfold State.elected
  repeat' first
    | with_reducible assumption
    | (extract_lets +onlyGivenNames x; clear_value (hx : x = _); revert x; refine let_kept (ql := ql) ?_ fun x _ => ?_)
    | (extract_lets +onlyGivenNames x; clear_value (hx : x = _); clear hx)
    | (with_reducible refine State.setObjs_kept ?_)
    | (with_reducible refine State.raiseFault_kept ?_)
    | (with_reducible refine State.holdover_kept ?_)
    | (with_reducible refine ite_kept (fun _ => ?_) (fun _ => ?_))

theorem State.elect_kept {ql : List Instr} {s : State} (h1 : s.Kept ql) : State.Kept ql (State.elect s) := by
  unfold State.elect
  repeat' first
    | with_reducible assumption
    | (with_reducible refine State.ppsShown_kept ?_)
    | (with_reducible refine State.elected_kept ?_)

theorem State.noteSync_kept {ql : List Instr} {s : State} {l : Nat} {b : SyncBlock} (h1 : s.Kept ql) : State.Kept ql (State.noteSync s l b) := by
  unfold State.noteSync
  repeat' first
    | (extract_lets +onlyGivenNames x; clear_value (hx : x = _); clear hx)
    | (with_reducible exact mk_kept (by assumption))

theorem State.syncHeard_kept {ql : List Instr} {s : State} {l : Nat} {b : SyncBlock} {arrive : Nat} (h1 : s.Kept ql) : State.Kept ql (State.syncHeard s l b arrive) := by
  unfold State.syncHeard
  repeat' first
    | with_reducible assumption
    | (extract_lets +onlyGivenNames x; clear_value (hx : x = _); revert x; refine let_kept (ql := ql) ?_ fun x _ => ?_)
    | (with_reducible refine State.sendAll_kept ?_)
    | (with_reducible refine State.ppsShown_kept ?_)
    | (with_reducible refine State.judge_kept ?_)
    | (with_reducible refine State.elect_kept ?_)
    | (with_reducible refine State.noteSync_kept ?_)
    | (with_reducible refine ite_kept (fun _ => ?_) (fun _ => ?_))
    | split

theorem execTimeSync_kept {ql : List Instr} {link : LinkIx} {s : State} (h1 : s.Kept ql) : Out.Kept ql (execTimeSync link s) := by
  unfold execTimeSync
  repeat' first
    | with_reducible assumption
    | (with_reducible refine State.hear_kept ?_ (fun _ _ _ _ => ?_))
    | (with_reducible refine State.syncHeard_kept ?_)
    | (with_reducible refine Out.next_kept ?_)

theorem execSyncIntervalExpiry_kept {ql : List Instr} {s : State} (h1 : s.Kept ql) : Out.Kept ql (execSyncIntervalExpiry s) := by
  unfold execSyncIntervalExpiry
  repeat' first
    | with_reducible assumption
    | (extract_lets +onlyGivenNames x; clear_value (hx : x = _); revert x; refine let_kept (ql := ql) ?_ fun x _ => ?_)
    | (extract_lets +onlyGivenNames x; clear_value (hx : x = _); clear hx)
    | (with_reducible refine State.sendAll_kept ?_)
    | (with_reducible refine Out.next_kept ?_)
    | (with_reducible refine ite_out_kept (fun _ => ?_) (fun _ => ?_))
    | (with_reducible exact mk_kept (by assumption))

theorem execCandidateExpiry_kept {ql : List Instr} {link : LinkIx} {s : State} (h1 : s.Kept ql) : Out.Kept ql (execCandidateExpiry link s) := by
  unfold execCandidateExpiry
  repeat' first
    | with_reducible assumption
    | (extract_lets +onlyGivenNames x; clear_value (hx : x = _); clear hx)
    | (with_reducible refine State.elect_kept ?_)
    | (with_reducible refine Out.next_kept ?_)
    | (with_reducible refine ite_out_kept (fun _ => ?_) (fun _ => ?_))
    | split
    | (with_reducible exact mk_kept (by assumption))

theorem State.ppsJudge_kept {ql : List Instr} {s : State} {e : Int} (h1 : s.Kept ql) : State.Kept ql (State.ppsJudge s e) := by
  unfold State.ppsJudge
  repeat' first
    | with_reducible assumption
    | (extract_lets +onlyGivenNames x; clear_value (hx : x = _); clear hx)
    | (with_reducible refine State.setObj_kept ?_)
    | (with_reducible refine State.setObjs_kept ?_)
    | (with_reducible refine State.correctRate_kept ?_)
    | (with_reducible refine State.refuseJump_kept ?_)
    | (with_reducible refine ite_kept (fun _ => ?_) (fun _ => ?_))
    | (with_reducible exact mk_kept (by assumption))

theorem execPpsInEdge_kept {ql : List Instr} {stamp : BitVec 96} {s : State} (h1 : s.Kept ql) : Out.Kept ql (execPpsInEdge stamp s) := by
  unfold execPpsInEdge
  repeat' first
    | with_reducible assumption
    | (extract_lets +onlyGivenNames x; clear_value (hx : x = _); revert x; refine let_kept (ql := ql) ?_ fun x _ => ?_)
    | (extract_lets +onlyGivenNames x; clear_value (hx : x = _); clear hx)
    | (with_reducible refine State.setObj_kept ?_)
    | (with_reducible refine State.ppsJudge_kept ?_)
    | (with_reducible refine Out.next_kept ?_)
    | (with_reducible refine ite_kept (fun _ => ?_) (fun _ => ?_))
    | (with_reducible refine ite_out_kept (fun _ => ?_) (fun _ => ?_))
    | split
    | (with_reducible exact mk_kept (by assumption))

theorem execPpsLost_kept {ql : List Instr} {s : State} (h1 : s.Kept ql) : Out.Kept ql (execPpsLost s) := by
  unfold execPpsLost
  repeat' first
    | with_reducible assumption
    | (extract_lets +onlyGivenNames x; clear_value (hx : x = _); clear hx)
    | (with_reducible refine State.setObj_kept ?_)
    | (with_reducible refine Out.next_kept ?_)
    | (with_reducible refine ite_out_kept (fun _ => ?_) (fun _ => ?_))

theorem execPpsOutRise_kept {ql : List Instr} {s : State} (h1 : s.Kept ql) : Out.Kept ql (execPpsOutRise s) := by
  unfold execPpsOutRise
  repeat' first
    | with_reducible assumption
    | (extract_lets +onlyGivenNames x; clear_value (hx : x = _); clear hx)
    | (with_reducible refine State.emit_kept ?_)
    | (with_reducible refine Out.next_kept ?_)
    | (with_reducible refine ite_out_kept (fun _ => ?_) (fun _ => ?_))
    | (with_reducible exact mk_kept (by assumption))

theorem execPpsOutFall_kept {ql : List Instr} {s : State} (h1 : s.Kept ql) : Out.Kept ql (execPpsOutFall s) := by
  unfold execPpsOutFall
  repeat' first
    | with_reducible assumption
    | (extract_lets +onlyGivenNames x; clear_value (hx : x = _); clear hx)
    | (with_reducible refine State.emit_kept ?_)
    | (with_reducible refine Out.next_kept ?_)
    | (with_reducible refine ite_out_kept (fun _ => ?_) (fun _ => ?_))
    | split
    | (with_reducible exact mk_kept (by assumption))

theorem execTimeNsRead_kept {ql : List Instr} {m : Master} {s : State} (h1 : s.Kept ql) : Out.Kept ql (execTimeNsRead m s) := by
  unfold execTimeNsRead
  repeat' first
    | with_reducible assumption
    | (extract_lets +onlyGivenNames x; clear_value (hx : x = _); clear hx)
    | (with_reducible refine State.emit_kept ?_)
    | (with_reducible refine State.refuse_kept ?_)
    | (with_reducible refine State.readStopped_kept ?_)
    | (with_reducible refine Out.next_kept ?_)
    | (with_reducible refine ite_out_kept (fun _ => ?_) (fun _ => ?_))
    | (with_reducible exact mk_kept (by assumption))

theorem writeTimeSet_kept {ql : List Instr} {v : Nat} {s : State} (h1 : s.Kept ql) : Kept1 ql (writeTimeSet v s) := by
  unfold writeTimeSet
  repeat' first
    | with_reducible assumption
    | (extract_lets +onlyGivenNames x; clear_value (hx : x = _); clear hx)
    | (with_reducible refine State.setObj_kept ?_)
    | (with_reducible refine State.ppsShown_kept ?_)
    | (with_reducible refine ite1_kept (fun _ => ?_) (fun _ => ?_))
    | (with_reducible refine mk1_kept ?_)
    | (with_reducible exact mk_kept (by assumption))

theorem execTimeSet_kept {ql : List Instr} {m : Master} {v : BitVec 64} {s : State} (h1 : s.Kept ql) : Out.Kept ql (execTimeSet m v s) := by
  unfold execTimeSet
  repeat' first
    | with_reducible assumption
    | (with_reducible refine State.write_kept ?_ (fun _ _ => ?_))
    | (with_reducible refine writeTimeSet_kept ?_)

theorem writeRejoin_kept {ql : List Instr} {v : Nat} {s : State} (h1 : s.Kept ql) : Kept1 ql (writeRejoin v s) := by
  unfold writeRejoin
  repeat' first
    | with_reducible assumption
    | (with_reducible refine State.setObj_kept ?_)
    | (with_reducible refine State.ppsShown_kept ?_)
    | (with_reducible refine ite1_kept (fun _ => ?_) (fun _ => ?_))
    | (with_reducible refine mk1_kept ?_)

theorem execRejoin_kept {ql : List Instr} {m : Master} {v : Byte} {s : State} (h1 : s.Kept ql) : Out.Kept ql (execRejoin m v s) := by
  unfold execRejoin
  repeat' first
    | with_reducible assumption
    | (with_reducible refine State.write_kept ?_ (fun _ _ => ?_))
    | (with_reducible refine writeRejoin_kept ?_)

theorem writeIncrement_kept {ql : List Instr} {v : Nat} {s : State} (h1 : s.Kept ql) : Kept1 ql (writeIncrement v s) := by
  unfold writeIncrement
  repeat' first
    | with_reducible assumption
    | (extract_lets +onlyGivenNames x; clear_value (hx : x = _); clear hx)
    | (with_reducible refine State.setObj_kept ?_)
    | (with_reducible refine ite1_kept (fun _ => ?_) (fun _ => ?_))
    | (with_reducible refine mk1_kept ?_)
    | (with_reducible exact mk_kept (by assumption))

theorem execIncrementWrite_kept {ql : List Instr} {m : Master} {v : BitVec 64} {s : State} (h1 : s.Kept ql) : Out.Kept ql (execIncrementWrite m v s) := by
  unfold execIncrementWrite
  repeat' first
    | with_reducible assumption
    | (with_reducible refine State.write_kept ?_ (fun _ _ => ?_))
    | (with_reducible refine writeIncrement_kept ?_)

theorem writePriority_kept {ql : List Instr} {v : Nat} {s : State} (h1 : s.Kept ql) : Kept1 ql (writePriority v s) := by
  unfold writePriority
  repeat' first
    | with_reducible assumption
    | (with_reducible refine State.setObj_kept ?_)
    | (with_reducible refine State.elect_kept ?_)
    | (with_reducible refine mk1_kept ?_)

theorem execPriorityWrite_kept {ql : List Instr} {m : Master} {v : Byte} {s : State} (h1 : s.Kept ql) : Out.Kept ql (execPriorityWrite m v s) := by
  unfold execPriorityWrite
  repeat' first
    | with_reducible assumption
    | (with_reducible refine State.write_kept ?_ (fun _ _ => ?_))
    | (with_reducible refine writePriority_kept ?_)

end Sys2Proof.Machine
end

