-- ==== Sys2Proof/Laws/KeptTied.lean ====
section
/-!
SUPPORT. Every operation of Machine/Tied.lean leaves the queue of waiting commands as it is, the stores canonical and what waits within bounds.
-/

set_option linter.tactic.unusedName false
set_option linter.unusedVariables false

namespace Sys2Proof.Machine

theorem State.setTie_kept {ql : List Instr} {s : State} {i : Nat} {u : TieUnit} (h1 : s.Kept ql) : State.Kept ql (State.setTie s i u) := by
  unfold State.setTie
  repeat' first
    | (with_reducible exact mk_kept (by assumption))

theorem State.tiedStart_kept {ql : List Instr} {s : State} (h1 : s.Kept ql) : State.Kept ql (State.tiedStart s) := by
  unfold State.tiedStart
  repeat' first
    | with_reducible assumption
    | (extract_lets +onlyGivenNames x; clear_value (hx : x = _); revert x; refine let_kept (ql := ql) ?_ fun x _ => ?_)
    | (extract_lets +onlyGivenNames x; clear_value (hx : x = _); clear hx)
    | (with_reducible refine State.setObjs_kept ?_)
    | (with_reducible refine State.setTie_kept ?_)
    | (with_reducible refine foldl_kept (fun _ _ _ => ?_) ?_)
    | (with_reducible refine ite_kept (fun _ => ?_) (fun _ => ?_))
    | (with_reducible exact mk_kept (by assumption))

theorem State.tiesOff_kept {ql : List Instr} {s : State} (h1 : s.Kept ql) : State.Kept ql (State.tiesOff s) := by
  unfold State.tiesOff
  repeat' first
    | with_reducible assumption
    | (extract_lets +onlyGivenNames x; clear_value (hx : x = _); clear hx)
    | (with_reducible refine State.setTie_kept ?_)
    | (with_reducible refine foldl_kept (fun _ _ _ => ?_) ?_)
    | (with_reducible refine ite_kept (fun _ => ?_) (fun _ => ?_))
    | (with_reducible exact mk_kept (by assumption))

theorem State.dropApps_kept {ql : List Instr} {s : State} (h1 : s.Kept ql) : State.Kept ql (State.dropApps s) := by
  unfold State.dropApps
  repeat' first
    | with_reducible assumption
    | (extract_lets +onlyGivenNames x; clear_value (hx : x = _); clear hx)
    | (with_reducible refine State.setTie_kept ?_)
    | (with_reducible refine foldl_kept (fun _ _ _ => ?_) ?_)

theorem State.tieSafeOf_kept {ql : List Instr} {s : State} {m : Nat} (h1 : s.Kept ql) : State.Kept ql (State.tieSafeOf s m) := by
  unfold State.tieSafeOf
  repeat' first
    | (extract_lets +onlyGivenNames x; clear_value (hx : x = _); clear hx)
    | (with_reducible refine State.fabObjs_kept ?_)
    | (with_reducible refine State.dropApps_kept ?_)
    | (with_reducible exact mk_kept (by assumption))

theorem State.tiedEnd_kept {ql : List Instr} {s : State} {cause : Nat} (h1 : s.Kept ql) : State.Kept ql (State.tiedEnd s cause) := by
  unfold State.tiedEnd
  repeat' first
    | with_reducible assumption
    | (extract_lets +onlyGivenNames x; clear_value (hx : x = _); revert x; refine let_kept (ql := ql) ?_ fun x _ => ?_)
    | (with_reducible refine State.setObjs_kept ?_)
    | (with_reducible refine State.tieSafeOf_kept ?_)
    | (with_reducible refine ite_kept (fun _ => ?_) (fun _ => ?_))

theorem State.capture_kept {ql : List Instr} {s : State} {i : Nat} {fin : Memory} (h1 : s.Kept ql) : State.Kept ql (State.capture s i fin) := by
  unfold State.capture
  repeat' first
    | with_reducible assumption
    | (extract_lets +onlyGivenNames x; clear_value (hx : x = _); clear hx)
    | (with_reducible refine State.setObj_kept ?_)
    | (with_reducible refine State.emit_kept ?_)
    | (with_reducible refine State.setTie_kept ?_)
    | (with_reducible refine ite_kept (fun _ => ?_) (fun _ => ?_))

theorem execTieEdgeReached_kept {ql : List Instr} {slot : Fin 8} {fin : BitVec 8192} {s : State} (h1 : s.Kept ql) : Out.Kept ql (execTieEdgeReached slot fin s) := by
  unfold execTieEdgeReached
  repeat' first
    | with_reducible assumption
    | (extract_lets +onlyGivenNames x; clear_value (hx : x = _); clear hx)
    | (with_reducible refine State.capture_kept ?_)
    | (with_reducible refine Out.next_kept ?_)
    | (with_reducible refine ite_out_kept (fun _ => ?_) (fun _ => ?_))
    | (with_reducible exact mk_kept (by assumption))

theorem State.slipPolicy_kept {ql : List Instr} {s : State} {i : Nat} (h1 : s.Kept ql) : State.Kept ql (State.slipPolicy s i) := by
  unfold State.slipPolicy
  repeat' first
    | with_reducible assumption
    | (extract_lets +onlyGivenNames x; clear_value (hx : x = _); revert x; refine let_kept (ql := ql) ?_ fun x _ => ?_)
    | (with_reducible refine State.setObj_kept ?_)
    | (with_reducible refine State.raiseStop_kept ?_)
    | (with_reducible refine State.tieSafeOf_kept ?_)
    | (with_reducible refine ite_kept (fun _ => ?_) (fun _ => ?_))
    | split
    | (with_reducible exact mk_kept (by assumption))

theorem State.tieBucket_kept {ql : List Instr} {s : State} {i n : Nat} (h1 : s.Kept ql) : State.Kept ql (State.tieBucket s i n) := by
  unfold State.tieBucket
  repeat' first
    | with_reducible assumption
    | (with_reducible refine State.setObj_kept ?_)
    | (with_reducible refine State.bump_kept ?_)
    | (with_reducible refine ite_kept (fun _ => ?_) (fun _ => ?_))

theorem State.slipCheck_kept {ql : List Instr} {s : State} {i : Nat} (h1 : s.Kept ql) : State.Kept ql (State.slipCheck s i) := by
  unfold State.slipCheck
  repeat' first
    | with_reducible assumption
    | (with_reducible refine State.slipPolicy_kept ?_)
    | (with_reducible refine ite_kept (fun _ => ?_) (fun _ => ?_))

theorem State.tieDecide_kept {ql : List Instr} {s : State} {i : Nat} (h1 : s.Kept ql) : State.Kept ql (State.tieDecide s i) := by
  unfold State.tieDecide
  repeat' first
    | with_reducible assumption
    | (extract_lets +onlyGivenNames x; clear_value (hx : x = _); revert x; refine let_kept (ql := ql) ?_ fun x _ => ?_)
    | (extract_lets +onlyGivenNames x; clear_value (hx : x = _); clear hx)
    | (with_reducible refine State.setObj_kept ?_)
    | (with_reducible refine State.bump_kept ?_)
    | (with_reducible refine State.raise_kept ?_)
    | (with_reducible refine State.setTie_kept ?_)
    | (with_reducible refine State.tieBucket_kept ?_)
    | (with_reducible refine State.slipCheck_kept ?_)
    | (with_reducible refine ite_kept (fun _ => ?_) (fun _ => ?_))
    | (with_reducible exact mk_kept (by assumption))

theorem State.takeOutputs_kept {ql : List Instr} {s : State} {i : Nat} (h1 : s.Kept ql) : State.Kept ql (State.takeOutputs s i) := by
  unfold State.takeOutputs
  repeat' first
    | with_reducible assumption
    | (extract_lets +onlyGivenNames x; clear_value (hx : x = _); clear hx)
    | (with_reducible refine State.setTie_kept ?_)
    | (with_reducible refine ite_kept (fun _ => ?_) (fun _ => ?_))
    | split

theorem execTieApply_kept {ql : List Instr} {slot : Fin 8} {s : State} (h1 : s.Kept ql) : Out.Kept ql (execTieApply slot s) := by
  unfold execTieApply
  repeat' first
    | with_reducible assumption
    | (extract_lets +onlyGivenNames x; clear_value (hx : x = _); revert x; refine let_kept (ql := ql) ?_ fun x _ => ?_)
    | (extract_lets +onlyGivenNames x; clear_value (hx : x = _); clear hx)
    | (with_reducible refine State.setObj_kept ?_)
    | (with_reducible refine State.bump_kept ?_)
    | (with_reducible refine State.emit_kept ?_)
    | (with_reducible refine State.fabObjs_kept ?_)
    | (with_reducible refine State.setTie_kept ?_)
    | (with_reducible refine Out.next_kept ?_)
    | (with_reducible refine ite_kept (fun _ => ?_) (fun _ => ?_))
    | (with_reducible refine ite_out_kept (fun _ => ?_) (fun _ => ?_))
    | split
    | (with_reducible exact mk_kept (by assumption))

end Sys2Proof.Machine
end

