-- ==== Sys2Proof/Laws/KeptTrigger.lean ====
section
/-!
SUPPORT. Every operation of Machine/Trigger.lean leaves the queue of waiting commands as it is, the stores canonical and what waits within bounds.
-/

set_option linter.tactic.unusedName false
set_option linter.unusedVariables false

namespace Sys2Proof.Machine

theorem State.evalCmp_kept {ql : List Instr} {s : State} {i : Nat} (h1 : s.Kept ql) : Kept1 ql (State.evalCmp s i) := by
  unfold State.evalCmp
  repeat' first
    | with_reducible assumption
    | (extract_lets +onlyGivenNames x; clear_value (hx : x = _); revert x; refine let_kept (ql := ql) ?_ fun x _ => ?_)
    | (extract_lets +onlyGivenNames x; clear_value (hx : x = _); clear hx)
    | (with_reducible refine State.setObj_kept ?_)
    | (with_reducible refine State.bump_kept ?_)
    | split
    | (with_reducible refine mk1_kept ?_)
    | (with_reducible exact mk_kept (by assumption))

theorem State.evalCmps_kept {ql : List Instr} {s : State} (h1 : s.Kept ql) : Kept1 ql (State.evalCmps s) := by
  unfold State.evalCmps
  repeat' first
    | with_reducible assumption
    | (extract_lets +onlyGivenNames x; clear_value (hx : x = _); revert x; refine let1_kept (ql := ql) ?_ fun x _ => ?_)
    | (with_reducible refine State.evalCmp_kept ?_)
    | (with_reducible refine foldl_kept1 (fun _ _ _ => ?_) ?_)
    | (with_reducible refine fst_kept ?_)
    | split
    | (with_reducible refine mk1_kept ?_)

theorem execHoldoffExpiry_kept {ql : List Instr} {n : Fin 64} {s : State} (h1 : s.Kept ql) : Out.Kept ql (execHoldoffExpiry n s) := by
  unfold execHoldoffExpiry
  repeat' first
    | with_reducible assumption
    | (extract_lets +onlyGivenNames x; clear_value (hx : x = _); clear hx)
    | (with_reducible refine Out.next_kept ?_)
    | (with_reducible refine ite_out_kept (fun _ => ?_) (fun _ => ?_))
    | (with_reducible exact mk_kept (by assumption))

theorem State.countOps_kept {ql : List Instr} {s : State} {clr inc : Nat} (h1 : s.Kept ql) : State.Kept ql (State.countOps s clr inc) := by
  unfold State.countOps
  repeat' first
    | with_reducible assumption
    | (extract_lets +onlyGivenNames x; clear_value (hx : x = _); clear hx)
    | (with_reducible refine State.setObj_kept ?_)
    | (with_reducible refine foldl_kept (fun _ _ _ => ?_) ?_)

theorem State.pulse_kept {ql : List Instr} {s : State} {i : Nat} (h1 : s.Kept ql) : State.Kept ql (State.pulse s i) := by
  unfold State.pulse
  repeat' first
    | with_reducible assumption
    | (extract_lets +onlyGivenNames x; clear_value (hx : x = _); clear hx)
    | (with_reducible refine State.setObjBit_kept ?_)
    | (with_reducible refine State.emit_kept ?_)
    | (with_reducible refine ite_kept (fun _ => ?_) (fun _ => ?_))
    | (with_reducible exact mk_kept (by assumption))

theorem State.traceMark_kept {ql : List Instr} {s : State} (h1 : s.Kept ql) : State.Kept ql (State.traceMark s) := by
  unfold State.traceMark
  repeat' first
    | with_reducible assumption
    | (extract_lets +onlyGivenNames x; clear_value (hx : x = _); revert x; refine let_kept (ql := ql) ?_ fun x _ => ?_)
    | (extract_lets +onlyGivenNames x; clear_value (hx : x = _); clear hx)
    | (with_reducible refine State.setObj_kept ?_)
    | (with_reducible refine State.setObjs_kept ?_)
    | (with_reducible refine State.bump_kept ?_)
    | split
    | (with_reducible exact mk_kept (by assumption))

theorem State.actions_kept {ql : List Instr} {s : State} {q : Nat} {isB : Bool} {b : Branch} {fires : Nat} (h1 : s.Kept ql) : State.Kept ql (State.actions s q isB b fires) := by
  unfold State.actions
  repeat' first
    | with_reducible assumption
    | (extract_lets +onlyGivenNames x; clear_value (hx : x = _); revert x; refine let_kept (ql := ql) ?_ fun x _ => ?_)
    | (extract_lets +onlyGivenNames x; clear_value (hx : x = _); replace hx : (_ : Hub) = _ := hx; subst hx)
    | (extract_lets +onlyGivenNames x; clear_value (hx : x = _); replace hx : (_ : Run) = _ := hx; subst hx)
    | (extract_lets +onlyGivenNames x; clear_value (hx : x = _); clear hx)
    | (with_reducible refine State.bump_kept ?_)
    | (with_reducible refine State.msix_kept ?_)
    | (with_reducible refine State.sendXtrig_kept ?_)
    | (with_reducible refine State.raiseStop_kept ?_)
    | (with_reducible refine State.pulse_kept ?_)
    | (with_reducible refine State.traceMark_kept ?_)
    | (with_reducible refine foldl_kept (fun _ _ _ => ?_) ?_)
    | (with_reducible refine ite_kept (fun _ => ?_) (fun _ => ?_))
    | ((with_reducible refine mk_all_kept (by assumption) ?_ ?_ ?_ ?_ ?_ ?_ ?_) <;> exact id)

theorem State.sequence_kept {ql : List Instr} {s : State} {fires t : Nat} (h1 : s.Kept ql) : State.Kept ql (State.sequence s fires t) := by
  unfold State.sequence
  repeat' first
    | with_reducible assumption
    | (extract_lets +onlyGivenNames x; clear_value (hx : x = _); revert x; refine let_kept (ql := ql) ?_ fun x _ => ?_)
    | (extract_lets +onlyGivenNames x; clear_value (hx : x = _); replace hx : (_ : _ → _) = _ := hx; subst hx; first | dsimp -zeta only | skip)
    | (extract_lets +onlyGivenNames x; clear_value (hx : x = _); clear hx)
    | (with_reducible refine State.setObj_kept ?_)
    | (with_reducible refine State.setObjs_kept ?_)
    | (with_reducible refine State.countOps_kept ?_)
    | (with_reducible refine State.actions_kept ?_)
    | (with_reducible refine ite_kept (fun _ => ?_) (fun _ => ?_))

theorem State.rearm_kept {ql : List Instr} {s : State} (h1 : s.Kept ql) : State.Kept ql (State.rearm s) := by
  unfold State.rearm
  repeat' first
    | with_reducible assumption
    | (extract_lets +onlyGivenNames x; clear_value (hx : x = _); revert x; refine let_kept (ql := ql) ?_ fun x _ => ?_)
    | (extract_lets +onlyGivenNames x; clear_value (hx : x = _); clear hx)
    | (with_reducible refine State.setObj_kept ?_)
    | (with_reducible refine foldl_kept (fun _ _ _ => ?_) ?_)
    | (with_reducible exact mk_kept (by assumption))

theorem writeRearm_kept {ql : List Instr} {v : Nat} {s : State} (h1 : s.Kept ql) : Kept1 ql (writeRearm v s) := by
  unfold writeRearm
  repeat' first
    | with_reducible assumption
    | (extract_lets +onlyGivenNames x; clear_value (hx : x = _); clear hx)
    | (with_reducible refine State.rearm_kept ?_)
    | (with_reducible refine ite1_kept (fun _ => ?_) (fun _ => ?_))
    | (with_reducible refine mk1_kept ?_)
    | (with_reducible exact mk_kept (by assumption))

theorem execRearm_kept {ql : List Instr} {m : Master} {v : Byte} {s : State} (h1 : s.Kept ql) : Out.Kept ql (execRearm m v s) := by
  unfold execRearm
  repeat' first
    | with_reducible assumption
    | (with_reducible refine State.write_kept ?_ (fun _ _ => ?_))
    | (with_reducible refine writeRearm_kept ?_)

theorem State.mtAdvance_kept {ql : List Instr} {s : State} (h1 : s.Kept ql) : State.Kept ql (State.mtAdvance s) := by
  unfold State.mtAdvance
  repeat' first
    | (extract_lets +onlyGivenNames x; clear_value (hx : x = _); clear hx)
    | (with_reducible refine State.setObj_kept ?_)
    | (with_reducible exact mk_kept (by assumption))

theorem State.mtFirst_kept {ql : List Instr} {s : State} {dc chan : Nat} (h1 : s.Kept ql) : State.Kept ql (State.mtFirst s dc chan) := by
  unfold State.mtFirst
  repeat' first
    | with_reducible assumption
    | (extract_lets +onlyGivenNames x; clear_value (hx : x = _); revert x; refine let_kept (ql := ql) ?_ fun x _ => ?_)
    | (extract_lets +onlyGivenNames x; clear_value (hx : x = _); clear hx)
    | (with_reducible refine State.setObjs_kept ?_)
    | (with_reducible exact mk_kept (by assumption))

theorem State.mtCompare_kept {ql : List Instr} {s : State} {dc : Nat} {words : List Nat} {rec : List Byte} (h1 : s.Kept ql) : State.Kept ql (State.mtCompare s dc words rec) := by
  unfold State.mtCompare
  repeat' first
    | with_reducible assumption
    | (extract_lets +onlyGivenNames x; clear_value (hx : x = _); revert x; refine let_kept (ql := ql) ?_ fun x _ => ?_)
    | (extract_lets +onlyGivenNames x; clear_value (hx : x = _); clear hx)
    | (with_reducible refine State.bump_kept ?_)
    | (with_reducible refine State.raiseStop_kept ?_)
    | (with_reducible refine State.mtAdvance_kept ?_)
    | (with_reducible refine State.mtFirst_kept ?_)
    | (with_reducible refine ite_kept (fun _ => ?_) (fun _ => ?_))
    | split
    | (with_reducible exact mk_kept (by assumption))

theorem State.mtUnderrun_kept {ql : List Instr} {s : State} {dc : Nat} (h1 : s.Kept ql) : State.Kept ql (State.mtUnderrun s dc) := by
  unfold State.mtUnderrun
  repeat' first
    | with_reducible assumption
    | (extract_lets +onlyGivenNames x; clear_value (hx : x = _); revert x; refine let_kept (ql := ql) ?_ fun x _ => ?_)
    | (extract_lets +onlyGivenNames x; clear_value (hx : x = _); clear hx)
    | (with_reducible refine State.setObj_kept ?_)
    | (with_reducible refine State.bump_kept ?_)
    | (with_reducible refine State.raiseStop_kept ?_)
    | (with_reducible refine ite_kept (fun _ => ?_) (fun _ => ?_))
    | (with_reducible exact mk_kept (by assumption))

theorem State.mtDrain_kept {ql : List Instr} {s : State} {rv : Nat} (h1 : s.Kept ql) : State.Kept ql (State.mtDrain s rv) := by
  induction rv generalizing s with
  | zero =>
    unfold State.mtDrain
    repeat' first
      | with_reducible assumption
      | (extract_lets +onlyGivenNames x; clear_value (hx : x = _); revert x; refine let_kept (ql := ql) ?_ fun x _ => ?_)
      | (extract_lets +onlyGivenNames x; clear_value (hx : x = _); clear hx)
      | (with_reducible refine State.mtCompare_kept ?_)
      | (with_reducible refine State.mtUnderrun_kept ?_)
      | (with_reducible refine ite_kept (fun _ => ?_) (fun _ => ?_))
      | split
      | (with_reducible exact mk_kept (by assumption))
  | succ n ih =>
    unfold State.mtDrain
    repeat' first
      | (with_reducible refine ih ?_)
      | with_reducible assumption
      | (extract_lets +onlyGivenNames x; clear_value (hx : x = _); revert x; refine let_kept (ql := ql) ?_ fun x _ => ?_)
      | (extract_lets +onlyGivenNames x; clear_value (hx : x = _); clear hx)
      | (with_reducible refine State.mtCompare_kept ?_)
      | (with_reducible refine State.mtUnderrun_kept ?_)
      | (with_reducible refine ite_kept (fun _ => ?_) (fun _ => ?_))
      | split
      | (with_reducible exact mk_kept (by assumption))

theorem State.maskTest_kept {ql : List Instr} {s : State} (h1 : s.Kept ql) : State.Kept ql (State.maskTest s) := by
  unfold State.maskTest
  repeat' first
    | with_reducible assumption
    | (extract_lets +onlyGivenNames x; clear_value (hx : x = _); revert x; refine let_kept (ql := ql) ?_ fun x _ => ?_)
    | (extract_lets +onlyGivenNames x; clear_value (hx : x = _); clear hx)
    | (with_reducible refine State.mtDrain_kept ?_)
    | (with_reducible refine ite_kept (fun _ => ?_) (fun _ => ?_))
    | (with_reducible exact mk_kept (by assumption))

theorem execMaskTestFetchDone_kept {ql : List Instr} {s : State} (h1 : s.Kept ql) : Out.Kept ql (execMaskTestFetchDone s) := by
  unfold execMaskTestFetchDone
  repeat' first
    | with_reducible assumption
    | (extract_lets +onlyGivenNames x; clear_value (hx : x = _); revert x; refine let_kept (ql := ql) ?_ fun x _ => ?_)
    | (extract_lets +onlyGivenNames x; clear_value (hx : x = _); clear hx)
    | (with_reducible refine State.hbmBad_kept ?_)
    | (with_reducible refine State.mtDrain_kept ?_)
    | (with_reducible refine Out.next_kept ?_)
    | (with_reducible refine ite_out_kept (fun _ => ?_) (fun _ => ?_))
    | split
    | (with_reducible exact mk_kept (by assumption))

theorem State.trigEvaluate_kept {ql : List Instr} {s : State} (h1 : s.Kept ql) : State.Kept ql (State.trigEvaluate s) := by
  unfold State.trigEvaluate
  repeat' first
    | with_reducible assumption
    | (extract_lets +onlyGivenNames x; clear_value (hx : x = _); revert x; refine let_kept (ql := ql) ?_ fun x _ => ?_)
    | (extract_lets +onlyGivenNames x; clear_value (hx : x = _); clear hx)
    | (with_reducible refine State.bump_kept ?_)
    | (with_reducible refine State.evalCmps_kept ?_)
    | (with_reducible refine State.sequence_kept ?_)
    | (with_reducible refine State.rearm_kept ?_)
    | (with_reducible refine State.maskTest_kept ?_)
    | (with_reducible refine ite_kept (fun _ => ?_) (fun _ => ?_))
    | (with_reducible refine fst_kept ?_)
    | (with_reducible exact mk_kept (by assumption))

theorem execTrigInputEdge_kept {ql : List Instr} {ball : Fin 4} {level : Bool} {s : State} (h1 : s.Kept ql) : Out.Kept ql (execTrigInputEdge ball level s) := by
  unfold execTrigInputEdge
  repeat' first
    | with_reducible assumption
    | (extract_lets +onlyGivenNames x; clear_value (hx : x = _); revert x; refine let_kept (ql := ql) ?_ fun x _ => ?_)
    | (extract_lets +onlyGivenNames x; clear_value (hx : x = _); clear hx)
    | (with_reducible refine State.setObjBit_kept ?_)
    | (with_reducible refine Out.next_kept ?_)
    | (with_reducible refine ite_out_kept (fun _ => ?_) (fun _ => ?_))
    | (with_reducible exact mk_kept (by assumption))

theorem execTrigPulseEnd_kept {ql : List Instr} {ball : Fin 4} {s : State} (h1 : s.Kept ql) : Out.Kept ql (execTrigPulseEnd ball s) := by
  unfold execTrigPulseEnd
  repeat' first
    | with_reducible assumption
    | (extract_lets +onlyGivenNames x; clear_value (hx : x = _); clear hx)
    | (with_reducible refine State.setObjBit_kept ?_)
    | (with_reducible refine State.emit_kept ?_)
    | (with_reducible refine Out.next_kept ?_)
    | (with_reducible refine ite_out_kept (fun _ => ?_) (fun _ => ?_))
    | (with_reducible exact mk_kept (by assumption))

theorem State.crossTrigger_kept {ql : List Instr} {s : State} {origin lines link : Nat} (h1 : s.Kept ql) : State.Kept ql (State.crossTrigger s origin lines link) := by
  unfold State.crossTrigger
  repeat' first
    | with_reducible assumption
    | (extract_lets +onlyGivenNames x; clear_value (hx : x = _); revert x; refine let_kept (ql := ql) ?_ fun x _ => ?_)
    | (extract_lets +onlyGivenNames x; clear_value (hx : x = _); clear hx)
    | (with_reducible refine State.raiseStop_kept ?_)
    | (with_reducible refine ite_kept (fun _ => ?_) (fun _ => ?_))
    | (with_reducible exact mk_kept (by assumption))

end Sys2Proof.Machine
end

