-- ==== Sys2Proof/Laws/KeptTrace.lean ====
section
/-!
SUPPORT. Every operation of Machine/Trace.lean leaves the queue of waiting commands as it is, the stores canonical and what waits within bounds.
-/

set_option linter.tactic.unusedName false
set_option linter.unusedVariables false

namespace Sys2Proof.Machine

theorem State.traceSizes_kept {ql : List Instr} {s : State} (h1 : s.Kept ql) : State.Kept ql (State.traceSizes s) := by
  unfold State.traceSizes
  repeat' first
    | with_reducible assumption
    | (extract_lets +onlyGivenNames x; clear_value (hx : x = _); clear hx)
    | (with_reducible refine State.setObjs_kept ?_)

theorem State.traceStore_kept {ql : List Instr} {s : State} {words : List Nat} (h1 : s.Kept ql) : State.Kept ql (State.traceStore s words) := by
  unfold State.traceStore
  repeat' first
    | with_reducible assumption
    | (extract_lets +onlyGivenNames x; clear_value (hx : x = _); revert x; refine let_kept (ql := ql) ?_ fun x _ => ?_)
    | (extract_lets +onlyGivenNames x; clear_value (hx : x = _); clear hx)
    | (with_reducible refine State.setObj_kept ?_)
    | (with_reducible refine ite_kept (fun _ => ?_) (fun _ => ?_))
    | (with_reducible exact mk_kept (by assumption))

theorem State.traceBuild_kept {ql : List Instr} {s : State} (h1 : s.Kept ql) : State.Kept ql (State.traceBuild s) := by
  unfold State.traceBuild
  repeat' first
    | with_reducible assumption
    | (extract_lets +onlyGivenNames x; clear_value (hx : x = _); revert x; refine let_kept (ql := ql) ?_ fun x _ => ?_)
    | (extract_lets +onlyGivenNames x; clear_value (hx : x = _); clear hx)
    | (with_reducible refine State.bump_kept ?_)
    | (with_reducible refine State.traceStore_kept ?_)
    | (with_reducible refine ite_kept (fun _ => ?_) (fun _ => ?_))
    | (with_reducible exact mk_kept (by assumption))

theorem execTraceRecordWrite_kept {ql : List Instr} {s : State} (h1 : s.Kept ql) : Out.Kept ql (execTraceRecordWrite s) := by
  unfold execTraceRecordWrite
  repeat' first
    | with_reducible assumption
    | (extract_lets +onlyGivenNames x; clear_value (hx : x = _); revert x; refine let_kept (ql := ql) ?_ fun x _ => ?_)
    | (extract_lets +onlyGivenNames x; clear_value (hx : x = _); clear hx)
    | (with_reducible refine State.setObj_kept ?_)
    | (with_reducible refine State.hbmWrite_kept ?_)
    | (with_reducible refine Out.next_kept ?_)
    | (with_reducible refine ite_kept (fun _ => ?_) (fun _ => ?_))
    | (with_reducible refine ite_out_kept (fun _ => ?_) (fun _ => ?_))
    | split
    | (with_reducible exact mk_kept (by assumption))

theorem State.traceArm_kept {ql : List Instr} {s : State} (h1 : s.Kept ql) : State.Kept ql (State.traceArm s) := by
  unfold State.traceArm
  repeat' first
    | with_reducible assumption
    | (extract_lets +onlyGivenNames x; clear_value (hx : x = _); clear hx)
    | (with_reducible refine State.setObjs_kept ?_)
    | (with_reducible refine ite_kept (fun _ => ?_) (fun _ => ?_))
    | (with_reducible exact mk_kept (by assumption))

theorem writeTraceCmd_kept {ql : List Instr} {v : Nat} {s : State} (h1 : s.Kept ql) : Kept1 ql (writeTraceCmd v s) := by
  unfold writeTraceCmd
  repeat' first
    | with_reducible assumption
    | (extract_lets +onlyGivenNames x; clear_value (hx : x = _); clear hx)
    | (with_reducible refine State.setObj_kept ?_)
    | (with_reducible refine State.traceArm_kept ?_)
    | (with_reducible refine ite1_kept (fun _ => ?_) (fun _ => ?_))
    | split
    | (with_reducible refine mk1_kept ?_)

theorem execTraceCmdArm_kept {ql : List Instr} {m : Master} {s : State} (h1 : s.Kept ql) : Out.Kept ql (execTraceCmdArm m s) := by
  unfold execTraceCmdArm
  repeat' first
    | with_reducible assumption
    | (with_reducible refine State.write_kept ?_ (fun _ _ => ?_))
    | (with_reducible refine writeTraceCmd_kept ?_)

theorem execTraceCmdFreeze_kept {ql : List Instr} {m : Master} {s : State} (h1 : s.Kept ql) : Out.Kept ql (execTraceCmdFreeze m s) := by
  unfold execTraceCmdFreeze
  repeat' first
    | with_reducible assumption
    | (with_reducible refine State.write_kept ?_ (fun _ _ => ?_))
    | (with_reducible refine writeTraceCmd_kept ?_)

theorem partsImage_wf {s : State} {slot : Nat} (h : s.hbm.mem.wf = true) : (s.partsImage slot).wf = true := by
  unfold State.partsImage
  refine mwrite_wf (mlay_wf (foldl_wf (foldl_wf (mclear_wf (mclear_wf h _ _) _ _) ?_) ?_) _ _) _ _
  · intro m b hm
    exact mlay_wf (mlay_wf hm _ _) _ _
  · intro m b hm
    exact mwrite_wf hm _ _

theorem State.saveParts_kept {ql : List Instr} {s : State} {slot : Nat} (h1 : s.Kept ql) : State.Kept ql (State.saveParts s slot) := by
  unfold State.saveParts
  repeat' first
    | (extract_lets +onlyGivenNames x; clear_value (hx : x = _); replace hx : (_ : Hbm) = _ := hx; subst hx)
    | (extract_lets +onlyGivenNames x; clear_value (hx : x = _); clear hx)
    | (with_reducible exact mk_all_kept (by assumption) id id id (fun w => partsImage_wf w) id id id)

theorem State.restoreParts_kept {ql : List Instr} {s : State} {slot : Nat} (h1 : s.Kept ql) : State.Kept ql (State.restoreParts s slot) := by
  unfold State.restoreParts
  repeat' first
    | with_reducible assumption
    | (extract_lets +onlyGivenNames x; clear_value (hx : x = _); revert x; refine let_kept (ql := ql) ?_ fun x _ => ?_)
    | (extract_lets +onlyGivenNames x; clear_value (hx : x = _); replace hx : (_ : Hub) = _ := hx; subst hx)
    | (extract_lets +onlyGivenNames x; clear_value (hx : x = _); clear hx)
    | (with_reducible refine State.setObj_kept ?_)
    | (with_reducible refine State.setCl_kept ?_)
    | (with_reducible refine foldl_kept (fun _ _ _ => ?_) ?_)
    | (with_reducible refine ite_kept (fun _ => ?_) (fun _ => ?_))
    | ((with_reducible refine mk_all_kept (by assumption) ?_ ?_ ?_ ?_ ?_ ?_ ?_) <;> exact id)

end Sys2Proof.Machine
end

