-- ==== Sys2Proof/Laws/KeptExchange.lean ====
section
/-!
SUPPORT. Every operation of Machine/Exchange.lean leaves the queue of waiting commands as it is, the stores canonical and what waits within bounds.
-/

set_option linter.tactic.unusedName false
set_option linter.unusedVariables false

namespace Sys2Proof.Machine

theorem State.drawFor_kept {ql : List Instr} {s : State} {l : List (Nat × Bool)} (h1 : s.Kept ql) : State.Kept ql (State.drawFor s l) := by
  unfold State.drawFor
  repeat' first
    | with_reducible assumption
    | (with_reducible refine ite_kept (fun _ => ?_) (fun _ => ?_))
    | (with_reducible exact mk_kept (by assumption))

theorem State.passWords_kept {ql : List Instr} {s : State} (h1 : s.Kept ql) : State.Kept ql (State.passWords s) := by
  unfold State.passWords
  repeat' first
    | (extract_lets +onlyGivenNames x; clear_value (hx : x = _); revert x; refine let_kept (ql := ql) ?_ fun x _ => ?_)
    | (extract_lets +onlyGivenNames x; clear_value (hx : x = _); clear hx)
    | (with_reducible refine State.drawFor_kept ?_)
    | (with_reducible exact mk_kept (by assumption))

theorem State.passFlags_kept {ql : List Instr} {s : State} (h1 : s.Kept ql) : State.Kept ql (State.passFlags s) := by
  unfold State.passFlags
  repeat' first
    | (extract_lets +onlyGivenNames x; clear_value (hx : x = _); replace hx : (_ : Hub) = _ := hx; subst hx)
    | (extract_lets +onlyGivenNames x; clear_value (hx : x = _); clear hx)
    | ((with_reducible refine mk_all_kept (by assumption) ?_ ?_ ?_ ?_ ?_ ?_ ?_) <;> exact id)

theorem State.passAsserts_kept {ql : List Instr} {s : State} (h1 : s.Kept ql) : State.Kept ql (State.passAsserts s) := by
  unfold State.passAsserts
  repeat' first
    | with_reducible assumption
    | (extract_lets +onlyGivenNames x; clear_value (hx : x = _); revert x; refine let_kept (ql := ql) ?_ fun x _ => ?_)
    | (extract_lets +onlyGivenNames x; clear_value (hx : x = _); clear hx)
    | (with_reducible refine State.raiseFault_kept ?_)
    | (with_reducible refine State.raiseStop_kept ?_)
    | split

theorem State.stateCommit_kept {ql : List Instr} {s : State} (h1 : s.Kept ql) : State.Kept ql (State.stateCommit s) := by
  unfold State.stateCommit
  repeat' first
    | with_reducible assumption
    | (extract_lets +onlyGivenNames x; clear_value (hx : x = _); clear hx)
    | (with_reducible refine State.setCl_kept ?_)
    | (with_reducible refine foldl_kept (fun _ _ _ => ?_) ?_)

theorem State.ratioEnables_kept {ql : List Instr} {s : State} (h1 : s.Kept ql) : State.Kept ql (State.ratioEnables s) := by
  unfold State.ratioEnables
  repeat' first
    | with_reducible assumption
    | (extract_lets +onlyGivenNames x; clear_value (hx : x = _); clear hx)
    | (with_reducible refine foldl_kept (fun _ _ _ => ?_) ?_)
    | (with_reducible refine ite_kept (fun _ => ?_) (fun _ => ?_))
    | (with_reducible exact mk_kept (by assumption))

theorem State.paceEnables_kept {ql : List Instr} {s : State} (h1 : s.Kept ql) : State.Kept ql (State.paceEnables s) := by
  unfold State.paceEnables
  repeat' first
    | with_reducible assumption
    | (extract_lets +onlyGivenNames x; clear_value (hx : x = _); replace hx : (_ : Hub) = _ := hx; subst hx)
    | (extract_lets +onlyGivenNames x; clear_value (hx : x = _); clear hx)
    | (with_reducible refine foldl_kept (fun _ _ _ => ?_) ?_)
    | (with_reducible refine ite_kept (fun _ => ?_) (fun _ => ?_))
    | ((with_reducible refine mk_all_kept (by assumption) ?_ ?_ ?_ ?_ ?_ ?_ ?_) <;> exact id)

theorem State.takeXports_kept {ql : List Instr} {s : State} (h1 : s.Kept ql) : State.Kept ql (State.takeXports s) := by
  unfold State.takeXports
  repeat' first
    | with_reducible assumption
    | (extract_lets +onlyGivenNames x; clear_value (hx : x = _); revert x; refine let_kept (ql := ql) ?_ fun x _ => ?_)
    | (extract_lets +onlyGivenNames x; clear_value (hx : x = _); replace hx : (_ : Hub) = _ := hx; subst hx)
    | (extract_lets +onlyGivenNames x; clear_value (hx : x = _); clear hx)
    | (with_reducible refine State.bump_kept ?_)
    | (with_reducible exact mk_kept (by assumption))
    | ((with_reducible refine mk_all_kept (by assumption) ?_ ?_ ?_ ?_ ?_ ?_ ?_) <;> exact id)

theorem State.takeLanes_kept {ql : List Instr} {s : State} {b : Memory} (h1 : s.Kept ql) : State.Kept ql (State.takeLanes s b) := by
  unfold State.takeLanes
  repeat' first
    | (extract_lets +onlyGivenNames x; clear_value (hx : x = _); clear hx)
    | (with_reducible exact mk_kept (by assumption))

theorem State.takeLive_kept {ql : List Instr} {s : State} {b : Memory} (h1 : s.Kept ql) : State.Kept ql (State.takeLive s b) := by
  unfold State.takeLive
  repeat' first
    | with_reducible assumption
    | (extract_lets +onlyGivenNames x; clear_value (hx : x = _); revert x; refine let_kept (ql := ql) ?_ fun x _ => ?_)
    | (with_reducible refine State.capture_kept ?_)
    | (with_reducible refine State.tieDecide_kept ?_)
    | (with_reducible refine State.paceEnables_kept ?_)
    | (with_reducible refine State.takeXports_kept ?_)
    | (with_reducible refine State.takeLanes_kept ?_)
    | (with_reducible refine foldl_kept (fun _ _ _ => ?_) ?_)

theorem State.takeReplay_kept {ql : List Instr} {s : State} (h1 : s.Kept ql) : State.Kept ql (State.takeReplay s) := by
  unfold State.takeReplay
  repeat' first
    | with_reducible assumption
    | (extract_lets +onlyGivenNames x; clear_value (hx : x = _); clear hx)
    | split
    | (with_reducible exact mk_kept (by assumption))

theorem State.logInputs_kept {ql : List Instr} {s : State} {fin : Memory} (h1 : s.Kept ql) : State.Kept ql (State.logInputs s fin) := by
  unfold State.logInputs
  repeat' first
    | with_reducible assumption
    | (extract_lets +onlyGivenNames x; clear_value (hx : x = _); clear hx)
    | (with_reducible refine State.replayAppend_kept ?_)
    | (with_reducible refine ite_kept (fun _ => ?_) (fun _ => ?_))

theorem State.closeWindow_kept {ql : List Instr} {s : State} (h1 : s.Kept ql) : State.Kept ql (State.closeWindow s) := by
  unfold State.closeWindow
  repeat' first
    | (extract_lets +onlyGivenNames x; clear_value (hx : x = _); replace hx : (_ : Run) = _ := hx; subst hx)
    | split
    | ((with_reducible refine mk_all_kept (by assumption) ?_ ?_ ?_ ?_ ?_ ?_ ?_) <;> exact id)

theorem State.exchangeLive_kept {ql : List Instr} {s : State} {b : Memory} (h1 : s.Kept ql) : State.Kept ql (State.exchangeLive s b) := by
  unfold State.exchangeLive
  repeat' first
    | with_reducible assumption
    | (extract_lets +onlyGivenNames x; clear_value (hx : x = _); revert x; refine let_kept (ql := ql) ?_ fun x _ => ?_)
    | (extract_lets +onlyGivenNames x; clear_value (hx : x = _); clear hx)
    | (with_reducible refine State.setObj_kept ?_)
    | (with_reducible refine State.trigEvaluate_kept ?_)
    | (with_reducible refine State.traceBuild_kept ?_)
    | (with_reducible refine State.passFlags_kept ?_)
    | (with_reducible refine State.passAsserts_kept ?_)
    | (with_reducible refine State.takeLive_kept ?_)
    | (with_reducible refine State.logInputs_kept ?_)
    | (with_reducible refine ite_kept (fun _ => ?_) (fun _ => ?_))

theorem execExchangeInstant_kept {ql : List Instr} {fin : BitVec 8192} {s : State} (h1 : s.Kept ql) : Out.Kept ql (execExchangeInstant fin s) := by
  unfold execExchangeInstant
  repeat' first
    | with_reducible assumption
    | (extract_lets +onlyGivenNames x; clear_value (hx : x = _); revert x; refine let_kept (ql := ql) ?_ fun x _ => ?_)
    | (extract_lets +onlyGivenNames x; clear_value (hx : x = _); clear hx)
    | (with_reducible refine State.recoveryFails_kept ?_)
    | (with_reducible refine State.hbmBad_kept ?_)
    | (with_reducible refine State.passWords_kept ?_)
    | (with_reducible refine State.stateCommit_kept ?_)
    | (with_reducible refine State.ratioEnables_kept ?_)
    | (with_reducible refine State.takeReplay_kept ?_)
    | (with_reducible refine State.closeWindow_kept ?_)
    | (with_reducible refine State.exchangeLive_kept ?_)
    | (with_reducible refine Out.next_kept ?_)
    | (with_reducible refine ite_kept (fun _ => ?_) (fun _ => ?_))
    | (with_reducible refine ite_out_kept (fun _ => ?_) (fun _ => ?_))
    | split
    | (with_reducible exact mk_kept (by assumption))

theorem State.latchXports_kept {ql : List Instr} {s : State} (h1 : s.Kept ql) : State.Kept ql (State.latchXports s) := by
  unfold State.latchXports
  repeat' first
    | with_reducible assumption
    | (extract_lets +onlyGivenNames x; clear_value (hx : x = _); revert x; refine let_kept (ql := ql) ?_ fun x _ => ?_)
    | (extract_lets +onlyGivenNames x; clear_value (hx : x = _); replace hx : (_ : Hub) = _ := hx; subst hx)
    | (extract_lets +onlyGivenNames x; clear_value (hx : x = _); clear hx)
    | (with_reducible refine State.setXport_kept ?_)
    | (with_reducible refine State.drawFor_kept ?_)
    | (with_reducible refine foldl_kept (fun _ _ _ => ?_) ?_)
    | split
    | ((with_reducible refine mk_all_kept (by assumption) ?_ ?_ ?_ ?_ ?_ ?_ ?_) <;> exact id)

theorem State.latchFout_kept {ql : List Instr} {s : State} (h1 : s.Kept ql) : State.Kept ql (State.latchFout s) := by
  unfold State.latchFout
  repeat' first
    | with_reducible assumption
    | (extract_lets +onlyGivenNames x; clear_value (hx : x = _); revert x; refine let_kept (ql := ql) ?_ fun x _ => ?_)
    | (extract_lets +onlyGivenNames x; clear_value (hx : x = _); clear hx)
    | (with_reducible refine State.takeOutputs_kept ?_)
    | (with_reducible refine State.drawFor_kept ?_)
    | (with_reducible refine foldl_kept (fun _ _ _ => ?_) ?_)
    | (with_reducible refine ite_kept (fun _ => ?_) (fun _ => ?_))
    | (with_reducible exact mk_kept (by assumption))

theorem State.outLatch_kept {ql : List Instr} {s : State} (h1 : s.Kept ql) : State.Kept ql (State.outLatch s) := by
  unfold State.outLatch
  repeat' first
    | with_reducible assumption
    | (extract_lets +onlyGivenNames x; clear_value (hx : x = _); revert x; refine let_kept (ql := ql) ?_ fun x _ => ?_)
    | (extract_lets +onlyGivenNames x; clear_value (hx : x = _); clear hx)
    | (with_reducible refine State.latchXports_kept ?_)
    | (with_reducible refine State.latchFout_kept ?_)
    | (with_reducible refine ite_kept (fun _ => ?_) (fun _ => ?_))
    | (with_reducible exact mk_kept (by assumption))

theorem execXportOutLatch_kept {ql : List Instr} {s : State} (h1 : s.Kept ql) : Out.Kept ql (execXportOutLatch s) := by
  unfold execXportOutLatch
  repeat' first
    | with_reducible assumption
    | (with_reducible refine State.outLatch_kept ?_)
    | (with_reducible refine Out.next_kept ?_)
    | (with_reducible refine ite_out_kept (fun _ => ?_) (fun _ => ?_))

end Sys2Proof.Machine
end

