-- ==== Sys2Proof/Laws/KeptIngress.lean ====
section
/-!
SUPPORT. Every operation of Machine/Ingress.lean leaves the queue of waiting commands as it is, the stores canonical and what waits within bounds.
-/

set_option linter.tactic.unusedName false
set_option linter.unusedVariables false

namespace Sys2Proof.Machine

theorem State.forwardSlot_kept {ql : List Instr} {s : State} {l tag bits dc : Nat} (h1 : s.Kept ql) : State.Kept ql (State.forwardSlot s l tag bits dc) := by
  unfold State.forwardSlot
  repeat' first
    | with_reducible assumption
    | (extract_lets +onlyGivenNames x; clear_value (hx : x = _); revert x; refine let_kept (ql := ql) ?_ fun x _ => ?_)
    | (with_reducible refine State.bump_kept ?_)
    | (with_reducible refine State.astray_kept ?_)
    | (with_reducible refine State.putFlit_kept ?_)
    | (with_reducible refine State.seamEgress_kept ?_)
    | (with_reducible refine ite_kept (fun _ => ?_) (fun _ => ?_))
    | split

theorem State.slotIngress_kept {ql : List Instr} {s : State} {l tag epoch bits : Nat} (h1 : s.Kept ql) : State.Kept ql (State.slotIngress s l tag epoch bits) := by
  unfold State.slotIngress
  repeat' first
    | with_reducible assumption
    | (extract_lets +onlyGivenNames x; clear_value (hx : x = _); revert x; refine let_kept (ql := ql) ?_ fun x _ => ?_)
    | (extract_lets +onlyGivenNames x; clear_value (hx : x = _); clear hx)
    | (with_reducible refine State.bump_kept ?_)
    | (with_reducible refine State.setLink_kept ?_)
    | (with_reducible refine State.forwardSlot_kept ?_)
    | (with_reducible refine ite_kept (fun _ => ?_) (fun _ => ?_))
    | split

theorem State.releaseEarly_kept {ql : List Instr} {s : State} (h1 : s.Kept ql) : State.Kept ql (State.releaseEarly s) := by
  unfold State.releaseEarly
  repeat' first
    | with_reducible assumption
    | (extract_lets +onlyGivenNames x; clear_value (hx : x = _); clear hx)
    | (with_reducible refine State.setLink_kept ?_)
    | (with_reducible refine State.forwardSlot_kept ?_)
    | (with_reducible refine foldl_kept (fun _ _ _ => ?_) ?_)
    | (with_reducible refine ite_kept (fun _ => ?_) (fun _ => ?_))

theorem State.doneIngress_kept {ql : List Instr} {s : State} {l dc : Nat} (h1 : s.Kept ql) : State.Kept ql (State.doneIngress s l dc) := by
  unfold State.doneIngress
  repeat' first
    | with_reducible assumption
    | (extract_lets +onlyGivenNames x; clear_value (hx : x = _); clear hx)
    | (with_reducible refine ite_kept (fun _ => ?_) (fun _ => ?_))
    | (with_reducible exact mk_kept (by assumption))

theorem State.seamDiscard_kept {ql : List Instr} {s : State} {k : Nat} (h1 : s.Kept ql) : State.Kept ql (State.seamDiscard s k) := by
  unfold State.seamDiscard
  repeat' first
    | with_reducible assumption
    | (extract_lets +onlyGivenNames x; clear_value (hx : x = _); revert x; refine let_kept (ql := ql) ?_ fun x _ => ?_)
    | (extract_lets +onlyGivenNames x; clear_value (hx : x = _); clear hx)
    | (with_reducible refine State.onLinks_kept ?_)
    | (with_reducible exact mk_kept (by assumption))

theorem State.discardFrom_kept {ql : List Instr} {s : State} {k : Nat} (h1 : s.Kept ql) : State.Kept ql (State.discardFrom s k) := by
  unfold State.discardFrom
  repeat' first
    | with_reducible assumption
    | (extract_lets +onlyGivenNames x; clear_value (hx : x = _); revert x; refine let_kept (ql := ql) ?_ fun x _ => ?_)
    | (extract_lets +onlyGivenNames x; clear_value (hx : x = _); replace hx : (_ : Run) = _ := hx; subst hx)
    | (with_reducible refine State.seamDiscard_kept ?_)
    | ((with_reducible refine mk_all_kept (by assumption) ?_ ?_ ?_ ?_ ?_ ?_ ?_) <;> exact id)

end Sys2Proof.Machine
end

