-- ==== Sys2Proof/Laws/KeptNode.lean ====
section
/-!
SUPPORT. Every operation of Machine/Node.lean leaves the queue of waiting commands as it is, the stores canonical and what waits within bounds.
-/

set_option linter.tactic.unusedName false
set_option linter.unusedVariables false

namespace Sys2Proof.Machine

theorem State.nodeRead_kept {ql : List Instr} {s : State} {cid a n : Nat} (h1 : s.Kept ql) : Kept1 ql (State.nodeRead s cid a n) := by
  unfold State.nodeRead
  repeat' first
    | with_reducible assumption
    | (extract_lets +onlyGivenNames x; clear_value (hx : x = _); clear hx)
    | (with_reducible refine State.setCl_kept ?_)
    | (with_reducible refine ite1_kept (fun _ => ?_) (fun _ => ?_))
    | split
    | (with_reducible refine mk1_kept ?_)

theorem State.voidSnapshots_kept {ql : List Instr} {s : State} (h1 : s.Kept ql) : State.Kept ql (State.voidSnapshots s) := by
  unfold State.voidSnapshots
  repeat' first
    | with_reducible assumption
    | (with_reducible refine State.setObj_kept ?_)
    | (with_reducible refine foldl_kept (fun _ _ _ => ?_) ?_)
    | (with_reducible refine ite_kept (fun _ => ?_) (fun _ => ?_))

theorem State.emptyOvb_kept {ql : List Instr} {s : State} (h1 : s.Kept ql) : State.Kept ql (State.emptyOvb s) := by
  unfold State.emptyOvb
  repeat' first
    | (extract_lets +onlyGivenNames x; clear_value (hx : x = _); replace hx : (_ : Hbm) = _ := hx; subst hx)
    | (with_reducible refine State.setObjs_kept ?_)
    | ((with_reducible refine mk_all_kept (by assumption) ?_ ?_ ?_ ?_ ?_ ?_ ?_) <;> exact id)

theorem State.memoryWritten_kept {ql : List Instr} {s : State} (h1 : s.Kept ql) : State.Kept ql (State.memoryWritten s) := by
  unfold State.memoryWritten
  repeat' first
    | with_reducible assumption
    | (with_reducible refine State.voidSnapshots_kept ?_)
    | (with_reducible refine State.emptyOvb_kept ?_)

theorem State.nodeWrite_kept {ql : List Instr} {s : State} {cid a : Nat} {data : List Byte} (h1 : s.Kept ql) : Kept1 ql (State.nodeWrite s cid a data) := by
  unfold State.nodeWrite
  repeat' first
    | with_reducible assumption
    | (extract_lets +onlyGivenNames x; clear_value (hx : x = _); revert x; refine let_kept (ql := ql) ?_ fun x _ => ?_)
    | (extract_lets +onlyGivenNames x; clear_value (hx : x = _); clear hx)
    | (with_reducible refine State.setCl_kept ?_)
    | (with_reducible refine State.memoryWritten_kept ?_)
    | (with_reducible refine ite1_kept (fun _ => ?_) (fun _ => ?_))
    | split
    | (with_reducible refine mk1_kept ?_)

end Sys2Proof.Machine
end

