-- ==== Sys2Proof/Laws/KeptPackets.lean ====
section
/-!
SUPPORT. Every operation of Machine/Packets.lean leaves the queue of waiting commands as it is, the stores canonical and what waits within bounds.
-/

set_option linter.tactic.unusedName false
set_option linter.unusedVariables false

namespace Sys2Proof.Machine

theorem execQuarryRequestSend_kept {ql : List Instr} {die : Die} {pc : Pc} {s : State} (h1 : s.Kept ql) : Out.Kept ql (execQuarryRequestSend die pc s) := by
  unfold execQuarryRequestSend
  repeat' first
    | with_reducible assumption
    | (extract_lets +onlyGivenNames x; clear_value (hx : x = _); clear hx)
    | (with_reducible refine State.bump_kept ?_)
    | (with_reducible refine State.setCl_kept ?_)
    | (with_reducible refine State.inject_kept ?_)
    | (with_reducible refine Out.next_kept ?_)
    | (with_reducible refine ite_out_kept (fun _ => ?_) (fun _ => ?_))
    | (with_reducible refine takeTag_kept (by assumption) ?_)
    | split

theorem State.serveQuarry_kept {ql : List Instr} {s : State} {p : Packet} {check : WordCheck} (h1 : s.Kept ql) : State.Kept ql (State.serveQuarry s p check) := by
  unfold State.serveQuarry
  repeat' first
    | with_reducible assumption
    | (extract_lets +onlyGivenNames x; clear_value (hx : x = _); revert x; refine let_kept (ql := ql) ?_ fun x _ => ?_)
    | (extract_lets +onlyGivenNames x; clear_value (hx : x = _); clear hx)
    | (with_reducible refine State.bump_kept ?_)
    | (with_reducible refine State.hbmBad_kept ?_)
    | (with_reducible refine State.hbmWrite_kept ?_)
    | (with_reducible refine State.ovbAppend_kept ?_)
    | (with_reducible refine State.astray_kept ?_)
    | (with_reducible refine State.inject_kept ?_)
    | (with_reducible refine ite_kept (fun _ => ?_) (fun _ => ?_))

theorem execQuarryServe_kept {ql : List Instr} {stack : Fin 4} {i : Nat} {check : WordCheck} {s : State} (h1 : s.Kept ql) : Out.Kept ql (execQuarryServe stack i check s) := by
  unfold execQuarryServe
  repeat' first
    | with_reducible assumption
    | (extract_lets +onlyGivenNames x; clear_value (hx : x = _); revert x; refine let_kept (ql := ql) ?_ fun x _ => ?_)
    | (extract_lets +onlyGivenNames x; clear_value (hx : x = _); replace hx : (_ : Hbm) = _ := hx; subst hx)
    | (extract_lets +onlyGivenNames x; clear_value (hx : x = _); clear hx)
    | (with_reducible refine State.serveQuarry_kept ?_)
    | (with_reducible refine Out.next_kept ?_)
    | (with_reducible refine ite_kept (fun _ => ?_) (fun _ => ?_))
    | (with_reducible refine ite_out_kept (fun _ => ?_) (fun _ => ?_))
    | split
    | ((with_reducible refine mk_all_kept (by assumption) ?_ ?_ ?_ ?_ ?_ ?_ ?_) <;> exact id)

theorem execBankRefresh_kept {ql : List Instr} {stack : Fin 4} {bank : Nat} {begins : Bool} {s : State} (h1 : s.Kept ql) : Out.Kept ql (execBankRefresh stack bank begins s) := by
  unfold execBankRefresh
  repeat' first
    | with_reducible assumption
    | (extract_lets +onlyGivenNames x; clear_value (hx : x = _); replace hx : (_ : Hbm) = _ := hx; subst hx)
    | (extract_lets +onlyGivenNames x; clear_value (hx : x = _); clear hx)
    | (with_reducible refine State.bump_kept ?_)
    | (with_reducible refine Out.next_kept ?_)
    | (with_reducible refine ite_out_kept (fun _ => ?_) (fun _ => ?_))
    | split
    | ((with_reducible refine mk_all_kept (by assumption) ?_ ?_ ?_ ?_ ?_ ?_ ?_) <;> exact id)

theorem execHbmPatrolScrub_kept {ql : List Instr} {addr : BitVec 37} {check : WordCheck} {passDone : Bool} {s : State} (h1 : s.Kept ql) : Out.Kept ql (execHbmPatrolScrub addr check passDone s) := by
  unfold execHbmPatrolScrub
  repeat' first
    | with_reducible assumption
    | (extract_lets +onlyGivenNames x; clear_value (hx : x = _); revert x; refine let_kept (ql := ql) ?_ fun x _ => ?_)
    | (with_reducible refine State.bump_kept ?_)
    | (with_reducible refine State.hbmBad_kept ?_)
    | (with_reducible refine Out.next_kept ?_)
    | (with_reducible refine ite_kept (fun _ => ?_) (fun _ => ?_))
    | (with_reducible refine ite_out_kept (fun _ => ?_) (fun _ => ?_))
    | split

theorem State.answerNode_kept {ql : List Instr} {s : State} {cid : Nat} {p : Packet} (h1 : s.Kept ql) : State.Kept ql (State.answerNode s cid p) := by
  unfold State.answerNode
  repeat' first
    | with_reducible assumption
    | (extract_lets +onlyGivenNames x; clear_value (hx : x = _); revert x; refine let1_kept (ql := ql) ?_ fun x _ => ?_)
    | (with_reducible refine State.inject_kept ?_)
    | (with_reducible refine State.nodeRead_kept ?_)
    | (with_reducible refine State.nodeWrite_kept ?_)
    | (with_reducible refine ite_kept (fun _ => ?_) (fun _ => ?_))
    | (with_reducible refine fst_kept ?_)

theorem State.holdAtPort_kept {ql : List Instr} {s : State} {cid : Nat} {p : Packet} (h1 : s.Kept ql) : State.Kept ql (State.holdAtPort s cid p) := by
  unfold State.holdAtPort
  repeat' first
    | (extract_lets +onlyGivenNames x; clear_value (hx : x = _); clear hx)
    | (with_reducible exact mk_kept (by assumption))

theorem State.atPort_kept {ql : List Instr} {s : State} {cid : Nat} {p : Packet} (h1 : s.Kept ql) : State.Kept ql (State.atPort s cid p) := by
  unfold State.atPort
  repeat' first
    | with_reducible assumption
    | (extract_lets +onlyGivenNames x; clear_value (hx : x = _); revert x; refine let_kept (ql := ql) ?_ fun x _ => ?_)
    | (with_reducible refine State.bump_kept ?_)
    | (with_reducible refine State.setPort_kept ?_)
    | (with_reducible refine State.portSends_kept ?_)
    | (with_reducible refine State.holdAtPort_kept ?_)
    | (with_reducible refine ite_kept (fun _ => ?_) (fun _ => ?_))
    | split

theorem State.portWakes_kept {ql : List Instr} {s : State} {cid : Nat} (h1 : s.Kept ql) : State.Kept ql (State.portWakes s cid) := by
  unfold State.portWakes
  repeat' first
    | with_reducible assumption
    | (extract_lets +onlyGivenNames x; clear_value (hx : x = _); revert x; refine let_kept (ql := ql) ?_ fun x _ => ?_)
    | (extract_lets +onlyGivenNames x; clear_value (hx : x = _); clear hx)
    | (with_reducible refine State.setPort_kept ?_)
    | (with_reducible exact mk_kept (by assumption))

theorem State.hbmStore_kept {ql : List Instr} {s : State} {a : Nat} {data : List Byte} (h1 : s.Kept ql) : State.Kept ql (State.hbmStore s a data) := by
  unfold State.hbmStore
  repeat' first
    | with_reducible assumption
    | (extract_lets +onlyGivenNames x; clear_value (hx : x = _); revert x; refine let_kept (ql := ql) ?_ fun x _ => ?_)
    | (extract_lets +onlyGivenNames x; clear_value (hx : x = _); clear hx)
    | (with_reducible refine State.hbmWrite_kept ?_)
    | (with_reducible refine State.hbmOpen_kept ?_)
    | (with_reducible refine State.astray_kept ?_)
    | (with_reducible refine State.noteWrite_kept ?_)
    | (with_reducible refine State.memoryWritten_kept ?_)
    | (with_reducible refine ite_kept (fun _ => ?_) (fun _ => ?_))

theorem State.answerHbm_kept {ql : List Instr} {s : State} {p : Packet} {check : WordCheck} (h1 : s.Kept ql) : State.Kept ql (State.answerHbm s p check) := by
  unfold State.answerHbm
  repeat' first
    | with_reducible assumption
    | (extract_lets +onlyGivenNames x; clear_value (hx : x = _); revert x; refine let_kept (ql := ql) ?_ fun x _ => ?_)
    | (extract_lets +onlyGivenNames x; clear_value (hx : x = _); clear hx)
    | (with_reducible refine State.bump_kept ?_)
    | (with_reducible refine State.hbmBad_kept ?_)
    | (with_reducible refine State.inject_kept ?_)
    | (with_reducible refine State.hbmStore_kept ?_)
    | (with_reducible refine ite_kept (fun _ => ?_) (fun _ => ?_))
    | split

theorem State.answerVector_kept {ql : List Instr} {s : State} {p : Packet} (h1 : s.Kept ql) : State.Kept ql (State.answerVector s p) := by
  unfold State.answerVector
  repeat' first
    | with_reducible assumption
    | (with_reducible refine State.msix_kept ?_)
    | (with_reducible refine State.inject_kept ?_)
    | (with_reducible refine ite_kept (fun _ => ?_) (fun _ => ?_))

theorem State.atHub_kept {ql : List Instr} {s : State} {p : Packet} {check : WordCheck} (h1 : s.Kept ql) : State.Kept ql (State.atHub s p check) := by
  unfold State.atHub
  repeat' first
    | with_reducible assumption
    | (with_reducible refine State.inject_kept ?_)
    | (with_reducible refine State.answerHbm_kept ?_)
    | (with_reducible refine State.answerVector_kept ?_)
    | (with_reducible refine ite_kept (fun _ => ?_) (fun _ => ?_))

theorem State.outward_kept {ql : List Instr} {s : State} {p : Packet} (h1 : s.Kept ql) : State.Kept ql (State.outward s p) := by
  unfold State.outward
  repeat' first
    | with_reducible assumption
    | (extract_lets +onlyGivenNames x; clear_value (hx : x = _); clear hx)
    | (with_reducible refine State.setLink_kept ?_)
    | (with_reducible refine State.inject_kept ?_)
    | (with_reducible refine ite_kept (fun _ => ?_) (fun _ => ?_))
    | split

theorem State.requestArrives_kept {ql : List Instr} {s : State} {p : Packet} {check : WordCheck} (h1 : s.Kept ql) : State.Kept ql (State.requestArrives s p check) := by
  unfold State.requestArrives
  repeat' first
    | with_reducible assumption
    | (with_reducible refine State.inject_kept ?_)
    | (with_reducible refine State.answerNode_kept ?_)
    | (with_reducible refine State.atPort_kept ?_)
    | (with_reducible refine State.atHub_kept ?_)
    | (with_reducible refine ite_kept (fun _ => ?_) (fun _ => ?_))

theorem execPacketRequestArrive_kept {ql : List Instr} {i : Nat} {check : WordCheck} {s : State} (h1 : s.Kept ql) : Out.Kept ql (execPacketRequestArrive i check s) := by
  unfold execPacketRequestArrive
  repeat' first
    | with_reducible assumption
    | (extract_lets +onlyGivenNames x; clear_value (hx : x = _); revert x; refine let_kept (ql := ql) ?_ fun x _ => ?_)
    | (extract_lets +onlyGivenNames x; clear_value (hx : x = _); clear hx)
    | (with_reducible refine State.outward_kept ?_)
    | (with_reducible refine State.requestArrives_kept ?_)
    | (with_reducible refine Out.next_kept ?_)
    | (with_reducible refine ite_out_kept (fun _ => ?_) (fun _ => ?_))
    | split
    | (with_reducible exact mk_kept (by assumption))

theorem State.quarryDone_kept {ql : List Instr} {s : State} {cid : Nat} {r : QuarryReq} {status value : Nat} (h1 : s.Kept ql) : State.Kept ql (State.quarryDone s cid r status value) := by
  unfold State.quarryDone
  repeat' first
    | with_reducible assumption
    | (extract_lets +onlyGivenNames x; clear_value (hx : x = _); clear hx)
    | (with_reducible refine State.setCl_kept ?_)
    | (with_reducible refine State.raiseFault_kept ?_)
    | (with_reducible refine ite_kept (fun _ => ?_) (fun _ => ?_))

theorem State.bar2Error_kept {ql : List Instr} {s : State} {off status : Nat} (h1 : s.Kept ql) : State.Kept ql (State.bar2Error s off status) := by
  unfold State.bar2Error
  repeat' first
    | with_reducible assumption
    | (extract_lets +onlyGivenNames x; clear_value (hx : x = _); revert x; refine let_kept (ql := ql) ?_ fun x _ => ?_)
    | (with_reducible refine State.setObjs_kept ?_)
    | (with_reducible refine State.bump_kept ?_)
    | (with_reducible refine State.msix_kept ?_)
    | (with_reducible refine ite_kept (fun _ => ?_) (fun _ => ?_))

theorem State.tapDone_kept {ql : List Instr} {s : State} {status code : Nat} {data : Option Nat} (h1 : s.Kept ql) : State.Kept ql (State.tapDone s status code data) := by
  unfold State.tapDone
  repeat' first
    | (extract_lets +onlyGivenNames x; clear_value (hx : x = _); clear hx)
    | (with_reducible exact mk_kept (by assumption))

theorem State.readDone_kept {ql : List Instr} {s : State} {tag : Nat} {r : BusRead} (h1 : s.Kept ql) : State.Kept ql (State.readDone s tag r) := by
  unfold State.readDone
  repeat' first
    | with_reducible assumption
    | (extract_lets +onlyGivenNames x; clear_value (hx : x = _); revert x; refine let_kept (ql := ql) ?_ fun x _ => ?_)
    | (extract_lets +onlyGivenNames x; clear_value (hx : x = _); clear hx)
    | (with_reducible refine State.emit_kept ?_)
    | (with_reducible refine State.bar2Error_kept ?_)
    | split
    | (with_reducible exact mk_kept (by assumption))

theorem State.readPiece_kept {ql : List Instr} {s : State} {tag status : Nat} {data : List Byte} (h1 : s.Kept ql) : State.Kept ql (State.readPiece s tag status data) := by
  unfold State.readPiece
  repeat' first
    | with_reducible assumption
    | (extract_lets +onlyGivenNames x; clear_value (hx : x = _); clear hx)
    | (extract_lets +onlyGivenNames x; subst x)
    | (with_reducible refine State.readDone_kept ?_)
    | (with_reducible refine ite_kept (fun _ => ?_) (fun _ => ?_))
    | split
    | (with_reducible exact mk_kept (by assumption))

theorem State.busSend_kept {ql : List Instr} {s : State} {die node addr : Nat} {r : BusReq} (h1 : s.Kept ql) : State.Kept ql (State.busSend s die node addr r) := by
  unfold State.busSend
  repeat' first
    | with_reducible assumption
    | (extract_lets +onlyGivenNames x; clear_value (hx : x = _); clear hx)
    | (with_reducible refine State.hubRequest_kept ?_)
    | (with_reducible refine ite_kept (fun _ => ?_) (fun _ => ?_))

theorem State.busOver_kept {ql : List Instr} {s : State} {r : BusReq} {status : Nat} {data : Option (List Byte)} (h1 : s.Kept ql) : State.Kept ql (State.busOver s r status data) := by
  unfold State.busOver
  repeat' first
    | with_reducible assumption
    | (with_reducible refine State.bar2Error_kept ?_)
    | (with_reducible refine State.tapDone_kept ?_)
    | (with_reducible refine State.readPiece_kept ?_)
    | (with_reducible refine ite_kept (fun _ => ?_) (fun _ => ?_))
    | split

theorem State.busAnswer_kept {ql : List Instr} {s : State} {r : BusReq} {p : Packet} (h1 : s.Kept ql) : State.Kept ql (State.busAnswer s r p) := by
  unfold State.busAnswer
  repeat' first
    | with_reducible assumption
    | (extract_lets +onlyGivenNames x; clear_value (hx : x = _); clear hx)
    | (with_reducible refine State.hubRequest_kept ?_)
    | (with_reducible refine State.busOver_kept ?_)
    | (with_reducible refine ite_kept (fun _ => ?_) (fun _ => ?_))

theorem State.orphan_kept {ql : List Instr} {s : State} {f : BusWho → Bool} (h1 : s.Kept ql) : State.Kept ql (State.orphan s f) := by
  unfold State.orphan
  repeat' first
    | (extract_lets +onlyGivenNames x; clear_value (hx : x = _); replace hx : (_ : _ → _) = _ := hx; subst hx; first | dsimp -zeta only | skip)
    | (extract_lets +onlyGivenNames x; clear_value (hx : x = _); replace hx : (_ : Hub) = _ := hx; subst hx)
    | (extract_lets +onlyGivenNames x; clear_value (hx : x = _); clear hx)
    | ((with_reducible refine mk_all_kept (by assumption) ?_ ?_ ?_ ?_ ?_ ?_ ?_) <;> exact id)

theorem State.completeTag_kept {ql : List Instr} {s : State} {tag : Nat} {w : TagOwner} {p : Packet} (h1 : s.Kept ql) : State.Kept ql (State.completeTag s tag w p) := by
  unfold State.completeTag
  repeat' first
    | with_reducible assumption
    | (extract_lets +onlyGivenNames x; clear_value (hx : x = _); revert x; refine let_kept (ql := ql) ?_ fun x _ => ?_)
    | (extract_lets +onlyGivenNames x; clear_value (hx : x = _); clear hx)
    | (with_reducible refine State.freeTagNo_kept ?_)
    | (with_reducible refine State.quarryDone_kept ?_)
    | (with_reducible refine State.busAnswer_kept ?_)
    | split
    | (with_reducible exact mk_kept (by assumption))

theorem State.responseArrives_kept {ql : List Instr} {s : State} {p : Packet} (h1 : s.Kept ql) : State.Kept ql (State.responseArrives s p) := by
  unfold State.responseArrives
  repeat' first
    | with_reducible assumption
    | (extract_lets +onlyGivenNames x; clear_value (hx : x = _); revert x; refine let_kept (ql := ql) ?_ fun x _ => ?_)
    | (with_reducible refine State.sendThreadReqs_kept ?_)
    | (with_reducible refine State.completeTag_kept ?_)
    | (with_reducible refine ite_kept (fun _ => ?_) (fun _ => ?_))
    | split

theorem execPacketResponseArrive_kept {ql : List Instr} {i : Nat} {s : State} (h1 : s.Kept ql) : Out.Kept ql (execPacketResponseArrive i s) := by
  unfold execPacketResponseArrive
  repeat' first
    | with_reducible assumption
    | (extract_lets +onlyGivenNames x; clear_value (hx : x = _); revert x; refine let_kept (ql := ql) ?_ fun x _ => ?_)
    | (extract_lets +onlyGivenNames x; clear_value (hx : x = _); clear hx)
    | (with_reducible refine State.atPort_kept ?_)
    | (with_reducible refine State.outward_kept ?_)
    | (with_reducible refine State.responseArrives_kept ?_)
    | (with_reducible refine Out.next_kept ?_)
    | (with_reducible refine ite_out_kept (fun _ => ?_) (fun _ => ?_))
    | split
    | (with_reducible exact mk_kept (by assumption))

theorem execTagTimeout_kept {ql : List Instr} {tag : Fin 32768} {s : State} (h1 : s.Kept ql) : Out.Kept ql (execTagTimeout tag s) := by
  unfold execTagTimeout
  repeat' first
    | with_reducible assumption
    | (extract_lets +onlyGivenNames x; clear_value (hx : x = _); revert x; refine let_kept (ql := ql) ?_ fun x _ => ?_)
    | (extract_lets +onlyGivenNames x; clear_value (hx : x = _); clear hx)
    | (with_reducible refine State.bump_kept ?_)
    | (with_reducible refine State.nextGen_kept ?_)
    | (with_reducible refine State.sendThreadReqs_kept ?_)
    | (with_reducible refine State.completeTag_kept ?_)
    | (with_reducible refine Out.next_kept ?_)
    | (with_reducible refine ite_out_kept (fun _ => ?_) (fun _ => ?_))
    | split

theorem execQuarryReturn_kept {ql : List Instr} {die : Die} {pc : Pc} {s : State} (h1 : s.Kept ql) : Out.Kept ql (execQuarryReturn die pc s) := by
  unfold execQuarryReturn
  repeat' first
    | with_reducible assumption
    | (extract_lets +onlyGivenNames x; clear_value (hx : x = _); revert x; refine let_kept (ql := ql) ?_ fun x _ => ?_)
    | (extract_lets +onlyGivenNames x; clear_value (hx : x = _); clear hx)
    | (with_reducible refine State.bump_kept ?_)
    | (with_reducible refine State.raise_kept ?_)
    | (with_reducible refine State.setCl_kept ?_)
    | (with_reducible refine State.returnBits_kept ?_)
    | (with_reducible refine Out.next_kept ?_)
    | (with_reducible refine ite_kept (fun _ => ?_) (fun _ => ?_))
    | (with_reducible refine ite_out_kept (fun _ => ?_) (fun _ => ?_))
    | split

theorem execWakeComplete_kept {ql : List Instr} {die : Die} {pc : Pc} {s : State} (h1 : s.Kept ql) : Out.Kept ql (execWakeComplete die pc s) := by
  unfold execWakeComplete
  repeat' first
    | with_reducible assumption
    | (extract_lets +onlyGivenNames x; clear_value (hx : x = _); revert x; refine let_kept (ql := ql) ?_ fun x _ => ?_)
    | (extract_lets +onlyGivenNames x; clear_value (hx : x = _); clear hx)
    | (with_reducible refine State.bump_kept ?_)
    | (with_reducible refine State.setCl_kept ?_)
    | (with_reducible refine State.portWakes_kept ?_)
    | (with_reducible refine Out.next_kept ?_)
    | (with_reducible refine ite_out_kept (fun _ => ?_) (fun _ => ?_))

theorem execWakeLimitExpiry_kept {ql : List Instr} {die : Die} {pc : Pc} {s : State} (h1 : s.Kept ql) : Out.Kept ql (execWakeLimitExpiry die pc s) := by
  unfold execWakeLimitExpiry
  repeat' first
    | with_reducible assumption
    | (extract_lets +onlyGivenNames x; clear_value (hx : x = _); revert x; refine let_kept (ql := ql) ?_ fun x _ => ?_)
    | (extract_lets +onlyGivenNames x; clear_value (hx : x = _); clear hx)
    | (with_reducible refine State.bump_kept ?_)
    | (with_reducible refine State.setPort_kept ?_)
    | (with_reducible refine State.raiseFault_kept ?_)
    | (with_reducible refine State.portSends_kept ?_)
    | (with_reducible refine foldl_kept (fun _ _ _ => ?_) ?_)
    | (with_reducible refine Out.next_kept ?_)
    | (with_reducible refine ite_kept (fun _ => ?_) (fun _ => ?_))
    | (with_reducible refine ite_out_kept (fun _ => ?_) (fun _ => ?_))
    | (with_reducible exact mk_kept (by assumption))

theorem execIdleGate_kept {ql : List Instr} {die : Die} {pc : Pc} {s : State} (h1 : s.Kept ql) : Out.Kept ql (execIdleGate die pc s) := by
  unfold execIdleGate
  repeat' first
    | with_reducible assumption
    | (extract_lets +onlyGivenNames x; clear_value (hx : x = _); clear hx)
    | (with_reducible refine State.setCl_kept ?_)
    | (with_reducible refine State.setPort_kept ?_)
    | (with_reducible refine Out.next_kept ?_)
    | (with_reducible refine ite_out_kept (fun _ => ?_) (fun _ => ?_))

end Sys2Proof.Machine
end

