-- ==== Sys2Proof/Laws/KeptBoundary.lean ====
section
/-!
SUPPORT. Every operation of Machine/Boundary.lean leaves the queue of waiting commands as it is, the stores canonical and what waits within bounds.
-/

set_option linter.tactic.unusedName false
set_option linter.unusedVariables false

namespace Sys2Proof.Machine

theorem State.openDc_kept {ql : List Instr} {s : State} {k enables : Nat} (h1 : s.Kept ql) : State.Kept ql (State.openDc s k enables) := by
  unfold State.openDc
  repeat' first
    | with_reducible assumption
    | (extract_lets +onlyGivenNames x; clear_value (hx : x = _); revert x; refine let_kept (ql := ql) ?_ fun x _ => ?_)
    | (extract_lets +onlyGivenNames x; clear_value (hx : x = _); clear hx)
    | (with_reducible refine State.setObj_kept ?_)
    | (with_reducible refine State.setCl_kept ?_)
    | (with_reducible refine State.onLinks_kept ?_)
    | (with_reducible refine foldl_kept (fun _ _ _ => ?_) ?_)
    | (with_reducible exact mk_kept (by assumption))

theorem State.openNext_kept {ql : List Instr} {s : State} (h1 : s.Kept ql) : State.Kept ql (State.openNext s) := by
  unfold State.openNext
  repeat' first
    | with_reducible assumption
    | (extract_lets +onlyGivenNames x; clear_value (hx : x = _); revert x; refine let_kept (ql := ql) ?_ fun x _ => ?_)
    | (extract_lets +onlyGivenNames x; clear_value (hx : x = _); clear hx)
    | (with_reducible refine State.setObjs_kept ?_)
    | (with_reducible refine State.bump_kept ?_)
    | (with_reducible refine State.raise_kept ?_)
    | (with_reducible refine State.setTie_kept ?_)
    | (with_reducible refine State.releaseEarly_kept ?_)
    | (with_reducible refine State.openDc_kept ?_)
    | (with_reducible refine foldl_kept (fun _ _ _ => ?_) ?_)
    | (with_reducible refine ite_kept (fun _ => ?_) (fun _ => ?_))

theorem State.clearTransit_kept {ql : List Instr} {s : State} {keep : Flit → Bool} (h1 : s.Kept ql) : State.Kept ql (State.clearTransit s keep) := by
  unfold State.clearTransit
  repeat' first
    | with_reducible assumption
    | (extract_lets +onlyGivenNames x; clear_value (hx : x = _); revert x; refine let_kept (ql := ql) ?_ fun x _ => ?_)
    | (extract_lets +onlyGivenNames x; clear_value (hx : x = _); clear hx)
    | (with_reducible refine State.setCl_kept ?_)
    | (with_reducible refine foldl_kept (fun _ _ _ => ?_) ?_)
    | (with_reducible exact mk_kept (by assumption))

theorem State.answered_kept {ql : List Instr} {s : State} {m : Master} {r : Nat} (h1 : s.Kept ql) : State.Kept ql (State.answered s m r) := by
  unfold State.answered
  repeat' first
    | (extract_lets +onlyGivenNames x; clear_value (hx : x = _); replace hx : (_ : Run) = _ := hx; subst hx)
    | (extract_lets +onlyGivenNames x; clear_value (hx : x = _); clear hx)
    | (with_reducible refine State.setObj_kept ?_)
    | ((with_reducible refine mk_all_kept (by assumption) ?_ ?_ ?_ ?_ ?_ ?_ ?_) <;> exact id)

theorem State.fate_kept {ql : List Instr} {s : State} {o : Order} {r : Nat} (h1 : s.Kept ql) : State.Kept ql (State.fate s o r) := by
  unfold State.fate
  repeat' first
    | with_reducible assumption
    | (with_reducible refine State.setObj_kept ?_)
    | (with_reducible refine ite_kept (fun _ => ?_) (fun _ => ?_))

theorem State.supersede_kept {ql : List Instr} {s : State} {l : List Order} {w : Option Order} (h1 : s.Kept ql) : State.Kept ql (State.supersede s l w) := by
  unfold State.supersede
  repeat' first
    | with_reducible assumption
    | (with_reducible refine State.fate_kept ?_)
    | (with_reducible refine foldl_kept (fun _ _ _ => ?_) ?_)

theorem State.beginRestore_kept {ql : List Instr} {s : State} {slot kind : Nat} (h1 : s.Kept ql) : State.Kept ql (State.beginRestore s slot kind) := by
  unfold State.beginRestore
  repeat' first
    | with_reducible assumption
    | (extract_lets +onlyGivenNames x; clear_value (hx : x = _); revert x; refine let_kept (ql := ql) ?_ fun x _ => ?_)
    | (extract_lets +onlyGivenNames x; clear_value (hx : x = _); replace hx : (_ : Run) = _ := hx; subst hx)
    | (with_reducible refine State.setMode_kept ?_)
    | (with_reducible refine State.tiedEnd_kept ?_)
    | (with_reducible refine State.seamDiscard_kept ?_)
    | (with_reducible refine State.clearTransit_kept ?_)
    | (with_reducible refine ite_kept (fun _ => ?_) (fun _ => ?_))
    | ((with_reducible refine mk_all_kept (by assumption) ?_ ?_ ?_ ?_ ?_ ?_ ?_) <;> exact id)

theorem State.startRollback_kept {ql : List Instr} {s : State} (h1 : s.Kept ql) : State.Kept ql (State.startRollback s) := by
  unfold State.startRollback
  repeat' first
    | with_reducible assumption
    | (extract_lets +onlyGivenNames x; clear_value (hx : x = _); revert x; refine let_kept (ql := ql) ?_ fun x _ => ?_)
    | (extract_lets +onlyGivenNames x; clear_value (hx : x = _); replace hx : (_ : Run) = _ := hx; subst hx)
    | (with_reducible refine State.setObj_kept ?_)
    | (with_reducible refine State.recoveryFails_kept ?_)
    | (with_reducible refine State.beginRestore_kept ?_)
    | split
    | ((with_reducible refine mk_all_kept (by assumption) ?_ ?_ ?_ ?_ ?_ ?_ ?_) <;> first | exact id | exact fun _ => h1.held)

theorem State.startRemaps_kept {ql : List Instr} {s : State} (h1 : s.Kept ql) : State.Kept ql (State.startRemaps s) := by
  unfold State.startRemaps
  repeat' first
    | with_reducible assumption
    | (with_reducible refine State.setObj_kept ?_)
    | (with_reducible refine State.startRollback_kept ?_)
    | (with_reducible refine ite_kept (fun _ => ?_) (fun _ => ?_))

theorem State.retryRecovery_kept {ql : List Instr} {s : State} (h1 : s.Kept ql) : State.Kept ql (State.retryRecovery s) := by
  unfold State.retryRecovery
  repeat' first
    | with_reducible assumption
    | (extract_lets +onlyGivenNames x; clear_value (hx : x = _); replace hx : (_ : Faults) = _ := hx; subst hx)
    | (with_reducible refine State.recoveryFails_kept ?_)
    | (with_reducible refine State.startRemaps_kept ?_)
    | (with_reducible refine ite_kept (fun _ => ?_) (fun _ => ?_))
    | ((with_reducible refine mk_all_kept (by assumption) ?_ ?_ ?_ ?_ ?_ ?_ ?_) <;> exact id)

theorem State.afterAbandon_kept {ql : List Instr} {s : State} (h1 : s.Kept ql) : State.Kept ql (State.afterAbandon s) := by
  unfold State.afterAbandon
  repeat' first
    | with_reducible assumption
    | (extract_lets +onlyGivenNames x; clear_value (hx : x = _); replace hx : (_ : Faults) = _ := hx; subst hx)
    | (extract_lets +onlyGivenNames x; clear_value (hx : x = _); clear hx)
    | (extract_lets +onlyGivenNames x; subst x)
    | (with_reducible refine State.setObj_kept ?_)
    | (with_reducible refine State.recoveryFails_kept ?_)
    | (with_reducible refine State.startRemaps_kept ?_)
    | (with_reducible refine State.retryRecovery_kept ?_)
    | (with_reducible refine ite_kept (fun _ => ?_) (fun _ => ?_))
    | ((with_reducible refine mk_all_kept (by assumption) ?_ ?_ ?_ ?_ ?_ ?_ ?_) <;> exact id)

theorem State.finishRecovery_kept {ql : List Instr} {s : State} (h1 : s.Kept ql) : State.Kept ql (State.finishRecovery s) := by
  unfold State.finishRecovery
  repeat' first
    | with_reducible assumption
    | (extract_lets +onlyGivenNames x; clear_value (hx : x = _); revert x; refine let_kept (ql := ql) ?_ fun x _ => ?_)
    | (extract_lets +onlyGivenNames x; clear_value (hx : x = _); replace hx : (_ : _ → _) = _ := hx; subst hx; first | dsimp -zeta only | skip)
    | (extract_lets +onlyGivenNames x; clear_value (hx : x = _); replace hx : (_ : Run) = _ := hx; subst hx)
    | (extract_lets +onlyGivenNames x; clear_value (hx : x = _); replace hx : (_ : Faults) = _ := hx; subst hx)
    | (extract_lets +onlyGivenNames x; clear_value (hx : x = _); clear hx)
    | (with_reducible refine State.setObjs_kept ?_)
    | (with_reducible refine State.bump_kept ?_)
    | (with_reducible refine State.answered_kept ?_)
    | (with_reducible refine ite_kept (fun _ => ?_) (fun _ => ?_))
    | ((with_reducible refine mk_all_kept (by assumption) ?_ ?_ ?_ ?_ ?_ ?_ ?_) <;> exact id)

theorem State.beginCommit_kept {ql : List Instr} {s : State} (h1 : s.Kept ql) : State.Kept ql (State.beginCommit s) := by
  unfold State.beginCommit
  repeat' first
    | with_reducible assumption
    | (extract_lets +onlyGivenNames x; clear_value (hx : x = _); revert x; refine let_kept (ql := ql) ?_ fun x _ => ?_)
    | (extract_lets +onlyGivenNames x; clear_value (hx : x = _); replace hx : (_ : Run) = _ := hx; subst hx)
    | (extract_lets +onlyGivenNames x; clear_value (hx : x = _); clear hx)
    | (with_reducible refine State.setObj_kept ?_)
    | (with_reducible refine State.setObjs_kept ?_)
    | (with_reducible refine State.msix_kept ?_)
    | (with_reducible refine ite_kept (fun _ => ?_) (fun _ => ?_))
    | ((with_reducible refine mk_all_kept (by assumption) ?_ ?_ ?_ ?_ ?_ ?_ ?_) <;> exact id)

theorem State.halt_kept {ql : List Instr} {s : State} {causes : List StopCause} (h1 : s.Kept ql) : State.Kept ql (State.halt s causes) := by
  unfold State.halt
  repeat' first
    | with_reducible assumption
    | (extract_lets +onlyGivenNames x; clear_value (hx : x = _); revert x; refine let_kept (ql := ql) ?_ fun x _ => ?_)
    | (with_reducible refine State.setObjs_kept ?_)
    | (with_reducible refine State.bump_kept ?_)
    | (with_reducible refine State.setMode_kept ?_)
    | (with_reducible refine State.recoveryFails_kept ?_)
    | (with_reducible refine State.tiedEnd_kept ?_)
    | (with_reducible refine State.finishRecovery_kept ?_)
    | (with_reducible refine State.beginCommit_kept ?_)
    | (with_reducible refine ite_kept (fun _ => ?_) (fun _ => ?_))
    | split

theorem State.takeOrder_kept {ql : List Instr} {s : State} {o : Order} (h1 : s.Kept ql) : State.Kept ql (State.takeOrder s o) := by
  unfold State.takeOrder
  repeat' first
    | with_reducible assumption
    | (with_reducible refine State.setObj_kept ?_)
    | (with_reducible refine State.setMode_kept ?_)
    | (with_reducible refine State.tiedStart_kept ?_)
    | (with_reducible refine ite_kept (fun _ => ?_) (fun _ => ?_))
    | split

theorem State.released_kept {ql : List Instr} {s : State} (h1 : s.Kept ql) : State.Kept ql (State.released s) := by
  unfold State.released
  repeat' first
    | (extract_lets +onlyGivenNames x; clear_value (hx : x = _); replace hx : (_ : Run) = _ := hx; subst hx)
    | (with_reducible refine State.setObj_kept ?_)
    | ((with_reducible refine mk_all_kept (by assumption) ?_ ?_ ?_ ?_ ?_ ?_ ?_) <;> exact id)

theorem State.resolveHeld_kept {ql : List Instr} {s : State} {l : List Order} (h1 : s.Kept ql) : State.Kept ql (State.resolveHeld s l) := by
  unfold State.resolveHeld
  repeat' first
    | with_reducible assumption
    | (extract_lets +onlyGivenNames x; clear_value (hx : x = _); revert x; refine let_kept (ql := ql) ?_ fun x _ => ?_)
    | (extract_lets +onlyGivenNames x; clear_value (hx : x = _); clear hx)
    | (with_reducible refine State.tiesOff_kept ?_)
    | (with_reducible refine State.supersede_kept ?_)
    | (with_reducible refine State.takeOrder_kept ?_)
    | (with_reducible refine State.released_kept ?_)
    | (with_reducible refine ite_kept (fun _ => ?_) (fun _ => ?_))
    | split

theorem State.resolveWindow_kept {ql : List Instr} {s : State} {l : List Order} {causes : List StopCause} (h1 : s.Kept ql) : State.Kept ql (State.resolveWindow s l causes) := by
  unfold State.resolveWindow
  repeat' first
    | with_reducible assumption
    | (extract_lets +onlyGivenNames x; clear_value (hx : x = _); revert x; refine let_kept (ql := ql) ?_ fun x _ => ?_)
    | (extract_lets +onlyGivenNames x; clear_value (hx : x = _); clear hx)
    | (with_reducible refine State.supersede_kept ?_)
    | (with_reducible refine State.halt_kept ?_)
    | (with_reducible refine State.takeOrder_kept ?_)
    | (with_reducible refine ite_kept (fun _ => ?_) (fun _ => ?_))
    | split

theorem State.beginSnapshot_kept {ql : List Instr} {s : State} {slot cause : Nat} (h1 : s.Kept ql) : State.Kept ql (State.beginSnapshot s slot cause) := by
  unfold State.beginSnapshot
  repeat' first
    | with_reducible assumption
    | (extract_lets +onlyGivenNames x; clear_value (hx : x = _); revert x; refine let_kept (ql := ql) ?_ fun x _ => ?_)
    | (extract_lets +onlyGivenNames x; clear_value (hx : x = _); replace hx : (_ : Run) = _ := hx; subst hx)
    | (extract_lets +onlyGivenNames x; clear_value (hx : x = _); clear hx)
    | (with_reducible refine State.setObjs_kept ?_)
    | (with_reducible refine State.setMode_kept ?_)
    | (with_reducible refine State.saveParts_kept ?_)
    | ((with_reducible refine mk_all_kept (by assumption) ?_ ?_ ?_ ?_ ?_ ?_ ?_) <;> exact id)

theorem State.snapshotNow_kept {ql : List Instr} {s : State} {cause : Nat} (h1 : s.Kept ql) : State.Kept ql (State.snapshotNow s cause) := by
  unfold State.snapshotNow
  repeat' first
    | with_reducible assumption
    | (with_reducible refine State.setObj_kept ?_)
    | (with_reducible refine State.beginSnapshot_kept ?_)
    | split

theorem State.beginPause_kept {ql : List Instr} {s : State} {p : Pause} (h1 : s.Kept ql) : State.Kept ql (State.beginPause s p) := by
  unfold State.beginPause
  repeat' first
    | with_reducible assumption
    | (with_reducible refine State.beginRestore_kept ?_)
    | (with_reducible refine State.beginCommit_kept ?_)
    | (with_reducible refine State.snapshotNow_kept ?_)
    | split

theorem State.unload_kept {ql : List Instr} {s : State} (h1 : s.Kept ql) : State.Kept ql (State.unload s) := by
  unfold State.unload
  repeat' first
    | with_reducible assumption
    | (extract_lets +onlyGivenNames x; clear_value (hx : x = _); revert x; refine let_kept (ql := ql) ?_ fun x _ => ?_)
    | (extract_lets +onlyGivenNames x; clear_value (hx : x = _); replace hx : (_ : Hbm) = _ := hx; subst hx)
    | (extract_lets +onlyGivenNames x; clear_value (hx : x = _); replace hx : (_ : Hub) = _ := hx; subst hx)
    | (extract_lets +onlyGivenNames x; clear_value (hx : x = _); replace hx : (_ : Run) = _ := hx; subst hx)
    | (extract_lets +onlyGivenNames x; clear_value (hx : x = _); clear hx)
    | (with_reducible refine State.setObj_kept ?_)
    | (with_reducible refine State.setObjs_kept ?_)
    | (with_reducible refine State.setCl_kept ?_)
    | (with_reducible refine State.setPort_kept ?_)
    | (with_reducible refine State.tagObjs_kept ?_)
    | (with_reducible refine State.schedObjs_kept ?_)
    | (with_reducible refine State.voidSnapshots_kept ?_)
    | (with_reducible refine State.supersede_kept ?_)
    | (with_reducible refine foldl_kept (fun _ _ _ => ?_) ?_)
    | ((with_reducible refine mk_all_kept (by assumption) ?_ ?_ ?_ ?_ ?_ ?_ ?_) <;> exact id)

theorem State.beginMove_kept {ql : List Instr} {s : State} {target : Nat} (h1 : s.Kept ql) : State.Kept ql (State.beginMove s target) := by
  unfold State.beginMove
  repeat' first
    | with_reducible assumption
    | (extract_lets +onlyGivenNames x; clear_value (hx : x = _); revert x; refine let_kept (ql := ql) ?_ fun x _ => ?_)
    | (extract_lets +onlyGivenNames x; clear_value (hx : x = _); replace hx : (_ : Run) = _ := hx; subst hx)
    | (with_reducible refine State.setMode_kept ?_)
    | (with_reducible refine State.unload_kept ?_)
    | ((with_reducible refine mk_all_kept (by assumption) ?_ ?_ ?_ ?_ ?_ ?_ ?_) <;> exact id)

theorem State.stopDiag_kept {ql : List Instr} {s : State} (h1 : s.Kept ql) : State.Kept ql (State.stopDiag s) := by
  unfold State.stopDiag
  repeat' first
    | with_reducible assumption
    | (extract_lets +onlyGivenNames x; clear_value (hx : x = _); revert x; refine let_kept (ql := ql) ?_ fun x _ => ?_)
    | (extract_lets +onlyGivenNames x; clear_value (hx : x = _); replace hx : (_ : Run) = _ := hx; subst hx)
    | (with_reducible refine State.setObj_kept ?_)
    | (with_reducible refine State.setMode_kept ?_)
    | ((with_reducible refine mk_all_kept (by assumption) ?_ ?_ ?_ ?_ ?_ ?_ ?_) <;> first | exact id | exact fun _ => h1.held)

theorem State.orderMove_kept {ql : List Instr} {s : State} {o : Order} (h1 : s.Kept ql) : State.Kept ql (State.orderMove s o) := by
  unfold State.orderMove
  repeat' first
    | with_reducible assumption
    | (extract_lets +onlyGivenNames x; clear_value (hx : x = _); replace hx : (_ : Run) = _ := hx; subst hx)
    | (extract_lets +onlyGivenNames x; clear_value (hx : x = _); clear hx)
    | (with_reducible refine State.beginMove_kept ?_)
    | (with_reducible refine State.stopDiag_kept ?_)
    | (with_reducible refine ite_kept (fun _ => ?_) (fun _ => ?_))
    | ((with_reducible refine mk_all_kept (by assumption) ?_ ?_ ?_ ?_ ?_ ?_ ?_) <;> exact id)

theorem State.takeMove_kept {ql : List Instr} {s : State} {o : Order} (h1 : s.Kept ql) : State.Kept ql (State.takeMove s o) := by
  unfold State.takeMove
  repeat' first
    | with_reducible assumption
    | (with_reducible refine State.fate_kept ?_)
    | (with_reducible refine State.orderMove_kept ?_)
    | (with_reducible refine ite_kept (fun _ => ?_) (fun _ => ?_))

theorem State.takeDue_kept {ql : List Instr} {s : State} {moving : Bool} (h1 : s.Kept ql) : State.Kept ql (State.takeDue s moving) := by
  unfold State.takeDue
  repeat' first
    | with_reducible assumption
    | (extract_lets +onlyGivenNames x; clear_value (hx : x = _); revert x; refine let_kept (ql := ql) ?_ fun x _ => ?_)
    | (extract_lets +onlyGivenNames x; clear_value (hx : x = _); replace hx : (_ : Run) = _ := hx; subst hx)
    | (extract_lets +onlyGivenNames x; clear_value (hx : x = _); clear hx)
    | (with_reducible refine State.supersede_kept ?_)
    | (with_reducible refine State.resolveHeld_kept ?_)
    | (with_reducible refine State.resolveWindow_kept ?_)
    | (with_reducible refine ite_kept (fun _ => ?_) (fun _ => ?_))
    | ((with_reducible refine mk_all_kept (by assumption) ?_ ?_ ?_ ?_ ?_ ?_ ?_) <;> exact id)

theorem State.takeWaiting_kept {ql : List Instr} {s : State} {l : List Order} (h1 : s.Kept ql) : State.Kept ql (State.takeWaiting s l) := by
  unfold State.takeWaiting
  repeat' first
    | with_reducible assumption
    | (extract_lets +onlyGivenNames x; clear_value (hx : x = _); clear hx)
    | (with_reducible refine State.supersede_kept ?_)
    | (with_reducible refine State.resolveHeld_kept ?_)
    | (with_reducible refine State.resolveWindow_kept ?_)
    | (with_reducible refine State.takeMove_kept ?_)
    | (with_reducible refine foldl_kept (fun _ _ _ => ?_) ?_)
    | (with_reducible refine ite_kept (fun _ => ?_) (fun _ => ?_))

theorem State.resolveDue_kept {ql : List Instr} {s : State} (h1 : s.Kept ql) : State.Kept ql (State.resolveDue s) := by
  unfold State.resolveDue
  repeat' first
    | with_reducible assumption
    | (extract_lets +onlyGivenNames x; clear_value (hx : x = _); revert x; refine let_kept (ql := ql) ?_ fun x _ => ?_)
    | (extract_lets +onlyGivenNames x; clear_value (hx : x = _); replace hx : (_ : Run) = _ := hx; subst hx)
    | (extract_lets +onlyGivenNames x; clear_value (hx : x = _); clear hx)
    | (with_reducible refine State.beginCommit_kept ?_)
    | (with_reducible refine State.snapshotNow_kept ?_)
    | (with_reducible refine State.takeDue_kept ?_)
    | (with_reducible refine State.takeWaiting_kept ?_)
    | (with_reducible refine ite_kept (fun _ => ?_) (fun _ => ?_))
    | ((with_reducible refine mk_all_kept (by assumption) ?_ ?_ ?_ ?_ ?_ ?_ ?_) <;> exact id)

theorem State.afterPause_kept {ql : List Instr} {s : State} (h1 : s.Kept ql) : State.Kept ql (State.afterPause s) := by
  unfold State.afterPause
  repeat' first
    | with_reducible assumption
    | (extract_lets +onlyGivenNames x; clear_value (hx : x = _); revert x; refine let_kept (ql := ql) ?_ fun x _ => ?_)
    | (extract_lets +onlyGivenNames x; clear_value (hx : x = _); replace hx : (_ : Run) = _ := hx; subst hx)
    | (with_reducible refine State.beginPause_kept ?_)
    | (with_reducible refine State.resolveDue_kept ?_)
    | (with_reducible refine ite_kept (fun _ => ?_) (fun _ => ?_))
    | split
    | ((with_reducible refine mk_all_kept (by assumption) ?_ ?_ ?_ ?_ ?_ ?_ ?_) <;> exact id)

theorem State.caughtUp_kept {ql : List Instr} {s : State} (h1 : s.Kept ql) : State.Kept ql (State.caughtUp s) := by
  unfold State.caughtUp
  repeat' first
    | with_reducible assumption
    | (extract_lets +onlyGivenNames x; clear_value (hx : x = _); revert x; refine let_kept (ql := ql) ?_ fun x _ => ?_)
    | (extract_lets +onlyGivenNames x; clear_value (hx : x = _); replace hx : (_ : Run) = _ := hx; subst hx)
    | (with_reducible refine State.setObj_kept ?_)
    | (with_reducible refine ite_kept (fun _ => ?_) (fun _ => ?_))
    | ((with_reducible refine mk_all_kept (by assumption) ?_ ?_ ?_ ?_ ?_ ?_ ?_) <;> exact id)

theorem State.ranOn_kept {ql : List Instr} {s : State} (h1 : s.Kept ql) : State.Kept ql (State.ranOn s) := by
  unfold State.ranOn
  repeat' first
    | with_reducible assumption
    | (extract_lets +onlyGivenNames x; clear_value (hx : x = _); replace hx : (_ : Run) = _ := hx; subst hx)
    | (with_reducible refine State.setObj_kept ?_)
    | (with_reducible refine ite_kept (fun _ => ?_) (fun _ => ?_))
    | split
    | ((with_reducible refine mk_all_kept (by assumption) ?_ ?_ ?_ ?_ ?_ ?_ ?_) <;> exact id)

theorem State.queuePauses_kept {ql : List Instr} {s : State} (h1 : s.Kept ql) : State.Kept ql (State.queuePauses s) := by
  unfold State.queuePauses
  repeat' first
    | (extract_lets +onlyGivenNames x; clear_value (hx : x = _); replace hx : (_ : Run) = _ := hx; subst hx)
    | (extract_lets +onlyGivenNames x; clear_value (hx : x = _); clear hx)
    | ((with_reducible refine mk_all_kept (by assumption) ?_ ?_ ?_ ?_ ?_ ?_ ?_) <;> exact id)

theorem State.countStep_kept {ql : List Instr} {s : State} (h1 : s.Kept ql) : State.Kept ql (State.countStep s) := by
  unfold State.countStep
  repeat' first
    | with_reducible assumption
    | (with_reducible refine State.setObj_kept ?_)
    | (with_reducible refine ite_kept (fun _ => ?_) (fun _ => ?_))

theorem State.standsAt_kept {ql : List Instr} {s : State} (h1 : s.Kept ql) : State.Kept ql (State.standsAt s) := by
  unfold State.standsAt
  repeat' first
    | (extract_lets +onlyGivenNames x; clear_value (hx : x = _); replace hx : (_ : Run) = _ := hx; subst hx)
    | ((with_reducible refine mk_all_kept (by assumption) ?_ ?_ ?_ ?_ ?_ ?_ ?_) <;> exact id)

theorem State.boundary_kept {ql : List Instr} {s : State} (h1 : s.Kept ql) : State.Kept ql (State.boundary s) := by
  unfold State.boundary
  repeat' first
    | with_reducible assumption
    | (with_reducible refine State.clockOpening_kept ?_)
    | (with_reducible refine State.afterPause_kept ?_)
    | (with_reducible refine State.caughtUp_kept ?_)
    | (with_reducible refine State.ranOn_kept ?_)
    | (with_reducible refine State.queuePauses_kept ?_)
    | (with_reducible refine State.countStep_kept ?_)
    | (with_reducible refine State.standsAt_kept ?_)

theorem State.localCompletes_kept {ql : List Instr} {s : State} (h1 : s.Kept ql) : State.Kept ql (State.localCompletes s) := by
  unfold State.localCompletes
  repeat' first
    | with_reducible assumption
    | (extract_lets +onlyGivenNames x; clear_value (hx : x = _); clear hx)
    | (with_reducible refine State.onLinks_kept ?_)
    | (with_reducible refine ite_kept (fun _ => ?_) (fun _ => ?_))
    | (with_reducible exact mk_kept (by assumption))

theorem State.abandonOpens_kept {ql : List Instr} {s : State} {a : Abandon} (h1 : s.Kept ql) : State.Kept ql (State.abandonOpens s a) := by
  unfold State.abandonOpens
  repeat' first
    | with_reducible assumption
    | (extract_lets +onlyGivenNames x; clear_value (hx : x = _); revert x; refine let_kept (ql := ql) ?_ fun x _ => ?_)
    | (extract_lets +onlyGivenNames x; clear_value (hx : x = _); replace hx : (_ : Run) = _ := hx; subst hx)
    | (extract_lets +onlyGivenNames x; clear_value (hx : x = _); clear hx)
    | (with_reducible refine State.setCl_kept ?_)
    | (with_reducible refine State.clockOpening_kept ?_)
    | (with_reducible refine State.outLatch_kept ?_)
    | (with_reducible refine State.discardFrom_kept ?_)
    | (with_reducible refine State.openNext_kept ?_)
    | (with_reducible refine State.caughtUp_kept ?_)
    | (with_reducible refine State.countStep_kept ?_)
    | (with_reducible refine foldl_kept (fun _ _ _ => ?_) ?_)
    | (with_reducible refine ite_kept (fun _ => ?_) (fun _ => ?_))
    | split
    | ((with_reducible refine mk_all_kept (by assumption) ?_ ?_ ?_ ?_ ?_ ?_ ?_) <;> exact id)

theorem State.loseUnsent_kept {ql : List Instr} {s : State} {k : Nat} (h1 : s.Kept ql) : State.Kept ql (State.loseUnsent s k) := by
  unfold State.loseUnsent
  repeat' first
    | with_reducible assumption
    | (with_reducible refine State.onLinks_kept ?_)

theorem State.markWrites_kept {ql : List Instr} {s : State} {record : Nat} (h1 : s.Kept ql) : State.Kept ql (State.markWrites s record) := by
  unfold State.markWrites
  repeat' first
    | with_reducible assumption
    | (extract_lets +onlyGivenNames x; clear_value (hx : x = _); replace hx : (_ : Faults) = _ := hx; subst hx)
    | (extract_lets +onlyGivenNames x; clear_value (hx : x = _); replace hx : (_ : List FaultRec) = _ := hx; subst hx)
    | (with_reducible refine State.setObj_kept ?_)
    | (with_reducible refine ite_kept (fun _ => ?_) (fun _ => ?_))
    | ((with_reducible refine mk_all_kept (by assumption) ?_ ?_ ?_ ?_ ?_ ?_ ?_) <;> first | exact id | (intro _; simp only [List.length_map]; omega))

theorem State.abandonEnds_kept {ql : List Instr} {s : State} {a : Abandon} (h1 : s.Kept ql) : State.Kept ql (State.abandonEnds s a) := by
  unfold State.abandonEnds
  repeat' first
    | with_reducible assumption
    | (extract_lets +onlyGivenNames x; clear_value (hx : x = _); revert x; refine let_kept (ql := ql) ?_ fun x _ => ?_)
    | (extract_lets +onlyGivenNames x; clear_value (hx : x = _); replace hx : (_ : Run) = _ := hx; subst hx)
    | (extract_lets +onlyGivenNames x; clear_value (hx : x = _); clear hx)
    | (with_reducible refine State.setObj_kept ?_)
    | (with_reducible refine State.setObjs_kept ?_)
    | (with_reducible refine State.clockOpening_kept ?_)
    | (with_reducible refine State.discardFrom_kept ?_)
    | (with_reducible refine State.openDc_kept ?_)
    | (with_reducible refine State.clearTransit_kept ?_)
    | (with_reducible refine State.supersede_kept ?_)
    | (with_reducible refine State.afterAbandon_kept ?_)
    | (with_reducible refine State.beginCommit_kept ?_)
    | (with_reducible refine State.resolveWindow_kept ?_)
    | (with_reducible refine State.snapshotNow_kept ?_)
    | (with_reducible refine State.standsAt_kept ?_)
    | (with_reducible refine State.markWrites_kept ?_)
    | (with_reducible refine ite_kept (fun _ => ?_) (fun _ => ?_))
    | split
    | ((with_reducible refine mk_all_kept (by assumption) ?_ ?_ ?_ ?_ ?_ ?_ ?_) <;> exact id)

theorem State.partnerAbandon_kept {ql : List Instr} {s : State} {origin link k : Nat} (h1 : s.Kept ql) : State.Kept ql (State.partnerAbandon s origin link k) := by
  unfold State.partnerAbandon
  repeat' first
    | with_reducible assumption
    | (extract_lets +onlyGivenNames x; clear_value (hx : x = _); revert x; refine let_kept (ql := ql) ?_ fun x _ => ?_)
    | (extract_lets +onlyGivenNames x; clear_value (hx : x = _); replace hx : (_ : Run) = _ := hx; subst hx)
    | (extract_lets +onlyGivenNames x; clear_value (hx : x = _); clear hx)
    | (with_reducible refine State.writeRecord_kept ?_)
    | (with_reducible refine State.discardFrom_kept ?_)
    | (with_reducible refine ite_kept (fun _ => ?_) (fun _ => ?_))
    | ((with_reducible refine mk_all_kept (by assumption) ?_ ?_ ?_ ?_ ?_ ?_ ?_) <;> exact id)

end Sys2Proof.Machine
end

