-- ==== Sys2Proof/Laws/KeptLoad.lean ====
section
/-!
SUPPORT. Every operation of Machine/Load.lean leaves the queue of waiting commands as it is, the stores canonical and what waits within bounds.
-/

set_option linter.tactic.unusedName false
set_option linter.unusedVariables false

namespace Sys2Proof.Machine

theorem State.loadMode_kept {ql : List Instr} {s : State} {m : Nat} (h1 : s.Kept ql) : State.Kept ql (State.loadMode s m) := by
  unfold State.loadMode
  repeat' first
    | with_reducible assumption
    | (extract_lets +onlyGivenNames x; clear_value (hx : x = _); revert x; refine let_kept (ql := ql) ?_ fun x _ => ?_)
    | (extract_lets +onlyGivenNames x; clear_value (hx : x = _); replace hx : (_ : Hbm) = _ := hx; subst hx)
    | (with_reducible refine State.setMode_kept ?_)
    | ((with_reducible refine mk_all_kept (by assumption) ?_ ?_ ?_ ?_ ?_ ?_ ?_) <;> exact id)

theorem State.loadOrder_kept {ql : List Instr} {s : State} (h1 : s.Kept ql) : Kept1 ql (State.loadOrder s) := by
  unfold State.loadOrder
  repeat' first
    | with_reducible assumption
    | (extract_lets +onlyGivenNames x; clear_value (hx : x = _); revert x; refine let_kept (ql := ql) ?_ fun x _ => ?_)
    | (extract_lets +onlyGivenNames x; clear_value (hx : x = _); replace hx : (_ : Run) = _ := hx; subst hx)
    | (with_reducible refine State.setObj_kept ?_)
    | (with_reducible refine State.setObjs_kept ?_)
    | (with_reducible refine State.msix_kept ?_)
    | (with_reducible refine State.supersede_kept ?_)
    | (with_reducible refine State.loadMode_kept ?_)
    | (with_reducible refine ite1_kept (fun _ => ?_) (fun _ => ?_))
    | (with_reducible refine mk1_kept ?_)
    | ((with_reducible refine mk_all_kept (by assumption) ?_ ?_ ?_ ?_ ?_ ?_ ?_) <;> exact id)

theorem execLoadCmdLoad_kept {ql : List Instr} {m : Master} {s : State} (h1 : s.Kept ql) : Out.Kept ql (execLoadCmdLoad m s) := by
  unfold execLoadCmdLoad
  repeat' first
    | with_reducible assumption
    | (with_reducible refine State.write_kept ?_ (fun _ _ => ?_))
    | (with_reducible refine State.loadOrder_kept ?_)

theorem State.loadEnds_kept {ql : List Instr} {s : State} {state : Nat} (h1 : s.Kept ql) : State.Kept ql (State.loadEnds s state) := by
  unfold State.loadEnds
  repeat' first
    | with_reducible assumption
    | (with_reducible refine State.setObj_kept ?_)
    | (with_reducible refine State.msix_kept ?_)
    | (with_reducible refine State.loadMode_kept ?_)

theorem State.loadAbort_kept {ql : List Instr} {s : State} (h1 : s.Kept ql) : Kept1 ql (State.loadAbort s) := by
  unfold State.loadAbort
  repeat' first
    | with_reducible assumption
    | (extract_lets +onlyGivenNames x; clear_value (hx : x = _); revert x; refine let_kept (ql := ql) ?_ fun x _ => ?_)
    | (extract_lets +onlyGivenNames x; subst x)
    | (with_reducible refine State.setObj_kept ?_)
    | (with_reducible refine State.msix_kept ?_)
    | (with_reducible refine State.fabClear_kept ?_)
    | (with_reducible refine State.unload_kept ?_)
    | (with_reducible refine State.loadMode_kept ?_)
    | (with_reducible refine State.loadEnds_kept ?_)
    | (with_reducible refine ite_kept (fun _ => ?_) (fun _ => ?_))
    | (with_reducible refine ite1_kept (fun _ => ?_) (fun _ => ?_))
    | (with_reducible refine mk1_kept ?_)

theorem execLoadCmdAbort_kept {ql : List Instr} {m : Master} {s : State} (h1 : s.Kept ql) : Out.Kept ql (execLoadCmdAbort m s) := by
  unfold execLoadCmdAbort
  repeat' first
    | with_reducible assumption
    | (with_reducible refine State.write_kept ?_ (fun _ _ => ?_))
    | (with_reducible refine State.loadAbort_kept ?_)

theorem State.loadRefuse_kept {ql : List Instr} {s : State} {cause detail : Nat} (h1 : s.Kept ql) : State.Kept ql (State.loadRefuse s cause detail) := by
  unfold State.loadRefuse
  repeat' first
    | with_reducible assumption
    | (with_reducible refine State.setObjs_kept ?_)
    | (with_reducible refine State.loadEnds_kept ?_)

theorem execLoadFetchDone_kept {ql : List Instr} {data : List Byte} {s : State} (h1 : s.Kept ql) : Out.Kept ql (execLoadFetchDone data s) := by
  unfold execLoadFetchDone
  repeat' first
    | with_reducible assumption
    | (extract_lets +onlyGivenNames x; clear_value (hx : x = _); revert x; refine let_kept (ql := ql) ?_ fun x _ => ?_)
    | (extract_lets +onlyGivenNames x; clear_value (hx : x = _); clear hx)
    | (with_reducible refine State.setObj_kept ?_)
    | (with_reducible refine State.hbmWrite_kept ?_)
    | (with_reducible refine State.loadRefuse_kept ?_)
    | (with_reducible refine Out.next_kept ?_)
    | (with_reducible refine ite_out_kept (fun _ => ?_) (fun _ => ?_))

theorem State.imageReady_kept {ql : List Instr} {s : State} {q : List Byte} {bind : List (Nat × Nat × Nat)} (h1 : s.Kept ql) : State.Kept ql (State.imageReady s q bind) := by
  unfold State.imageReady
  repeat' first
    | with_reducible assumption
    | (extract_lets +onlyGivenNames x; clear_value (hx : x = _); revert x; refine let_kept (ql := ql) ?_ fun x _ => ?_)
    | (extract_lets +onlyGivenNames x; clear_value (hx : x = _); replace hx : (_ : Run) = _ := hx; subst hx)
    | (with_reducible refine State.setObj_kept ?_)
    | (with_reducible refine State.hbmWrite_kept ?_)
    | ((with_reducible refine mk_all_kept (by assumption) ?_ ?_ ?_ ?_ ?_ ?_ ?_) <;> first | exact id | exact fun _ => h1.held)

theorem State.fabricStage_kept {ql : List Instr} {s : State} {q : List Byte} {bind : List (Nat × Nat × Nat)} {vddio : List Nat} (h1 : s.Kept ql) : State.Kept ql (State.fabricStage s q bind vddio) := by
  unfold State.fabricStage
  repeat' first
    | with_reducible assumption
    | (extract_lets +onlyGivenNames x; clear_value (hx : x = _); revert x; refine let_kept (ql := ql) ?_ fun x _ => ?_)
    | (extract_lets +onlyGivenNames x; clear_value (hx : x = _); clear hx)
    | (with_reducible refine State.setObjs_kept ?_)
    | (with_reducible refine State.fabObjs_kept ?_)
    | (with_reducible refine State.loadRefuse_kept ?_)
    | (with_reducible refine State.imageReady_kept ?_)
    | (with_reducible refine ite_kept (fun _ => ?_) (fun _ => ?_))
    | split

theorem State.contentStage_kept {ql : List Instr} {s : State} {p : List Byte} {vddio : List Nat} (h1 : s.Kept ql) : State.Kept ql (State.contentStage s p vddio) := by
  unfold State.contentStage
  repeat' first
    | with_reducible assumption
    | (extract_lets +onlyGivenNames x; clear_value (hx : x = _); revert x; refine let_kept (ql := ql) ?_ fun x _ => ?_)
    | (extract_lets +onlyGivenNames x; clear_value (hx : x = _); clear hx)
    | (with_reducible refine State.setObjs_kept ?_)
    | (with_reducible refine State.loadRefuse_kept ?_)
    | (with_reducible refine State.fabricStage_kept ?_)
    | split

theorem execLoadCheckDone_kept {ql : List Instr} {vddio : List Nat} {s : State} (h1 : s.Kept ql) : Out.Kept ql (execLoadCheckDone vddio s) := by
  unfold execLoadCheckDone
  repeat' first
    | with_reducible assumption
    | (extract_lets +onlyGivenNames x; clear_value (hx : x = _); revert x; refine let_kept (ql := ql) ?_ fun x _ => ?_)
    | (extract_lets +onlyGivenNames x; clear_value (hx : x = _); clear hx)
    | (with_reducible refine State.draw_kept ?_)
    | (with_reducible refine State.hbmBad_kept ?_)
    | (with_reducible refine State.hbmWrite_kept ?_)
    | (with_reducible refine State.loadRefuse_kept ?_)
    | (with_reducible refine State.contentStage_kept ?_)
    | (with_reducible refine Out.next_kept ?_)
    | (with_reducible refine ite_kept (fun _ => ?_) (fun _ => ?_))
    | (with_reducible refine ite_out_kept (fun _ => ?_) (fun _ => ?_))
    | split

theorem State.retain_kept {ql : List Instr} {s : State} {b : List Byte} (h1 : s.Kept ql) : State.Kept ql (State.retain s b) := by
  unfold State.retain
  repeat' first
    | (extract_lets +onlyGivenNames x; clear_value (hx : x = _); replace hx : (_ : Hbm) = _ := hx; subst hx)
    | (extract_lets +onlyGivenNames x; clear_value (hx : x = _); clear hx)
    | (with_reducible refine State.hbmOpen_kept ?_)
    | ((with_reducible refine mk_all_kept (by assumption) ?_ ?_ ?_ ?_ ?_ ?_ ?_) <;> exact id)

theorem State.writeClusters_kept {ql : List Instr} {s : State} {b : List Byte} {bind : List (Nat × Nat × Nat)} (h1 : s.Kept ql) : State.Kept ql (State.writeClusters s b bind) := by
  unfold State.writeClusters
  repeat' first
    | with_reducible assumption
    | (extract_lets +onlyGivenNames x; clear_value (hx : x = _); revert x; refine let_kept (ql := ql) ?_ fun x _ => ?_)
    | (extract_lets +onlyGivenNames x; clear_value (hx : x = _); clear hx)
    | (with_reducible refine State.setObj_kept ?_)
    | (with_reducible refine State.setCl_kept ?_)
    | (with_reducible refine State.setPort_kept ?_)
    | (with_reducible refine State.portWakes_kept ?_)
    | (with_reducible refine foldl_kept (fun _ _ _ => ?_) ?_)
    | (with_reducible refine ite_kept (fun _ => ?_) (fun _ => ?_))
    | (with_reducible exact mk_kept (by assumption))

theorem State.clearPorts_kept {ql : List Instr} {s : State} (h1 : s.Kept ql) : State.Kept ql (State.clearPorts s) := by
  unfold State.clearPorts
  repeat' first
    | with_reducible assumption
    | (with_reducible refine State.setObj_kept ?_)
    | (with_reducible refine foldl_kept (fun _ _ _ => ?_) ?_)

theorem State.writeTables_kept {ql : List Instr} {s : State} {b : List Byte} (h1 : s.Kept ql) : State.Kept ql (State.writeTables s b) := by
  unfold State.writeTables
  repeat' first
    | with_reducible assumption
    | (extract_lets +onlyGivenNames x; clear_value (hx : x = _); revert x; refine let_kept (ql := ql) ?_ fun x _ => ?_)
    | (extract_lets +onlyGivenNames x; clear_value (hx : x = _); clear hx)
    | (with_reducible refine State.ratioEnables_kept ?_)
    | (with_reducible exact mk_kept (by assumption))

theorem State.defaults_kept {ql : List Instr} {s : State} {lo hi : Nat} {f : Nat → Bool} (h1 : s.Kept ql) : State.Kept ql (State.defaults s lo hi f) := by
  unfold State.defaults
  repeat' first
    | ((with_reducible refine mk_all_kept (by assumption) ?_ ?_ ?_ ?_ ?_ ?_ ?_) <;> first | exact id | exact fun w => filter_wf _ _ w)

theorem State.writeTies_kept {ql : List Instr} {s : State} {ds : List Nat} (h1 : s.Kept ql) : State.Kept ql (State.writeTies s ds) := by
  unfold State.writeTies
  repeat' first
    | with_reducible assumption
    | (extract_lets +onlyGivenNames x; clear_value (hx : x = _); revert x; refine let_kept (ql := ql) ?_ fun x _ => ?_)
    | (extract_lets +onlyGivenNames x; clear_value (hx : x = _); clear hx)
    | (with_reducible refine State.setObjs_kept ?_)
    | (with_reducible refine State.fabObjs_kept ?_)
    | (with_reducible refine State.defaults_kept ?_)
    | (with_reducible refine foldl_kept (fun _ _ _ => ?_) ?_)
    | (with_reducible refine ite_kept (fun _ => ?_) (fun _ => ?_))
    | (with_reducible exact mk_kept (by assumption))

theorem State.loadEngines_kept {ql : List Instr} {s : State} (h1 : s.Kept ql) : State.Kept ql (State.loadEngines s) := by
  unfold State.loadEngines
  repeat' first
    | with_reducible assumption
    | (extract_lets +onlyGivenNames x; clear_value (hx : x = _); revert x; refine let_kept (ql := ql) ?_ fun x _ => ?_)
    | (extract_lets +onlyGivenNames x; clear_value (hx : x = _); clear hx)
    | (with_reducible refine State.setObj_kept ?_)
    | (with_reducible refine State.rearm_kept ?_)
    | (with_reducible refine State.defaults_kept ?_)
    | ((with_reducible refine mk_all_kept (by assumption) ?_ ?_ ?_ ?_ ?_ ?_ ?_) <;> first | exact id | exact fun w => filter_wf _ _ w)

theorem State.loadHub_kept {ql : List Instr} {s : State} (h1 : s.Kept ql) : State.Kept ql (State.loadHub s) := by
  unfold State.loadHub
  repeat' first
    | with_reducible assumption
    | (extract_lets +onlyGivenNames x; clear_value (hx : x = _); revert x; refine let_kept (ql := ql) ?_ fun x _ => ?_)
    | (extract_lets +onlyGivenNames x; clear_value (hx : x = _); replace hx : (_ : Hub) = _ := hx; subst hx)
    | (extract_lets +onlyGivenNames x; clear_value (hx : x = _); clear hx)
    | (with_reducible refine State.setObj_kept ?_)
    | (with_reducible refine State.resetCore_kept ?_)
    | (with_reducible refine foldl_kept (fun _ _ _ => ?_) ?_)
    | ((with_reducible refine mk_all_kept (by assumption) ?_ ?_ ?_ ?_ ?_ ?_ ?_) <;> exact id)

theorem State.loadRun_kept {ql : List Instr} {s : State} (h1 : s.Kept ql) : State.Kept ql (State.loadRun s) := by
  unfold State.loadRun
  repeat' first
    | with_reducible assumption
    | (extract_lets +onlyGivenNames x; clear_value (hx : x = _); revert x; refine let_kept (ql := ql) ?_ fun x _ => ?_)
    | (extract_lets +onlyGivenNames x; clear_value (hx : x = _); replace hx : (_ : Hbm) = _ := hx; subst hx)
    | (extract_lets +onlyGivenNames x; clear_value (hx : x = _); replace hx : (_ : Run) = _ := hx; subst hx)
    | (extract_lets +onlyGivenNames x; clear_value (hx : x = _); clear hx)
    | (with_reducible refine State.setObjs_kept ?_)
    | (with_reducible refine State.onLinks_kept ?_)
    | (with_reducible refine State.replayEmpty_kept ?_)
    | (with_reducible refine State.voidSnapshots_kept ?_)
    | (with_reducible refine State.emptyOvb_kept ?_)
    | ((with_reducible refine mk_all_kept (by assumption) ?_ ?_ ?_ ?_ ?_ ?_ ?_) <;> exact id)

theorem State.loadIdentity_kept {ql : List Instr} {s : State} {b : List Byte} (h1 : s.Kept ql) : State.Kept ql (State.loadIdentity s b) := by
  unfold State.loadIdentity
  repeat' first
    | with_reducible assumption
    | (extract_lets +onlyGivenNames x; clear_value (hx : x = _); clear hx)
    | (with_reducible refine State.setObjs_kept ?_)

theorem State.loadFabric_kept {ql : List Instr} {s : State} {b : List Byte} (h1 : s.Kept ql) : State.Kept ql (State.loadFabric s b) := by
  unfold State.loadFabric
  repeat' first
    | with_reducible assumption
    | (extract_lets +onlyGivenNames x; clear_value (hx : x = _); clear hx)
    | (with_reducible refine State.fabConfigure_kept ?_)
    | split
    | (with_reducible exact mk_kept (by assumption))

theorem execLoadWriteDone_kept {ql : List Instr} {s : State} (h1 : s.Kept ql) : Out.Kept ql (execLoadWriteDone s) := by
  unfold execLoadWriteDone
  repeat' first
    | with_reducible assumption
    | (extract_lets +onlyGivenNames x; clear_value (hx : x = _); revert x; refine let_kept (ql := ql) ?_ fun x _ => ?_)
    | (extract_lets +onlyGivenNames x; clear_value (hx : x = _); clear hx)
    | (with_reducible refine State.setObj_kept ?_)
    | (with_reducible refine State.msix_kept ?_)
    | (with_reducible refine State.loadMode_kept ?_)
    | (with_reducible refine State.retain_kept ?_)
    | (with_reducible refine State.writeClusters_kept ?_)
    | (with_reducible refine State.clearPorts_kept ?_)
    | (with_reducible refine State.writeTables_kept ?_)
    | (with_reducible refine State.writeTies_kept ?_)
    | (with_reducible refine State.loadEngines_kept ?_)
    | (with_reducible refine State.loadHub_kept ?_)
    | (with_reducible refine State.loadRun_kept ?_)
    | (with_reducible refine State.loadIdentity_kept ?_)
    | (with_reducible refine State.loadFabric_kept ?_)
    | (with_reducible refine Out.next_kept ?_)
    | (with_reducible refine ite_out_kept (fun _ => ?_) (fun _ => ?_))

theorem State.rewriteCluster_kept {ql : List Instr} {s : State} {die lc pc : Nat} (h1 : s.Kept ql) : State.Kept ql (State.rewriteCluster s die lc pc) := by
  unfold State.rewriteCluster
  repeat' first
    | with_reducible assumption
    | (extract_lets +onlyGivenNames x; clear_value (hx : x = _); revert x; refine let_kept (ql := ql) ?_ fun x _ => ?_)
    | (extract_lets +onlyGivenNames x; clear_value (hx : x = _); clear hx)
    | (with_reducible refine State.bump_kept ?_)
    | (with_reducible refine State.setCl_kept ?_)
    | (with_reducible refine State.portWakes_kept ?_)
    | (with_reducible refine ite_kept (fun _ => ?_) (fun _ => ?_))

theorem State.redirect_kept {ql : List Instr} {s : State} {die lc : Nat} (h1 : s.Kept ql) : State.Kept ql (State.redirect s die lc) := by
  unfold State.redirect
  repeat' first
    | with_reducible assumption
    | (extract_lets +onlyGivenNames x; clear_value (hx : x = _); clear hx)
    | (with_reducible refine State.setCl_kept ?_)
    | (with_reducible refine foldl_kept (fun _ _ _ => ?_) ?_)
    | (with_reducible refine ite_kept (fun _ => ?_) (fun _ => ?_))

theorem State.remapOne_kept {ql : List Instr} {s : State} {die lc : Nat} (h1 : s.Kept ql) : State.Kept ql (State.remapOne s die lc) := by
  unfold State.remapOne
  repeat' first
    | with_reducible assumption
    | (extract_lets +onlyGivenNames x; clear_value (hx : x = _); revert x; refine let_kept (ql := ql) ?_ fun x _ => ?_)
    | (extract_lets +onlyGivenNames x; clear_value (hx : x = _); clear hx)
    | (with_reducible refine State.setObj_kept ?_)
    | (with_reducible refine State.bump_kept ?_)
    | (with_reducible refine State.isolate_kept ?_)
    | (with_reducible refine State.recoveryFails_kept ?_)
    | (with_reducible refine State.rewriteCluster_kept ?_)
    | (with_reducible refine State.redirect_kept ?_)
    | (with_reducible refine ite_kept (fun _ => ?_) (fun _ => ?_))
    | split

theorem State.rewriteDie_kept {ql : List Instr} {s : State} {die : Nat} (h1 : s.Kept ql) : State.Kept ql (State.rewriteDie s die) := by
  unfold State.rewriteDie
  repeat' first
    | with_reducible assumption
    | (extract_lets +onlyGivenNames x; clear_value (hx : x = _); clear hx)
    | (with_reducible refine State.setObj_kept ?_)
    | (with_reducible refine State.rewriteCluster_kept ?_)
    | (with_reducible refine foldl_kept (fun _ _ _ => ?_) ?_)

theorem State.afterRemap_kept {ql : List Instr} {s : State} (h1 : s.Kept ql) : State.Kept ql (State.afterRemap s) := by
  unfold State.afterRemap
  repeat' first
    | with_reducible assumption
    | (extract_lets +onlyGivenNames x; clear_value (hx : x = _); replace hx : (_ : Faults) = _ := hx; subst hx)
    | (with_reducible refine State.recoveryFails_kept ?_)
    | (with_reducible refine State.startRemaps_kept ?_)
    | (with_reducible refine ite_kept (fun _ => ?_) (fun _ => ?_))
    | ((with_reducible refine mk_all_kept (by assumption) ?_ ?_ ?_ ?_ ?_ ?_ ?_) <;> exact id)

theorem execRemapDone_kept {ql : List Instr} {s : State} (h1 : s.Kept ql) : Out.Kept ql (execRemapDone s) := by
  unfold execRemapDone
  repeat' first
    | with_reducible assumption
    | (extract_lets +onlyGivenNames x; clear_value (hx : x = _); replace hx : (_ : Faults) = _ := hx; subst hx)
    | (with_reducible refine State.recoveryFails_kept ?_)
    | (with_reducible refine State.remapOne_kept ?_)
    | (with_reducible refine State.rewriteDie_kept ?_)
    | (with_reducible refine State.afterRemap_kept ?_)
    | (with_reducible refine Out.next_kept ?_)
    | (with_reducible refine ite_out_kept (fun _ => ?_) (fun _ => ?_))
    | split
    | ((with_reducible refine mk_all_kept (by assumption) ?_ ?_ ?_ ?_ ?_ ?_ ?_) <;> exact id)

theorem writeRemapLc_kept {ql : List Instr} {v : Nat} {s : State} (h1 : s.Kept ql) : Kept1 ql (writeRemapLc v s) := by
  unfold writeRemapLc
  repeat' first
    | with_reducible assumption
    | (extract_lets +onlyGivenNames x; clear_value (hx : x = _); revert x; refine let_kept (ql := ql) ?_ fun x _ => ?_)
    | (extract_lets +onlyGivenNames x; clear_value (hx : x = _); replace hx : (_ : Faults) = _ := hx; subst hx)
    | (extract_lets +onlyGivenNames x; clear_value (hx : x = _); clear hx)
    | (with_reducible refine State.setObj_kept ?_)
    | (with_reducible refine ite1_kept (fun _ => ?_) (fun _ => ?_))
    | split
    | (with_reducible refine mk1_kept ?_)
    | ((with_reducible refine mk_all_kept (by assumption) ?_ ?_ ?_ ?_ ?_ ?_ ?_) <;> exact id)

theorem execRemapLc_kept {ql : List Instr} {m : Master} {v : BitVec 16} {s : State} (h1 : s.Kept ql) : Out.Kept ql (execRemapLc m v s) := by
  unfold execRemapLc
  repeat' first
    | with_reducible assumption
    | (with_reducible refine State.write_kept ?_ (fun _ _ => ?_))
    | (with_reducible refine writeRemapLc_kept ?_)

end Sys2Proof.Machine
end

