-- ==== Sys2Proof/Laws/KeptRun.lean ====
section
/-!
SUPPORT. Every operation of Machine/Run.lean leaves the queue of waiting commands as it is, the stores canonical and what waits within bounds.
-/

set_option linter.tactic.unusedName false
set_option linter.unusedVariables false

namespace Sys2Proof.Machine

theorem execLocalCompletion_kept {ql : List Instr} {s : State} (h1 : s.Kept ql) : Out.Kept ql (execLocalCompletion s) := by
  unfold execLocalCompletion
  repeat' first
    | with_reducible assumption
    | (with_reducible refine State.localCompletes_kept ?_)
    | (with_reducible refine Out.next_kept ?_)
    | (with_reducible refine ite_out_kept (fun _ => ?_) (fun _ => ?_))

theorem execSluiceOpen_kept {ql : List Instr} {s : State} (h1 : s.Kept ql) : Out.Kept ql (execSluiceOpen s) := by
  unfold execSluiceOpen
  repeat' first
    | with_reducible assumption
    | (with_reducible refine State.openNext_kept ?_)
    | (with_reducible refine State.boundary_kept ?_)
    | (with_reducible refine State.localCompletes_kept ?_)
    | (with_reducible refine Out.next_kept ?_)
    | (with_reducible refine ite_out_kept (fun _ => ?_) (fun _ => ?_))

theorem execCycleOverrunLocal_kept {ql : List Instr} {s : State} (h1 : s.Kept ql) : Out.Kept ql (execCycleOverrunLocal s) := by
  unfold execCycleOverrunLocal
  repeat' first
    | with_reducible assumption
    | (extract_lets +onlyGivenNames x; clear_value (hx : x = _); clear hx)
    | (with_reducible refine State.raiseFault_kept ?_)
    | (with_reducible refine Out.next_kept ?_)
    | (with_reducible refine ite_out_kept (fun _ => ?_) (fun _ => ?_))
    | split

theorem execCycleOverrunPartner_kept {ql : List Instr} {s : State} (h1 : s.Kept ql) : Out.Kept ql (execCycleOverrunPartner s) := by
  unfold execCycleOverrunPartner
  repeat' first
    | with_reducible assumption
    | (with_reducible refine State.raiseFault_kept ?_)
    | (with_reducible refine Out.next_kept ?_)
    | (with_reducible refine ite_out_kept (fun _ => ?_) (fun _ => ?_))

theorem execAbandonOpening_kept {ql : List Instr} {s : State} (h1 : s.Kept ql) : Out.Kept ql (execAbandonOpening s) := by
  unfold execAbandonOpening
  repeat' first
    | with_reducible assumption
    | (with_reducible refine State.localCompletes_kept ?_)
    | (with_reducible refine State.abandonOpens_kept ?_)
    | (with_reducible refine Out.next_kept ?_)
    | (with_reducible refine ite_out_kept (fun _ => ?_) (fun _ => ?_))
    | split

theorem State.acceptOrder_kept {ql : List Instr} {s : State} {m : Master} {k : OrderKind} (h1 : s.Kept ql) : State.Kept ql (State.acceptOrder s m k) := by
  unfold State.acceptOrder
  repeat' first
    | with_reducible assumption
    | (extract_lets +onlyGivenNames x; clear_value (hx : x = _); revert x; refine let_kept (ql := ql) ?_ fun x _ => ?_)
    | (extract_lets +onlyGivenNames x; clear_value (hx : x = _); replace hx : (_ : Run) = _ := hx; subst hx)
    | (extract_lets +onlyGivenNames x; clear_value (hx : x = _); replace hx : (_ : Faults) = _ := hx; subst hx)
    | (extract_lets +onlyGivenNames x; clear_value (hx : x = _); clear hx)
    | (with_reducible refine State.forwardStop_kept ?_)
    | (with_reducible refine State.snapshotNow_kept ?_)
    | (with_reducible refine State.orderMove_kept ?_)
    | (with_reducible refine ite_kept (fun _ => ?_) (fun _ => ?_))
    | split
    | ((with_reducible refine mk_all_kept (by assumption) ?_ ?_ ?_ ?_ ?_ ?_ ?_) <;> exact id)

theorem State.runOrder_kept {ql : List Instr} {s : State} {m : Master} {k : OrderKind} (h1 : s.Kept ql) : State.Kept ql (State.runOrder s m k) := by
  unfold State.runOrder
  repeat' first
    | with_reducible assumption
    | (extract_lets +onlyGivenNames x; clear_value (hx : x = _); revert x; refine let_kept (ql := ql) ?_ fun x _ => ?_)
    | (extract_lets +onlyGivenNames x; clear_value (hx : x = _); clear hx)
    | (with_reducible refine State.answered_kept ?_)
    | (with_reducible refine State.acceptOrder_kept ?_)
    | (with_reducible refine ite_kept (fun _ => ?_) (fun _ => ?_))

theorem writeRunCmd_kept {ql : List Instr} {m : Master} {v : Nat} {s : State} (h1 : s.Kept ql) : Kept1 ql (writeRunCmd m v s) := by
  unfold writeRunCmd
  repeat' first
    | with_reducible assumption
    | (with_reducible refine State.answered_kept ?_)
    | (with_reducible refine State.runOrder_kept ?_)
    | split
    | (with_reducible refine mk1_kept ?_)

theorem execRunCmdRun_kept {ql : List Instr} {m : Master} {s : State} (h1 : s.Kept ql) : Out.Kept ql (execRunCmdRun m s) := by
  unfold execRunCmdRun
  repeat' first
    | with_reducible assumption
    | (with_reducible refine State.write_kept ?_ (fun _ _ => ?_))
    | (with_reducible refine writeRunCmd_kept ?_)

theorem execRunCmdStep_kept {ql : List Instr} {m : Master} {s : State} (h1 : s.Kept ql) : Out.Kept ql (execRunCmdStep m s) := by
  unfold execRunCmdStep
  repeat' first
    | with_reducible assumption
    | (with_reducible refine State.write_kept ?_ (fun _ _ => ?_))
    | (with_reducible refine writeRunCmd_kept ?_)

theorem execRunCmdTied_kept {ql : List Instr} {m : Master} {s : State} (h1 : s.Kept ql) : Out.Kept ql (execRunCmdTied m s) := by
  unfold execRunCmdTied
  repeat' first
    | with_reducible assumption
    | (with_reducible refine State.write_kept ?_ (fun _ _ => ?_))
    | (with_reducible refine writeRunCmd_kept ?_)

theorem execRunCmdHold_kept {ql : List Instr} {m : Master} {s : State} (h1 : s.Kept ql) : Out.Kept ql (execRunCmdHold m s) := by
  unfold execRunCmdHold
  repeat' first
    | with_reducible assumption
    | (with_reducible refine State.write_kept ?_ (fun _ _ => ?_))
    | (with_reducible refine writeRunCmd_kept ?_)

theorem execRunCmdSnapshot_kept {ql : List Instr} {m : Master} {s : State} (h1 : s.Kept ql) : Out.Kept ql (execRunCmdSnapshot m s) := by
  unfold execRunCmdSnapshot
  repeat' first
    | with_reducible assumption
    | (with_reducible refine State.write_kept ?_ (fun _ _ => ?_))
    | (with_reducible refine writeRunCmd_kept ?_)

theorem execRunCmdStandby_kept {ql : List Instr} {m : Master} {s : State} (h1 : s.Kept ql) : Out.Kept ql (execRunCmdStandby m s) := by
  unfold execRunCmdStandby
  repeat' first
    | with_reducible assumption
    | (with_reducible refine State.write_kept ?_ (fun _ _ => ?_))
    | (with_reducible refine writeRunCmd_kept ?_)

theorem execRunCmdDiag_kept {ql : List Instr} {m : Master} {s : State} (h1 : s.Kept ql) : Out.Kept ql (execRunCmdDiag m s) := by
  unfold execRunCmdDiag
  repeat' first
    | with_reducible assumption
    | (with_reducible refine State.write_kept ?_ (fun _ _ => ?_))
    | (with_reducible refine writeRunCmd_kept ?_)

theorem execStartPoint_kept {ql : List Instr} {s : State} (h1 : s.Kept ql) : Out.Kept ql (execStartPoint s) := by
  unfold execStartPoint
  repeat' first
    | with_reducible assumption
    | (extract_lets +onlyGivenNames x; clear_value (hx : x = _); revert x; refine let_kept (ql := ql) ?_ fun x _ => ?_)
    | (extract_lets +onlyGivenNames x; clear_value (hx : x = _); replace hx : (_ : Run) = _ := hx; subst hx)
    | (extract_lets +onlyGivenNames x; clear_value (hx : x = _); clear hx)
    | (with_reducible refine State.supersede_kept ?_)
    | (with_reducible refine State.resolveDue_kept ?_)
    | (with_reducible refine Out.next_kept ?_)
    | (with_reducible refine ite_out_kept (fun _ => ?_) (fun _ => ?_))
    | ((with_reducible refine mk_all_kept (by assumption) ?_ ?_ ?_ ?_ ?_ ?_ ?_) <;> exact id)

end Sys2Proof.Machine
end

