-- ==== Sys2Proof/Laws/KeptReset.lean ====
section
/-!
SUPPORT. Every operation of Machine/Reset.lean leaves the queue of waiting commands as it is, the stores canonical and what waits within bounds.
-/

set_option linter.tactic.unusedName false
set_option linter.unusedVariables false

namespace Sys2Proof.Machine

theorem State.persistMaybe_kept {ql : List Instr} {s : State} (h1 : s.Kept ql) : State.Kept ql (State.persistMaybe s) := by
  unfold State.persistMaybe
  repeat' first
    | with_reducible assumption
    | (extract_lets +onlyGivenNames x; clear_value (hx : x = _); revert x; refine let_kept (ql := ql) ?_ fun x _ => ?_)
    | (with_reducible refine State.draw_kept ?_)
    | (with_reducible refine State.persistWrite_kept ?_)
    | (with_reducible refine ite_kept (fun _ => ?_) (fun _ => ?_))

theorem State.nodeObjs_kept {ql : List Instr} {s : State} (h1 : s.Kept ql) : State.Kept ql (State.nodeObjs s) := by
  unfold State.nodeObjs
  repeat' first
    | with_reducible assumption
    | (with_reducible refine State.setObjs_kept ?_)

theorem State.hubBase_kept {ql : List Instr} {s : State} {hbmKept : Bool} (h1 : s.Kept ql) : (s.hubBase hbmKept).Kept ql :=
  ⟨h1.queue, filter_wf _ _ h1.dict, rfl, rfl, h1.hbm, Nat.zero_le _, h1.ring, Nat.zero_le _⟩

theorem State.hubReset_kept {ql : List Instr} {s : State} {hbmKept : Bool} (h1 : s.Kept ql) : State.Kept ql (State.hubReset s hbmKept) := by
  unfold State.hubReset
  repeat' first
    | with_reducible assumption
    | (extract_lets +onlyGivenNames x; clear_value (hx : x = _); revert x; refine let_kept (ql := ql) ?_ fun x _ => ?_)
    | (extract_lets +onlyGivenNames x; clear_value (hx : x = _); replace hx : (_ : Hbm) = _ := hx; subst hx)
    | (extract_lets +onlyGivenNames x; clear_value (hx : x = _); clear hx)
    | (with_reducible refine State.setObj_kept ?_)
    | (with_reducible refine State.setObjs_kept ?_)
    | (with_reducible refine State.setObjBit_kept ?_)
    | (with_reducible refine State.hbmOpen_kept ?_)
    | (with_reducible refine State.hubBase_kept ?_)
    | (with_reducible refine ite_kept (fun _ => ?_) (fun _ => ?_))
    | ((with_reducible refine mk_all_kept (by assumption) ?_ ?_ ?_ ?_ ?_ ?_ ?_) <;> exact id)

theorem State.powerBase_kept {ql : List Instr} {s : State} (h1 : s.Kept ql) : s.powerBase.Kept ql :=
  ⟨h1.queue, filter_wf _ _ h1.dict, rfl, rfl, rfl, Nat.zero_le _, Nat.zero_le _, Nat.zero_le _⟩

theorem State.powerReset_kept {ql : List Instr} {s : State} (h1 : s.Kept ql) : State.Kept ql (State.powerReset s) := by
  unfold State.powerReset
  repeat' first
    | with_reducible assumption
    | (with_reducible refine State.setObjs_kept ?_)
    | (with_reducible refine State.powerBase_kept ?_)

theorem State.warmReset_kept {ql : List Instr} {s : State} {src : Nat} {hbmKept : Bool} (h1 : s.Kept ql) : State.Kept ql (State.warmReset s src hbmKept) := by
  unfold State.warmReset
  repeat' first
    | with_reducible assumption
    | (extract_lets +onlyGivenNames x; clear_value (hx : x = _); revert x; refine let_kept (ql := ql) ?_ fun x _ => ?_)
    | (extract_lets +onlyGivenNames x; clear_value (hx : x = _); clear hx)
    | (with_reducible refine State.setObj_kept ?_)
    | (with_reducible refine State.setObjs_kept ?_)
    | (with_reducible refine State.bump_kept ?_)
    | (with_reducible refine State.hubReset_kept ?_)
    | (with_reducible refine State.powerReset_kept ?_)
    | (with_reducible refine ite_kept (fun _ => ?_) (fun _ => ?_))

theorem State.commReset_kept {ql : List Instr} {s : State} (h1 : s.Kept ql) : State.Kept ql (State.commReset s) := by
  unfold State.commReset
  repeat' first
    | (extract_lets +onlyGivenNames x; clear_value (hx : x = _); replace hx : (_ : List (Nat × Nat)) = _ := hx; subst hx)
    | (extract_lets +onlyGivenNames x; clear_value (hx : x = _); clear hx)
    | (with_reducible refine State.nodeObjs_kept ?_)
    | ((with_reducible refine mk_all_kept (by assumption) ?_ ?_ ?_ ?_ ?_ ?_ ?_) <;> first | exact id | exact fun _ => rfl | exact fun w => filter_wf _ _ w | exact fun _ => Nat.zero_le _)

theorem State.managementReset_kept {ql : List Instr} {s : State} {src : Nat} (h1 : s.Kept ql) : State.Kept ql (State.managementReset s src) := by
  unfold State.managementReset
  repeat' first
    | with_reducible assumption
    | (extract_lets +onlyGivenNames x; clear_value (hx : x = _); revert x; refine let_kept (ql := ql) ?_ fun x _ => ?_)
    | (extract_lets +onlyGivenNames x; clear_value (hx : x = _); clear hx)
    | (with_reducible refine State.setObj_kept ?_)
    | (with_reducible refine State.setObjs_kept ?_)
    | (with_reducible refine State.hubReset_kept ?_)
    | (with_reducible refine State.powerReset_kept ?_)
    | (with_reducible refine State.commReset_kept ?_)
    | (with_reducible refine ite_kept (fun _ => ?_) (fun _ => ?_))
    | (with_reducible exact mk_kept (by assumption))

theorem execPowerOnReset_kept {ql : List Instr} {s : State} (h1 : s.Kept ql) : Out.Kept ql (execPowerOnReset s) := by
  unfold execPowerOnReset
  repeat' first
    | with_reducible assumption
    | (with_reducible refine State.persistMaybe_kept ?_)
    | (with_reducible refine State.powerReset_kept ?_)
    | (with_reducible refine Out.next_kept ?_)

theorem execModuleResetN_kept {ql : List Instr} {low : Bool} {ns : BitVec 32} {s : State} (h1 : s.Kept ql) : Out.Kept ql (execModuleResetN low ns s) := by
  unfold execModuleResetN
  repeat' first
    | with_reducible assumption
    | (extract_lets +onlyGivenNames x; clear_value (hx : x = _); revert x; refine let_kept (ql := ql) ?_ fun x _ => ?_)
    | (extract_lets +onlyGivenNames x; clear_value (hx : x = _); clear hx)
    | (with_reducible refine State.draw_kept ?_)
    | (with_reducible refine State.persistMaybe_kept ?_)
    | (with_reducible refine State.warmReset_kept ?_)
    | (with_reducible refine Out.next_kept ?_)
    | (with_reducible refine ite_kept (fun _ => ?_) (fun _ => ?_))
    | (with_reducible exact mk_kept (by assumption))

theorem execResetCmdWarm_kept {ql : List Instr} {m : Master} {s : State} (h1 : s.Kept ql) : Out.Kept ql (execResetCmdWarm m s) := by
  unfold execResetCmdWarm
  repeat' first
    | with_reducible assumption
    | (with_reducible refine State.write_kept ?_ (fun _ _ => ?_))
    | (with_reducible refine State.persistWrite_kept ?_)
    | (with_reducible refine State.warmReset_kept ?_)
    | (with_reducible refine mk1_kept ?_)

theorem execResetCmdManagement_kept {ql : List Instr} {m : Master} {s : State} (h1 : s.Kept ql) : Out.Kept ql (execResetCmdManagement m s) := by
  unfold execResetCmdManagement
  repeat' first
    | with_reducible assumption
    | (with_reducible refine State.write_kept ?_ (fun _ _ => ?_))
    | (with_reducible refine State.persistWrite_kept ?_)
    | (with_reducible refine State.managementReset_kept ?_)
    | (with_reducible refine mk1_kept ?_)

theorem execManagementWatchdog_kept {ql : List Instr} {s : State} (h1 : s.Kept ql) : Out.Kept ql (execManagementWatchdog s) := by
  unfold execManagementWatchdog
  repeat' first
    | with_reducible assumption
    | (with_reducible refine State.managementReset_kept ?_)
    | (with_reducible refine Out.next_kept ?_)
    | (with_reducible refine ite_out_kept (fun _ => ?_) (fun _ => ?_))

theorem State.interruptRecovery_kept {ql : List Instr} {s : State} (h1 : s.Kept ql) : State.Kept ql (State.interruptRecovery s) := by
  unfold State.interruptRecovery
  repeat' first
    | with_reducible assumption
    | (with_reducible refine State.recoveryFails_kept ?_)
    | (with_reducible refine ite_kept (fun _ => ?_) (fun _ => ?_))

theorem State.openAtOnce_kept {ql : List Instr} {s : State} (h1 : s.Kept ql) : State.Kept ql (State.openAtOnce s) := by
  unfold State.openAtOnce
  repeat' first
    | with_reducible assumption
    | (with_reducible refine State.abandonOpens_kept ?_)
    | (with_reducible refine State.loseUnsent_kept ?_)
    | (with_reducible refine ite_kept (fun _ => ?_) (fun _ => ?_))
    | split

theorem State.gateDie_kept {ql : List Instr} {s : State} {d : Nat} (h1 : s.Kept ql) : State.Kept ql (State.gateDie s d) := by
  unfold State.gateDie
  repeat' first
    | with_reducible assumption
    | (extract_lets +onlyGivenNames x; clear_value (hx : x = _); revert x; refine let_kept (ql := ql) ?_ fun x _ => ?_)
    | (extract_lets +onlyGivenNames x; clear_value (hx : x = _); clear hx)
    | (with_reducible refine State.setCl_kept ?_)
    | (with_reducible refine State.setPort_kept ?_)
    | (with_reducible refine foldl_kept (fun _ _ _ => ?_) ?_)
    | (with_reducible exact mk_kept (by assumption))

theorem State.dieReset_kept {ql : List Instr} {s : State} {d : Nat} (h1 : s.Kept ql) : State.Kept ql (State.dieReset s d) := by
  unfold State.dieReset
  repeat' first
    | with_reducible assumption
    | (extract_lets +onlyGivenNames x; clear_value (hx : x = _); revert x; refine let_kept (ql := ql) ?_ fun x _ => ?_)
    | (extract_lets +onlyGivenNames x; clear_value (hx : x = _); replace hx : (_ : Faults) = _ := hx; subst hx)
    | (with_reducible refine State.setObj_kept ?_)
    | (with_reducible refine State.raiseFault_kept ?_)
    | (with_reducible refine State.interruptRecovery_kept ?_)
    | (with_reducible refine State.openAtOnce_kept ?_)
    | (with_reducible refine State.gateDie_kept ?_)
    | (with_reducible refine ite_kept (fun _ => ?_) (fun _ => ?_))
    | split
    | ((with_reducible refine mk_all_kept (by assumption) ?_ ?_ ?_ ?_ ?_ ?_ ?_) <;> exact id)

theorem execDieReset_kept {ql : List Instr} {die : Die} {s : State} (h1 : s.Kept ql) : Out.Kept ql (execDieReset die s) := by
  unfold execDieReset
  repeat' first
    | with_reducible assumption
    | (with_reducible refine State.dieReset_kept ?_)
    | (with_reducible refine Out.next_kept ?_)
    | (with_reducible refine ite_out_kept (fun _ => ?_) (fun _ => ?_))

theorem execBrownOutResetLevel_kept {ql : List Instr} {rail : RailIx} {mv : BitVec 16} {s : State} (h1 : s.Kept ql) : Out.Kept ql (execBrownOutResetLevel rail mv s) := by
  unfold execBrownOutResetLevel
  repeat' first
    | with_reducible assumption
    | (extract_lets +onlyGivenNames x; clear_value (hx : x = _); revert x; refine let_kept (ql := ql) ?_ fun x _ => ?_)
    | (with_reducible refine State.setObj_kept ?_)
    | (with_reducible refine State.bump_kept ?_)
    | (with_reducible refine State.persistMaybe_kept ?_)
    | (with_reducible refine State.powerReset_kept ?_)
    | (with_reducible refine State.warmReset_kept ?_)
    | (with_reducible refine State.dieReset_kept ?_)
    | (with_reducible refine Out.next_kept ?_)
    | (with_reducible refine ite_kept (fun _ => ?_) (fun _ => ?_))
    | (with_reducible refine ite_out_kept (fun _ => ?_) (fun _ => ?_))

theorem State.shutdownGates_kept {ql : List Instr} {s : State} (h1 : s.Kept ql) : State.Kept ql (State.shutdownGates s) := by
  unfold State.shutdownGates
  repeat' first
    | (extract_lets +onlyGivenNames x; clear_value (hx : x = _); replace hx : (_ : Run) = _ := hx; subst hx)
    | (extract_lets +onlyGivenNames x; clear_value (hx : x = _); clear hx)
    | (with_reducible refine State.beginMove_kept ?_)
    | ((with_reducible refine mk_all_kept (by assumption) ?_ ?_ ?_ ?_ ?_ ?_ ?_) <;> exact id)

theorem State.shutdownNow_kept {ql : List Instr} {s : State} (h1 : s.Kept ql) : State.Kept ql (State.shutdownNow s) := by
  unfold State.shutdownNow
  repeat' first
    | with_reducible assumption
    | (extract_lets +onlyGivenNames x; clear_value (hx : x = _); clear hx)
    | (with_reducible refine State.setObj_kept ?_)
    | (with_reducible refine State.stopDiag_kept ?_)
    | (with_reducible refine State.openAtOnce_kept ?_)
    | (with_reducible refine State.shutdownGates_kept ?_)
    | (with_reducible refine ite_kept (fun _ => ?_) (fun _ => ?_))
    | (with_reducible exact mk_kept (by assumption))

theorem execThermalShutdown_kept {ql : List Instr} {die : Fin 5} {sensor : Fin 16} {temp : BitVec 16} {s : State} (h1 : s.Kept ql) : Out.Kept ql (execThermalShutdown die sensor temp s) := by
  unfold execThermalShutdown
  repeat' first
    | with_reducible assumption
    | (extract_lets +onlyGivenNames x; clear_value (hx : x = _); revert x; refine let_kept (ql := ql) ?_ fun x _ => ?_)
    | (with_reducible refine State.raiseFault_kept ?_)
    | (with_reducible refine State.interruptRecovery_kept ?_)
    | (with_reducible refine State.shutdownNow_kept ?_)
    | (with_reducible refine Out.next_kept ?_)
    | (with_reducible refine ite_out_kept (fun _ => ?_) (fun _ => ?_))

theorem execAbandonHold_kept {ql : List Instr} {s : State} (h1 : s.Kept ql) : Out.Kept ql (execAbandonHold s) := by
  unfold execAbandonHold
  repeat' first
    | with_reducible assumption
    | (extract_lets +onlyGivenNames x; clear_value (hx : x = _); revert x; refine let_kept (ql := ql) ?_ fun x _ => ?_)
    | (with_reducible refine State.abandonEnds_kept ?_)
    | (with_reducible refine State.shutdownGates_kept ?_)
    | (with_reducible refine Out.next_kept ?_)
    | (with_reducible refine ite_kept (fun _ => ?_) (fun _ => ?_))
    | (with_reducible refine ite_out_kept (fun _ => ?_) (fun _ => ?_))
    | split

theorem State.returnErase_kept {ql : List Instr} {s : State} (h1 : s.Kept ql) : State.Kept ql (State.returnErase s) := by
  unfold State.returnErase
  repeat' first
    | with_reducible assumption
    | (extract_lets +onlyGivenNames x; clear_value (hx : x = _); revert x; refine let_kept (ql := ql) ?_ fun x _ => ?_)
    | (extract_lets +onlyGivenNames x; clear_value (hx : x = _); clear hx)
    | (with_reducible refine State.setObjs_kept ?_)
    | (with_reducible exact mk_kept (by assumption))

theorem State.returnReset_kept {ql : List Instr} {s : State} (h1 : s.Kept ql) : State.Kept ql (State.returnReset s) := by
  unfold State.returnReset
  repeat' first
    | with_reducible assumption
    | (extract_lets +onlyGivenNames x; clear_value (hx : x = _); revert x; refine let_kept (ql := ql) ?_ fun x _ => ?_)
    | (extract_lets +onlyGivenNames x; clear_value (hx : x = _); replace hx : (_ : Hub) = _ := hx; subst hx)
    | (with_reducible refine State.setObjs_kept ?_)
    | (with_reducible refine State.bump_kept ?_)
    | (with_reducible refine State.persistWrite_kept ?_)
    | (with_reducible refine State.hubReset_kept ?_)
    | ((with_reducible refine mk_all_kept (by assumption) ?_ ?_ ?_ ?_ ?_ ?_ ?_) <;> exact id)

theorem State.returnFuse_kept {ql : List Instr} {s : State} (h1 : s.Kept ql) : State.Kept ql (State.returnFuse s) := by
  unfold State.returnFuse
  repeat' first
    | (extract_lets +onlyGivenNames x; clear_value (hx : x = _); clear hx)
    | (with_reducible refine State.setObjs_kept ?_)
    | (with_reducible exact mk_kept (by assumption))

theorem execAuxStartDone_kept {ql : List Instr} {s : State} (h1 : s.Kept ql) : Out.Kept ql (execAuxStartDone s) := by
  unfold execAuxStartDone
  repeat' first
    | with_reducible assumption
    | (with_reducible refine State.setObj_kept ?_)
    | (with_reducible refine Out.next_kept ?_)
    | (with_reducible refine ite_out_kept (fun _ => ?_) (fun _ => ?_))

theorem execClocksDone_kept {ql : List Instr} {s : State} (h1 : s.Kept ql) : Out.Kept ql (execClocksDone s) := by
  unfold execClocksDone
  repeat' first
    | with_reducible assumption
    | (extract_lets +onlyGivenNames x; clear_value (hx : x = _); clear hx)
    | (with_reducible refine State.setObj_kept ?_)
    | (with_reducible refine Out.next_kept ?_)
    | (with_reducible refine ite_out_kept (fun _ => ?_) (fun _ => ?_))
    | (with_reducible exact mk_kept (by assumption))

theorem State.romStarts_kept {ql : List Instr} {s : State} {a b : Bool} (h1 : s.Kept ql) : State.Kept ql (State.romStarts s a b) := by
  unfold State.romStarts
  repeat' first
    | with_reducible assumption
    | (with_reducible refine State.setObjs_kept ?_)
    | (with_reducible refine ite_kept (fun _ => ?_) (fun _ => ?_))

theorem execRomDone_kept {ql : List Instr} {a b : Option (BitVec 16)} {s : State} (h1 : s.Kept ql) : Out.Kept ql (execRomDone a b s) := by
  unfold execRomDone
  repeat' first
    | with_reducible assumption
    | (extract_lets +onlyGivenNames x; clear_value (hx : x = _); revert x; refine let_kept (ql := ql) ?_ fun x _ => ?_)
    | (extract_lets +onlyGivenNames x; clear_value (hx : x = _); replace hx : (_ : Hub) = _ := hx; subst hx)
    | (with_reducible refine State.setObj_kept ?_)
    | (with_reducible refine State.returnErase_kept ?_)
    | (with_reducible refine State.returnReset_kept ?_)
    | (with_reducible refine State.returnFuse_kept ?_)
    | (with_reducible refine State.romStarts_kept ?_)
    | (with_reducible refine Out.next_kept ?_)
    | (with_reducible refine ite_kept (fun _ => ?_) (fun _ => ?_))
    | (with_reducible refine ite_out_kept (fun _ => ?_) (fun _ => ?_))
    | ((with_reducible refine mk_all_kept (by assumption) ?_ ?_ ?_ ?_ ?_ ?_ ?_) <;> exact id)

theorem State.restorePersist_kept {ql : List Instr} {s : State} (h1 : s.Kept ql) : State.Kept ql (State.restorePersist s) := by
  unfold State.restorePersist
  repeat' first
    | with_reducible assumption
    | (extract_lets +onlyGivenNames x; clear_value (hx : x = _); revert x; refine let_kept (ql := ql) ?_ fun x _ => ?_)
    | (extract_lets +onlyGivenNames x; clear_value (hx : x = _); clear hx)
    | (with_reducible refine State.setObj_kept ?_)
    | (with_reducible refine State.setCl_kept ?_)
    | (with_reducible refine State.setPort_kept ?_)
    | (with_reducible refine State.writeRails_kept ?_)
    | (with_reducible refine State.setRaise_kept ?_)
    | (with_reducible refine foldl_kept (fun _ _ _ => ?_) ?_)

theorem execFirmwareDone_kept {ql : List Instr} {version : BitVec 32} {svn : Option (BitVec 16)} {s : State} (h1 : s.Kept ql) : Out.Kept ql (execFirmwareDone version svn s) := by
  unfold execFirmwareDone
  repeat' first
    | with_reducible assumption
    | (extract_lets +onlyGivenNames x; clear_value (hx : x = _); revert x; refine let_kept (ql := ql) ?_ fun x _ => ?_)
    | (with_reducible refine State.setObj_kept ?_)
    | (with_reducible refine State.raise_kept ?_)
    | (with_reducible refine State.restorePersist_kept ?_)
    | (with_reducible refine Out.next_kept ?_)
    | (with_reducible refine ite_kept (fun _ => ?_) (fun _ => ?_))
    | (with_reducible refine ite_out_kept (fun _ => ?_) (fun _ => ?_))

theorem State.canSend_kept {ql : List Instr} {s : State} {cob : Nat} {data : List Byte} (h1 : s.Kept ql) : State.Kept ql (State.canSend s cob data) := by
  unfold State.canSend
  repeat' first
    | with_reducible assumption
    | (with_reducible refine State.emit_kept ?_)
    | (with_reducible refine ite_kept (fun _ => ?_) (fun _ => ?_))

theorem State.bootUp_kept {ql : List Instr} {s : State} (h1 : s.Kept ql) : State.Kept ql (State.bootUp s) := by
  unfold State.bootUp
  repeat' first
    | with_reducible assumption
    | (with_reducible refine State.canSend_kept ?_)

theorem execHbmDone_kept {ql : List Instr} {trained : Bool} {s : State} (h1 : s.Kept ql) : Out.Kept ql (execHbmDone trained s) := by
  unfold execHbmDone
  repeat' first
    | with_reducible assumption
    | (extract_lets +onlyGivenNames x; clear_value (hx : x = _); revert x; refine let_kept (ql := ql) ?_ fun x _ => ?_)
    | (extract_lets +onlyGivenNames x; clear_value (hx : x = _); replace hx : (_ : Hbm) = _ := hx; subst hx)
    | (extract_lets +onlyGivenNames x; clear_value (hx : x = _); clear hx)
    | (with_reducible refine State.setObjs_kept ?_)
    | (with_reducible refine State.bootUp_kept ?_)
    | (with_reducible refine Out.next_kept ?_)
    | (with_reducible refine ite_kept (fun _ => ?_) (fun _ => ?_))
    | (with_reducible refine ite_out_kept (fun _ => ?_) (fun _ => ?_))
    | (with_reducible exact mk_kept (by assumption))
    | ((with_reducible refine mk_all_kept (by assumption) ?_ ?_ ?_ ?_ ?_ ?_ ?_) <;> exact id)
    | ((with_reducible refine mk_all_kept (by assumption) ?_ ?_ ?_ ?_ ?_ ?_ ?_) <;> first | exact id | exact fun _ => rfl)

end Sys2Proof.Machine
end

