-- ==== Sys2Proof/Laws/KeptHalt.lean ====
section
/-!
SUPPORT. Every operation of Machine/Halt.lean leaves the queue of waiting commands as it is, the stores canonical and what waits within bounds.
-/

set_option linter.tactic.unusedName false
set_option linter.unusedVariables false

namespace Sys2Proof.Machine

theorem State.requestHalt_kept {ql : List Instr} {s : State} {c cause : Nat} (h1 : s.Kept ql) : State.Kept ql (State.requestHalt s c cause) := by
  unfold State.requestHalt
  repeat' first
    | with_reducible assumption
    | (extract_lets +onlyGivenNames x; clear_value (hx : x = _); clear hx)
    | (with_reducible refine State.setCore_kept ?_)
    | (with_reducible refine ite_kept (fun _ => ?_) (fun _ => ?_))

theorem State.designHalts_kept {ql : List Instr} {s : State} (h1 : s.Kept ql) : State.Kept ql (State.designHalts s) := by
  unfold State.designHalts
  repeat' first
    | with_reducible assumption
    | (with_reducible refine State.requestHalt_kept ?_)
    | (with_reducible refine foldl_kept (fun _ _ _ => ?_) ?_)
    | (with_reducible refine ite_kept (fun _ => ?_) (fun _ => ?_))

theorem State.debugHold_kept {ql : List Instr} {s : State} {master : Nat} (h1 : s.Kept ql) : Kept1 ql (State.debugHold s master) := by
  unfold State.debugHold
  repeat' first
    | with_reducible assumption
    | (extract_lets +onlyGivenNames x; clear_value (hx : x = _); revert x; refine let_kept (ql := ql) ?_ fun x _ => ?_)
    | (extract_lets +onlyGivenNames x; clear_value (hx : x = _); replace hx : (_ : Run) = _ := hx; subst hx)
    | (extract_lets +onlyGivenNames x; clear_value (hx : x = _); replace hx : (_ : Faults) = _ := hx; subst hx)
    | (with_reducible refine State.raiseStop_kept ?_)
    | (with_reducible refine State.designHalts_kept ?_)
    | (with_reducible refine ite_kept (fun _ => ?_) (fun _ => ?_))
    | split
    | (with_reducible refine mk1_kept ?_)
    | ((with_reducible refine mk_all_kept (by assumption) ?_ ?_ ?_ ?_ ?_ ?_ ?_) <;> exact id)

theorem writeDhalt_kept {ql : List Instr} {m : Master} {v : Nat} {s : State} (h1 : s.Kept ql) : Kept1 ql (writeDhalt m v s) := by
  unfold writeDhalt
  repeat' first
    | with_reducible assumption
    | (extract_lets +onlyGivenNames x; clear_value (hx : x = _); revert x; refine let1_kept (ql := ql) ?_ fun x _ => ?_)
    | (with_reducible refine State.answered_kept ?_)
    | (with_reducible refine State.debugHold_kept ?_)
    | (with_reducible refine ite1_kept (fun _ => ?_) (fun _ => ?_))
    | (with_reducible refine fst_kept ?_)
    | (with_reducible refine mk1_kept ?_)

theorem execDhalt_kept {ql : List Instr} {m : Master} {v : Byte} {s : State} (h1 : s.Kept ql) : Out.Kept ql (execDhalt m v s) := by
  unfold execDhalt
  repeat' first
    | with_reducible assumption
    | (with_reducible refine State.write_kept ?_ (fun _ _ => ?_))
    | (with_reducible refine writeDhalt_kept ?_)

theorem State.haltCore_kept {ql : List Instr} {s : State} {c cause cycles broke : Nat} (h1 : s.Kept ql) : State.Kept ql (State.haltCore s c cause cycles broke) := by
  unfold State.haltCore
  repeat' first
    | with_reducible assumption
    | (extract_lets +onlyGivenNames x; clear_value (hx : x = _); revert x; refine let_kept (ql := ql) ?_ fun x _ => ?_)
    | (extract_lets +onlyGivenNames x; clear_value (hx : x = _); clear hx)
    | (with_reducible refine State.setObjBit_kept ?_)
    | (with_reducible refine State.setCore_kept ?_)
    | (with_reducible refine State.debugHold_kept ?_)
    | (with_reducible refine ite_kept (fun _ => ?_) (fun _ => ?_))
    | (with_reducible refine fst_kept ?_)

theorem execCoreHalted_kept {ql : List Instr} {core : CoreIx} {cycles : BitVec 13} {s : State} (h1 : s.Kept ql) : Out.Kept ql (execCoreHalted core cycles s) := by
  unfold execCoreHalted
  repeat' first
    | with_reducible assumption
    | (extract_lets +onlyGivenNames x; clear_value (hx : x = _); clear hx)
    | (with_reducible refine State.haltCore_kept ?_)
    | (with_reducible refine Out.next_kept ?_)
    | (with_reducible refine ite_out_kept (fun _ => ?_) (fun _ => ?_))

theorem execHaltDeferLimit_kept {ql : List Instr} {core : CoreIx} {s : State} (h1 : s.Kept ql) : Out.Kept ql (execHaltDeferLimit core s) := by
  unfold execHaltDeferLimit
  repeat' first
    | with_reducible assumption
    | (extract_lets +onlyGivenNames x; clear_value (hx : x = _); clear hx)
    | (with_reducible refine State.bump_kept ?_)
    | (with_reducible refine State.haltCore_kept ?_)
    | (with_reducible refine Out.next_kept ?_)
    | (with_reducible refine ite_out_kept (fun _ => ?_) (fun _ => ?_))

theorem State.resumeCore_kept {ql : List Instr} {s : State} {c : Nat} (h1 : s.Kept ql) : State.Kept ql (State.resumeCore s c) := by
  unfold State.resumeCore
  repeat' first
    | with_reducible assumption
    | (extract_lets +onlyGivenNames x; clear_value (hx : x = _); revert x; refine let_kept (ql := ql) ?_ fun x _ => ?_)
    | (extract_lets +onlyGivenNames x; clear_value (hx : x = _); clear hx)
    | (with_reducible refine State.setObjBit_kept ?_)
    | (with_reducible refine State.setCore_kept ?_)
    | (with_reducible refine State.takeIrq_kept ?_)
    | (with_reducible refine ite_kept (fun _ => ?_) (fun _ => ?_))

theorem execEbreak_kept {ql : List Instr} {core : CoreIx} {s : State} (h1 : s.Kept ql) : Out.Kept ql (execEbreak core s) := by
  unfold execEbreak
  repeat' first
    | with_reducible assumption
    | (extract_lets +onlyGivenNames x; clear_value (hx : x = _); clear hx)
    | (with_reducible refine State.draw_kept ?_)
    | (with_reducible refine State.trap_kept ?_)
    | (with_reducible refine State.haltCore_kept ?_)
    | (with_reducible refine Out.next_kept ?_)
    | (with_reducible refine ite_out_kept (fun _ => ?_) (fun _ => ?_))
    | split

theorem State.writeCdctl_kept {ql : List Instr} {s : State} {c v : Nat} (h1 : s.Kept ql) : State.Kept ql (State.writeCdctl s c v) := by
  unfold State.writeCdctl
  repeat' first
    | with_reducible assumption
    | (extract_lets +onlyGivenNames x; clear_value (hx : x = _); revert x; refine let_kept (ql := ql) ?_ fun x _ => ?_)
    | (extract_lets +onlyGivenNames x; clear_value (hx : x = _); clear hx)
    | (with_reducible refine State.setCore_kept ?_)
    | (with_reducible refine State.requestHalt_kept ?_)
    | (with_reducible refine State.resumeCore_kept ?_)
    | (with_reducible refine ite_kept (fun _ => ?_) (fun _ => ?_))

theorem State.cdctlBit_kept {ql : List Instr} {s : State} {c bit : Nat} (h1 : s.Kept ql) : Out.Kept ql (State.cdctlBit s c bit) := by
  unfold State.cdctlBit
  repeat' first
    | with_reducible assumption
    | (with_reducible refine State.writeCdctl_kept ?_)
    | (with_reducible refine Out.next_kept ?_)
    | (with_reducible refine ite_out_kept (fun _ => ?_) (fun _ => ?_))

theorem execHaltreq_kept {ql : List Instr} {core : CoreIx} {s : State} (h1 : s.Kept ql) : Out.Kept ql (execHaltreq core s) := by
  unfold execHaltreq
  repeat' first
    | with_reducible assumption
    | (with_reducible refine State.cdctlBit_kept ?_)

theorem execResumereq_kept {ql : List Instr} {core : CoreIx} {s : State} (h1 : s.Kept ql) : Out.Kept ql (execResumereq core s) := by
  unfold execResumereq
  repeat' first
    | with_reducible assumption
    | (with_reducible refine State.cdctlBit_kept ?_)

theorem execClrBroke_kept {ql : List Instr} {core : CoreIx} {s : State} (h1 : s.Kept ql) : Out.Kept ql (execClrBroke core s) := by
  unfold execClrBroke
  repeat' first
    | with_reducible assumption
    | (with_reducible refine State.cdctlBit_kept ?_)

theorem State.csrWrite_kept {ql : List Instr} {s : State} {c n v : Nat} (h1 : s.Kept ql) : State.Kept ql (State.csrWrite s c n v) := by
  unfold State.csrWrite
  repeat' first
    | with_reducible assumption
    | (extract_lets +onlyGivenNames x; clear_value (hx : x = _); replace hx : (_ : _ → _) = _ := hx; subst hx; first | dsimp -zeta only | skip)
    | (extract_lets +onlyGivenNames x; clear_value (hx : x = _); clear hx)
    | (with_reducible refine State.bump_kept ?_)
    | (with_reducible refine State.setCore_kept ?_)
    | (with_reducible refine State.setThread_kept ?_)
    | (with_reducible refine ite_kept (fun _ => ?_) (fun _ => ?_))

end Sys2Proof.Machine
end

