-- ==== Sys2Proof/Laws/KeptLifecycle.lean ====
section
/-!
SUPPORT. Every operation of Machine/Lifecycle.lean leaves the queue of waiting commands as it is, the stores canonical and what waits within bounds.
-/

set_option linter.tactic.unusedName false
set_option linter.unusedVariables false

namespace Sys2Proof.Machine

theorem State.newNonce_kept {ql : List Instr} {s : State} (h1 : s.Kept ql) : State.Kept ql (State.newNonce s) := by
  unfold State.newNonce
  repeat' first
    | (extract_lets +onlyGivenNames x; clear_value (hx : x = _); clear hx)
    | (with_reducible exact mk_kept (by assumption))

theorem State.lcServe_kept {ql : List Instr} {s : State} {target : Nat} {sig : List Byte} (h1 : s.Kept ql) : Kept1 ql (State.lcServe s target sig) := by
  unfold State.lcServe
  repeat' first
    | with_reducible assumption
    | (extract_lets +onlyGivenNames x; clear_value (hx : x = _); revert x; refine let_kept (ql := ql) ?_ fun x _ => ?_)
    | (extract_lets +onlyGivenNames x; clear_value (hx : x = _); clear hx)
    | (with_reducible refine State.setObj_kept ?_)
    | (with_reducible refine State.newNonce_kept ?_)
    | (with_reducible refine ite1_kept (fun _ => ?_) (fun _ => ?_))
    | (with_reducible refine mk1_kept ?_)
    | (with_reducible exact mk_kept (by assumption))

theorem writeLcReq_kept {ql : List Instr} {v : Nat} {s : State} (h1 : s.Kept ql) : Kept1 ql (writeLcReq v s) := by
  unfold writeLcReq
  repeat' first
    | with_reducible assumption
    | (with_reducible refine State.lcServe_kept ?_)
    | (with_reducible refine ite1_kept (fun _ => ?_) (fun _ => ?_))
    | (with_reducible refine mk1_kept ?_)

theorem execLcReq_kept {ql : List Instr} {by_ : Option Master} {target : Byte} {sig : BitVec 768} {s : State} (h1 : s.Kept ql) : Out.Kept ql (execLcReq by_ target sig s) := by
  unfold execLcReq
  repeat' first
    | with_reducible assumption
    | (with_reducible refine State.write_kept ?_ (fun _ _ => ?_))
    | (with_reducible refine State.lcServe_kept ?_)
    | (with_reducible refine writeLcReq_kept ?_)
    | (with_reducible refine Out.next_kept ?_)
    | (with_reducible refine ite_out_kept (fun _ => ?_) (fun _ => ?_))
    | (with_reducible refine fst_kept ?_)
    | split

theorem execLcTransitionDone_kept {ql : List Instr} {s : State} (h1 : s.Kept ql) : Out.Kept ql (execLcTransitionDone s) := by
  unfold execLcTransitionDone
  repeat' first
    | with_reducible assumption
    | (extract_lets +onlyGivenNames x; clear_value (hx : x = _); clear hx)
    | (with_reducible refine State.setObjs_kept ?_)
    | (with_reducible refine State.returnErase_kept ?_)
    | (with_reducible refine State.returnReset_kept ?_)
    | (with_reducible refine State.returnFuse_kept ?_)
    | (with_reducible refine Out.next_kept ?_)
    | (with_reducible refine ite_out_kept (fun _ => ?_) (fun _ => ?_))
    | split
    | (with_reducible exact mk_kept (by assumption))

theorem State.keyEnds_kept {ql : List Instr} {s : State} {result : Nat} (h1 : s.Kept ql) : State.Kept ql (State.keyEnds s result) := by
  unfold State.keyEnds
  repeat' first
    | with_reducible assumption
    | (with_reducible refine State.setObjs_kept ?_)

theorem State.keyCommand_kept {ql : List Instr} {s : State} {v : Nat} (h1 : s.Kept ql) : State.Kept ql (State.keyCommand s v) := by
  unfold State.keyCommand
  repeat' first
    | with_reducible assumption
    | (extract_lets +onlyGivenNames x; clear_value (hx : x = _); revert x; refine let_kept (ql := ql) ?_ fun x _ => ?_)
    | (extract_lets +onlyGivenNames x; clear_value (hx : x = _); replace hx : (_ : _ → _) = _ := hx; subst hx; first | dsimp -zeta only | skip)
    | (extract_lets +onlyGivenNames x; clear_value (hx : x = _); clear hx)
    | (with_reducible refine State.setObj_kept ?_)
    | (with_reducible refine State.setObjBit_kept ?_)
    | (with_reducible refine State.keyEnds_kept ?_)
    | (with_reducible refine ite_kept (fun _ => ?_) (fun _ => ?_))
    | (with_reducible exact mk_kept (by assumption))

theorem writeKeyCmd_kept {ql : List Instr} {m : Master} {v : Nat} {s : State} (h1 : s.Kept ql) : Kept1 ql (writeKeyCmd m v s) := by
  unfold writeKeyCmd
  repeat' first
    | with_reducible assumption
    | (extract_lets +onlyGivenNames x; clear_value (hx : x = _); clear hx)
    | (with_reducible refine State.keyEnds_kept ?_)
    | (with_reducible refine State.keyCommand_kept ?_)
    | (with_reducible refine ite1_kept (fun _ => ?_) (fun _ => ?_))
    | (with_reducible refine mk1_kept ?_)

theorem execKeyCmdInstallImageKey_kept {ql : List Instr} {m : Master} {s : State} (h1 : s.Kept ql) : Out.Kept ql (execKeyCmdInstallImageKey m s) := by
  unfold execKeyCmdInstallImageKey
  repeat' first
    | with_reducible assumption
    | (with_reducible refine State.write_kept ?_ (fun _ _ => ?_))
    | (with_reducible refine writeKeyCmd_kept ?_)

theorem execKeyCmdInstallSigningKey_kept {ql : List Instr} {m : Master} {s : State} (h1 : s.Kept ql) : Out.Kept ql (execKeyCmdInstallSigningKey m s) := by
  unfold execKeyCmdInstallSigningKey
  repeat' first
    | with_reducible assumption
    | (with_reducible refine State.write_kept ?_ (fun _ _ => ?_))
    | (with_reducible refine writeKeyCmd_kept ?_)

theorem execKeyCmdSetOwnerKey_kept {ql : List Instr} {m : Master} {s : State} (h1 : s.Kept ql) : Out.Kept ql (execKeyCmdSetOwnerKey m s) := by
  unfold execKeyCmdSetOwnerKey
  repeat' first
    | with_reducible assumption
    | (with_reducible refine State.write_kept ?_ (fun _ _ => ?_))
    | (with_reducible refine writeKeyCmd_kept ?_)

theorem execKeyCmdRevoke_kept {ql : List Instr} {m : Master} {s : State} (h1 : s.Kept ql) : Out.Kept ql (execKeyCmdRevoke m s) := by
  unfold execKeyCmdRevoke
  repeat' first
    | with_reducible assumption
    | (with_reducible refine State.write_kept ?_ (fun _ _ => ?_))
    | (with_reducible refine writeKeyCmd_kept ?_)

theorem writeFlCmd_kept {ql : List Instr} {m : Master} {v : Nat} {s : State} (h1 : s.Kept ql) : Kept1 ql (writeFlCmd m v s) := by
  unfold writeFlCmd
  repeat' first
    | with_reducible assumption
    | (extract_lets +onlyGivenNames x; clear_value (hx : x = _); clear hx)
    | (with_reducible refine State.setObj_kept ?_)
    | (with_reducible refine ite1_kept (fun _ => ?_) (fun _ => ?_))
    | (with_reducible refine mk1_kept ?_)
    | (with_reducible exact mk_kept (by assumption))

theorem execFlCmdProgram_kept {ql : List Instr} {m : Master} {s : State} (h1 : s.Kept ql) : Out.Kept ql (execFlCmdProgram m s) := by
  unfold execFlCmdProgram
  repeat' first
    | with_reducible assumption
    | (with_reducible refine State.write_kept ?_ (fun _ _ => ?_))
    | (with_reducible refine writeFlCmd_kept ?_)

theorem execFlCmdErase_kept {ql : List Instr} {m : Master} {s : State} (h1 : s.Kept ql) : Out.Kept ql (execFlCmdErase m s) := by
  unfold execFlCmdErase
  repeat' first
    | with_reducible assumption
    | (with_reducible refine State.write_kept ?_ (fun _ _ => ?_))
    | (with_reducible refine writeFlCmd_kept ?_)

theorem State.openPersist_kept {ql : List Instr} {s : State} (h1 : s.Kept ql) : State.Kept ql (State.openPersist s) := by
  unfold State.openPersist
  repeat' first
    | (extract_lets +onlyGivenNames x; clear_value (hx : x = _); replace hx : (_ : _ → _) = _ := hx; subst hx; first | dsimp -zeta only | skip)
    | (with_reducible exact mk_kept (by assumption))

theorem execFlDone_kept {ql : List Instr} {verified : Bool} {s : State} (h1 : s.Kept ql) : Out.Kept ql (execFlDone verified s) := by
  unfold execFlDone
  repeat' first
    | with_reducible assumption
    | (extract_lets +onlyGivenNames x; clear_value (hx : x = _); revert x; refine let_kept (ql := ql) ?_ fun x _ => ?_)
    | (extract_lets +onlyGivenNames x; clear_value (hx : x = _); clear hx)
    | (with_reducible refine State.setObjs_kept ?_)
    | (with_reducible refine State.draw_kept ?_)
    | (with_reducible refine State.openPersist_kept ?_)
    | (with_reducible refine Out.next_kept ?_)
    | (with_reducible refine ite_kept (fun _ => ?_) (fun _ => ?_))
    | split
    | (with_reducible exact mk_kept (by assumption))

end Sys2Proof.Machine
end

