-- ==== Sys2Proof/Laws/KeptSeam.lean ====
section
/-!
SUPPORT. Every operation of Machine/Seam.lean leaves the queue of waiting commands as it is, the stores canonical and what waits within bounds.
-/

set_option linter.tactic.unusedName false
set_option linter.unusedVariables false

namespace Sys2Proof.Machine

theorem State.linkDown_kept {ql : List Instr} {s : State} {l : Nat} {keep : Bool} (h1 : s.Kept ql) : State.Kept ql (State.linkDown s l keep) := by
  unfold State.linkDown
  repeat' first
    | with_reducible assumption
    | (extract_lets +onlyGivenNames x; clear_value (hx : x = _); revert x; refine let_kept (ql := ql) ?_ fun x _ => ?_)
    | (extract_lets +onlyGivenNames x; clear_value (hx : x = _); clear hx)
    | (extract_lets +onlyGivenNames x; subst x)
    | (with_reducible refine State.setObj_kept ?_)
    | (with_reducible refine State.bump_kept ?_)
    | (with_reducible refine State.setObjBit_kept ?_)
    | (with_reducible refine State.setLink_kept ?_)
    | (with_reducible refine State.dropDelay_kept ?_)
    | (with_reducible refine ite_kept (fun _ => ?_) (fun _ => ?_))

theorem State.laneLost_kept {ql : List Instr} {s : State} {l i : Nat} (h1 : s.Kept ql) : State.Kept ql (State.laneLost s l i) := by
  unfold State.laneLost
  repeat' first
    | with_reducible assumption
    | (extract_lets +onlyGivenNames x; clear_value (hx : x = _); revert x; refine let_kept (ql := ql) ?_ fun x _ => ?_)
    | (extract_lets +onlyGivenNames x; clear_value (hx : x = _); clear hx)
    | (with_reducible refine State.setObjBit_kept ?_)
    | (with_reducible refine State.setLink_kept ?_)
    | (with_reducible refine State.linkDown_kept ?_)

theorem State.flow_kept {ql : List Instr} {s : State} {l : Nat} (h1 : s.Kept ql) : State.Kept ql (State.flow s l) := by
  unfold State.flow
  repeat' first
    | with_reducible assumption
    | (extract_lets +onlyGivenNames x; clear_value (hx : x = _); clear hx)
    | (with_reducible refine State.setLink_kept ?_)

theorem State.laneEvent_kept {ql : List Instr} {s : State} {l i : Nat} {filler : Bool} {e : LaneEvent} (h1 : s.Kept ql) : State.Kept ql (State.laneEvent s l i filler e) := by
  unfold State.laneEvent
  repeat' first
    | with_reducible assumption
    | (extract_lets +onlyGivenNames x; clear_value (hx : x = _); clear hx)
    | (with_reducible refine State.bump_kept ?_)
    | (with_reducible refine State.setObjBit_kept ?_)
    | (with_reducible refine State.setLink_kept ?_)
    | (with_reducible refine State.linkDown_kept ?_)
    | (with_reducible refine State.flow_kept ?_)
    | (with_reducible refine ite_kept (fun _ => ?_) (fun _ => ?_))
    | split

theorem execSeamBlockReceive_kept {ql : List Instr} {link : LinkIx} {lane : LaneIx} {bits : List Bool} {past : BitVec 34} {filler : Bool} {s : State} (h1 : s.Kept ql) : Out.Kept ql (execSeamBlockReceive link lane bits past filler s) := by
  unfold execSeamBlockReceive
  repeat' first
    | with_reducible assumption
    | (extract_lets +onlyGivenNames x; clear_value (hx : x = _); clear hx)
    | (with_reducible refine State.setLink_kept ?_)
    | (with_reducible refine State.laneEvent_kept ?_)
    | (with_reducible refine foldl_kept (fun _ _ _ => ?_) ?_)
    | (with_reducible refine Out.next_kept ?_)

theorem State.markerSeen_kept {ql : List Instr} {s : State} {l i txLane unit skew : Nat} (h1 : s.Kept ql) : State.Kept ql (State.markerSeen s l i txLane unit skew) := by
  unfold State.markerSeen
  repeat' first
    | with_reducible assumption
    | (extract_lets +onlyGivenNames x; clear_value (hx : x = _); revert x; refine let_kept (ql := ql) ?_ fun x _ => ?_)
    | (extract_lets +onlyGivenNames x; clear_value (hx : x = _); clear hx)
    | (with_reducible refine State.setObj_kept ?_)
    | (with_reducible refine State.raise_kept ?_)
    | (with_reducible refine State.setLink_kept ?_)
    | (with_reducible refine State.flow_kept ?_)
    | (with_reducible refine ite_kept (fun _ => ?_) (fun _ => ?_))

theorem State.markerHeard_kept {ql : List Instr} {s : State} {l i p skew : Nat} (h1 : s.Kept ql) : State.Kept ql (State.markerHeard s l i p skew) := by
  unfold State.markerHeard
  repeat' first
    | with_reducible assumption
    | (extract_lets +onlyGivenNames x; clear_value (hx : x = _); clear hx)
    | (with_reducible refine State.laneLost_kept ?_)
    | (with_reducible refine State.markerSeen_kept ?_)
    | (with_reducible refine ite_kept (fun _ => ?_) (fun _ => ?_))

theorem execLaneMarkerReceive_kept {ql : List Instr} {link : LinkIx} {lane : LaneIx} {skew : BitVec 16} {s : State} (h1 : s.Kept ql) : Out.Kept ql (execLaneMarkerReceive link lane skew s) := by
  unfold execLaneMarkerReceive
  repeat' first
    | with_reducible assumption
    | (extract_lets +onlyGivenNames x; clear_value (hx : x = _); revert x; refine let_kept (ql := ql) ?_ fun x _ => ?_)
    | (extract_lets +onlyGivenNames x; clear_value (hx : x = _); clear hx)
    | (with_reducible refine State.setLink_kept ?_)
    | (with_reducible refine State.crcFailed_kept ?_)
    | (with_reducible refine State.flow_kept ?_)
    | (with_reducible refine State.markerHeard_kept ?_)
    | (with_reducible refine Out.next_kept ?_)
    | (with_reducible refine ite_kept (fun _ => ?_) (fun _ => ?_))
    | (with_reducible refine ite_out_kept (fun _ => ?_) (fun _ => ?_))
    | split

theorem State.sendBlock_kept {ql : List Instr} {s : State} {l i : Nat} {b : SeamBlock} (h1 : s.Kept ql) : State.Kept ql (State.sendBlock s l i b) := by
  unfold State.sendBlock
  repeat' first
    | with_reducible assumption
    | (extract_lets +onlyGivenNames x; clear_value (hx : x = _); clear hx)
    | (with_reducible refine State.emit_kept ?_)
    | (with_reducible refine State.setLink_kept ?_)

theorem State.sendExtra_kept {ql : List Instr} {s : State} {l i : Nat} {b : SeamBlock} (h1 : s.Kept ql) : State.Kept ql (State.sendExtra s l i b) := by
  unfold State.sendExtra
  repeat' first
    | with_reducible assumption
    | (extract_lets +onlyGivenNames x; clear_value (hx : x = _); revert x; refine let_kept (ql := ql) ?_ fun x _ => ?_)
    | (extract_lets +onlyGivenNames x; clear_value (hx : x = _); clear hx)
    | (with_reducible refine State.setLink_kept ?_)
    | (with_reducible refine State.sendBlock_kept ?_)

theorem execLaneMarkerSend_kept {ql : List Instr} {link : LinkIx} {lane : LaneIx} {s : State} (h1 : s.Kept ql) : Out.Kept ql (execLaneMarkerSend link lane s) := by
  unfold execLaneMarkerSend
  repeat' first
    | with_reducible assumption
    | (extract_lets +onlyGivenNames x; clear_value (hx : x = _); revert x; refine let_kept (ql := ql) ?_ fun x _ => ?_)
    | (extract_lets +onlyGivenNames x; clear_value (hx : x = _); clear hx)
    | (with_reducible refine State.setLink_kept ?_)
    | (with_reducible refine State.sendExtra_kept ?_)
    | (with_reducible refine Out.next_kept ?_)
    | (with_reducible refine ite_out_kept (fun _ => ?_) (fun _ => ?_))

theorem State.linkUp_kept {ql : List Instr} {s : State} {l : Nat} (h1 : s.Kept ql) : State.Kept ql (State.linkUp s l) := by
  unfold State.linkUp
  repeat' first
    | with_reducible assumption
    | (extract_lets +onlyGivenNames x; clear_value (hx : x = _); revert x; refine let_kept (ql := ql) ?_ fun x _ => ?_)
    | (extract_lets +onlyGivenNames x; clear_value (hx : x = _); clear hx)
    | (with_reducible refine State.setObj_kept ?_)
    | (with_reducible refine State.bump_kept ?_)
    | (with_reducible refine State.setObjBit_kept ?_)
    | (with_reducible refine State.setLink_kept ?_)
    | (with_reducible refine State.startDelay_kept ?_)
    | (with_reducible refine ite_kept (fun _ => ?_) (fun _ => ?_))

theorem State.idleHeard_kept {ql : List Instr} {s : State} {l : Nat} {b : IdleBlock} (h1 : s.Kept ql) : State.Kept ql (State.idleHeard s l b) := by
  unfold State.idleHeard
  repeat' first
    | with_reducible assumption
    | (extract_lets +onlyGivenNames x; clear_value (hx : x = _); revert x; refine let_kept (ql := ql) ?_ fun x _ => ?_)
    | (extract_lets +onlyGivenNames x; clear_value (hx : x = _); clear hx)
    | (extract_lets +onlyGivenNames x; subst x)
    | (with_reducible refine State.setObj_kept ?_)
    | (with_reducible refine State.setObjs_kept ?_)
    | (with_reducible refine State.setLink_kept ?_)
    | (with_reducible refine State.linkDown_kept ?_)
    | (with_reducible refine State.linkUp_kept ?_)
    | (with_reducible refine ite_kept (fun _ => ?_) (fun _ => ?_))
    | split

theorem execIdleReceive_kept {ql : List Instr} {link : LinkIx} {s : State} (h1 : s.Kept ql) : Out.Kept ql (execIdleReceive link s) := by
  unfold execIdleReceive
  repeat' first
    | with_reducible assumption
    | (with_reducible refine State.hear_kept ?_ (fun _ _ _ _ => ?_))
    | (with_reducible refine State.idleHeard_kept ?_)
    | (with_reducible refine Out.next_kept ?_)

theorem execResumeLimitExpiry_kept {ql : List Instr} {link : LinkIx} {s : State} (h1 : s.Kept ql) : Out.Kept ql (execResumeLimitExpiry link s) := by
  unfold execResumeLimitExpiry
  repeat' first
    | with_reducible assumption
    | (extract_lets +onlyGivenNames x; clear_value (hx : x = _); revert x; refine let_kept (ql := ql) ?_ fun x _ => ?_)
    | (extract_lets +onlyGivenNames x; clear_value (hx : x = _); clear hx)
    | (with_reducible refine State.setLink_kept ?_)
    | (with_reducible refine State.raiseFault_kept ?_)
    | (with_reducible refine Out.next_kept ?_)
    | (with_reducible refine ite_kept (fun _ => ?_) (fun _ => ?_))
    | (with_reducible refine ite_out_kept (fun _ => ?_) (fun _ => ?_))
    | split

theorem State.ackHeard_kept {ql : List Instr} {s : State} {l seq credits : Nat} (h1 : s.Kept ql) : State.Kept ql (State.ackHeard s l seq credits) := by
  unfold State.ackHeard
  repeat' first
    | with_reducible assumption
    | (with_reducible refine State.setLink_kept ?_)
    | (with_reducible refine ite_kept (fun _ => ?_) (fun _ => ?_))

theorem execAck_kept {ql : List Instr} {link : LinkIx} {s : State} (h1 : s.Kept ql) : Out.Kept ql (execAck link s) := by
  unfold execAck
  repeat' first
    | with_reducible assumption
    | (with_reducible refine State.hear_kept ?_ (fun _ _ _ _ => ?_))
    | (with_reducible refine State.ackHeard_kept ?_)
    | (with_reducible refine Out.next_kept ?_)

theorem State.nakHeard_kept {ql : List Instr} {s : State} {l seq : Nat} (h1 : s.Kept ql) : State.Kept ql (State.nakHeard s l seq) := by
  unfold State.nakHeard
  repeat' first
    | with_reducible assumption
    | (extract_lets +onlyGivenNames x; clear_value (hx : x = _); clear hx)
    | (with_reducible refine State.setLink_kept ?_)
    | (with_reducible refine ite_kept (fun _ => ?_) (fun _ => ?_))

theorem execNak_kept {ql : List Instr} {link : LinkIx} {s : State} (h1 : s.Kept ql) : Out.Kept ql (execNak link s) := by
  unfold execNak
  repeat' first
    | with_reducible assumption
    | (with_reducible refine State.hear_kept ?_ (fun _ _ _ _ => ?_))
    | (with_reducible refine State.nakHeard_kept ?_)
    | (with_reducible refine Out.next_kept ?_)

theorem execAckTimeout_kept {ql : List Instr} {link : LinkIx} {s : State} (h1 : s.Kept ql) : Out.Kept ql (execAckTimeout link s) := by
  unfold execAckTimeout
  repeat' first
    | with_reducible assumption
    | (extract_lets +onlyGivenNames x; clear_value (hx : x = _); clear hx)
    | (with_reducible refine State.setLink_kept ?_)
    | (with_reducible refine Out.next_kept ?_)
    | (with_reducible refine ite_out_kept (fun _ => ?_) (fun _ => ?_))

theorem State.sendNak_kept {ql : List Instr} {s : State} {l : Nat} (h1 : s.Kept ql) : State.Kept ql (State.sendNak s l) := by
  unfold State.sendNak
  repeat' first
    | with_reducible assumption
    | (extract_lets +onlyGivenNames x; clear_value (hx : x = _); clear hx)
    | (with_reducible refine State.setLink_kept ?_)

theorem execNakRepeat_kept {ql : List Instr} {link : LinkIx} {s : State} (h1 : s.Kept ql) : Out.Kept ql (execNakRepeat link s) := by
  unfold execNakRepeat
  repeat' first
    | with_reducible assumption
    | (extract_lets +onlyGivenNames x; clear_value (hx : x = _); clear hx)
    | (with_reducible refine State.sendNak_kept ?_)
    | (with_reducible refine Out.next_kept ?_)
    | (with_reducible refine ite_out_kept (fun _ => ?_) (fun _ => ?_))

theorem execAckSend_kept {ql : List Instr} {link : LinkIx} {s : State} (h1 : s.Kept ql) : Out.Kept ql (execAckSend link s) := by
  unfold execAckSend
  repeat' first
    | with_reducible assumption
    | (extract_lets +onlyGivenNames x; clear_value (hx : x = _); revert x; refine let_kept (ql := ql) ?_ fun x _ => ?_)
    | (extract_lets +onlyGivenNames x; clear_value (hx : x = _); clear hx)
    | (with_reducible refine State.setLink_kept ?_)
    | (with_reducible refine State.sendMsg_kept ?_)
    | (with_reducible refine Out.next_kept ?_)
    | (with_reducible refine ite_out_kept (fun _ => ?_) (fun _ => ?_))

theorem State.sendUnit_kept {ql : List Instr} {s : State} {l : Nat} {b : SeamBlock} (h1 : s.Kept ql) : State.Kept ql (State.sendUnit s l b) := by
  unfold State.sendUnit
  repeat' first
    | with_reducible assumption
    | (extract_lets +onlyGivenNames x; clear_value (hx : x = _); revert x; refine let_kept (ql := ql) ?_ fun x _ => ?_)
    | (extract_lets +onlyGivenNames x; clear_value (hx : x = _); clear hx)
    | (with_reducible refine State.setLink_kept ?_)
    | (with_reducible refine State.sendBlock_kept ?_)

theorem State.sendIdle_kept {ql : List Instr} {s : State} {l : Nat} (h1 : s.Kept ql) : State.Kept ql (State.sendIdle s l) := by
  unfold State.sendIdle
  repeat' first
    | with_reducible assumption
    | (with_reducible refine State.sendUnit_kept ?_)

theorem State.closeFrame_kept {ql : List Instr} {s : State} {l : Nat} (h1 : s.Kept ql) : State.Kept ql (State.closeFrame s l) := by
  unfold State.closeFrame
  repeat' first
    | with_reducible assumption
    | (extract_lets +onlyGivenNames x; clear_value (hx : x = _); clear hx)
    | (with_reducible refine State.setLink_kept ?_)
    | (with_reducible refine State.sendUnit_kept ?_)
    | (with_reducible refine State.sendIdle_kept ?_)
    | (with_reducible refine ite_kept (fun _ => ?_) (fun _ => ?_))

theorem State.launch_kept {ql : List Instr} {s : State} {l : Nat} {m : SeamMsg} {t : Nat} (h1 : s.Kept ql) : State.Kept ql (State.launch s l m t) := by
  unfold State.launch
  repeat' first
    | with_reducible assumption
    | (extract_lets +onlyGivenNames x; clear_value (hx : x = _); revert x; refine let_kept (ql := ql) ?_ fun x _ => ?_)
    | (extract_lets +onlyGivenNames x; clear_value (hx : x = _); clear hx)
    | (with_reducible refine State.sendUnit_kept ?_)
    | split
    | (with_reducible exact mk_kept (by assumption))

theorem State.resendFrame_kept {ql : List Instr} {s : State} {l q : Nat} {rest : List Nat} (h1 : s.Kept ql) : State.Kept ql (State.resendFrame s l q rest) := by
  unfold State.resendFrame
  repeat' first
    | with_reducible assumption
    | (extract_lets +onlyGivenNames x; clear_value (hx : x = _); clear hx)
    | (with_reducible refine State.bump_kept ?_)
    | (with_reducible refine State.setLink_kept ?_)
    | (with_reducible refine State.linkDown_kept ?_)
    | (with_reducible refine State.sendUnit_kept ?_)
    | (with_reducible refine State.sendIdle_kept ?_)
    | (with_reducible refine ite_kept (fun _ => ?_) (fun _ => ?_))
    | split

theorem State.sendFrameUnit_kept {ql : List Instr} {s : State} {l : Nat} (h1 : s.Kept ql) : State.Kept ql (State.sendFrameUnit s l) := by
  unfold State.sendFrameUnit
  repeat' first
    | with_reducible assumption
    | (extract_lets +onlyGivenNames x; clear_value (hx : x = _); clear hx)
    | (with_reducible refine State.setLink_kept ?_)
    | (with_reducible refine State.sendUnit_kept ?_)
    | (with_reducible refine State.sendIdle_kept ?_)
    | (with_reducible refine State.closeFrame_kept ?_)
    | (with_reducible refine State.resendFrame_kept ?_)
    | (with_reducible refine ite_kept (fun _ => ?_) (fun _ => ?_))
    | split

theorem execSeamEgressSend_kept {ql : List Instr} {link : LinkIx} {past : BitVec 34} {s : State} (h1 : s.Kept ql) : Out.Kept ql (execSeamEgressSend link past s) := by
  unfold execSeamEgressSend
  repeat' first
    | with_reducible assumption
    | (extract_lets +onlyGivenNames x; clear_value (hx : x = _); clear hx)
    | (with_reducible refine State.setLink_kept ?_)
    | (with_reducible refine State.sendExtra_kept ?_)
    | (with_reducible refine State.sendIdle_kept ?_)
    | (with_reducible refine State.launch_kept ?_)
    | (with_reducible refine State.sendFrameUnit_kept ?_)
    | (with_reducible refine Out.next_kept ?_)
    | (with_reducible refine ite_out_kept (fun _ => ?_) (fun _ => ?_))
    | split

theorem execDcDoneSend_kept {ql : List Instr} {link : LinkIx} {s : State} (h1 : s.Kept ql) : Out.Kept ql (execDcDoneSend link s) := by
  unfold execDcDoneSend
  repeat' first
    | with_reducible assumption
    | (extract_lets +onlyGivenNames x; clear_value (hx : x = _); replace hx : (_ : _ → _) = _ := hx; subst hx; first | dsimp -zeta only | skip)
    | (extract_lets +onlyGivenNames x; clear_value (hx : x = _); clear hx)
    | (with_reducible refine State.setLink_kept ?_)
    | (with_reducible refine Out.next_kept ?_)
    | (with_reducible refine ite_out_kept (fun _ => ?_) (fun _ => ?_))
    | split

theorem State.vouch_kept {ql : List Instr} {s : State} {l : Nat} {good : Bool} (h1 : s.Kept ql) : State.Kept ql (State.vouch s l good) := by
  unfold State.vouch
  repeat' first
    | with_reducible assumption
    | (with_reducible refine State.onLinks_kept ?_)

theorem execRelayForward_kept {ql : List Instr} {link : LinkIx} {unit : Fin 39} {tag : BitVec 11} {epoch : BitVec 2} {s : State} (h1 : s.Kept ql) : Out.Kept ql (execRelayForward link unit tag epoch s) := by
  unfold execRelayForward
  repeat' first
    | with_reducible assumption
    | (extract_lets +onlyGivenNames x; clear_value (hx : x = _); revert x; refine let_kept (ql := ql) ?_ fun x _ => ?_)
    | (extract_lets +onlyGivenNames x; clear_value (hx : x = _); clear hx)
    | (with_reducible refine State.setLink_kept ?_)
    | (with_reducible refine State.seamEgress_kept ?_)
    | (with_reducible refine Out.next_kept ?_)
    | (with_reducible refine ite_out_kept (fun _ => ?_) (fun _ => ?_))
    | split

theorem State.xtrigIngress_kept {ql : List Instr} {s : State} {l origin xseq lines originDc boot : Nat} (h1 : s.Kept ql) : State.Kept ql (State.xtrigIngress s l origin xseq lines originDc boot) := by
  unfold State.xtrigIngress
  repeat' first
    | with_reducible assumption
    | (extract_lets +onlyGivenNames x; clear_value (hx : x = _); revert x; refine let_kept (ql := ql) ?_ fun x _ => ?_)
    | (extract_lets +onlyGivenNames x; clear_value (hx : x = _); clear hx)
    | (with_reducible refine State.bump_kept ?_)
    | (with_reducible refine State.onLinks_kept ?_)
    | (with_reducible refine State.crossTrigger_kept ?_)
    | (with_reducible refine State.partnerAbandon_kept ?_)
    | (with_reducible refine ite_kept (fun _ => ?_) (fun _ => ?_))
    | (with_reducible exact mk_kept (by assumption))

theorem State.packetIngress_kept {ql : List Instr} {s : State} {p : Packet} (h1 : s.Kept ql) : State.Kept ql (State.packetIngress s p) := by
  unfold State.packetIngress
  repeat' first
    | with_reducible assumption
    | (extract_lets +onlyGivenNames x; clear_value (hx : x = _); clear hx)
    | (with_reducible refine State.putWhole_kept ?_)
    | (with_reducible refine State.inject_kept ?_)
    | (with_reducible refine ite_kept (fun _ => ?_) (fun _ => ?_))
    | (with_reducible exact mk_kept (by assumption))

theorem State.flitHeard_kept {ql : List Instr} {s : State} {l vc bits : Nat} (h1 : s.Kept ql) : State.Kept ql (State.flitHeard s l vc bits) := by
  unfold State.flitHeard
  repeat' first
    | with_reducible assumption
    | (extract_lets +onlyGivenNames x; clear_value (hx : x = _); clear hx)
    | (with_reducible refine State.setLink_kept ?_)
    | (with_reducible refine State.packetIngress_kept ?_)
    | (with_reducible refine ite_kept (fun _ => ?_) (fun _ => ?_))
    | split

theorem State.releaseUnit_kept {ql : List Instr} {s : State} {l i : Nat} {u : SeamUnit} (h1 : s.Kept ql) : State.Kept ql (State.releaseUnit s l i u) := by
  unfold State.releaseUnit
  repeat' first
    | with_reducible assumption
    | (with_reducible refine State.slotIngress_kept ?_)
    | (with_reducible refine State.doneIngress_kept ?_)
    | (with_reducible refine State.xtrigIngress_kept ?_)
    | (with_reducible refine State.flitHeard_kept ?_)
    | (with_reducible refine ite_kept (fun _ => ?_) (fun _ => ?_))
    | split

theorem State.releaseUnits_kept {ql : List Instr} {s : State} {l : Nat} {units : List SeamUnit} (h1 : s.Kept ql) : State.Kept ql (State.releaseUnits s l units) := by
  unfold State.releaseUnits
  repeat' first
    | with_reducible assumption
    | (extract_lets +onlyGivenNames x; clear_value (hx : x = _); revert x; refine let_kept (ql := ql) ?_ fun x _ => ?_)
    | (extract_lets +onlyGivenNames x; clear_value (hx : x = _); clear hx)
    | (with_reducible refine State.setLink_kept ?_)
    | (with_reducible refine State.releaseUnit_kept ?_)
    | (with_reducible refine foldl_kept (fun _ _ _ => ?_) ?_)

theorem State.discardFrame_kept {ql : List Instr} {s : State} {l : Nat} (h1 : s.Kept ql) : State.Kept ql (State.discardFrame s l) := by
  unfold State.discardFrame
  repeat' first
    | with_reducible assumption
    | (extract_lets +onlyGivenNames x; clear_value (hx : x = _); revert x; refine let_kept (ql := ql) ?_ fun x _ => ?_)
    | (extract_lets +onlyGivenNames x; clear_value (hx : x = _); clear hx)
    | (with_reducible refine State.setLink_kept ?_)
    | (with_reducible refine State.sendNak_kept ?_)
    | (with_reducible refine State.vouch_kept ?_)
    | (with_reducible refine ite_kept (fun _ => ?_) (fun _ => ?_))

theorem State.frameChecked_kept {ql : List Instr} {s : State} {l t : Nat} {units : List SeamUnit} (h1 : s.Kept ql) : State.Kept ql (State.frameChecked s l t units) := by
  unfold State.frameChecked
  repeat' first
    | with_reducible assumption
    | (extract_lets +onlyGivenNames x; clear_value (hx : x = _); revert x; refine let_kept (ql := ql) ?_ fun x _ => ?_)
    | (extract_lets +onlyGivenNames x; clear_value (hx : x = _); clear hx)
    | (with_reducible refine State.setObj_kept ?_)
    | (with_reducible refine State.setLink_kept ?_)
    | (with_reducible refine State.vouch_kept ?_)
    | (with_reducible refine State.releaseUnits_kept ?_)
    | (with_reducible refine State.discardFrame_kept ?_)
    | (with_reducible refine ite_kept (fun _ => ?_) (fun _ => ?_))

theorem execFrameEnd_kept {ql : List Instr} {link : LinkIx} {s : State} (h1 : s.Kept ql) : Out.Kept ql (execFrameEnd link s) := by
  unfold execFrameEnd
  repeat' first
    | with_reducible assumption
    | (extract_lets +onlyGivenNames x; clear_value (hx : x = _); revert x; refine let_kept (ql := ql) ?_ fun x _ => ?_)
    | (extract_lets +onlyGivenNames x; clear_value (hx : x = _); clear hx)
    | (with_reducible refine State.setLink_kept ?_)
    | (with_reducible refine State.crcFailed_kept ?_)
    | (with_reducible refine State.discardFrame_kept ?_)
    | (with_reducible refine State.frameChecked_kept ?_)
    | (with_reducible refine Out.next_kept ?_)
    | (with_reducible refine ite_kept (fun _ => ?_) (fun _ => ?_))
    | (with_reducible refine ite_out_kept (fun _ => ?_) (fun _ => ?_))
    | split

end Sys2Proof.Machine
end

