-- ==== Sys2Proof/Laws/KeptStaging.lean ====
section
/-!
SUPPORT. Every operation of Machine/Staging.lean leaves the queue of waiting commands as it is, the stores canonical and what waits within bounds.
-/

set_option linter.tactic.unusedName false
set_option linter.unusedVariables false

namespace Sys2Proof.Machine

theorem State.disarm_kept {ql : List Instr} {s : State} (h1 : s.Kept ql) : State.Kept ql (State.disarm s) := by
  unfold State.disarm
  repeat' first
    | (extract_lets +onlyGivenNames x; clear_value (hx : x = _); replace hx : (_ : Run) = _ := hx; subst hx)
    | ((with_reducible refine mk_all_kept (by assumption) ?_ ?_ ?_ ?_ ?_ ?_ ?_) <;> exact id)

theorem State.putShadow_kept {ql : List Instr} {s : State} {k v : Nat} (h1 : s.Kept ql) : State.Kept ql (State.putShadow s k v) := by
  unfold State.putShadow
  repeat' first
    | with_reducible assumption
    | (with_reducible refine State.setObj_kept ?_)
    | (with_reducible refine ite_kept (fun _ => ?_) (fun _ => ?_))
    | ((with_reducible refine mk_all_kept (by assumption) ?_ ?_ ?_ ?_ ?_ ?_ ?_) <;> first | exact id | exact fun w => tput_wf _ w _ _)

theorem State.stageWrite_kept {ql : List Instr} {s : State} {k v : Nat} (h1 : s.Kept ql) : State.Kept ql (State.stageWrite s k v) := by
  unfold State.stageWrite
  repeat' first
    | with_reducible assumption
    | (extract_lets +onlyGivenNames x; clear_value (hx : x = _); revert x; refine let_kept (ql := ql) ?_ fun x _ => ?_)
    | (extract_lets +onlyGivenNames x; clear_value (hx : x = _); replace hx : (_ : Run) = _ := hx; subst hx)
    | (extract_lets +onlyGivenNames x; clear_value (hx : x = _); clear hx)
    | (with_reducible refine State.setObj_kept ?_)
    | (with_reducible refine State.disarm_kept ?_)
    | (with_reducible refine State.putShadow_kept ?_)
    | (with_reducible refine ite_kept (fun _ => ?_) (fun _ => ?_))
    | ((with_reducible refine mk_all_kept (by assumption) ?_ ?_ ?_ ?_ ?_ ?_ ?_) <;> exact id)

theorem writeShadow_kept {ql : List Instr} {k v : Nat} {s : State} (h1 : s.Kept ql) : Kept1 ql (writeShadow k v s) := by
  unfold writeShadow
  repeat' first
    | with_reducible assumption
    | (with_reducible refine State.stageWrite_kept ?_)
    | (with_reducible refine ite1_kept (fun _ => ?_) (fun _ => ?_))
    | (with_reducible refine mk1_kept ?_)

theorem execShadowWrite_kept {ql : List Instr} {m : Master} {key : BitVec 24} {v : BitVec 64} {s : State} (h1 : s.Kept ql) : Out.Kept ql (execShadowWrite m key v s) := by
  unfold execShadowWrite
  repeat' first
    | with_reducible assumption
    | (extract_lets +onlyGivenNames x; clear_value (hx : x = _); clear hx)
    | (with_reducible refine State.write_kept ?_ (fun _ _ => ?_))
    | (with_reducible refine writeShadow_kept ?_)
    | (with_reducible refine Out.next_kept ?_)
    | (with_reducible refine ite_out_kept (fun _ => ?_) (fun _ => ?_))

theorem State.applyRecord_kept {ql : List Instr} {s : State} {r : StageRecord} (h1 : s.Kept ql) : State.Kept ql (State.applyRecord s r) := by
  unfold State.applyRecord
  repeat' first
    | with_reducible assumption
    | (extract_lets +onlyGivenNames x; clear_value (hx : x = _); clear hx)
    | (with_reducible refine State.setCl_kept ?_)
    | split
    | (with_reducible exact mk_kept (by assumption))

theorem writeCheck_kept {ql : List Instr} {v : Nat} {s : State} (h1 : s.Kept ql) : Kept1 ql (writeCheck v s) := by
  unfold writeCheck
  repeat' first
    | with_reducible assumption
    | (extract_lets +onlyGivenNames x; clear_value (hx : x = _); revert x; refine let_kept (ql := ql) ?_ fun x _ => ?_)
    | (extract_lets +onlyGivenNames x; clear_value (hx : x = _); replace hx : (_ : Run) = _ := hx; subst hx)
    | (extract_lets +onlyGivenNames x; clear_value (hx : x = _); clear hx)
    | (with_reducible refine State.setObj_kept ?_)
    | (with_reducible refine ite1_kept (fun _ => ?_) (fun _ => ?_))
    | (with_reducible refine mk1_kept ?_)
    | ((with_reducible refine mk_all_kept (by assumption) ?_ ?_ ?_ ?_ ?_ ?_ ?_) <;> exact id)

theorem execCheck_kept {ql : List Instr} {m : Master} {v : Byte} {s : State} (h1 : s.Kept ql) : Out.Kept ql (execCheck m v s) := by
  unfold execCheck
  repeat' first
    | with_reducible assumption
    | (with_reducible refine State.write_kept ?_ (fun _ _ => ?_))
    | (with_reducible refine writeCheck_kept ?_)

theorem execCheckDone_kept {ql : List Instr} {list : List Byte} {s : State} (h1 : s.Kept ql) : Out.Kept ql (execCheckDone list s) := by
  unfold execCheckDone
  repeat' first
    | with_reducible assumption
    | (extract_lets +onlyGivenNames x; clear_value (hx : x = _); revert x; refine let_kept (ql := ql) ?_ fun x _ => ?_)
    | (extract_lets +onlyGivenNames x; clear_value (hx : x = _); replace hx : (_ : Run) = _ := hx; subst hx)
    | (extract_lets +onlyGivenNames x; clear_value (hx : x = _); clear hx)
    | (with_reducible refine State.setObjs_kept ?_)
    | (with_reducible refine State.msix_kept ?_)
    | (with_reducible refine Out.next_kept ?_)
    | (with_reducible refine ite_out_kept (fun _ => ?_) (fun _ => ?_))
    | split
    | ((with_reducible refine mk_all_kept (by assumption) ?_ ?_ ?_ ?_ ?_ ?_ ?_) <;> exact id)

theorem State.commitAnswer_kept {ql : List Instr} {s : State} {v : Nat} (h1 : s.Kept ql) : Kept1 ql (State.commitAnswer s v) := by
  unfold State.commitAnswer
  repeat' first
    | with_reducible assumption
    | (with_reducible refine State.setObj_kept ?_)
    | (with_reducible refine State.msix_kept ?_)
    | (with_reducible refine mk1_kept ?_)

theorem writeCommit_kept {ql : List Instr} {m : Master} {v : Nat} {s : State} (h1 : s.Kept ql) : Kept1 ql (writeCommit m v s) := by
  unfold writeCommit
  repeat' first
    | with_reducible assumption
    | (extract_lets +onlyGivenNames x; clear_value (hx : x = _); revert x; refine let_kept (ql := ql) ?_ fun x _ => ?_)
    | (extract_lets +onlyGivenNames x; clear_value (hx : x = _); replace hx : (_ : Run) = _ := hx; subst hx)
    | (with_reducible refine State.setObj_kept ?_)
    | (with_reducible refine State.beginCommit_kept ?_)
    | (with_reducible refine State.commitAnswer_kept ?_)
    | (with_reducible refine ite1_kept (fun _ => ?_) (fun _ => ?_))
    | (with_reducible refine mk1_kept ?_)
    | ((with_reducible refine mk_all_kept (by assumption) ?_ ?_ ?_ ?_ ?_ ?_ ?_) <;> exact id)

theorem execCommit_kept {ql : List Instr} {m : Master} {v : Byte} {s : State} (h1 : s.Kept ql) : Out.Kept ql (execCommit m v s) := by
  unfold execCommit
  repeat' first
    | with_reducible assumption
    | (with_reducible refine State.write_kept ?_ (fun _ _ => ?_))
    | (with_reducible refine writeCommit_kept ?_)

theorem writeCommitAtTime_kept {ql : List Instr} {m : Master} {t : Nat} {s : State} (h1 : s.Kept ql) : Kept1 ql (writeCommitAtTime m t s) := by
  unfold writeCommitAtTime
  repeat' first
    | with_reducible assumption
    | (extract_lets +onlyGivenNames x; clear_value (hx : x = _); replace hx : (_ : Run) = _ := hx; subst hx)
    | (with_reducible refine State.setObj_kept ?_)
    | (with_reducible refine State.commitAnswer_kept ?_)
    | (with_reducible refine ite1_kept (fun _ => ?_) (fun _ => ?_))
    | (with_reducible refine mk1_kept ?_)
    | ((with_reducible refine mk_all_kept (by assumption) ?_ ?_ ?_ ?_ ?_ ?_ ?_) <;> exact id)

theorem execCommitAtTime_kept {ql : List Instr} {m : Master} {t : BitVec 64} {s : State} (h1 : s.Kept ql) : Out.Kept ql (execCommitAtTime m t s) := by
  unfold execCommitAtTime
  repeat' first
    | with_reducible assumption
    | (with_reducible refine State.write_kept ?_ (fun _ _ => ?_))
    | (with_reducible refine writeCommitAtTime_kept ?_)

theorem writeCommitAtDc_kept {ql : List Instr} {m : Master} {n : Nat} {s : State} (h1 : s.Kept ql) : Kept1 ql (writeCommitAtDc m n s) := by
  unfold writeCommitAtDc
  repeat' first
    | with_reducible assumption
    | (extract_lets +onlyGivenNames x; clear_value (hx : x = _); replace hx : (_ : Run) = _ := hx; subst hx)
    | (with_reducible refine State.setObj_kept ?_)
    | (with_reducible refine State.commitAnswer_kept ?_)
    | (with_reducible refine ite1_kept (fun _ => ?_) (fun _ => ?_))
    | (with_reducible refine mk1_kept ?_)
    | ((with_reducible refine mk_all_kept (by assumption) ?_ ?_ ?_ ?_ ?_ ?_ ?_) <;> exact id)

theorem execCommitAtDc_kept {ql : List Instr} {m : Master} {n : BitVec 64} {s : State} (h1 : s.Kept ql) : Out.Kept ql (execCommitAtDc m n s) := by
  unfold execCommitAtDc
  repeat' first
    | with_reducible assumption
    | (with_reducible refine State.write_kept ?_ (fun _ _ => ?_))
    | (with_reducible refine writeCommitAtDc_kept ?_)

theorem State.stageEmpty_kept {ql : List Instr} {s : State} (h1 : s.Kept ql) : State.Kept ql (State.stageEmpty s) := by
  unfold State.stageEmpty
  repeat' first
    | (extract_lets +onlyGivenNames x; clear_value (hx : x = _); replace hx : (_ : Run) = _ := hx; subst hx)
    | (with_reducible refine State.setObjs_kept ?_)
    | ((with_reducible refine mk_all_kept (by assumption) ?_ ?_ ?_ ?_ ?_ ?_ ?_) <;> first | exact id | exact fun _ => rfl)

theorem writeDiscard_kept {ql : List Instr} {v : Nat} {s : State} (h1 : s.Kept ql) : Kept1 ql (writeDiscard v s) := by
  unfold writeDiscard
  repeat' first
    | with_reducible assumption
    | (extract_lets +onlyGivenNames x; clear_value (hx : x = _); clear hx)
    | (extract_lets +onlyGivenNames x; subst x)
    | (with_reducible refine State.setObj_kept ?_)
    | (with_reducible refine State.setObjs_kept ?_)
    | (with_reducible refine State.msix_kept ?_)
    | (with_reducible refine State.disarm_kept ?_)
    | (with_reducible refine State.stageEmpty_kept ?_)
    | (with_reducible refine ite1_kept (fun _ => ?_) (fun _ => ?_))
    | (with_reducible refine mk1_kept ?_)

theorem execDiscard_kept {ql : List Instr} {m : Master} {v : Byte} {s : State} (h1 : s.Kept ql) : Out.Kept ql (execDiscard m v s) := by
  unfold execDiscard
  repeat' first
    | with_reducible assumption
    | (with_reducible refine State.write_kept ?_ (fun _ _ => ?_))
    | (with_reducible refine writeDiscard_kept ?_)

theorem execCommitTimeReached_kept {ql : List Instr} {s : State} (h1 : s.Kept ql) : Out.Kept ql (execCommitTimeReached s) := by
  unfold execCommitTimeReached
  repeat' first
    | with_reducible assumption
    | (with_reducible refine State.beginCommit_kept ?_)
    | (with_reducible refine Out.next_kept ?_)
    | (with_reducible refine ite_out_kept (fun _ => ?_) (fun _ => ?_))
    | split

theorem State.repartition_kept {ql : List Instr} {s : State} {old : State} (h1 : s.Kept ql) (h2 : old.Kept ql) : State.Kept ql (State.repartition s old) := by
  unfold State.repartition
  repeat' first
    | with_reducible assumption
    | (extract_lets +onlyGivenNames x; clear_value (hx : x = _); revert x; refine let_kept (ql := ql) ?_ fun x _ => ?_)
    | (extract_lets +onlyGivenNames x; clear_value (hx : x = _); replace hx : (_ : _ → _) = _ := hx; subst hx; first | dsimp -zeta only | skip)
    | (extract_lets +onlyGivenNames x; clear_value (hx : x = _); replace hx : (_ : Hbm) = _ := hx; subst hx)
    | (extract_lets +onlyGivenNames x; clear_value (hx : x = _); clear hx)
    | (with_reducible refine State.setObjs_kept ?_)
    | (with_reducible refine State.hbmOpen_kept ?_)
    | (with_reducible refine State.emptyOvb_kept ?_)
    | (with_reducible refine ite_kept (fun _ => ?_) (fun _ => ?_))
    | ((with_reducible refine mk_all_kept (by assumption) ?_ ?_ ?_ ?_ ?_ ?_ ?_) <;> exact id)

theorem State.commitEffects_kept {ql : List Instr} {s : State} {t : Tab (Option Nat)} {old : State} (h1 : s.Kept ql) (h2 : old.Kept ql) : State.Kept ql (State.commitEffects s t old) := by
  unfold State.commitEffects
  repeat' first
    | with_reducible assumption
    | (extract_lets +onlyGivenNames x; clear_value (hx : x = _); revert x; refine let_kept (ql := ql) ?_ fun x _ => ?_)
    | (extract_lets +onlyGivenNames x; clear_value (hx : x = _); clear hx)
    | (with_reducible refine State.setObj_kept ?_)
    | (with_reducible refine State.astray_kept ?_)
    | (with_reducible refine State.pointTarget_kept ?_)
    | (with_reducible refine State.rearm_kept ?_)
    | (with_reducible refine State.traceSizes_kept ?_)
    | (with_reducible refine State.repartition_kept ?_ ?_)
    | (with_reducible refine ite_kept (fun _ => ?_) (fun _ => ?_))
    | split
    | (with_reducible exact mk_kept (by assumption))

theorem State.applyStaged_kept {ql : List Instr} {s : State} (h1 : s.Kept ql) : State.Kept ql (State.applyStaged s) := by
  unfold State.applyStaged
  repeat' first
    | with_reducible assumption
    | (extract_lets +onlyGivenNames x; clear_value (hx : x = _); revert x; refine let_kept (ql := ql) ?_ fun x _ => ?_)
    | (extract_lets +onlyGivenNames x; clear_value (hx : x = _); clear hx)
    | (with_reducible refine State.setObj_kept ?_)
    | (with_reducible refine State.setObjs_kept ?_)
    | (with_reducible refine State.msix_kept ?_)
    | (with_reducible refine State.applyRecord_kept ?_)
    | (with_reducible refine State.stageEmpty_kept ?_)
    | (with_reducible refine State.commitEffects_kept ?_ ?_)
    | (with_reducible refine foldl_kept (fun _ _ _ => ?_) ?_)
    | split

theorem State.flushPause_kept {ql : List Instr} {s : State} (h1 : s.Kept ql) : State.Kept ql (State.flushPause s) := by
  unfold State.flushPause
  repeat' first
    | with_reducible assumption
    | (extract_lets +onlyGivenNames x; clear_value (hx : x = _); replace hx : (_ : Run) = _ := hx; subst hx)
    | (extract_lets +onlyGivenNames x; clear_value (hx : x = _); clear hx)
    | (with_reducible refine State.stageWrite_kept ?_)
    | (with_reducible refine foldl_kept (fun _ _ _ => ?_) ?_)
    | ((with_reducible refine mk_all_kept (by assumption) ?_ ?_ ?_ ?_ ?_ ?_ ?_) <;> exact id)

theorem State.orderStaged_kept {ql : List Instr} {s : State} {k : OrderKind} {restore : Bool} (h1 : s.Kept ql) : State.Kept ql (State.orderStaged s k restore) := by
  unfold State.orderStaged
  repeat' first
    | with_reducible assumption
    | (extract_lets +onlyGivenNames x; clear_value (hx : x = _); revert x; refine let_kept (ql := ql) ?_ fun x _ => ?_)
    | (extract_lets +onlyGivenNames x; clear_value (hx : x = _); replace hx : (_ : Run) = _ := hx; subst hx)
    | (extract_lets +onlyGivenNames x; clear_value (hx : x = _); clear hx)
    | (with_reducible refine State.answered_kept ?_)
    | (with_reducible refine ite_kept (fun _ => ?_) (fun _ => ?_))
    | ((with_reducible refine mk_all_kept (by assumption) ?_ ?_ ?_ ?_ ?_ ?_ ?_) <;> exact id)

theorem State.endCommit_kept {ql : List Instr} {s : State} (h1 : s.Kept ql) : State.Kept ql (State.endCommit s) := by
  unfold State.endCommit
  repeat' first
    | with_reducible assumption
    | (extract_lets +onlyGivenNames x; clear_value (hx : x = _); revert x; refine let_kept (ql := ql) ?_ fun x _ => ?_)
    | (extract_lets +onlyGivenNames x; clear_value (hx : x = _); replace hx : (_ : Run) = _ := hx; subst hx)
    | (extract_lets +onlyGivenNames x; clear_value (hx : x = _); clear hx)
    | (with_reducible refine State.beginRestore_kept ?_)
    | (with_reducible refine State.afterPause_kept ?_)
    | (with_reducible refine State.applyStaged_kept ?_)
    | (with_reducible refine State.flushPause_kept ?_)
    | (with_reducible refine State.orderStaged_kept ?_)
    | split
    | ((with_reducible refine mk_all_kept (by assumption) ?_ ?_ ?_ ?_ ?_ ?_ ?_) <;> exact id)

theorem execCommitPauseEnd_kept {ql : List Instr} {s : State} (h1 : s.Kept ql) : Out.Kept ql (execCommitPauseEnd s) := by
  unfold execCommitPauseEnd
  repeat' first
    | with_reducible assumption
    | (with_reducible refine State.afterPause_kept ?_)
    | (with_reducible refine State.flushPause_kept ?_)
    | (with_reducible refine State.endCommit_kept ?_)
    | (with_reducible refine Out.next_kept ?_)
    | (with_reducible refine ite_out_kept (fun _ => ?_) (fun _ => ?_))
    | split

end Sys2Proof.Machine
end

