-- ==== Sys2Proof/Laws/KeptSnapshot.lean ====
section
/-!
SUPPORT. Every operation of Machine/Snapshot.lean leaves the queue of waiting commands as it is, the stores canonical and what waits within bounds.
-/

set_option linter.tactic.unusedName false
set_option linter.unusedVariables false

namespace Sys2Proof.Machine

theorem execSnapshotDone_kept {ql : List Instr} {bad : Option (BitVec 37)} {s : State} (h1 : s.Kept ql) : Out.Kept ql (execSnapshotDone bad s) := by
  unfold execSnapshotDone
  repeat' first
    | with_reducible assumption
    | (extract_lets +onlyGivenNames x; clear_value (hx : x = _); revert x; refine let_kept (ql := ql) ?_ fun x _ => ?_)
    | (extract_lets +onlyGivenNames x; clear_value (hx : x = _); replace hx : (_ : Run) = _ := hx; subst hx)
    | (with_reducible refine State.setObj_kept ?_)
    | (with_reducible refine State.setObjs_kept ?_)
    | (with_reducible refine State.setMode_kept ?_)
    | (with_reducible refine State.hbmBad_kept ?_)
    | (with_reducible refine State.afterPause_kept ?_)
    | (with_reducible refine Out.next_kept ?_)
    | (with_reducible refine ite_out_kept (fun _ => ?_) (fun _ => ?_))
    | split
    | ((with_reducible refine mk_all_kept (by assumption) ?_ ?_ ?_ ?_ ?_ ?_ ?_) <;> exact id)

theorem State.openDesign_kept {ql : List Instr} {s : State} (h1 : s.Kept ql) : State.Kept ql (State.openDesign s) := by
  unfold State.openDesign
  repeat' first
    | with_reducible assumption
    | (extract_lets +onlyGivenNames x; clear_value (hx : x = _); revert x; refine let_kept (ql := ql) ?_ fun x _ => ?_)
    | (extract_lets +onlyGivenNames x; clear_value (hx : x = _); replace hx : (_ : _ → _) = _ := hx; subst hx; first | dsimp -zeta only | skip)
    | (extract_lets +onlyGivenNames x; clear_value (hx : x = _); replace hx : (_ : Hub) = _ := hx; subst hx)
    | (extract_lets +onlyGivenNames x; clear_value (hx : x = _); clear hx)
    | (with_reducible refine State.setObj_kept ?_)
    | (with_reducible refine State.setCl_kept ?_)
    | (with_reducible refine foldl_kept (fun _ _ _ => ?_) ?_)
    | (with_reducible refine ite_kept (fun _ => ?_) (fun _ => ?_))
    | ((with_reducible refine mk_all_kept (by assumption) ?_ ?_ ?_ ?_ ?_ ?_ ?_) <;> exact id)

theorem State.restoreEnds_kept {ql : List Instr} {s : State} {start result : Nat} (h1 : s.Kept ql) : State.Kept ql (State.restoreEnds s start result) := by
  unfold State.restoreEnds
  repeat' first
    | with_reducible assumption
    | (extract_lets +onlyGivenNames x; clear_value (hx : x = _); revert x; refine let_kept (ql := ql) ?_ fun x _ => ?_)
    | (extract_lets +onlyGivenNames x; clear_value (hx : x = _); replace hx : (_ : Run) = _ := hx; subst hx)
    | (with_reducible refine State.setObjs_kept ?_)
    | (with_reducible refine State.msix_kept ?_)
    | (with_reducible refine State.setMode_kept ?_)
    | ((with_reducible refine mk_all_kept (by assumption) ?_ ?_ ?_ ?_ ?_ ?_ ?_) <;> exact id)

theorem State.dropSnapOrders_kept {ql : List Instr} {s : State} (h1 : s.Kept ql) : State.Kept ql (State.dropSnapOrders s) := by
  unfold State.dropSnapOrders
  repeat' first
    | with_reducible assumption
    | (extract_lets +onlyGivenNames x; clear_value (hx : x = _); replace hx : (_ : Run) = _ := hx; subst hx)
    | (with_reducible refine State.fate_kept ?_)
    | (with_reducible refine foldl_kept (fun _ _ _ => ?_) ?_)
    | ((with_reducible refine mk_all_kept (by assumption) ?_ ?_ ?_ ?_ ?_ ?_ ?_) <;> exact id)

theorem State.restoreFails_kept {ql : List Instr} {s : State} {start a : Nat} (h1 : s.Kept ql) : State.Kept ql (State.restoreFails s start a) := by
  unfold State.restoreFails
  repeat' first
    | with_reducible assumption
    | (extract_lets +onlyGivenNames x; clear_value (hx : x = _); revert x; refine let_kept (ql := ql) ?_ fun x _ => ?_)
    | (with_reducible refine State.recoveryFails_kept ?_)
    | (with_reducible refine State.hbmBad_kept ?_)
    | (with_reducible refine State.afterPause_kept ?_)
    | (with_reducible refine State.openDesign_kept ?_)
    | (with_reducible refine State.restoreEnds_kept ?_)
    | (with_reducible refine State.dropSnapOrders_kept ?_)
    | (with_reducible refine ite_kept (fun _ => ?_) (fun _ => ?_))

theorem State.restoreBack_kept {ql : List Instr} {s : State} {slot kind : Nat} (h1 : s.Kept ql) : State.Kept ql (State.restoreBack s slot kind) := by
  unfold State.restoreBack
  repeat' first
    | with_reducible assumption
    | (extract_lets +onlyGivenNames x; clear_value (hx : x = _); revert x; refine let_kept (ql := ql) ?_ fun x _ => ?_)
    | (extract_lets +onlyGivenNames x; clear_value (hx : x = _); clear hx)
    | (with_reducible refine State.setObj_kept ?_)
    | (with_reducible refine State.setObjs_kept ?_)
    | (with_reducible refine State.voidSlots_kept ?_)
    | (with_reducible refine State.replayCut_kept ?_)
    | (with_reducible refine State.restoreParts_kept ?_)
    | (with_reducible refine State.releaseEarly_kept ?_)
    | (with_reducible refine State.openDc_kept ?_)
    | (with_reducible refine ite_kept (fun _ => ?_) (fun _ => ?_))

theorem State.recoveryRestored_kept {ql : List Instr} {s : State} (h1 : s.Kept ql) : State.Kept ql (State.recoveryRestored s) := by
  unfold State.recoveryRestored
  repeat' first
    | with_reducible assumption
    | (extract_lets +onlyGivenNames x; clear_value (hx : x = _); revert x; refine let_kept (ql := ql) ?_ fun x _ => ?_)
    | (extract_lets +onlyGivenNames x; clear_value (hx : x = _); replace hx : (_ : Run) = _ := hx; subst hx)
    | (extract_lets +onlyGivenNames x; clear_value (hx : x = _); clear hx)
    | (with_reducible refine State.setObj_kept ?_)
    | (with_reducible refine State.recoveryFails_kept ?_)
    | (with_reducible refine State.answered_kept ?_)
    | (with_reducible refine State.supersede_kept ?_)
    | (with_reducible refine State.retryRecovery_kept ?_)
    | (with_reducible refine State.finishRecovery_kept ?_)
    | (with_reducible refine State.takeOrder_kept ?_)
    | (with_reducible refine State.released_kept ?_)
    | (with_reducible refine ite_kept (fun _ => ?_) (fun _ => ?_))
    | ((with_reducible refine mk_all_kept (by assumption) ?_ ?_ ?_ ?_ ?_ ?_ ?_) <;> exact id)

theorem execRestoreDone_kept {ql : List Instr} {s : State} (h1 : s.Kept ql) : Out.Kept ql (execRestoreDone s) := by
  unfold execRestoreDone
  repeat' first
    | with_reducible assumption
    | (extract_lets +onlyGivenNames x; clear_value (hx : x = _); revert x; refine let_kept (ql := ql) ?_ fun x _ => ?_)
    | (with_reducible refine State.ovbUndo_kept ?_)
    | (with_reducible refine State.clearTransit_kept ?_)
    | (with_reducible refine State.afterPause_kept ?_)
    | (with_reducible refine State.restoreEnds_kept ?_)
    | (with_reducible refine State.restoreFails_kept ?_)
    | (with_reducible refine State.restoreBack_kept ?_)
    | (with_reducible refine State.recoveryRestored_kept ?_)
    | (with_reducible refine Out.next_kept ?_)
    | (with_reducible refine ite_kept (fun _ => ?_) (fun _ => ?_))
    | (with_reducible refine ite_out_kept (fun _ => ?_) (fun _ => ?_))
    | split

theorem State.testBegins_kept {ql : List Instr} {s : State} (h1 : s.Kept ql) : State.Kept ql (State.testBegins s) := by
  unfold State.testBegins
  repeat' first
    | with_reducible assumption
    | (extract_lets +onlyGivenNames x; clear_value (hx : x = _); revert x; refine let_kept (ql := ql) ?_ fun x _ => ?_)
    | (extract_lets +onlyGivenNames x; clear_value (hx : x = _); replace hx : (_ : Hbm) = _ := hx; subst hx)
    | (extract_lets +onlyGivenNames x; clear_value (hx : x = _); replace hx : (_ : Hub) = _ := hx; subst hx)
    | (with_reducible refine State.hbmOpen_kept ?_)
    | (with_reducible refine State.fabClear_kept ?_)
    | (with_reducible refine State.linkDown_kept ?_)
    | (with_reducible refine foldl_kept (fun _ _ _ => ?_) ?_)
    | (with_reducible refine ite_kept (fun _ => ?_) (fun _ => ?_))
    | ((with_reducible refine mk_all_kept (by assumption) ?_ ?_ ?_ ?_ ?_ ?_ ?_) <;> exact id)
    | ((with_reducible refine mk_all_kept (by assumption) ?_ ?_ ?_ ?_ ?_ ?_ ?_) <;> first | exact id | exact fun _ => rfl)

theorem execModeMoveDone_kept {ql : List Instr} {s : State} (h1 : s.Kept ql) : Out.Kept ql (execModeMoveDone s) := by
  unfold execModeMoveDone
  repeat' first
    | with_reducible assumption
    | (extract_lets +onlyGivenNames x; clear_value (hx : x = _); revert x; refine let_kept (ql := ql) ?_ fun x _ => ?_)
    | (extract_lets +onlyGivenNames x; clear_value (hx : x = _); replace hx : (_ : Run) = _ := hx; subst hx)
    | (extract_lets +onlyGivenNames x; clear_value (hx : x = _); clear hx)
    | (with_reducible refine State.takeMove_kept ?_)
    | (with_reducible refine State.testBegins_kept ?_)
    | (with_reducible refine Out.next_kept ?_)
    | (with_reducible refine ite_kept (fun _ => ?_) (fun _ => ?_))
    | (with_reducible refine ite_out_kept (fun _ => ?_) (fun _ => ?_))
    | split
    | ((with_reducible refine mk_all_kept (by assumption) ?_ ?_ ?_ ?_ ?_ ?_ ?_) <;> exact id)

theorem State.diagMark_kept {ql : List Instr} {s : State} {cid : Nat} (h1 : s.Kept ql) : State.Kept ql (State.diagMark s cid) := by
  unfold State.diagMark
  repeat' first
    | with_reducible assumption
    | (with_reducible refine State.isolate_kept ?_)
    | (with_reducible refine State.markFailed_kept ?_)

theorem State.testLeaves_kept {ql : List Instr} {s : State} (h1 : s.Kept ql) : State.Kept ql (State.testLeaves s) := by
  unfold State.testLeaves
  repeat' first
    | with_reducible assumption
    | (extract_lets +onlyGivenNames x; clear_value (hx : x = _); revert x; refine let_kept (ql := ql) ?_ fun x _ => ?_)
    | (extract_lets +onlyGivenNames x; clear_value (hx : x = _); replace hx : (_ : Hbm) = _ := hx; subst hx)
    | (extract_lets +onlyGivenNames x; clear_value (hx : x = _); replace hx : (_ : Hub) = _ := hx; subst hx)
    | (with_reducible refine ite_kept (fun _ => ?_) (fun _ => ?_))
    | ((with_reducible refine mk_all_kept (by assumption) ?_ ?_ ?_ ?_ ?_ ?_ ?_) <;> exact id)
    | ((with_reducible refine mk_all_kept (by assumption) ?_ ?_ ?_ ?_ ?_ ?_ ?_) <;> first | exact id | exact fun _ => rfl)

theorem execDiagTestDone_kept {ql : List Instr} {detail : Option (BitVec 28)} {failed : List (Die × Pc)} {s : State} (h1 : s.Kept ql) : Out.Kept ql (execDiagTestDone detail failed s) := by
  unfold execDiagTestDone
  repeat' first
    | with_reducible assumption
    | (extract_lets +onlyGivenNames x; clear_value (hx : x = _); revert x; refine let_kept (ql := ql) ?_ fun x _ => ?_)
    | (with_reducible refine State.setObj_kept ?_)
    | (with_reducible refine State.setMode_kept ?_)
    | (with_reducible refine State.diagMark_kept ?_)
    | (with_reducible refine State.testLeaves_kept ?_)
    | (with_reducible refine foldl_kept (fun _ _ _ => ?_) ?_)
    | (with_reducible refine Out.next_kept ?_)
    | (with_reducible refine ite_out_kept (fun _ => ?_) (fun _ => ?_))

end Sys2Proof.Machine
end

