-- ==== Sys2Proof/Laws/KeptDict.lean ====
section
/-!
SUPPORT. Every operation of Machine/Dict.lean leaves the queue of waiting commands as it is, the stores canonical and what waits within bounds.
-/

set_option linter.tactic.unusedName false
set_option linter.unusedVariables false

namespace Sys2Proof.Machine

theorem State.errorSettles_kept {ql : List Instr} {old new : State} (h1 : old.Kept ql) (h2 : new.Kept ql) : State.Kept ql (State.errorSettles old new) := by
  unfold State.errorSettles
  repeat' first
    | with_reducible assumption
    | (with_reducible refine State.emcy_kept ?_)
    | (with_reducible refine ite_kept (fun _ => ?_) (fun _ => ?_))

theorem State.clearErrorBits_kept {ql : List Instr} {s : State} (h1 : s.Kept ql) : State.Kept ql (State.clearErrorBits s) := by
  unfold State.clearErrorBits
  repeat' first
    | with_reducible assumption
    | (with_reducible refine State.setObj_kept ?_)
    | (with_reducible refine State.errorSettles_kept ?_ ?_)

theorem writeFailSet_kept {ql : List Instr} {v : Nat} {s : State} (h1 : s.Kept ql) : Kept1 ql (writeFailSet v s) := by
  unfold writeFailSet
  repeat' first
    | with_reducible assumption
    | (extract_lets +onlyGivenNames x; clear_value (hx : x = _); revert x; refine let_kept (ql := ql) ?_ fun x _ => ?_)
    | (extract_lets +onlyGivenNames x; clear_value (hx : x = _); clear hx)
    | (with_reducible refine State.isolate_kept ?_)
    | (with_reducible refine State.markFailed_kept ?_)
    | (with_reducible refine ite1_kept (fun _ => ?_) (fun _ => ?_))
    | split
    | (with_reducible refine mk1_kept ?_)

theorem writeFailClear_kept {ql : List Instr} {v : Nat} {s : State} (h1 : s.Kept ql) : Kept1 ql (writeFailClear v s) := by
  unfold writeFailClear
  repeat' first
    | with_reducible assumption
    | (extract_lets +onlyGivenNames x; clear_value (hx : x = _); clear hx)
    | (with_reducible refine State.setCl_kept ?_)
    | (with_reducible refine ite1_kept (fun _ => ?_) (fun _ => ?_))
    | (with_reducible refine mk1_kept ?_)

theorem execFailSet_kept {ql : List Instr} {m : Master} {v : BitVec 16} {s : State} (h1 : s.Kept ql) : Out.Kept ql (execFailSet m v s) := by
  unfold execFailSet
  repeat' first
    | with_reducible assumption
    | (with_reducible refine State.write_kept ?_ (fun _ _ => ?_))
    | (with_reducible refine writeFailSet_kept ?_)

theorem execFailClear_kept {ql : List Instr} {m : Master} {v : BitVec 16} {s : State} (h1 : s.Kept ql) : Out.Kept ql (execFailClear m v s) := by
  unfold execFailClear
  repeat' first
    | with_reducible assumption
    | (with_reducible refine State.write_kept ?_ (fun _ _ => ?_))
    | (with_reducible refine writeFailClear_kept ?_)

theorem writeFaultSel_kept {ql : List Instr} {v : Nat} {s : State} (h1 : s.Kept ql) : Kept1 ql (writeFaultSel v s) := by
  unfold writeFaultSel
  repeat' first
    | with_reducible assumption
    | (extract_lets +onlyGivenNames x; clear_value (hx : x = _); replace hx : (_ : Faults) = _ := hx; subst hx)
    | (with_reducible refine State.setObjs_kept ?_)
    | (with_reducible refine ite1_kept (fun _ => ?_) (fun _ => ?_))
    | split
    | (with_reducible refine mk1_kept ?_)
    | ((with_reducible refine mk_all_kept (by assumption) ?_ ?_ ?_ ?_ ?_ ?_ ?_) <;> exact id)

theorem writeFaultAck_kept {ql : List Instr} {v : Nat} {s : State} (h1 : s.Kept ql) : Kept1 ql (writeFaultAck v s) := by
  unfold writeFaultAck
  repeat' first
    | with_reducible assumption
    | (with_reducible refine State.setObj_kept ?_)
    | (with_reducible refine State.errorSettles_kept ?_ ?_)
    | (with_reducible refine ite1_kept (fun _ => ?_) (fun _ => ?_))
    | (with_reducible refine mk1_kept ?_)

theorem execFaultSel_kept {ql : List Instr} {m : Master} {v : BitVec 32} {s : State} (h1 : s.Kept ql) : Out.Kept ql (execFaultSel m v s) := by
  unfold execFaultSel
  repeat' first
    | with_reducible assumption
    | (with_reducible refine State.write_kept ?_ (fun _ _ => ?_))
    | (with_reducible refine writeFaultSel_kept ?_)

theorem execFaultAck_kept {ql : List Instr} {m : Master} {v : BitVec 32} {s : State} (h1 : s.Kept ql) : Out.Kept ql (execFaultAck m v s) := by
  unfold execFaultAck
  repeat' first
    | with_reducible assumption
    | (with_reducible refine State.write_kept ?_ (fun _ _ => ?_))
    | (with_reducible refine writeFaultAck_kept ?_)

theorem writeCoreRun_kept {ql : List Instr} {v : Nat} {s : State} (h1 : s.Kept ql) : Kept1 ql (writeCoreRun v s) := by
  unfold writeCoreRun
  repeat' first
    | with_reducible assumption
    | (extract_lets +onlyGivenNames x; clear_value (hx : x = _); revert x; refine let_kept (ql := ql) ?_ fun x _ => ?_)
    | (extract_lets +onlyGivenNames x; clear_value (hx : x = _); clear hx)
    | (with_reducible refine State.setObj_kept ?_)
    | (with_reducible refine State.resetCore_kept ?_)
    | (with_reducible refine State.releaseCore_kept ?_)
    | (with_reducible refine foldl_kept (fun _ _ _ => ?_) ?_)
    | (with_reducible refine ite_kept (fun _ => ?_) (fun _ => ?_))
    | (with_reducible refine ite1_kept (fun _ => ?_) (fun _ => ?_))
    | (with_reducible refine mk1_kept ?_)

theorem execCoreRun_kept {ql : List Instr} {m : Master} {v : BitVec 32} {s : State} (h1 : s.Kept ql) : Out.Kept ql (execCoreRun m v s) := by
  unfold execCoreRun
  repeat' first
    | with_reducible assumption
    | (with_reducible refine State.write_kept ?_ (fun _ _ => ?_))
    | (with_reducible refine writeCoreRun_kept ?_)

theorem writeThreadCmd_kept {ql : List Instr} {v : Nat} {s : State} (h1 : s.Kept ql) : Kept1 ql (writeThreadCmd v s) := by
  unfold writeThreadCmd
  repeat' first
    | with_reducible assumption
    | (extract_lets +onlyGivenNames x; clear_value (hx : x = _); revert x; refine let_kept (ql := ql) ?_ fun x _ => ?_)
    | (extract_lets +onlyGivenNames x; clear_value (hx : x = _); revert x; refine let1_kept (ql := ql) ?_ fun x _ => ?_)
    | (extract_lets +onlyGivenNames x; clear_value (hx : x = _); clear hx)
    | (with_reducible refine State.setObj_kept ?_)
    | (with_reducible refine State.astray_kept ?_)
    | (with_reducible refine State.setThread_kept ?_)
    | (with_reducible refine State.makeReady_kept ?_)
    | (with_reducible refine State.stopThread_kept ?_)
    | (with_reducible refine State.startThread_kept ?_)
    | (with_reducible refine ite_kept (fun _ => ?_) (fun _ => ?_))
    | (with_reducible refine ite1_kept (fun _ => ?_) (fun _ => ?_))
    | (with_reducible refine fst_kept ?_)
    | (with_reducible refine mk1_kept ?_)

theorem execThreadCmdStop_kept {ql : List Instr} {m : Master} {s : State} (h1 : s.Kept ql) : Out.Kept ql (execThreadCmdStop m s) := by
  unfold execThreadCmdStop
  repeat' first
    | with_reducible assumption
    | (with_reducible refine State.write_kept ?_ (fun _ _ => ?_))
    | (with_reducible refine writeThreadCmd_kept ?_)

theorem execThreadCmdStart_kept {ql : List Instr} {m : Master} {s : State} (h1 : s.Kept ql) : Out.Kept ql (execThreadCmdStart m s) := by
  unfold execThreadCmdStart
  repeat' first
    | with_reducible assumption
    | (with_reducible refine State.write_kept ?_ (fun _ _ => ?_))
    | (with_reducible refine writeThreadCmd_kept ?_)

theorem State.orFlags_kept {ql : List Instr} {s : State} {t v : Nat} (h1 : s.Kept ql) : State.Kept ql (State.orFlags s t v) := by
  unfold State.orFlags
  repeat' first
    | with_reducible assumption
    | (with_reducible refine State.flagArrives_kept ?_)
    | (with_reducible refine foldl_kept (fun _ _ _ => ?_) ?_)
    | (with_reducible refine ite_kept (fun _ => ?_) (fun _ => ?_))

theorem writeFlagsSet_kept {ql : List Instr} {v : Nat} {s : State} (h1 : s.Kept ql) : Kept1 ql (writeFlagsSet v s) := by
  unfold writeFlagsSet
  repeat' first
    | with_reducible assumption
    | (with_reducible refine State.orFlags_kept ?_)
    | (with_reducible refine mk1_kept ?_)

theorem execThreadFlagsSet_kept {ql : List Instr} {m : Master} {v : BitVec 32} {s : State} (h1 : s.Kept ql) : Out.Kept ql (execThreadFlagsSet m v s) := by
  unfold execThreadFlagsSet
  repeat' first
    | with_reducible assumption
    | (with_reducible refine State.write_kept ?_ (fun _ _ => ?_))
    | (with_reducible refine writeFlagsSet_kept ?_)

theorem writeChCmd_kept {ql : List Instr} {c v : Nat} {s : State} (h1 : s.Kept ql) : Kept1 ql (writeChCmd c v s) := by
  unfold writeChCmd
  repeat' first
    | with_reducible assumption
    | (extract_lets +onlyGivenNames x; clear_value (hx : x = _); revert x; refine let_kept (ql := ql) ?_ fun x _ => ?_)
    | (extract_lets +onlyGivenNames x; clear_value (hx : x = _); clear hx)
    | (with_reducible refine State.setObj_kept ?_)
    | (with_reducible refine State.setObjs_kept ?_)
    | (with_reducible refine ite1_kept (fun _ => ?_) (fun _ => ?_))
    | split
    | (with_reducible refine mk1_kept ?_)
    | (with_reducible exact mk_kept (by assumption))

theorem execChCmdRun_kept {ql : List Instr} {m : Master} {ch : ChanIx} {s : State} (h1 : s.Kept ql) : Out.Kept ql (execChCmdRun m ch s) := by
  unfold execChCmdRun
  repeat' first
    | with_reducible assumption
    | (with_reducible refine State.write_kept ?_ (fun _ _ => ?_))
    | (with_reducible refine writeChCmd_kept ?_)

theorem execChCmdStop_kept {ql : List Instr} {m : Master} {ch : ChanIx} {s : State} (h1 : s.Kept ql) : Out.Kept ql (execChCmdStop m ch s) := by
  unfold execChCmdStop
  repeat' first
    | with_reducible assumption
    | (with_reducible refine State.write_kept ?_ (fun _ _ => ?_))
    | (with_reducible refine writeChCmd_kept ?_)

theorem writeAccepted_kept {ql : List Instr} {i v : Nat} {s : State} (h1 : s.Kept ql) : Kept1 ql (writeAccepted i v s) := by
  unfold writeAccepted
  repeat' first
    | with_reducible assumption
    | (with_reducible refine State.setObj_kept ?_)
    | (with_reducible refine ite1_kept (fun _ => ?_) (fun _ => ?_))
    | (with_reducible refine mk1_kept ?_)

theorem execAcceptedWrite_kept {ql : List Instr} {m : Master} {i : Fin 4} {v : BitVec 64} {s : State} (h1 : s.Kept ql) : Out.Kept ql (execAcceptedWrite m i v s) := by
  unfold execAcceptedWrite
  repeat' first
    | with_reducible assumption
    | (with_reducible refine State.write_kept ?_ (fun _ _ => ?_))
    | (with_reducible refine writeAccepted_kept ?_)

theorem writeResetCmd_kept {ql : List Instr} {v : Nat} {s : State} (h1 : s.Kept ql) : Kept1 ql (writeResetCmd v s) := by
  unfold writeResetCmd
  repeat' first
    | with_reducible assumption
    | (with_reducible refine State.persistWrite_kept ?_)
    | (with_reducible refine State.warmReset_kept ?_)
    | (with_reducible refine State.managementReset_kept ?_)
    | (with_reducible refine ite1_kept (fun _ => ?_) (fun _ => ?_))
    | (with_reducible refine mk1_kept ?_)

theorem State.clearCounter_kept {ql : List Instr} {s : State} {k : Nat} (h1 : s.Kept ql) : State.Kept ql (State.clearCounter s k) := by
  unfold State.clearCounter
  repeat' first
    | with_reducible assumption
    | (extract_lets +onlyGivenNames x; clear_value (hx : x = _); clear hx)
    | (with_reducible refine State.setObj_kept ?_)
    | (with_reducible refine State.setCl_kept ?_)
    | (with_reducible refine ite_kept (fun _ => ?_) (fun _ => ?_))

theorem execCounterClear_kept {ql : List Instr} {m : Master} {key : BitVec 24} {s : State} (h1 : s.Kept ql) : Out.Kept ql (execCounterClear m key s) := by
  unfold execCounterClear
  repeat' first
    | with_reducible assumption
    | (with_reducible refine State.write_kept ?_ (fun _ _ => ?_))
    | (with_reducible refine State.clearCounter_kept ?_)
    | (with_reducible refine Out.next_kept ?_)
    | (with_reducible refine ite_out_kept (fun _ => ?_) (fun _ => ?_))
    | (with_reducible refine mk1_kept ?_)

theorem writeErrorCount_kept {ql : List Instr} {v : Nat} {s : State} (h1 : s.Kept ql) : Kept1 ql (writeErrorCount v s) := by
  unfold writeErrorCount
  repeat' first
    | with_reducible assumption
    | (with_reducible refine State.setObjs_kept ?_)
    | (with_reducible refine ite1_kept (fun _ => ?_) (fun _ => ?_))
    | (with_reducible refine mk1_kept ?_)

theorem execErrorCountWrite_kept {ql : List Instr} {m : Master} {v : Byte} {s : State} (h1 : s.Kept ql) : Out.Kept ql (execErrorCountWrite m v s) := by
  unfold execErrorCountWrite
  repeat' first
    | with_reducible assumption
    | (with_reducible refine State.write_kept ?_ (fun _ _ => ?_))
    | (with_reducible refine writeErrorCount_kept ?_)

theorem writeWo_kept {ql : List Instr} {m : Master} {k v : Nat} {s : State} (h1 : s.Kept ql) : Kept1 ql (writeWo m k v s) := by
  unfold writeWo
  repeat' first
    | with_reducible assumption
    | (with_reducible refine State.setObj_kept ?_)
    | (with_reducible refine State.fabLoadOrder_kept ?_)
    | (with_reducible refine State.fabAbortOrder_kept ?_)
    | (with_reducible refine State.fabUnconfigOrder_kept ?_)
    | (with_reducible refine writeAgePlan_kept ?_)
    | (with_reducible refine writeTimeSet_kept ?_)
    | (with_reducible refine writeRejoin_kept ?_)
    | (with_reducible refine writeRearm_kept ?_)
    | (with_reducible refine writeTraceCmd_kept ?_)
    | (with_reducible refine State.loadOrder_kept ?_)
    | (with_reducible refine State.loadAbort_kept ?_)
    | (with_reducible refine writeRemapLc_kept ?_)
    | (with_reducible refine writeRunCmd_kept ?_)
    | (with_reducible refine writeDhalt_kept ?_)
    | (with_reducible refine writeLcReq_kept ?_)
    | (with_reducible refine writeKeyCmd_kept ?_)
    | (with_reducible refine writeFlCmd_kept ?_)
    | (with_reducible refine writeCheck_kept ?_)
    | (with_reducible refine writeCommit_kept ?_)
    | (with_reducible refine writeCommitAtTime_kept ?_)
    | (with_reducible refine writeCommitAtDc_kept ?_)
    | (with_reducible refine writeDiscard_kept ?_)
    | (with_reducible refine writeFailSet_kept ?_)
    | (with_reducible refine writeFailClear_kept ?_)
    | (with_reducible refine writeFaultAck_kept ?_)
    | (with_reducible refine writeThreadCmd_kept ?_)
    | (with_reducible refine writeFlagsSet_kept ?_)
    | (with_reducible refine writeChCmd_kept ?_)
    | (with_reducible refine writeResetCmd_kept ?_)
    | (with_reducible refine ite1_kept (fun _ => ?_) (fun _ => ?_))
    | (with_reducible refine mk1_kept ?_)

theorem State.writeMtFirst_kept {ql : List Instr} {s : State} {k v bit : Nat} (h1 : s.Kept ql) : State.Kept ql (State.writeMtFirst s k v bit) := by
  unfold State.writeMtFirst
  repeat' first
    | with_reducible assumption
    | (extract_lets +onlyGivenNames x; clear_value (hx : x = _); revert x; refine let_kept (ql := ql) ?_ fun x _ => ?_)
    | (extract_lets +onlyGivenNames x; clear_value (hx : x = _); clear hx)
    | (with_reducible refine State.setObj_kept ?_)
    | (with_reducible refine ite_kept (fun _ => ?_) (fun _ => ?_))
    | (with_reducible exact mk_kept (by assumption))

theorem writeRw_kept {ql : List Instr} {k v : Nat} {s : State} (h1 : s.Kept ql) : Kept1 ql (writeRw k v s) := by
  unfold writeRw
  repeat' first
    | with_reducible assumption
    | (with_reducible refine State.setObj_kept ?_)
    | (with_reducible refine State.writeSafeForce_kept ?_)
    | (with_reducible refine State.ppsShown_kept ?_)
    | (with_reducible refine writeIncrement_kept ?_)
    | (with_reducible refine writePriority_kept ?_)
    | (with_reducible refine writeFaultSel_kept ?_)
    | (with_reducible refine writeCoreRun_kept ?_)
    | (with_reducible refine writeAccepted_kept ?_)
    | (with_reducible refine writeErrorCount_kept ?_)
    | (with_reducible refine State.writeMtFirst_kept ?_)
    | (with_reducible refine ite1_kept (fun _ => ?_) (fun _ => ?_))
    | (with_reducible refine mk1_kept ?_)

theorem writeObj_kept {ql : List Instr} {m : Master} {k v : Nat} {s : State} (h1 : s.Kept ql) : Kept1 ql (writeObj m k v s) := by
  unfold writeObj
  repeat' first
    | with_reducible assumption
    | (extract_lets +onlyGivenNames x; clear_value (hx : x = _); clear hx)
    | (with_reducible refine State.astray_kept ?_)
    | (with_reducible refine writeShadow_kept ?_)
    | (with_reducible refine State.clearCounter_kept ?_)
    | (with_reducible refine writeWo_kept ?_)
    | (with_reducible refine writeRw_kept ?_)
    | (with_reducible refine ite1_kept (fun _ => ?_) (fun _ => ?_))
    | split
    | (with_reducible refine mk1_kept ?_)

theorem State.writeAny_kept {ql : List Instr} {s : State} {m : Master} {k v : Nat} (h1 : s.Kept ql) : Out.Kept ql (State.writeAny s m k v) := by
  unfold State.writeAny
  repeat' first
    | with_reducible assumption
    | (with_reducible refine State.write_kept ?_ (fun _ _ => ?_))
    | (with_reducible refine writeObj_kept ?_)

theorem execRegisterWrite_kept {ql : List Instr} {m : Master} {key : BitVec 24} {v : BitVec 64} {bytes : Fin 16} {s : State} (h1 : s.Kept ql) : Out.Kept ql (execRegisterWrite m key v bytes s) := by
  unfold execRegisterWrite
  repeat' first
    | with_reducible assumption
    | (extract_lets +onlyGivenNames x; clear_value (hx : x = _); clear hx)
    | (with_reducible refine State.refuse_kept ?_)
    | (with_reducible refine State.writeAny_kept ?_)
    | (with_reducible refine Out.next_kept ?_)
    | (with_reducible refine ite_out_kept (fun _ => ?_) (fun _ => ?_))

theorem State.consumeObj_kept {ql : List Instr} {s : State} {k : Nat} (h1 : s.Kept ql) : State.Kept ql (State.consumeObj s k) := by
  unfold State.consumeObj
  repeat' first
    | with_reducible assumption
    | (extract_lets +onlyGivenNames x; clear_value (hx : x = _); clear hx)
    | (with_reducible refine State.setObj_kept ?_)
    | (with_reducible refine State.astray_kept ?_)
    | (with_reducible refine State.clearErrorBits_kept ?_)
    | (with_reducible refine ite_kept (fun _ => ?_) (fun _ => ?_))
    | (with_reducible exact mk_kept (by assumption))

theorem State.readBy_kept {ql : List Instr} {s : State} {m : Master} {k : Nat} (h1 : s.Kept ql) : State.Kept ql (State.readBy s m k) := by
  unfold State.readBy
  repeat' first
    | with_reducible assumption
    | (extract_lets +onlyGivenNames x; clear_value (hx : x = _); clear hx)
    | (with_reducible refine State.emit_kept ?_)
    | (with_reducible refine State.refuse_kept ?_)
    | (with_reducible refine State.readStopped_kept ?_)
    | (with_reducible refine State.consumeObj_kept ?_)
    | (with_reducible refine ite_kept (fun _ => ?_) (fun _ => ?_))

theorem execAccessErrRead_kept {ql : List Instr} {m : Master} {i : Fin 4} {s : State} (h1 : s.Kept ql) : Out.Kept ql (execAccessErrRead m i s) := by
  unfold execAccessErrRead
  repeat' first
    | with_reducible assumption
    | (with_reducible refine State.readBy_kept ?_)
    | (with_reducible refine Out.next_kept ?_)

theorem execErrorRegisterRead_kept {ql : List Instr} {m : Master} {s : State} (h1 : s.Kept ql) : Out.Kept ql (execErrorRegisterRead m s) := by
  unfold execErrorRegisterRead
  repeat' first
    | with_reducible assumption
    | (with_reducible refine State.readBy_kept ?_)
    | (with_reducible refine Out.next_kept ?_)

end Sys2Proof.Machine
end

