-- ==== Sys2Proof/Laws/KeptBus.lean ====
section
/-!
SUPPORT. Every operation of Machine/Bus.lean leaves the queue of waiting commands as it is, the stores canonical and what waits within bounds.
-/

set_option linter.tactic.unusedName false
set_option linter.unusedVariables false

namespace Sys2Proof.Machine

theorem State.writeSlots_kept {ql : List Instr} {s : State} {a : Nat} {data : List Byte} (h1 : s.Kept ql) : State.Kept ql (State.writeSlots s a data) := by
  unfold State.writeSlots
  repeat' first
    | with_reducible assumption
    | (extract_lets +onlyGivenNames x; clear_value (hx : x = _); clear hx)
    | (with_reducible refine State.astray_kept ?_)
    | (with_reducible refine State.setThread_kept ?_)
    | (with_reducible refine foldl_kept (fun _ _ _ => ?_) ?_)
    | (with_reducible refine ite_kept (fun _ => ?_) (fun _ => ?_))

theorem State.writeXports_kept {ql : List Instr} {s : State} {a : Nat} {data : List Byte} (h1 : s.Kept ql) : State.Kept ql (State.writeXports s a data) := by
  unfold State.writeXports
  repeat' first
    | with_reducible assumption
    | (extract_lets +onlyGivenNames x; clear_value (hx : x = _); clear hx)
    | (with_reducible refine State.setXport_kept ?_)
    | (with_reducible refine foldl_kept (fun _ _ _ => ?_) ?_)

theorem State.busHbmRead_kept {ql : List Instr} {s : State} {a n : Nat} (h1 : s.Kept ql) : Kept1 ql (State.busHbmRead s a n) := by
  unfold State.busHbmRead
  repeat' first
    | with_reducible assumption
    | (with_reducible refine State.hbmBad_kept ?_)
    | (with_reducible refine ite1_kept (fun _ => ?_) (fun _ => ?_))
    | split
    | (with_reducible refine mk1_kept ?_)

theorem State.busRead_kept {ql : List Instr} {s : State} {p : BusPlace} {n : Nat} (h1 : s.Kept ql) : Kept1 ql (State.busRead s p n) := by
  unfold State.busRead
  repeat' first
    | with_reducible assumption
    | (with_reducible refine State.draw_kept ?_)
    | (with_reducible refine State.busHbmRead_kept ?_)
    | split
    | (with_reducible refine mk1_kept ?_)

theorem State.busHbmWrite_kept {ql : List Instr} {s : State} {a : Nat} {data : List Byte} (h1 : s.Kept ql) : Kept1 ql (State.busHbmWrite s a data) := by
  unfold State.busHbmWrite
  repeat' first
    | with_reducible assumption
    | (with_reducible refine State.hbmStore_kept ?_)
    | (with_reducible refine ite1_kept (fun _ => ?_) (fun _ => ?_))
    | (with_reducible refine mk1_kept ?_)

theorem State.busWrite_kept {ql : List Instr} {s : State} {p : BusPlace} {data : List Byte} (h1 : s.Kept ql) : Kept1 ql (State.busWrite s p data) := by
  unfold State.busWrite
  repeat' first
    | with_reducible assumption
    | (extract_lets +onlyGivenNames x; clear_value (hx : x = _); clear hx)
    | (with_reducible refine State.setLock_kept ?_)
    | (with_reducible refine State.sramPut_kept ?_)
    | (with_reducible refine State.writeSlots_kept ?_)
    | (with_reducible refine State.writeXports_kept ?_)
    | (with_reducible refine State.busHbmWrite_kept ?_)
    | (with_reducible refine foldl_kept (fun _ _ _ => ?_) ?_)
    | split
    | (with_reducible refine mk1_kept ?_)
    | (with_reducible exact mk_kept (by assumption))

theorem State.busNode_kept {ql : List Instr} {s : State} {who : BusWho} {off : Nat} {dst : Nat × Nat × Nat} {n : Nat} {data : List Byte} (h1 : s.Kept ql) : State.Kept ql (State.busNode s who off dst n data) := by
  unfold State.busNode
  repeat' first
    | with_reducible assumption
    | (extract_lets +onlyGivenNames x; clear_value (hx : x = _); clear hx)
    | (with_reducible refine State.busSend_kept ?_)
    | (with_reducible refine foldl_kept (fun _ _ _ => ?_) ?_)

end Sys2Proof.Machine
end

