-- ==== Sys2Proof/Laws/KeptCells.lean ====
section
/-!
SUPPORT. Every operation of Machine/Cells.lean leaves the queue of waiting commands as it is, the stores canonical and what waits within bounds.
-/

set_option linter.tactic.unusedName false
set_option linter.unusedVariables false

namespace Sys2Proof.Machine

theorem State.fabCycle_kept {ql : List Instr} {s : State} (h1 : s.Kept ql) : State.Kept ql (State.fabCycle s) := by
  unfold State.fabCycle
  repeat' first
    | with_reducible assumption
    | (extract_lets +onlyGivenNames x; clear_value (hx : x = _); revert x; refine let_kept (ql := ql) ?_ fun x _ => ?_)
    | (extract_lets +onlyGivenNames x; clear_value (hx : x = _); clear hx)
    | (with_reducible refine State.astray_kept ?_)
    | (with_reducible refine ite_kept (fun _ => ?_) (fun _ => ?_))
    | (with_reducible exact mk_kept (by assumption))

end Sys2Proof.Machine
end

