-- ==== Sys2Proof/Laws/KeptHost.lean ====
section
/-!
SUPPORT. Every operation of Machine/Host.lean leaves the queue of waiting commands as it is, the stores canonical and what waits within bounds.
-/

set_option linter.tactic.unusedName false
set_option linter.unusedVariables false

namespace Sys2Proof.Machine

theorem State.bar2Answer_kept {ql : List Instr} {s : State} {off n tag status : Nat} {data : List Byte} (h1 : s.Kept ql) : State.Kept ql (State.bar2Answer s off n tag status data) := by
  unfold State.bar2Answer
  repeat' first
    | with_reducible assumption
    | (with_reducible refine State.emit_kept ?_)
    | (with_reducible refine State.bar2Error_kept ?_)
    | (with_reducible refine ite_kept (fun _ => ?_) (fun _ => ?_))

theorem execBar2Read_kept {ql : List Instr} {off : BitVec 37} {n : Fin 4097} {tag : Fin 1024} {s : State} (h1 : s.Kept ql) : Out.Kept ql (execBar2Read off n tag s) := by
  unfold execBar2Read
  repeat' first
    | with_reducible assumption
    | (extract_lets +onlyGivenNames x; clear_value (hx : x = _); revert x; refine let_kept (ql := ql) ?_ fun x _ => ?_)
    | (extract_lets +onlyGivenNames x; clear_value (hx : x = _); revert x; refine let1_kept (ql := ql) ?_ fun x _ => ?_)
    | (extract_lets +onlyGivenNames x; clear_value (hx : x = _); clear hx)
    | (with_reducible refine State.emit_kept ?_)
    | (with_reducible refine State.busRead_kept ?_)
    | (with_reducible refine State.busNode_kept ?_)
    | (with_reducible refine State.bar2Answer_kept ?_)
    | (with_reducible refine Out.next_kept ?_)
    | (with_reducible refine ite_out_kept (fun _ => ?_) (fun _ => ?_))
    | (with_reducible refine fst_kept ?_)
    | split
    | (with_reducible exact mk_kept (by assumption))

theorem State.bar2Write_kept {ql : List Instr} {s : State} {o : Nat} {data : List Byte} (h1 : s.Kept ql) : State.Kept ql (State.bar2Write s o data) := by
  unfold State.bar2Write
  repeat' first
    | with_reducible assumption
    | (extract_lets +onlyGivenNames x; clear_value (hx : x = _); revert x; refine let1_kept (ql := ql) ?_ fun x _ => ?_)
    | (extract_lets +onlyGivenNames x; clear_value (hx : x = _); clear hx)
    | (with_reducible refine State.bar2Error_kept ?_)
    | (with_reducible refine State.busWrite_kept ?_)
    | (with_reducible refine State.busNode_kept ?_)
    | (with_reducible refine ite_kept (fun _ => ?_) (fun _ => ?_))
    | (with_reducible refine fst_kept ?_)
    | split

theorem State.holdWrite_kept {ql : List Instr} {s : State} {w : HeldWrite} (h1 : s.Kept ql) : State.Kept ql (State.holdWrite s w) := by
  unfold State.holdWrite
  repeat' first
    | with_reducible assumption
    | (extract_lets +onlyGivenNames x; clear_value (hx : x = _); replace hx : (_ : Run) = _ := hx; subst hx)
    | (with_reducible refine State.bump_kept ?_)
    | (with_reducible refine ite_kept (fun _ => ?_) (fun _ => ?_))
    | ((with_reducible refine mk_all_kept (by assumption) ?_ ?_ ?_ ?_ ?_ ?_ ?_) <;> first | exact id | (intro _; simp only [List.length_append, List.length_cons, List.length_nil]; omega))

theorem execBar2Write_kept {ql : List Instr} {off : BitVec 37} {data : List Byte} {s : State} (h1 : s.Kept ql) : Out.Kept ql (execBar2Write off data s) := by
  unfold execBar2Write
  repeat' first
    | with_reducible assumption
    | (with_reducible refine State.bar2Write_kept ?_)
    | (with_reducible refine State.holdWrite_kept ?_)
    | (with_reducible refine Out.next_kept ?_)
    | (with_reducible refine ite_out_kept (fun _ => ?_) (fun _ => ?_))

theorem execCompletionTimeout_kept {ql : List Instr} {tag : Fin 1024} {s : State} (h1 : s.Kept ql) : Out.Kept ql (execCompletionTimeout tag s) := by
  unfold execCompletionTimeout
  repeat' first
    | with_reducible assumption
    | (with_reducible refine State.readDone_kept ?_)
    | (with_reducible refine State.orphan_kept ?_)
    | (with_reducible refine Out.next_kept ?_)
    | split

theorem execCwReadTimeout_kept {ql : List Instr} {s : State} (h1 : s.Kept ql) : Out.Kept ql (execCwReadTimeout s) := by
  unfold execCwReadTimeout
  repeat' first
    | with_reducible assumption
    | (extract_lets +onlyGivenNames x; clear_value (hx : x = _); revert x; refine let_kept (ql := ql) ?_ fun x _ => ?_)
    | (extract_lets +onlyGivenNames x; clear_value (hx : x = _); clear hx)
    | (with_reducible refine State.bump_kept ?_)
    | (with_reducible refine State.emit_kept ?_)
    | (with_reducible refine Out.next_kept ?_)
    | split
    | (with_reducible exact mk_kept (by assumption))

theorem State.ringThread_kept {ql : List Instr} {s : State} {t v : Nat} (h1 : s.Kept ql) : State.Kept ql (State.ringThread s t v) := by
  unfold State.ringThread
  repeat' first
    | with_reducible assumption
    | (extract_lets +onlyGivenNames x; clear_value (hx : x = _); clear hx)
    | (with_reducible refine State.bump_kept ?_)
    | (with_reducible refine State.refuse_kept ?_)
    | (with_reducible refine State.orFlags_kept ?_)
    | (with_reducible refine ite_kept (fun _ => ?_) (fun _ => ?_))

theorem execThreadDoorbell_kept {ql : List Instr} {t : Tcx} {v : BitVec 64} {s : State} (h1 : s.Kept ql) : Out.Kept ql (execThreadDoorbell t v s) := by
  unfold execThreadDoorbell
  repeat' first
    | with_reducible assumption
    | (with_reducible refine State.holdWrite_kept ?_)
    | (with_reducible refine State.ringThread_kept ?_)
    | (with_reducible refine Out.next_kept ?_)
    | (with_reducible refine ite_out_kept (fun _ => ?_) (fun _ => ?_))

theorem State.channelFails_kept {ql : List Instr} {s : State} {c code : Nat} (h1 : s.Kept ql) : State.Kept ql (State.channelFails s c code) := by
  unfold State.channelFails
  repeat' first
    | with_reducible assumption
    | (extract_lets +onlyGivenNames x; clear_value (hx : x = _); revert x; refine let_kept (ql := ql) ?_ fun x _ => ?_)
    | (extract_lets +onlyGivenNames x; clear_value (hx : x = _); clear hx)
    | (with_reducible refine State.setObjs_kept ?_)
    | (with_reducible refine State.msix_kept ?_)
    | (with_reducible exact mk_kept (by assumption))

theorem State.ringDma_kept {ql : List Instr} {s : State} {c p : Nat} (h1 : s.Kept ql) : State.Kept ql (State.ringDma s c p) := by
  unfold State.ringDma
  repeat' first
    | with_reducible assumption
    | (extract_lets +onlyGivenNames x; clear_value (hx : x = _); clear hx)
    | (with_reducible refine State.setObj_kept ?_)
    | (with_reducible refine State.refuse_kept ?_)
    | (with_reducible refine State.channelFails_kept ?_)
    | (with_reducible refine ite_kept (fun _ => ?_) (fun _ => ?_))

theorem execDmaDoorbell_kept {ql : List Instr} {ch : ChanIx} {p : BitVec 16} {s : State} (h1 : s.Kept ql) : Out.Kept ql (execDmaDoorbell ch p s) := by
  unfold execDmaDoorbell
  repeat' first
    | with_reducible assumption
    | (with_reducible refine State.holdWrite_kept ?_)
    | (with_reducible refine State.ringDma_kept ?_)
    | (with_reducible refine Out.next_kept ?_)
    | (with_reducible refine ite_out_kept (fun _ => ?_) (fun _ => ?_))

theorem State.functionReset_kept {ql : List Instr} {s : State} (h1 : s.Kept ql) : State.Kept ql (State.functionReset s) := by
  unfold State.functionReset
  repeat' first
    | with_reducible assumption
    | (extract_lets +onlyGivenNames x; clear_value (hx : x = _); revert x; refine let_kept (ql := ql) ?_ fun x _ => ?_)
    | (extract_lets +onlyGivenNames x; clear_value (hx : x = _); replace hx : (_ : Run) = _ := hx; subst hx)
    | (extract_lets +onlyGivenNames x; clear_value (hx : x = _); clear hx)
    | (with_reducible refine State.setObjs_kept ?_)
    | (with_reducible refine State.orphan_kept ?_)
    | ((with_reducible refine mk_all_kept (by assumption) ?_ ?_ ?_ ?_ ?_ ?_ ?_) <;> first | exact id | exact fun _ => rfl | exact fun w => filter_wf _ _ w | exact fun _ => Nat.zero_le _)

theorem execFlr_kept {ql : List Instr} {s : State} (h1 : s.Kept ql) : Out.Kept ql (execFlr s) := by
  unfold execFlr
  repeat' first
    | with_reducible assumption
    | (with_reducible refine State.functionReset_kept ?_)
    | (with_reducible refine Out.next_kept ?_)
    | (with_reducible refine ite_out_kept (fun _ => ?_) (fun _ => ?_))

theorem execPerstN_kept {ql : List Instr} {high : Bool} {speed : BitVec 4} {width : BitVec 6} {s : State} (h1 : s.Kept ql) : Out.Kept ql (execPerstN high speed width s) := by
  unfold execPerstN
  repeat' first
    | with_reducible assumption
    | (extract_lets +onlyGivenNames x; clear_value (hx : x = _); revert x; refine let_kept (ql := ql) ?_ fun x _ => ?_)
    | (extract_lets +onlyGivenNames x; clear_value (hx : x = _); clear hx)
    | (with_reducible refine State.setObj_kept ?_)
    | (with_reducible refine State.functionReset_kept ?_)
    | (with_reducible refine Out.next_kept ?_)
    | (with_reducible refine ite_out_kept (fun _ => ?_) (fun _ => ?_))
    | (with_reducible exact mk_kept (by assumption))

theorem State.dmaWrite_kept {ql : List Instr} {s : State} {o : Nat} {data : List Byte} (h1 : s.Kept ql) : State.Kept ql (State.dmaWrite s o data) := by
  unfold State.dmaWrite
  repeat' first
    | with_reducible assumption
    | (with_reducible refine State.nodeWrite_kept ?_)
    | (with_reducible refine State.busWrite_kept ?_)
    | (with_reducible refine fst_kept ?_)
    | split

theorem State.dmaRead_kept {ql : List Instr} {s : State} {o n : Nat} (h1 : s.Kept ql) : Kept1 ql (State.dmaRead s o n) := by
  unfold State.dmaRead
  repeat' first
    | with_reducible assumption
    | (extract_lets +onlyGivenNames x; clear_value (hx : x = _); revert x; refine let1_kept (ql := ql) ?_ fun x _ => ?_)
    | (with_reducible refine State.nodeRead_kept ?_)
    | (with_reducible refine State.busRead_kept ?_)
    | (with_reducible refine ite1_kept (fun _ => ?_) (fun _ => ?_))
    | (with_reducible refine fst_kept ?_)
    | split
    | (with_reducible refine mk1_kept ?_)

theorem State.dmaReadAll_kept {ql : List Instr} {s : State} {rv : List (Nat × Nat)} (h1 : s.Kept ql) : Kept1 ql (State.dmaReadAll s rv) := by
  induction rv generalizing s with
  | nil =>
    unfold State.dmaReadAll
    repeat' first
      | with_reducible assumption
      | (extract_lets +onlyGivenNames x; clear_value (hx : x = _); revert x; refine let1_kept (ql := ql) ?_ fun x _ => ?_)
      | (with_reducible refine State.dmaRead_kept ?_)
      | (with_reducible refine ite1_kept (fun _ => ?_) (fun _ => ?_))
      | (with_reducible refine fst_kept ?_)
      | (with_reducible refine mk1_kept ?_)
  | cons e r ih =>
    unfold State.dmaReadAll
    repeat' first
      | (with_reducible refine ih ?_)
      | with_reducible assumption
      | (extract_lets +onlyGivenNames x; clear_value (hx : x = _); revert x; refine let1_kept (ql := ql) ?_ fun x _ => ?_)
      | (with_reducible refine State.dmaRead_kept ?_)
      | (with_reducible refine ite1_kept (fun _ => ?_) (fun _ => ?_))
      | (with_reducible refine fst_kept ?_)
      | (with_reducible refine mk1_kept ?_)

theorem State.dmaMoveIn_kept {ql : List Instr} {s : State} {d : Nat} {data : List Byte} (h1 : s.Kept ql) : State.Kept ql (State.dmaMoveIn s d data) := by
  unfold State.dmaMoveIn
  repeat' first
    | with_reducible assumption
    | (extract_lets +onlyGivenNames x; clear_value (hx : x = _); clear hx)
    | (with_reducible refine State.dmaWrite_kept ?_)
    | (with_reducible refine foldl_kept (fun _ _ _ => ?_) ?_)
    | (with_reducible refine ite_kept (fun _ => ?_) (fun _ => ?_))

theorem State.dmaCompletes_kept {ql : List Instr} {s : State} {c : Nat} {r : DmaRun} {status : Nat} (h1 : s.Kept ql) : State.Kept ql (State.dmaCompletes s c r status) := by
  unfold State.dmaCompletes
  repeat' first
    | with_reducible assumption
    | (extract_lets +onlyGivenNames x; clear_value (hx : x = _); revert x; refine let_kept (ql := ql) ?_ fun x _ => ?_)
    | (extract_lets +onlyGivenNames x; clear_value (hx : x = _); clear hx)
    | (with_reducible refine State.setObj_kept ?_)
    | (with_reducible refine State.bump_kept ?_)
    | (with_reducible refine State.emit_kept ?_)
    | (with_reducible refine State.msix_kept ?_)
    | (with_reducible refine State.flagArrives_kept ?_)
    | (with_reducible refine ite_kept (fun _ => ?_) (fun _ => ?_))
    | (with_reducible exact mk_kept (by assumption))

theorem State.dmaRuns_kept {ql : List Instr} {s : State} {c : Nat} {r : DmaRun} {data : List Byte} (h1 : s.Kept ql) : State.Kept ql (State.dmaRuns s c r data) := by
  unfold State.dmaRuns
  repeat' first
    | with_reducible assumption
    | (extract_lets +onlyGivenNames x; clear_value (hx : x = _); revert x; refine let_kept (ql := ql) ?_ fun x _ => ?_)
    | (extract_lets +onlyGivenNames x; clear_value (hx : x = _); revert x; refine let1_kept (ql := ql) ?_ fun x _ => ?_)
    | (with_reducible refine State.emit_kept ?_)
    | (with_reducible refine State.dmaReadAll_kept ?_)
    | (with_reducible refine State.dmaMoveIn_kept ?_)
    | (with_reducible refine State.dmaCompletes_kept ?_)
    | (with_reducible refine ite_kept (fun _ => ?_) (fun _ => ?_))
    | (with_reducible refine fst_kept ?_)
    | split

theorem execDmaDescriptor_kept {ql : List Instr} {ch : ChanIx} {desc : BitVec 256} {data : List Byte} {pcieError done : Bool} {s : State} (h1 : s.Kept ql) : Out.Kept ql (execDmaDescriptor ch desc data pcieError done s) := by
  unfold execDmaDescriptor
  repeat' first
    | with_reducible assumption
    | (extract_lets +onlyGivenNames x; clear_value (hx : x = _); revert x; refine let_kept (ql := ql) ?_ fun x _ => ?_)
    | (extract_lets +onlyGivenNames x; clear_value (hx : x = _); clear hx)
    | (with_reducible refine State.setPort_kept ?_)
    | (with_reducible refine State.channelFails_kept ?_)
    | (with_reducible refine State.dmaMoveIn_kept ?_)
    | (with_reducible refine State.dmaCompletes_kept ?_)
    | (with_reducible refine State.dmaRuns_kept ?_)
    | (with_reducible refine foldl_kept (fun _ _ _ => ?_) ?_)
    | (with_reducible refine Out.next_kept ?_)
    | (with_reducible refine ite_kept (fun _ => ?_) (fun _ => ?_))
    | (with_reducible refine ite_out_kept (fun _ => ?_) (fun _ => ?_))
    | (with_reducible exact mk_kept (by assumption))

theorem execXactVectorWrite_kept {ql : List Instr} {i : Nat} {s : State} (h1 : s.Kept ql) : Out.Kept ql (execXactVectorWrite i s) := by
  unfold execXactVectorWrite
  repeat' first
    | with_reducible assumption
    | (extract_lets +onlyGivenNames x; clear_value (hx : x = _); revert x; refine let_kept (ql := ql) ?_ fun x _ => ?_)
    | (extract_lets +onlyGivenNames x; clear_value (hx : x = _); clear hx)
    | (with_reducible refine State.answerVector_kept ?_)
    | (with_reducible refine Out.next_kept ?_)
    | (with_reducible refine ite_kept (fun _ => ?_) (fun _ => ?_))
    | (with_reducible refine ite_out_kept (fun _ => ?_) (fun _ => ?_))
    | split
    | (with_reducible exact mk_kept (by assumption))

theorem State.nmtMove_kept {ql : List Instr} {s : State} {st : Nat} (h1 : s.Kept ql) : Out.Kept ql (State.nmtMove s st) := by
  unfold State.nmtMove
  repeat' first
    | with_reducible assumption
    | (with_reducible refine State.setObj_kept ?_)
    | (with_reducible refine Out.next_kept ?_)
    | (with_reducible refine ite_kept (fun _ => ?_) (fun _ => ?_))

theorem execNmtStart_kept {ql : List Instr} {s : State} (h1 : s.Kept ql) : Out.Kept ql (execNmtStart s) := by
  unfold execNmtStart
  repeat' first
    | with_reducible assumption
    | (with_reducible refine State.nmtMove_kept ?_)

theorem execNmtStop_kept {ql : List Instr} {s : State} (h1 : s.Kept ql) : Out.Kept ql (execNmtStop s) := by
  unfold execNmtStop
  repeat' first
    | with_reducible assumption
    | (with_reducible refine State.nmtMove_kept ?_)

theorem execNmtEnterPreOperational_kept {ql : List Instr} {s : State} (h1 : s.Kept ql) : Out.Kept ql (execNmtEnterPreOperational s) := by
  unfold execNmtEnterPreOperational
  repeat' first
    | with_reducible assumption
    | (with_reducible refine State.nmtMove_kept ?_)

theorem execNmtResetNode_kept {ql : List Instr} {s : State} (h1 : s.Kept ql) : Out.Kept ql (execNmtResetNode s) := by
  unfold execNmtResetNode
  repeat' first
    | with_reducible assumption
    | (with_reducible refine State.persistMaybe_kept ?_)
    | (with_reducible refine State.commReset_kept ?_)
    | (with_reducible refine State.managementReset_kept ?_)
    | (with_reducible refine Out.next_kept ?_)
    | (with_reducible refine ite_kept (fun _ => ?_) (fun _ => ?_))

theorem execNmtResetCommunication_kept {ql : List Instr} {s : State} (h1 : s.Kept ql) : Out.Kept ql (execNmtResetCommunication s) := by
  unfold execNmtResetCommunication
  repeat' first
    | with_reducible assumption
    | (with_reducible refine State.commReset_kept ?_)
    | (with_reducible refine State.bootUp_kept ?_)
    | (with_reducible refine Out.next_kept ?_)
    | (with_reducible refine ite_kept (fun _ => ?_) (fun _ => ?_))

theorem State.sdoSend_kept {ql : List Instr} {s : State} {data : List Byte} (h1 : s.Kept ql) : State.Kept ql (State.sdoSend s data) := by
  unfold State.sdoSend
  repeat' first
    | with_reducible assumption
    | (with_reducible refine State.canSend_kept ?_)

theorem State.sdoAbort_kept {ql : List Instr} {s : State} {k code : Nat} (h1 : s.Kept ql) : State.Kept ql (State.sdoAbort s k code) := by
  unfold State.sdoAbort
  repeat' first
    | (extract_lets +onlyGivenNames x; clear_value (hx : x = _); clear hx)
    | (with_reducible refine State.bump_kept ?_)
    | (with_reducible refine State.sdoSend_kept ?_)
    | (with_reducible exact mk_kept (by assumption))

theorem State.sdoWrite_kept {ql : List Instr} {s : State} {k : Nat} {data : List Byte} (h1 : s.Kept ql) : Out.Kept ql (State.sdoWrite s k data) := by
  unfold State.sdoWrite
  repeat' first
    | with_reducible assumption
    | (extract_lets +onlyGivenNames x; clear_value (hx : x = _); revert x; refine let_kept (ql := ql) ?_ fun x _ => ?_)
    | (extract_lets +onlyGivenNames x; clear_value (hx : x = _); revert x; refine let1_kept (ql := ql) ?_ fun x _ => ?_)
    | (extract_lets +onlyGivenNames x; clear_value (hx : x = _); clear hx)
    | (with_reducible refine State.refuse_kept ?_)
    | (with_reducible refine State.access_kept ?_ (fun _ _ => ?_))
    | (with_reducible refine writeObj_kept ?_)
    | (with_reducible refine State.sdoSend_kept ?_)
    | (with_reducible refine State.sdoAbort_kept ?_)
    | (with_reducible refine Out.next_kept ?_)
    | (with_reducible refine ite_kept (fun _ => ?_) (fun _ => ?_))
    | (with_reducible refine ite_out_kept (fun _ => ?_) (fun _ => ?_))
    | (with_reducible refine fst_kept ?_)
    | (with_reducible exact mk_kept (by assumption))

theorem execSdoDownload_kept {ql : List Instr} {key : BitVec 24} {data : List Byte} {last : Bool} {proto : Fin 3} {s : State} (h1 : s.Kept ql) : Out.Kept ql (execSdoDownload key data last proto s) := by
  unfold execSdoDownload
  repeat' first
    | with_reducible assumption
    | (extract_lets +onlyGivenNames x; clear_value (hx : x = _); clear hx)
    | (with_reducible refine State.sdoAbort_kept ?_)
    | (with_reducible refine State.sdoWrite_kept ?_)
    | (with_reducible refine Out.next_kept ?_)
    | (with_reducible refine ite_out_kept (fun _ => ?_) (fun _ => ?_))
    | split
    | (with_reducible exact mk_kept (by assumption))

theorem State.sdoReply_kept {ql : List Instr} {s : State} {k : Nat} {data : List Byte} (h1 : s.Kept ql) : State.Kept ql (State.sdoReply s k data) := by
  unfold State.sdoReply
  repeat' first
    | with_reducible assumption
    | (with_reducible refine State.sdoSend_kept ?_)
    | (with_reducible refine ite_kept (fun _ => ?_) (fun _ => ?_))

theorem execSdoUpload_kept {ql : List Instr} {key : BitVec 24} {s : State} (h1 : s.Kept ql) : Out.Kept ql (execSdoUpload key s) := by
  unfold execSdoUpload
  repeat' first
    | with_reducible assumption
    | (extract_lets +onlyGivenNames x; clear_value (hx : x = _); revert x; refine let_kept (ql := ql) ?_ fun x _ => ?_)
    | (extract_lets +onlyGivenNames x; clear_value (hx : x = _); clear hx)
    | (with_reducible refine State.refuse_kept ?_)
    | (with_reducible refine State.readBy_kept ?_)
    | (with_reducible refine State.sdoAbort_kept ?_)
    | (with_reducible refine State.sdoReply_kept ?_)
    | (with_reducible refine Out.next_kept ?_)
    | (with_reducible refine ite_out_kept (fun _ => ?_) (fun _ => ?_))
    | split
    | (with_reducible exact mk_kept (by assumption))

theorem execSdoTimeout_kept {ql : List Instr} {s : State} (h1 : s.Kept ql) : Out.Kept ql (execSdoTimeout s) := by
  unfold execSdoTimeout
  repeat' first
    | with_reducible assumption
    | (with_reducible refine State.sdoAbort_kept ?_)
    | (with_reducible refine Out.next_kept ?_)
    | (with_reducible refine ite_out_kept (fun _ => ?_) (fun _ => ?_))
    | split

theorem State.enterError_kept {ql : List Instr} {s : State} {code record : Nat} (h1 : s.Kept ql) : State.Kept ql (State.enterError s code record) := by
  unfold State.enterError
  repeat' first
    | with_reducible assumption
    | (extract_lets +onlyGivenNames x; clear_value (hx : x = _); clear hx)
    | (with_reducible refine State.setObjs_kept ?_)

theorem execEmcySend_kept {ql : List Instr} {s : State} (h1 : s.Kept ql) : Out.Kept ql (execEmcySend s) := by
  unfold execEmcySend
  repeat' first
    | with_reducible assumption
    | (extract_lets +onlyGivenNames x; clear_value (hx : x = _); revert x; refine let_kept (ql := ql) ?_ fun x _ => ?_)
    | (extract_lets +onlyGivenNames x; clear_value (hx : x = _); replace hx : (_ : List (Nat × Nat)) = _ := hx; subst hx)
    | (extract_lets +onlyGivenNames x; clear_value (hx : x = _); clear hx)
    | (with_reducible refine State.canSend_kept ?_)
    | (with_reducible refine State.enterError_kept ?_)
    | (with_reducible refine mk_all_kept (by assumption) id id id id ?_ id id; intro w; simp only [*, List.length_cons, List.length_append] at w ⊢; split <;> simp only [List.length_cons, List.length_nil] <;> omega)
    | (with_reducible refine Out.next_kept ?_)
    | (with_reducible refine ite_kept (fun _ => ?_) (fun _ => ?_))
    | (with_reducible refine ite_out_kept (fun _ => ?_) (fun _ => ?_))
    | split

theorem execHeartbeat_kept {ql : List Instr} {s : State} (h1 : s.Kept ql) : Out.Kept ql (execHeartbeat s) := by
  unfold execHeartbeat
  repeat' first
    | with_reducible assumption
    | (with_reducible refine State.canSend_kept ?_)
    | (with_reducible refine Out.next_kept ?_)
    | (with_reducible refine ite_out_kept (fun _ => ?_) (fun _ => ?_))

theorem execBusOff_kept {ql : List Instr} {recover : Bool} {s : State} (h1 : s.Kept ql) : Out.Kept ql (execBusOff recover s) := by
  unfold execBusOff
  repeat' first
    | with_reducible assumption
    | (extract_lets +onlyGivenNames x; clear_value (hx : x = _); revert x; refine let_kept (ql := ql) ?_ fun x _ => ?_)
    | (extract_lets +onlyGivenNames x; clear_value (hx : x = _); clear hx)
    | (with_reducible refine State.setObj_kept ?_)
    | (with_reducible refine State.bump_kept ?_)
    | (with_reducible refine State.setObjBit_kept ?_)
    | (with_reducible refine State.draw_kept ?_)
    | (with_reducible refine Out.next_kept ?_)
    | (with_reducible refine ite_kept (fun _ => ?_) (fun _ => ?_))
    | (with_reducible refine ite_out_kept (fun _ => ?_) (fun _ => ?_))
    | (with_reducible exact mk_kept (by assumption))

theorem execCanErrorPassive_kept {ql : List Instr} {tec rec_ : BitVec 8} {s : State} (h1 : s.Kept ql) : Out.Kept ql (execCanErrorPassive tec rec_ s) := by
  unfold execCanErrorPassive
  repeat' first
    | with_reducible assumption
    | (extract_lets +onlyGivenNames x; clear_value (hx : x = _); revert x; refine let_kept (ql := ql) ?_ fun x _ => ?_)
    | (with_reducible refine State.setObj_kept ?_)
    | (with_reducible refine State.setObjBit_kept ?_)
    | (with_reducible refine Out.next_kept ?_)
    | (with_reducible refine ite_kept (fun _ => ?_) (fun _ => ?_))
    | (with_reducible refine ite_out_kept (fun _ => ?_) (fun _ => ?_))

theorem State.passOn_kept {ql : List Instr} {s : State} {rv : HeldWrite} (h1 : s.Kept ql) : State.Kept ql (State.passOn s rv) := by
  cases rv <;> unfold State.passOn
  all_goals repeat' first
    | with_reducible assumption
    | (with_reducible refine State.access_kept ?_ (fun _ _ => ?_))
    | (with_reducible refine writeObj_kept ?_)
    | (with_reducible refine State.bar2Write_kept ?_)
    | (with_reducible refine State.ringThread_kept ?_)
    | (with_reducible refine State.ringDma_kept ?_)
    | (with_reducible refine fst_kept ?_)

theorem State.passAll_kept {ql : List Instr} {s : State} {l : List HeldWrite} (h1 : s.Kept ql) : State.Kept ql (State.passAll s l) := by
  unfold State.passAll
  repeat' first
    | with_reducible assumption
    | (with_reducible refine State.passOn_kept ?_)
    | (with_reducible refine foldl_kept (fun _ _ _ => ?_) ?_)

end Sys2Proof.Machine
end

