-- ==== Sys2Proof/Laws/KeptDebug.lean ====
section
/-!
SUPPORT. Every operation of Machine/Debug.lean leaves the queue of waiting commands as it is, the stores canonical and what waits within bounds.
-/

set_option linter.tactic.unusedName false
set_option linter.unusedVariables false

namespace Sys2Proof.Machine

theorem State.tapIr_kept {ql : List Instr} {s : State} {ir len dr : Nat} (h1 : s.Kept ql) : State.Kept ql (State.tapIr s ir len dr) := by
  unfold State.tapIr
  repeat' first
    | (extract_lets +onlyGivenNames x; clear_value (hx : x = _); clear hx)
    | (with_reducible exact mk_kept (by assumption))

theorem State.tapOpen_kept {ql : List Instr} {s : State} {ir len dr : Nat} (h1 : s.Kept ql) : State.Kept ql (State.tapOpen s ir len dr) := by
  unfold State.tapOpen
  repeat' first
    | with_reducible assumption
    | (with_reducible refine State.tapIr_kept ?_)
    | (with_reducible refine ite_kept (fun _ => ?_) (fun _ => ?_))

theorem State.updateBoundary_kept {ql : List Instr} {s : State} {v : Option (BitVec 392)} (h1 : s.Kept ql) : State.Kept ql (State.updateBoundary s v) := by
  unfold State.updateBoundary
  repeat' first
    | with_reducible assumption
    | (extract_lets +onlyGivenNames x; clear_value (hx : x = _); clear hx)
    | (with_reducible refine ite_kept (fun _ => ?_) (fun _ => ?_))
    | split
    | (with_reducible exact mk_kept (by assumption))

theorem execTestLogicReset_kept {ql : List Instr} {s : State} (h1 : s.Kept ql) : Out.Kept ql (execTestLogicReset s) := by
  unfold execTestLogicReset
  repeat' first
    | with_reducible assumption
    | (extract_lets +onlyGivenNames x; clear_value (hx : x = _); revert x; refine let_kept (ql := ql) ?_ fun x _ => ?_)
    | (extract_lets +onlyGivenNames x; clear_value (hx : x = _); clear hx)
    | (with_reducible refine State.orphan_kept ?_)
    | (with_reducible refine State.tapIr_kept ?_)
    | (with_reducible refine Out.next_kept ?_)
    | (with_reducible exact mk_kept (by assumption))

theorem execExtest_kept {ql : List Instr} {v : Option (BitVec 392)} {s : State} (h1 : s.Kept ql) : Out.Kept ql (execExtest v s) := by
  unfold execExtest
  repeat' first
    | with_reducible assumption
    | (with_reducible refine State.draw_kept ?_)
    | (with_reducible refine State.tapOpen_kept ?_)
    | (with_reducible refine State.updateBoundary_kept ?_)
    | (with_reducible refine Out.next_kept ?_)

theorem execSamplePreload_kept {ql : List Instr} {v : Option (BitVec 392)} {s : State} (h1 : s.Kept ql) : Out.Kept ql (execSamplePreload v s) := by
  unfold execSamplePreload
  repeat' first
    | with_reducible assumption
    | (with_reducible refine State.draw_kept ?_)
    | (with_reducible refine State.tapOpen_kept ?_)
    | (with_reducible refine State.updateBoundary_kept ?_)
    | (with_reducible refine Out.next_kept ?_)

theorem execIdcode_kept {ql : List Instr} {s : State} (h1 : s.Kept ql) : Out.Kept ql (execIdcode s) := by
  unfold execIdcode
  repeat' first
    | with_reducible assumption
    | (with_reducible refine State.tapIr_kept ?_)
    | (with_reducible refine Out.next_kept ?_)

theorem execClamp_kept {ql : List Instr} {s : State} (h1 : s.Kept ql) : Out.Kept ql (execClamp s) := by
  unfold execClamp
  repeat' first
    | with_reducible assumption
    | (with_reducible refine State.tapOpen_kept ?_)
    | (with_reducible refine Out.next_kept ?_)

theorem execHighz_kept {ql : List Instr} {s : State} (h1 : s.Kept ql) : Out.Kept ql (execHighz s) := by
  unfold execHighz
  repeat' first
    | with_reducible assumption
    | (with_reducible refine State.tapOpen_kept ?_)
    | (with_reducible refine Out.next_kept ?_)

theorem execBypass_kept {ql : List Instr} {s : State} (h1 : s.Kept ql) : Out.Kept ql (execBypass s) := by
  unfold execBypass
  repeat' first
    | with_reducible assumption
    | (with_reducible refine State.tapIr_kept ?_)
    | (with_reducible refine Out.next_kept ?_)

theorem execDstat_kept {ql : List Instr} {s : State} (h1 : s.Kept ql) : Out.Kept ql (execDstat s) := by
  unfold execDstat
  repeat' first
    | with_reducible assumption
    | (with_reducible refine State.tapIr_kept ?_)
    | (with_reducible refine Out.next_kept ?_)

theorem State.tapRefused_kept {ql : List Instr} {s : State} {code : Nat} (h1 : s.Kept ql) : State.Kept ql (State.tapRefused s code) := by
  unfold State.tapRefused
  repeat' first
    | with_reducible assumption
    | (with_reducible refine State.tapDone_kept ?_)

theorem State.tapDict_kept {ql : List Instr} {s : State} {a : DebugAccess} (h1 : s.Kept ql) : State.Kept ql (State.tapDict s a) := by
  unfold State.tapDict
  repeat' first
    | with_reducible assumption
    | (extract_lets +onlyGivenNames x; clear_value (hx : x = _); revert x; refine let1_kept (ql := ql) ?_ fun x _ => ?_)
    | (extract_lets +onlyGivenNames x; clear_value (hx : x = _); clear hx)
    | (with_reducible refine State.refuse_kept ?_)
    | (with_reducible refine State.access_kept ?_ (fun _ _ => ?_))
    | (with_reducible refine State.tapDone_kept ?_)
    | (with_reducible refine writeObj_kept ?_)
    | (with_reducible refine State.consumeObj_kept ?_)
    | (with_reducible refine State.tapRefused_kept ?_)
    | (with_reducible refine ite_kept (fun _ => ?_) (fun _ => ?_))
    | (with_reducible refine fst_kept ?_)

theorem State.tapBus_kept {ql : List Instr} {s : State} {a : DebugAccess} (h1 : s.Kept ql) : State.Kept ql (State.tapBus s a) := by
  unfold State.tapBus
  repeat' first
    | with_reducible assumption
    | (extract_lets +onlyGivenNames x; clear_value (hx : x = _); revert x; refine let_kept (ql := ql) ?_ fun x _ => ?_)
    | (extract_lets +onlyGivenNames x; clear_value (hx : x = _); revert x; refine let1_kept (ql := ql) ?_ fun x _ => ?_)
    | (extract_lets +onlyGivenNames x; clear_value (hx : x = _); clear hx)
    | (with_reducible refine State.tapDone_kept ?_)
    | (with_reducible refine State.busRead_kept ?_)
    | (with_reducible refine State.busWrite_kept ?_)
    | (with_reducible refine State.busNode_kept ?_)
    | (with_reducible refine State.tapRefused_kept ?_)
    | (with_reducible refine ite_kept (fun _ => ?_) (fun _ => ?_))
    | (with_reducible refine fst_kept ?_)
    | split
    | (with_reducible exact mk_kept (by assumption))

theorem State.tapReg_kept {ql : List Instr} {s : State} {a : DebugAccess} {c n : Nat} (h1 : s.Kept ql) : State.Kept ql (State.tapReg s a c n) := by
  unfold State.tapReg
  repeat' first
    | with_reducible assumption
    | (extract_lets +onlyGivenNames x; clear_value (hx : x = _); revert x; refine let_kept (ql := ql) ?_ fun x _ => ?_)
    | (extract_lets +onlyGivenNames x; clear_value (hx : x = _); clear hx)
    | (with_reducible refine State.draw_kept ?_)
    | (with_reducible refine State.setCore_kept ?_)
    | (with_reducible refine State.tapDone_kept ?_)
    | (with_reducible refine State.csrWrite_kept ?_)
    | (with_reducible refine State.tapRefused_kept ?_)
    | (with_reducible refine ite_kept (fun _ => ?_) (fun _ => ?_))
    | split

theorem State.tapCore_kept {ql : List Instr} {s : State} {a : DebugAccess} (h1 : s.Kept ql) : State.Kept ql (State.tapCore s a) := by
  unfold State.tapCore
  repeat' first
    | with_reducible assumption
    | (extract_lets +onlyGivenNames x; clear_value (hx : x = _); clear hx)
    | (with_reducible refine State.setCore_kept ?_)
    | (with_reducible refine State.tapDone_kept ?_)
    | (with_reducible refine State.writeCdctl_kept ?_)
    | (with_reducible refine State.tapRefused_kept ?_)
    | (with_reducible refine State.tapReg_kept ?_)
    | (with_reducible refine ite_kept (fun _ => ?_) (fun _ => ?_))

theorem State.serveTap_kept {ql : List Instr} {s : State} (h1 : s.Kept ql) : State.Kept ql (State.serveTap s) := by
  unfold State.serveTap
  repeat' first
    | with_reducible assumption
    | (with_reducible refine State.tapDict_kept ?_)
    | (with_reducible refine State.tapBus_kept ?_)
    | (with_reducible refine State.tapCore_kept ?_)
    | (with_reducible refine ite_kept (fun _ => ?_) (fun _ => ?_))
    | split

theorem State.tapStart_kept {ql : List Instr} {s : State} {a : DebugAccess} (h1 : s.Kept ql) : State.Kept ql (State.tapStart s a) := by
  unfold State.tapStart
  repeat' first
    | with_reducible assumption
    | (extract_lets +onlyGivenNames x; clear_value (hx : x = _); revert x; refine let_kept (ql := ql) ?_ fun x _ => ?_)
    | (extract_lets +onlyGivenNames x; clear_value (hx : x = _); clear hx)
    | (with_reducible refine State.refuse_kept ?_)
    | (with_reducible refine State.tapIr_kept ?_)
    | (with_reducible refine State.tapRefused_kept ?_)
    | (with_reducible refine State.serveTap_kept ?_)
    | (with_reducible refine ite_kept (fun _ => ?_) (fun _ => ?_))
    | (with_reducible exact mk_kept (by assumption))

theorem execDaccRead_kept {ql : List Instr} {consume : Bool} {space : Fin 4} {size : Fin 8} {addr : BitVec 40} {s : State} (h1 : s.Kept ql) : Out.Kept ql (execDaccRead consume space size addr s) := by
  unfold execDaccRead
  repeat' first
    | with_reducible assumption
    | (with_reducible refine State.tapStart_kept ?_)
    | (with_reducible refine Out.next_kept ?_)

theorem execDaccWrite_kept {ql : List Instr} {space : Fin 4} {size : Fin 8} {addr : BitVec 40} {data : BitVec 64} {s : State} (h1 : s.Kept ql) : Out.Kept ql (execDaccWrite space size addr data s) := by
  unfold execDaccWrite
  repeat' first
    | with_reducible assumption
    | (with_reducible refine State.tapStart_kept ?_)
    | (with_reducible refine Out.next_kept ?_)

theorem execDaccCapture_kept {ql : List Instr} {s : State} (h1 : s.Kept ql) : Out.Kept ql (execDaccCapture s) := by
  unfold execDaccCapture
  repeat' first
    | (extract_lets +onlyGivenNames x; clear_value (hx : x = _); clear hx)
    | (with_reducible refine State.tapIr_kept ?_)
    | (with_reducible refine Out.next_kept ?_)
    | (with_reducible exact mk_kept (by assumption))

theorem execVtTx_kept {ql : List Instr} {core : CoreIx} {consume : Bool} {s : State} (h1 : s.Kept ql) : Out.Kept ql (execVtTx core consume s) := by
  unfold execVtTx
  repeat' first
    | with_reducible assumption
    | (with_reducible refine State.tapStart_kept ?_)
    | (with_reducible refine Out.next_kept ?_)

theorem execVtRx_kept {ql : List Instr} {core : CoreIx} {value : Option Byte} {s : State} (h1 : s.Kept ql) : Out.Kept ql (execVtRx core value s) := by
  unfold execVtRx
  repeat' first
    | with_reducible assumption
    | (with_reducible refine State.tapStart_kept ?_)
    | (with_reducible refine Out.next_kept ?_)

theorem execHubStart_kept {ql : List Instr} {moduleId : BitVec 10} {mgmtId : BitVec 7} {s : State} (h1 : s.Kept ql) : Out.Kept ql (execHubStart moduleId mgmtId s) := by
  unfold execHubStart
  repeat' first
    | with_reducible assumption
    | (extract_lets +onlyGivenNames x; clear_value (hx : x = _); revert x; refine let_kept (ql := ql) ?_ fun x _ => ?_)
    | (extract_lets +onlyGivenNames x; clear_value (hx : x = _); clear hx)
    | (with_reducible refine State.setObj_kept ?_)
    | (with_reducible refine State.setObjs_kept ?_)
    | (with_reducible refine State.nodeObjs_kept ?_)
    | (with_reducible refine State.serveTap_kept ?_)
    | (with_reducible refine Out.next_kept ?_)
    | (with_reducible refine ite_out_kept (fun _ => ?_) (fun _ => ?_))
    | (with_reducible exact mk_kept (by assumption))

theorem execClockWaitEnd_kept {ql : List Instr} {us : BitVec 32} {s : State} (h1 : s.Kept ql) : Out.Kept ql (execClockWaitEnd us s) := by
  unfold execClockWaitEnd
  repeat' first
    | with_reducible assumption
    | (extract_lets +onlyGivenNames x; clear_value (hx : x = _); revert x; refine let_kept (ql := ql) ?_ fun x _ => ?_)
    | (extract_lets +onlyGivenNames x; clear_value (hx : x = _); replace hx : (_ : Run) = _ := hx; subst hx)
    | (extract_lets +onlyGivenNames x; clear_value (hx : x = _); clear hx)
    | (with_reducible refine State.clocksRestart_kept ?_)
    | (with_reducible refine State.passAll_kept ?_)
    | (with_reducible refine State.serveTap_kept ?_)
    | (with_reducible refine Out.next_kept ?_)
    | (with_reducible refine ite_out_kept (fun _ => ?_) (fun _ => ?_))
    | ((with_reducible refine mk_all_kept (by assumption) ?_ ?_ ?_ ?_ ?_ ?_ ?_) <;> first | exact id | exact fun _ => Nat.zero_le _)

end Sys2Proof.Machine
end

