-- ==== Sys2Proof/Laws/KeptRiscV.lean ====
section
/-!
SUPPORT. Every operation of Machine/RiscV.lean leaves the queue of waiting commands as it is, the stores canonical and what waits within bounds.
-/

set_option linter.tactic.unusedName false
set_option linter.unusedVariables false

namespace Sys2Proof.Machine

theorem Out.orElse_kept {ql : List Instr} {o : Out} {s : State} (h1 : Out.Kept ql o) (h2 : s.Kept ql) : State.Kept ql (Out.orElse o s) := by
  cases o with
  | next t => exact h1 t rfl
  | fault r => exact h2
  | refused r => exact h2

theorem State.coreDraw_kept {ql : List Instr} {s : State} {c a n : Nat} {code : Bool} (h1 : s.Kept ql) : State.Kept ql (State.coreDraw s c a n code) := by
  unfold State.coreDraw
  repeat' first
    | with_reducible assumption
    | (extract_lets +onlyGivenNames x; clear_value (hx : x = _); clear hx)
    | (with_reducible refine State.draw_kept ?_)
    | (with_reducible refine State.astray_kept ?_)
    | (with_reducible refine ite_kept (fun _ => ?_) (fun _ => ?_))

theorem State.coreHbmStore_kept {ql : List Instr} {s : State} {c a n v : Nat} (h1 : s.Kept ql) : State.Kept ql (State.coreHbmStore s c a n v) := by
  unfold State.coreHbmStore
  repeat' first
    | with_reducible assumption
    | (extract_lets +onlyGivenNames x; clear_value (hx : x = _); revert x; refine let_kept (ql := ql) ?_ fun x _ => ?_)
    | (with_reducible refine State.hbmWrite_kept ?_)
    | (with_reducible refine State.hbmOpen_kept ?_)
    | (with_reducible refine State.astray_kept ?_)
    | (with_reducible refine State.noteWrite_kept ?_)
    | (with_reducible refine State.memoryWritten_kept ?_)
    | (with_reducible refine ite_kept (fun _ => ?_) (fun _ => ?_))

theorem State.coreLoad_kept {ql : List Instr} {s : State} {c rd a n : Nat} (h1 : s.Kept ql) : State.Kept ql (State.coreLoad s c rd a n) := by
  unfold State.coreLoad
  repeat' first
    | with_reducible assumption
    | (extract_lets +onlyGivenNames x; clear_value (hx : x = _); replace hx : (_ : _ → _) = _ := hx; subst hx; first | dsimp -zeta only | skip)
    | (with_reducible refine State.draw_kept ?_)
    | (with_reducible refine State.hbmBad_kept ?_)
    | (with_reducible refine State.setCore_kept ?_)
    | (with_reducible refine State.trap_kept ?_)
    | (with_reducible refine execLockLoad_kept ?_)
    | (with_reducible refine execOutLoad_kept ?_)
    | (with_reducible refine Out.orElse_kept ?_ ?_)
    | (with_reducible refine State.coreDraw_kept ?_)
    | (with_reducible refine ite_kept (fun _ => ?_) (fun _ => ?_))
    | split

theorem State.coreLoadX_kept {ql : List Instr} {s : State} {c rd a n : Nat} {sign : Bool} (h1 : s.Kept ql) : State.Kept ql (State.coreLoadX s c rd a n sign) := by
  unfold State.coreLoadX
  repeat' first
    | with_reducible assumption
    | (extract_lets +onlyGivenNames x; clear_value (hx : x = _); revert x; refine let_kept (ql := ql) ?_ fun x _ => ?_)
    | (with_reducible refine State.setCore_kept ?_)
    | (with_reducible refine State.coreLoad_kept ?_)
    | (with_reducible refine ite_kept (fun _ => ?_) (fun _ => ?_))

theorem State.coreStore_kept {ql : List Instr} {s : State} {c a n v : Nat} (h1 : s.Kept ql) : State.Kept ql (State.coreStore s c a n v) := by
  unfold State.coreStore
  repeat' first
    | with_reducible assumption
    | (extract_lets +onlyGivenNames x; clear_value (hx : x = _); clear hx)
    | (with_reducible refine State.astray_kept ?_)
    | (with_reducible refine State.setCore_kept ?_)
    | (with_reducible refine State.trap_kept ?_)
    | (with_reducible refine State.sramWrite_kept ?_)
    | (with_reducible refine execLockStore_kept ?_)
    | (with_reducible refine State.xportStore_kept ?_)
    | (with_reducible refine execPaceStore_kept ?_)
    | (with_reducible refine execWdtKick_kept ?_)
    | (with_reducible refine State.timerIrq_kept ?_)
    | (with_reducible refine Out.orElse_kept ?_ ?_)
    | (with_reducible refine State.coreHbmStore_kept ?_)
    | (with_reducible refine ite_kept (fun _ => ?_) (fun _ => ?_))
    | split

theorem State.illegal_kept {ql : List Instr} {s : State} {c w : Nat} (h1 : s.Kept ql) : State.Kept ql (State.illegal s c w) := by
  unfold State.illegal
  repeat' first
    | with_reducible assumption
    | (with_reducible refine State.draw_kept ?_)
    | (with_reducible refine State.trap_kept ?_)

theorem State.threadCommand_kept {ql : List Instr} {s : State} {c v : Nat} (h1 : s.Kept ql) : State.Kept ql (State.threadCommand s c v) := by
  unfold State.threadCommand
  repeat' first
    | with_reducible assumption
    | (extract_lets +onlyGivenNames x; clear_value (hx : x = _); replace hx : (_ : _ → _) = _ := hx; subst hx; first | dsimp -zeta only | skip)
    | (extract_lets +onlyGivenNames x; clear_value (hx : x = _); clear hx)
    | (with_reducible refine State.result4_kept ?_)
    | (with_reducible refine execTcmdWait_kept ?_)
    | (with_reducible refine execTcmdYield_kept ?_)
    | (with_reducible refine execTcmdExit_kept ?_)
    | (with_reducible refine execTcmdSignal_kept ?_)
    | (with_reducible refine execTcmdSpawn_kept ?_)
    | (with_reducible refine execTcmdStop_kept ?_)
    | (with_reducible refine execTcmdStart_kept ?_)
    | (with_reducible refine execTcmdMigrate_kept ?_)
    | (with_reducible refine execTcmdAlarm_kept ?_)
    | (with_reducible refine State.threadReq_kept ?_)
    | (with_reducible refine Out.orElse_kept ?_ ?_)
    | (with_reducible refine ite_kept (fun _ => ?_) (fun _ => ?_))
    | split

theorem State.reissue_kept {ql : List Instr} {s : State} {c : Nat} (h1 : s.Kept ql) : State.Kept ql (State.reissue s c) := by
  unfold State.reissue
  repeat' first
    | with_reducible assumption
    | (extract_lets +onlyGivenNames x; clear_value (hx : x = _); clear hx)
    | (with_reducible refine State.setCore_kept ?_)

theorem State.csrInstr_kept {ql : List Instr} {s : State} {c w n rd arg : Nat} {op : CsrOp} {reads writes : Bool} (h1 : s.Kept ql) : State.Kept ql (State.csrInstr s c w n rd arg op reads writes) := by
  unfold State.csrInstr
  repeat' first
    | with_reducible assumption
    | (extract_lets +onlyGivenNames x; clear_value (hx : x = _); revert x; refine let_kept (ql := ql) ?_ fun x _ => ?_)
    | (extract_lets +onlyGivenNames x; clear_value (hx : x = _); clear hx)
    | (with_reducible refine State.draw_kept ?_)
    | (with_reducible refine State.setCore_kept ?_)
    | (with_reducible refine State.takeIrq_kept ?_)
    | (with_reducible refine execVttx_kept ?_)
    | (with_reducible refine execVtrx_kept ?_)
    | (with_reducible refine execTflagsWrite_kept ?_)
    | (with_reducible refine execTctlWrite_kept ?_)
    | (with_reducible refine State.csrWrite_kept ?_)
    | (with_reducible refine Out.orElse_kept ?_ ?_)
    | (with_reducible refine State.illegal_kept ?_)
    | (with_reducible refine State.threadCommand_kept ?_)
    | (with_reducible refine State.reissue_kept ?_)
    | (with_reducible refine ite_kept (fun _ => ?_) (fun _ => ?_))

theorem State.systemInstr_kept {ql : List Instr} {s : State} {c w : Nat} (h1 : s.Kept ql) : State.Kept ql (State.systemInstr s c w) := by
  unfold State.systemInstr
  repeat' first
    | with_reducible assumption
    | (extract_lets +onlyGivenNames x; clear_value (hx : x = _); revert x; refine let_kept (ql := ql) ?_ fun x _ => ?_)
    | (extract_lets +onlyGivenNames x; clear_value (hx : x = _); clear hx)
    | (with_reducible refine State.setCore_kept ?_)
    | (with_reducible refine State.trap_kept ?_)
    | (with_reducible refine State.takeIrq_kept ?_)
    | (with_reducible refine execEbreak_kept ?_)
    | (with_reducible refine Out.orElse_kept ?_ ?_)
    | (with_reducible refine State.illegal_kept ?_)
    | (with_reducible refine State.reissue_kept ?_)
    | (with_reducible refine State.csrInstr_kept ?_)
    | (with_reducible refine ite_kept (fun _ => ?_) (fun _ => ?_))
    | split

theorem State.amoInstr_kept {ql : List Instr} {s : State} {c w : Nat} (h1 : s.Kept ql) : State.Kept ql (State.amoInstr s c w) := by
  unfold State.amoInstr
  repeat' first
    | with_reducible assumption
    | (extract_lets +onlyGivenNames x; clear_value (hx : x = _); clear hx)
    | (with_reducible refine execLr_kept ?_)
    | (with_reducible refine execSc_kept ?_)
    | (with_reducible refine execAmo_kept ?_)
    | (with_reducible refine Out.orElse_kept ?_ ?_)
    | (with_reducible refine State.illegal_kept ?_)
    | (with_reducible refine ite_kept (fun _ => ?_) (fun _ => ?_))
    | split

theorem State.jump_kept {ql : List Instr} {s : State} {c a : Nat} (h1 : s.Kept ql) : State.Kept ql (State.jump s c a) := by
  unfold State.jump
  repeat' first
    | with_reducible assumption
    | (extract_lets +onlyGivenNames x; clear_value (hx : x = _); clear hx)
    | (with_reducible refine State.setCore_kept ?_)

theorem State.execute_kept {ql : List Instr} {s : State} {c pc w : Nat} (h1 : s.Kept ql) : State.Kept ql (State.execute s c pc w) := by
  unfold State.execute
  repeat' first
    | with_reducible assumption
    | (extract_lets +onlyGivenNames x; clear_value (hx : x = _); replace hx : (_ : _ → _) = _ := hx; subst hx; first | dsimp -zeta only | skip)
    | (extract_lets +onlyGivenNames x; clear_value (hx : x = _); clear hx)
    | (with_reducible refine State.setCore_kept ?_)
    | (with_reducible refine execFenceI_kept ?_)
    | (with_reducible refine Out.orElse_kept ?_ ?_)
    | (with_reducible refine State.coreLoadX_kept ?_)
    | (with_reducible refine State.coreStore_kept ?_)
    | (with_reducible refine State.illegal_kept ?_)
    | (with_reducible refine State.systemInstr_kept ?_)
    | (with_reducible refine State.amoInstr_kept ?_)
    | (with_reducible refine State.jump_kept ?_)
    | (with_reducible refine ite_kept (fun _ => ?_) (fun _ => ?_))
    | split

theorem State.coreStep_kept {ql : List Instr} {s : State} {c : Nat} (h1 : s.Kept ql) : State.Kept ql (State.coreStep s c) := by
  unfold State.coreStep
  repeat' first
    | with_reducible assumption
    | (extract_lets +onlyGivenNames x; clear_value (hx : x = _); revert x; refine let_kept (ql := ql) ?_ fun x _ => ?_)
    | (extract_lets +onlyGivenNames x; clear_value (hx : x = _); clear hx)
    | (with_reducible refine State.setCore_kept ?_)
    | (with_reducible refine State.trap_kept ?_)
    | (with_reducible refine State.takeIrq_kept ?_)
    | (with_reducible refine State.haltCore_kept ?_)
    | (with_reducible refine State.coreDraw_kept ?_)
    | (with_reducible refine State.illegal_kept ?_)
    | (with_reducible refine State.execute_kept ?_)
    | (with_reducible refine ite_kept (fun _ => ?_) (fun _ => ?_))
    | split

theorem State.idle_kept {ql : List Instr} {s : State} (h1 : s.Kept ql) : State.Kept ql (State.idle s) := by
  unfold State.idle
  repeat' first
    | with_reducible assumption
    | (with_reducible refine State.wdtTick_kept ?_)
    | (with_reducible refine State.timerIrq_kept ?_)
    | (with_reducible refine State.tick_kept ?_)
    | (with_reducible refine State.fabCycle_kept ?_)
    | (with_reducible refine State.coreStep_kept ?_)
    | (with_reducible refine foldl_kept (fun _ _ _ => ?_) ?_)
    | (with_reducible refine ite_kept (fun _ => ?_) (fun _ => ?_))

end Sys2Proof.Machine
end

