-- ==== Sys2Proof/Machine/Flags.lean ====
section
/-!
DEFINITION. The block has no processor flags. Its status words (ERROR_REGISTER, CDSTAT, the cluster status word, the scheduler's SCHED and
TSTAT) are computed where they are shown; this file names the bits of ERROR_REGISTER (Table 17-12).
-/

namespace Sys2Proof.Machine

/-- Bit 0 of ERROR_REGISTER: a fault record is not acknowledged. -/
def State.genericError (s : State) : Bool := s.errorRegister.testBit 0

/-- Bit 4: CAN error-passive or bus-off since the last read. -/
def State.communicationError (s : State) : Bool := s.errorRegister.testBit 4

/-- Bit 7: CLOCK-WAIT since the last read. -/
def State.clockWaitSeen (s : State) : Bool := s.errorRegister.testBit 7

end Sys2Proof.Machine
end

