-- ==== Sys2Proof/WellFormed.lean ====
section
/-!
DEFINITION. Which commands the spec's interfaces can deliver: the ranges of fields that an operand's type does not bound.
-/

namespace Sys2Proof

/-- An upset hits one bit of a byte of the node's stores or of the check bytes of its rows. -/
def Upset.wf (u : Upset) : Bool := u.bit < 8 && u.addr < 0x04010000

/-- A PCIe request to BAR2: 1–4,096 bytes within the BAR that cross no 4 KiB boundary. -/
def accessWf (off n : Nat) : Bool := 1 ≤ n && off % 4096 + n ≤ 4096 && off + n ≤ 2 ^ 37

/-- The speed and width of a trained link, or none (Table 17-4). -/
def linkWf (speed width : Nat) : Bool :=
  (speed == 0 && width == 0) || (1 ≤ speed && speed ≤ 5 && (width == 1 || width == 2 || width == 4 || width == 8))

/-- A user-flash program carries a page of at most 256 bytes. -/
def UserFlash.wf : UserFlash → Bool
  | .program data => data.length ≤ 256
  | .read => true
  | .erase => true

/-- A command that the spec's interfaces can deliver. -/
def Instr.wf : Instr → Bool
  | .sluiceOpen => true
  | .clusterStep _ _ upsets => upsets.all Upset.wf
  | .nop _ _ _ => true
  | .lut _ _ _ => true
  | .mrdAddr _ _ _ => true
  | .mrdGo _ _ _ => true
  | .mwrAddr _ _ _ => true
  | .mwrData _ _ _ => true
  | .mwrGo _ _ _ => true
  | .xin _ _ _ => true
  | .xout _ _ _ => true
  | .fin _ _ _ => true
  | .fout _ _ _ => true
  | .trg _ _ _ => true
  | .prb _ _ _ => true
  | .evt _ _ _ => true
  | .asrt _ _ _ => true
  | .cken _ _ _ => true
  | .endOp _ _ _ => true
  | .deliveryLand _ _ => true
  | .routePortRead _ _ _ => true
  | .slotFlitLeave _ _ _ _ => true
  | .linkWordSend _ _ _ _ => true
  | .slotFlitLand _ _ => true
  | .landingPortWrite _ _ _ => true
  | .exchangeInstant _ => true
  | .xportOutLatch => true
  | .eccRewrite _ _ => true
  | .clusterEnd _ _ => true
  | .localCompletion => true
  | .dcDoneSend _ => true
  | .cycleOverrunLocal => true
  | .cycleOverrunPartner => true
  | .memoryReturn _ _ => true
  | .rowRewrite _ _ => true
  | .memoryScrub _ _ => true
  | .quarryRequestSend _ _ => true
  | .quarryServe _ _ _ => true
  | .bankRefresh _ _ _ => true
  | .quarryReturn _ _ => true
  | .hbmPatrolScrub _ _ _ => true
  | .packetRequestArrive _ _ => true
  | .packetResponseArrive _ => true
  | .tagTimeout _ => true
  | .wakeComplete _ _ => true
  | .wakeLimitExpiry _ _ => true
  | .idleGate _ _ => true
  | .seamBlockReceive _ _ _ _ _ => true
  | .laneMarkerReceive _ _ _ => true
  | .laneMarkerSend _ _ => true
  | .idleReceive _ => true
  | .frameEnd _ => true
  | .relayForward _ _ _ _ => true
  | .ack _ => true
  | .nak _ => true
  | .ackTimeout _ => true
  | .nakRepeat _ => true
  | .ackSend _ => true
  | .seamEgressSend _ _ => true
  | .resumeLimitExpiry _ => true
  | .timeSync _ => true
  | .pdelayReq _ => true
  | .pdelayResp _ => true
  | .pdelayIntervalExpiry => true
  | .syncIntervalExpiry => true
  | .candidateExpiry _ => true
  | .ppsInEdge _ => true
  | .ppsLost => true
  | .ppsOutRise => true
  | .ppsOutFall => true
  | .timeNsRead _ => true
  | .timeSet _ _ => true
  | .rejoin _ _ => true
  | .incrementWrite _ _ => true
  | .priorityWrite _ _ => true
  | .tieEdgeReached _ _ => true
  | .tieApply _ => true
  | .lockLoad _ _ _ _ => true
  | .lockStore _ _ _ => true
  | .post _ _ => true
  | .inStageStore _ _ _ _ _ => true
  | .outLoad _ _ _ _ _ => true
  | .paceStore _ _ _ => true
  | .wdtKick _ _ => true
  | .wdtExpiry _ => true
  | .mtimecmpReached _ => true
  | .lr _ _ _ _ => true
  | .sc _ _ _ _ _ => true
  | .amo _ _ _ _ _ _ => true
  | .fenceI _ => true
  | .reservationExpiry _ => true
  | .ebreak _ => true
  | .coreRun _ _ => true
  | .tcmdWait _ _ _ => true
  | .tcmdYield _ => true
  | .tcmdExit _ => true
  | .tcmdSignal _ _ _ => true
  | .tcmdSpawn _ _ _ _ _ _ _ => true
  | .tcmdStop _ _ => true
  | .tcmdStart _ _ => true
  | .tcmdMigrate _ _ _ => true
  | .tcmdAlarm _ _ _ _ _ _ => true
  | .tcmdReqRead _ _ _ _ _ _ _ _ => true
  | .tcmdReqWrite _ _ _ _ _ _ _ _ => true
  | .tflagsWrite _ _ _ => true
  | .tctlWrite _ _ => true
  | .flagApply => true
  | .threadTimeout _ => true
  | .alarmFire _ _ => true
  | .dispatch _ _ _ _ => true
  | .prefetchFill _ => true
  | .preemption _ _ _ => true
  | .contextWriteback _ => true
  | .requestCompletion => true
  | .threadCmdStop _ => true
  | .threadCmdStart _ => true
  | .threadFlagsSet _ _ => true
  | .vttx _ _ _ => true
  | .vtrx _ _ => true
  | .trigInputEdge _ _ => true
  | .trigPulseEnd _ => true
  | .holdoffExpiry _ => true
  | .rearm _ _ => true
  | .maskTestFetchDone => true
  | .traceCmdArm _ => true
  | .traceCmdFreeze _ => true
  | .traceRecordWrite => true
  | .snapshotDone _ => true
  | .restoreDone => true
  | .fabLoadCmdLoad _ => true
  | .fabLoadCmdAbort _ => true
  | .fabLoadCmdUnconfigure _ => true
  | .fabFetchDone _ => true
  | .fabCheckDone vddio => decide (vddio.length ≤ 8)
  | .fabWriteDone => true
  | .regionSelectChange _ _ _ => true
  | .regionForcedSwitch _ => true
  | .regionLoss _ => true
  | .safeStateBegin _ _ => true
  | .padRelease _ _ _ => true
  | .safeForce _ _ => true
  | .finLanePost _ _ => true
  | .delayTapStep _ _ => true
  | .userFlashAccess op _ => op.wf
  | .userFlashDone => true
  | .configScrub _ _ => true
  | .roFreqMeasure _ _ => true
  | .tapFsMeasure _ _ => true
  | .registerWrite _ _ _ _ => true
  | .shadowWrite _ _ _ => true
  | .counterClear _ _ => true
  | .accessErrRead _ _ => true
  | .errorRegisterRead _ => true
  | .errorCountWrite _ _ => true
  | .bar2Read off n _ => accessWf off.toNat n
  | .bar2Write off data => accessWf off.toNat data.length
  | .completionTimeout _ => true
  | .cwReadTimeout => true
  | .threadDoorbell _ _ => true
  | .dmaDoorbell _ _ => true
  | .flr => true
  | .perstN high speed width => ! high || linkWf speed.toNat width.toNat
  | .chCmdRun _ _ => true
  | .chCmdStop _ _ => true
  | .dmaDescriptor _ _ data _ _ => decide (data.length ≤ 2 ^ 24)
  | .acceptedWrite _ _ _ => true
  | .xactVectorWrite _ => true
  | .nmtStart => true
  | .nmtStop => true
  | .nmtEnterPreOperational => true
  | .nmtResetNode => true
  | .nmtResetCommunication => true
  | .sdoDownload _ data _ _ => decide (data.length ≤ 889)
  | .sdoUpload _ => true
  | .sdoTimeout => true
  | .emcySend => true
  | .heartbeat => true
  | .busOff _ => true
  | .faultSel _ _ => true
  | .faultAck _ _ => true
  | .failSet _ _ => true
  | .failClear _ _ => true
  | .remapLc _ _ => true
  | .loadCmdLoad _ => true
  | .loadCmdAbort _ => true
  | .loadFetchDone _ => true
  | .loadCheckDone vddio => decide (vddio.length ≤ 8)
  | .loadWriteDone => true
  | .remapDone => true
  | .runCmdRun _ => true
  | .runCmdStep _ => true
  | .runCmdTied _ => true
  | .runCmdHold _ => true
  | .runCmdSnapshot _ => true
  | .runCmdStandby _ => true
  | .runCmdDiag _ => true
  | .startPoint => true
  | .modeMoveDone => true
  | .diagTestDone _ _ => true
  | .check _ _ => true
  | .checkDone _ => true
  | .commit _ _ => true
  | .commitAtTime _ _ => true
  | .commitAtDc _ _ => true
  | .discard _ _ => true
  | .commitTimeReached => true
  | .commitPauseEnd => true
  | .referenceLost _ => true
  | .pllUnstable _ => true
  | .hbmPllGate => true
  | .clockWaitEnd _ => true
  | .pllRelockFail _ => true
  | .stepMuxSwitch _ _ => true
  | .railTargetReached _ => true
  | .rampLimitExpiry _ => true
  | .avsbusPoll _ _ fails => decide (fails ≤ 4)
  | .brownOutWarning _ _ => true
  | .brownOutWarningEnd _ _ => true
  | .brownOutResetLevel _ _ => true
  | .powerSample _ => true
  | .thermalSample _ => true
  | .halveEnd => true
  | .thermalShutdown _ _ _ => true
  | .agePlan _ _ => true
  | .agePlanCommit => true
  | .persistentStoreWrite => true
  | .powerOnReset => true
  | .moduleResetN _ _ => true
  | .resetCmdWarm _ => true
  | .resetCmdManagement _ => true
  | .managementWatchdog => true
  | .dieReset _ => true
  | .auxStartDone => true
  | .clocksDone => true
  | .hubStart _ _ => true
  | .romDone _ _ => true
  | .firmwareDone _ _ => true
  | .hbmDone _ => true
  | .testLogicReset => true
  | .extest _ => true
  | .samplePreload _ => true
  | .idcode => true
  | .clamp => true
  | .highz => true
  | .bypass => true
  | .dstat => true
  | .daccRead _ _ _ _ => true
  | .daccWrite _ _ _ _ => true
  | .daccCapture => true
  | .haltreq _ => true
  | .resumereq _ => true
  | .clrBroke _ => true
  | .haltDeferLimit _ => true
  | .coreHalted _ _ => true
  | .dhalt _ _ => true
  | .vtTx _ _ => true
  | .vtRx _ _ => true
  | .flCmdProgram _ => true
  | .flCmdErase _ => true
  | .flDone _ => true
  | .lcReq _ _ _ => true
  | .lcTransitionDone => true
  | .keyCmdInstallImageKey _ => true
  | .keyCmdInstallSigningKey _ => true
  | .keyCmdSetOwnerKey _ => true
  | .keyCmdRevoke _ => true
  | .abandonOpening => true
  | .abandonHold => true
  | .canErrorPassive _ _ => true
  | .ageingSensorReport _ _ _ _ _ _ => true
  | .regionFreqMeasure _ _ => true
  | .judgingWindowEnd _ _ _ => true
  | .regionLossEnd _ => true

end Sys2Proof
end

