-- ==== Sys2Proof/Tests/Slice0.lean ====
section
/-!
SUPPORT. Small states and words that meet the hypotheses of each statement, clause by clause; terms that are not well-formed; and examples
that the spec itself gives.
-/

set_option Elab.async false

namespace Sys2Proof.Tests
open Sys2Proof.Machine

/-- A module whose boot has completed, with objects set. -/
def up (l : List (Nat × Nat)) : State :=
  State.setObjs { State.reset with
    tb := TimeBase.blank, host := { HostIf.blank with up := true, perstHigh := true, resetHigh := true } } ((O.BOOT_STATE, 6) :: l)

/-- A module that runs, E0.LC0 bound to PC0, in design depth 4. -/
def going (l : List (Nat × Nat)) : State := up ([(O.MODE, mRun), (O.DEPTH, 4), (O.BINDING 0 0, 0)] ++ l)

/-- That module with its cluster. -/
def withCl (c : Cluster) (l : List (Nat × Nat)) : State := (going l).setCl 0 c

/-- An instruction word (Table 03-1). -/
def word (opc tt s0 s1 s2 s3 dest : Nat) : Nat :=
  opc * 2 ^ 76 + tt * 2 ^ 60 + s0 * 2 ^ 49 + s1 * 2 ^ 38 + s2 * 2 ^ 27 + s3 * 2 ^ 16 + dest

/-- A cluster whose BP 0 is about to execute a word at step 0. -/
def coded (w : Nat) : Cluster := { Cluster.blank with seq := .runStep, node := mputNat [] 0 11 (w + checkBits 80 w * 2 ^ 80) }

/-- A running module whose BP 0 is about to execute a word. -/
def op (w : Nat) (l : List (Nat × Nat)) : State := withCl (coded w) l

/-- A word of each class that reads STATE bits only (selectors from 0x600). -/
def plain (opc tt dest : Nat) : Nat := word opc tt 0x600 0x601 0x602 0x603 dest

/-- The outcome is a next state. -/
def isNext : Out → Bool
  | .next _ => true
  | .fault _ => false
  | .refused _ => false

/-! ### The statements' hypotheses are met -/

theorem witness_LogicOpsExecute :
    (∀ w ∈ [plain 0 1 0, plain 1 0xAAAA 0, plain 8 0xFFF 0, plain 9 0x3FFF 0, plain 10 0 0, plain 11 0xFFFF 0, plain 12 63 0, plain 15 0 0],
      (op w []).opReady 0 0 0 w) ∧
    [plain 0 1 0, plain 1 0xAAAA 0, plain 8 0xFFF 0, plain 9 0x3FFF 0, plain 10 0 0, plain 11 0xFFFF 0, plain 12 63 0, plain 15 0 0].map iClass
      = [.nop, .lut, .trg, .prb, .evt, .asrt, .cken, .stop] := by decide +kernel

/-- The running module with XPORT 0 and the FIN and FOUT bit 0 at home in E0.LC0. -/
def atHome (w : Nat) : State :=
  let s := op w []
  { s with sluice := { s.sluice with homes := [(0, 0x8000), (4096, 0x8000), (12288, 0x8000)] } }

theorem witness_ExchangeOpsExecute :
    (∀ w ∈ [plain 4 0 0, plain 5 0 0, plain 6 0 0, plain 7 0 0], (atHome w).opReady 0 0 0 w ∧ (op w []).opReady 0 0 0 w ∧
      (∀ k ∈ [0, 4096, 12288], ((atHome w).opDone 0 0 0).isHome 0 k = true ∧ ((op w []).opDone 0 0 0).isHome 0 k = false)) ∧
    (going []).executes (cidOf 0 0) = false ∧
    [plain 4 0 0, plain 5 0 0, plain 6 0 0, plain 7 0 0].map iClass = [.xin, .xout, .fin, .fout] := by decide +kernel

/-- The state after the first part of an MRD GO on port 0. -/
def goneTo (s : State) : State :=
  let o := s.opDone 0 0 0
  (o.setCl 0 { o.cl 0 with portUse := tput (fun _ => 0) (o.cl 0).portUse 0 ((o.cl 0).period + 1) }).landLocal 0 0 false

/-- A module about to execute an MRD GO on a port with a descriptor, its row 0 as given. -/
def going60 (desc row : Nat) : State :=
  let w := plain 2 0x1000 0x8000
  withCl { coded w with node := mputNat (coded w).node (nMem 0) 8 row } [(O.PORT_DESC 0 0, desc)]

theorem witness_MemoryOpsExecute :
    (∀ w ∈ [plain 2 0 0, plain 3 0 0, plain 3 0x1000 0, plain 3 0x2000 0, plain 2 0x1000 0x8000],
      (op w []).opReady 0 0 0 w) ∧
    [plain 2 0 0, plain 2 0x1000 0x8000].map mrdForm = [.addr, .go] ∧
    [plain 3 0 0, plain 3 0x1000 0, plain 3 0x2000 0].map mwrForm = [.addr, .data, .go] ∧
    (∀ p ∈ [(2 ^ 63, 0), (2 ^ 63, 1), (2 ^ 63, 3), (3 * 2 ^ 62, 0), (0, 0)], (going60 p.1 p.2).opReady 0 0 0 (plain 2 0x1000 0x8000)) ∧
    (goneTo (going60 (3 * 2 ^ 62) 0)).portDesc 0 0 = 3 * 2 ^ 62 ∧ (goneTo (going60 0 0)).portDesc 0 0 = 0 ∧
    (goneTo (going60 (2 ^ 63) 0)).portDesc 0 0 = 2 ^ 63 ∧ ((goneTo (going60 (2 ^ 63) 0)).cl 0).rowBefore 0 = .clean 0 ∧
    ((goneTo (going60 (2 ^ 63) 1)).cl 0).rowBefore 0 = .corrected 0 ∧
    ((goneTo (going60 (2 ^ 63) 3)).cl 0).rowBefore 0 = .uncorrectable 6 ∧ ((goneTo (going60 (2 ^ 63) 1)).cl 0).unseen 0 = [] := by
  decide +kernel

/-- A cluster whose route entry 0 is of the return kind. -/
def returning : Cluster := { Cluster.blank with node := mputNat [] (nRoute 0) 9 (2 ^ 63 + checkBits 64 (2 ^ 63) * 2 ^ 64) }

/-- Route entry `i` after 0 of that cluster. -/
def entryOf (i : Nat) : Nat := mnat ((withCl returning []).cl 0).node (nRoute ((0 + i) % 16384)) 9

theorem witness_ReturnedBitsAreQueued :
    (∀ i, i < 1 → eccCheck 64 (entryOf i % 2 ^ 64) (entryOf i / 2 ^ 64) = .clean (entryOf i % 2 ^ 64)) ∧
    (∀ i, i < 1 → rKind (entryOf i % 2 ^ 64) = 2) := by decide +kernel

theorem witness_ClusterPeriodPasses :
    (State.reset.setCl 0 ((State.reset.cl 0).upset [])).stepping = false ∧
    (∀ q ∈ [SeqState.atEnd, .drain, .commit, .exchange, .runStep, .held],
      let s := withCl { Cluster.blank with seq := q } []
      let a := s.setCl 0 ((s.cl 0).upset [])
      a.stepping = true ∧ a.sluiceSet.contains 0 = true ∧ a.mayAct 0 = true ∧ ((a.landDue 0 fun _ => true).cl 0).seq = q) ∧
    (let c := { coded 0 with node := mputNat [] 0 11 3 }
     c.badFetch.isSome = true) ∧
    (let c := coded (word 1 0xAAAA 0 0 0 0 0)
     c.badFetch = none ∧ waitingOperand c c.ops = some (0, 0)) ∧
    (let c := coded (plain 1 0xAAAA 0)
     c.badFetch = none ∧ waitingOperand c c.ops = none ∧ routeOverflow c c.ops = false) ∧
    (let c := { coded (plain 1 0xAAAA 0x8000) with routeQ := [(0, List.replicate 256 ⟨0, 0, 0, 0, false, false⟩)] }
     c.badFetch = none ∧ waitingOperand c c.ops = none ∧ routeOverflow c c.ops = true) := by
  decide +kernel

/-- A delivery to LOCAL entry 1,023 of BP 1,023, or to INBOX entry 511. -/
def deliv (inbox stamp : Bool) : Deliv := ⟨0, .own, inbox, 1023, if inbox then 511 else 1023, true, stamp⟩

theorem witness_DeliveriesLand :
    (∀ d ∈ Cluster.blank.inflight, Cluster.blank.period < d.due) ∧ (deliv false false).due ≤ Cluster.blank.period ∧
    ((withCl { Cluster.blank with inflight := [deliv false false] } []).cl 0).inflight = [] ++ deliv false false :: [] := by
  decide +kernel

theorem witness_LandingWritesEntryAndTag :
    (deliv false true).stamp ≠ (going []).stamp ∧ (deliv false false).stamp = (going []).stamp ∧
    (deliv true false).stamp = (going []).stamp ∧ (deliv true false).idx < 512 ∧ (deliv false false).idx < 1024 := by decide +kernel

/-- A cluster with instruction entry 0 and route entry 0 off by one bit, and row 0 as given. -/
def flawed (seq : SeqState) (instr route rows : List Nat) (row : Nat) : Cluster :=
  { Cluster.blank with
    seq := seq, fixInstr := instr, fixRoute := route, fixRows := rows
    node := mputNat (mputNat (mputNat [] 0 11 1) (nRoute 0) 9 1) (nMem 0) 8 row }

theorem witness_ClusterUpkeepCompletes :
    (let s := withCl { Cluster.blank with seq := .drain } []
     (s.cl 0).seq = .drain ∧ (s.cl 0).longestPort = 0 ∧ s.stepping = true) ∧
    ((going []).cl 0).seq = .atEnd ∧ (going [(O.CLOCK_WAIT, 1)]).clockWait = true ∧ (going []).clockWait = false ∧
    (let c := flawed .exchange [0] [] [] 0
     eccCheck 80 (mnat c.node (0 * 16) 11 % 2 ^ 80) (mnat c.node (0 * 16) 11 / 2 ^ 80) = .corrected 0) ∧
    (let c := flawed .exchange [] [0] [] 0
     eccCheck 64 (mnat c.node (nRoute 0) 9 % 2 ^ 64) (mnat c.node (nRoute 0) 9 / 2 ^ 64) = .corrected 0) ∧
    (flawed .exchange [] [] [0] 1).rowCheck 0 = .corrected 0 ∧ (flawed .exchange [] [] [] 0).rowCheck 0 = .clean 0 ∧
    (flawed .exchange [] [] [] 3).rowCheck 0 = .uncorrectable 6 ∧ Cluster.blank.memFree = true ∧ Cluster.blank.fixRows = [] ∧
    { Cluster.blank with memUse := 2, period := 1 }.memFree = false ∧ (going [(O.PORT_STATE 0 0, 0)]).port 0 = 0 ∧
    (going [(O.PORT_STATE 0 0, 1)]).port 0 ≠ 0 := by decide +kernel

/-- A route entry 0 as given. -/
def routed (e : Nat) : Cluster :=
  { Cluster.blank with
    seq := .runStep, node := mputNat [] (nRoute 0) 9 (e + checkBits 64 e * 2 ^ 64), period := 5
    routeQ := [(0, [⟨0, 0, 0, 3, true, false⟩])] }

/-- Route entries: no delivery, the own cluster (LC0 of E0 of module 0), and another cluster of die E1. -/
def routeEntries : List Nat := [0, 2 ^ 62, 2 ^ 62 + 2 ^ 50]

/-- A whole SLOT that waits to leave at its position 1; nothing else waits. -/
def slotted : Cluster :=
  { Cluster.blank with
    seq := .runStep, node := mputNat [] (nOutslot 5) 8 (2 ^ 39 + 1 * 2 ^ 30), period := 5, gather := [(5, some ⟨1, 1, 1, 1, 1, false⟩)] }

/-- A flit of KEY 7. -/
def flit7 : Flit := ⟨false, 7, 0, 0, 0, 1, true, 0, 0⟩

/-- The state in which the read of that cluster's route port 0 has been taken. -/
def routing (e : Nat) : State :=
  let s := withCl (routed e) []
  s.setCl 0 { s.cl 0 with routeQ := tput (fun _ => []) (s.cl 0).routeQ 0 [], routeLast := tput (fun _ => 0) (s.cl 0).routeLast 0 5 }

/-- A running module whose cluster has a whole SLOT, the link down from its spine router holding what is given. -/
def leaving (o : OutLink) : State := (withCl slotted []).setOutLink (linkKey 0 0 1) o

theorem witness_ClusterPortsMove :
    (∀ e ∈ routeEntries ++ [2 ^ 63],
      let s := withCl (routed e) []
      s.active 0 = true ∧ (s.cl 0).seq ≠ .atEnd ∧ tget (fun _ => 0) (s.cl 0).routeLast 0 ≠ (s.cl 0).period ∧
      tget (fun _ => []) (s.cl 0).routeQ 1 = [] ∧ tget (fun _ => []) (s.cl 0).routeQ 0 = ⟨0, 0, 0, 3, true, false⟩ :: [] ∧
      3 ≤ (s.cl 0).now ∧ (routing e).readRouteAt 0 0 (FaultLoc.executed (routing e) 0) = (routing e, some e)) ∧
    { Cluster.blank with seq := .runStep, period := 3 }.now < 3 ∧ (routeEntries ++ [2 ^ 63]).map rKind = [0, 1, 1, 2] ∧
    (routeEntries.map fun e => (rMod e, rDie e, rLc e)) = [(0, 0, 0), (0, 0, 0), (0, 1, 0)] ∧ (going []).ownId = 0 ∧
    (going []).lcOf 0 = some 0 ∧ (routing (2 ^ 62)).noTarget (2 ^ 62) = false ∧
    (routing (2 ^ 62 + 2 ^ 50)).noTarget (2 ^ 62 + 2 ^ 50) = true ∧
    ((routing 0).setObj (O.BINDING 1 0) 0).noTarget (2 ^ 62 + 2 ^ 50) = false ∧
    (∀ p ∈ [5, 600],
      let s := withCl { slotted with period := p } []
      tget (fun _ => none) (s.cl 0).gather 5 = some ⟨1, 1, 1, 1, 1, false⟩ ∧ s.active 0 = true ∧ s.linkBusy (linkKey 0 8 0) = false ∧
        (s.cl 0).firstFlit (s.cl 0).now = some 5 ∧
        s.refusesFlit (.router 0 (spineOf 0)) (linkKey 0 8 0) (s.cl 0).now (s.flitOf 0 5 (s.cl 0).now ⟨1, 1, 1, 1, 1, false⟩).onTime = false) ∧
    (let s := (withCl { slotted with period := 600 } []).setOutLink (linkKey 0 (spineOf 0) 1)
       { OutLink.blank with slots := List.replicate 8 ⟨0, linkKey 0 8 0, { flit7 with onTime := false }⟩ }
     s.refusesFlit (.router 0 (spineOf 0)) (linkKey 0 8 0) (s.cl 0).now (s.flitOf 0 5 (s.cl 0).now ⟨1, 1, 1, 1, 1, false⟩).onTime = true) ∧
    (withCl { slotted with gather := [] } []).active 0 = true ∧ { slotted with gather := [] }.firstFlit 5 ≠ some 5 ∧
    ((going []).cl 0).arrived = [] ∧
    (let s := withCl { Cluster.blank with arrived := [flit7] } []
     (s.cl 0).arrived = flit7 :: []) ∧
    (let b : LandBit := ⟨0, true, 0, 0, true, false⟩
     let s := withCl { Cluster.blank with seq := .runStep, period := 5, landQ := [(0, [b])] } []
     s.active 0 = true ∧ tget (fun _ => 0) (s.cl 0).landLast 0 ≠ (s.cl 0).period ∧
       nextLanding (s.cl 0).now (tget (fun _ => []) (s.cl 0).landQ 0) = some b) := by decide +kernel

/-- A packet of this module from a cluster to the hub's vectors. -/
def packet0 : Packet :=
  { vc := 0, op := 2, dstMod := 0, dstDie := 4, dstNode := 0x20, srcMod := 0, srcDie := 0, srcNode := 0, tag := 0, gen := 0, status := 0
    bytes := 4, addr := 0, payload := [0, 0, 0, 0], poison := false }

/-- That packet as a router has it, one of its flits received. -/
def run0 : PacketRun := ⟨packet0, 2, 1, 0, 0⟩

/-- A running module in period 5 whose router E0/0 holds what is given for its link down the spine. -/
def sending (o : OutLink) : State := (withCl { Cluster.blank with seq := .runStep, period := 5 } []).setOutLink (linkKey 0 0 1) o

theorem witness_LinkSendsFirstOfWhatItHolds :
    (∀ o ∈ [OutLink.blank, { OutLink.blank with slots := [⟨4, 0, flit7⟩] }, { OutLink.blank with vc0 := [run0] }],
      let s := sending o
      (s.clockWait || s.linkBusy (linkKey 0 0 1) || s.flitFirst 0 0) = false ∧ s.outLink (linkKey 0 0 1) = o) ∧
    (let s := sending { OutLink.blank with last := 5 }
     s.linkBusy (linkKey 0 0 1) = true) ∧
    (let s := sending { OutLink.blank with slots := [⟨4, 0, flit7⟩] }
     pickSlot s.netNow (s.outLink (linkKey 0 0 1)).slots = some (0, true) ∧ (s.outLink (linkKey 0 0 1)).slots[0]? = some ⟨4, 0, flit7⟩) ∧
    (let s := sending { OutLink.blank with vc0 := [run0] }
     let o := s.outLink (linkKey 0 0 1)
     pickSlot s.netNow o.slots = none ∧ s.pickVc (hopOf 0 0 1) (linkKey 0 0 1) = some (0, 1) ∧ o.queue 0 = run0 :: []) ∧
    (let s := sending OutLink.blank
     pickSlot s.netNow (s.outLink (linkKey 0 0 1)).slots = none ∧ s.pickVc (hopOf 0 0 1) (linkKey 0 0 1) = none) := by decide +kernel

/-- A running module whose cluster stands at END in period 40. -/
def ended (f : Sluice → Sluice) (l : List (Nat × Nat)) : State :=
  let s := withCl { Cluster.blank with seq := .atEnd, period := 40, endPeriod := some 40 } l
  { s with sluice := f s.sluice }

theorem witness_SluiceCompletesAndOpens :
    (let s := ended id []
     s.stepping = true ∧ s.run.abandon = none ∧ s.sluice.localDone = none ∧ s.obj O.DEPTH ≠ 0 ∧ s.allAtEnd = true ∧
       s.sluice.exchanged = false ∧ s.overrunCluster (s.obj O.OVERRUN_LIMIT) = none) ∧
    (let s := ended (fun x => { x with exchanged := true, latched := true }) []
     s.stepping = true ∧ s.run.abandon = none ∧ s.obj O.DEPTH ≠ 0 ∧ s.sluice.exchanged = true ∧ s.sluice.latched = true ∧
       s.sluiceReady = true ∧ s.tokensVisible s.period = true) ∧
    (let s := withCl { Cluster.blank with seq := .held, overrun := 2816 } [(O.OVERRUN_LIMIT, 2816)]
     s.stepping = true ∧ s.run.abandon = none ∧ s.allAtEnd = false ∧ s.overrunCluster (s.obj O.OVERRUN_LIMIT) = some 0) ∧
    (let s := ended (fun x => { x with localDone := some 40, waitCount := 2816 }) [(O.OVERRUN_LIMIT, 2816)]
     s.stepping = true ∧ s.run.abandon = none ∧ s.sluice.localDone ≠ none ∧ s.obj O.OVERRUN_LIMIT ≤ s.sluice.waitCount) ∧
    (let s := ended (fun x => { x with localDone := some 40, waitCount := 2815 }) [(O.OVERRUN_LIMIT, 2816)]
     s.sluice.localDone ≠ none ∧ s.sluice.waitCount < s.obj O.OVERRUN_LIMIT) := by decide +kernel

/-- A link that is UP and enabled. -/
def linked (k : SeamLink) (l : List (Nat × Nat)) : State :=
  (up ([(O.LINK_ENABLE, 1), (O.LINKS_UP, 1), (O.LINK_STATE 0, 3)] ++ l)).setLink 0 k

/-- An abandon of the current DC. -/
def abandon0 (opening : Bool) : Abandon := ⟨0, opening, 40, 1, none, true⟩

theorem witness_TokensAndAbandonsEnd :
    ((linked SeamLink.blank []).link 0).doneDue = [] ∧
    (let s := linked { SeamLink.blank with doneDue := [(0, 60)] } []
     (s.link 0).doneDue = (0, 60) :: [] ∧ s.linkOpen 0 = true ∧ s.originTags 0 = []) ∧
    ((up []).linkOpen 0 = false) ∧
    (∀ o ∈ [true, false],
      let s : State := { ended id [] with run := { Run.blank with abandon := some (abandon0 o) } }
      s.run.abandon = some (abandon0 o) ∧ s.clockWait = false ∧ (abandon0 o).opening = o ∧ s.allAtEnd = true ∧ s.quarryIdle = true ∧
        s.run.pause = none) ∧
    (let s : State := { withCl { Cluster.blank with seq := .runStep } [] with run := { Run.blank with abandon := some (abandon0 true) } }
     s.run.abandon = some (abandon0 true) ∧ s.clockWait = false ∧ s.allAtEnd = false) := by decide +kernel

/-- A running module in its exchange steps. -/
def exchanging (step : Nat) (f : Sluice → Sluice) (l : List (Nat × Nat)) : State :=
  let s := withCl { Cluster.blank with seq := .exchange, step := step, period := 40, endPeriod := some 39 } l
  { s with sluice := f s.sluice }

theorem witness_ExchangeTakesPlaceOnce :
    (let s := exchanging 0 id []
     s.stepping = true ∧ s.sluice.exchanged = false ∧ s.run.abandon = none ∧ s.atExchange = true ∧ s.replaying = false ∧
       s.atLastExchange = false) ∧
    (let s := exchanging 0 id [(O.REPLAY_STATE, 1)]
     let a := ({ s with sluice := { s.sluice with exchanged := true, nextEnables := 0 } } : State).stateCommit.ratioEnables.passWords
     s.stepping = true ∧ s.atExchange = true ∧ a.replaying = true) ∧
    (let s : State := { exchanging 0 id [(O.REPLAY_STATE, 1)] with hbm := { Hbm.blank with replay := [(0, 0, 8)] } }
     let a := ({ s with sluice := { s.sluice with exchanged := true, nextEnables := 0 } } : State).stateCommit.ratioEnables.passWords
     a.hbm.replay.find? (fun e => e.1 == a.dcNum) = some (0, 0, 8) ∧ a.firstBad (replayBase + 0) 8 = none) ∧
    (let s : State := { exchanging 0 id [(O.REPLAY_STATE, 1)] with
       hbm := { Hbm.blank with replay := [(0, 0, 8)], bad := [replayBase] } }
     let a := ({ s with sluice := { s.sluice with exchanged := true, nextEnables := 0 } } : State).stateCommit.ratioEnables.passWords
     a.hbm.replay.find? (fun e => e.1 == a.dcNum) = some (0, 0, 8) ∧ a.firstBad (replayBase + 0) 8 = some replayBase) ∧
    (∀ r ∈ [0, 1],
      let s := exchanging 39 (fun x => { x with exchanged := true }) [(O.REPLAY_STATE, r)]
      s.stepping = true ∧ s.sluice.exchanged = true ∧ s.sluice.latched = false ∧ s.atLastExchange = true ∧
        s.replaying = decide (r = 1)) := by decide +kernel

/-- A Quarry request and its return. -/
def quarry0 (waited : Bool) : QuarryReq := ⟨0, false, 0, 0, 1, 0, false, 0, 0, waited⟩

/-- A packet of a cluster to HBM controller 0. -/
def quarryPkt : Packet := { packet0 with op := 1, dstNode := 0, bytes := 8 }

theorem witness_QuarryAndHbmServe :
    (going []).clockWait = false ∧ quarryHead ((going []).cl 0).quarryQ = none ∧ ((going []).cl 0).returns = [] ∧
    (let s := withCl { Cluster.blank with quarryQ := [quarry0 false] } []
     quarryHead (s.cl 0).quarryQ = some (quarry0 false) ∧ (s.takeTag 0 (.quarry 0 (quarry0 false))).isSome = true) ∧
    (let s : State := { going [] with net := { Net.blank with arrived := [quarryPkt] } }
     s.canAnswer quarryPkt = true ∧
       (s.setOutLink (s.sourceLink (errorTo quarryPkt 0)) { OutLink.blank with vc1 := [run0] }).canAnswer quarryPkt = false ∧
     s.net.arrived[0]? = some quarryPkt ∧ s.isQuarry 0 quarryPkt = true ∧ s.net.arrived.take 0 = [] ∧ s.hbm.refreshing = [] ∧
       s.hbm.selfRefresh = false) ∧
    (let s := withCl { returning with returns := [⟨quarry0 false, 1, 10⟩] } []
     (s.cl 0).returns = ⟨quarry0 false, 1, 10⟩ :: [] ∧ 0 < (quarry0 false).width ∧
       mnat (s.cl 0).node (nRoute 0) 9 = 2 ^ 63 + checkBits 64 (2 ^ 63) * 2 ^ 64) ∧
    (0 ∉ (going []).hbm.refreshing ∧ 0 ∈ [0]) := by decide +kernel

/-- A table in which every tag of a range is held. -/
def heldTags (a n : Nat) : Tab (Option TagUse) := (List.range' a n).map fun t => (t, some ⟨0, .bus ⟨.gone, 0, 0, []⟩⟩)

theorem heldTags_held (n : Nat) : ∀ a k, a ≤ k → k < a + n →
    tget (fun _ => none) (heldTags a n) k = some ⟨0, .bus ⟨.gone, 0, 0, []⟩⟩ := by
  induction n with
  | zero => intro a k h1 h2; omega
  | succ n ih =>
    intro a k h1 h2
    by_cases h : a = k
    · simp [heldTags, List.range'_succ, tget, h]
    · have := ih (a + 1) k (by omega) (by omega)
      simpa [heldTags, List.range'_succ, tget, h] using this

theorem heldTags_noneFree (a n m : Nat) : ∀ t, a ≤ t → t + m ≤ a + n → freeTag (heldTags a n) t m = none := by
  induction m with
  | zero => intro t _ _; rfl
  | succ m ih =>
    intro t h1 h2
    simp [freeTag, heldTags_held n a t h1 (by omega), ih (t + 1) (by omega) (by omega)]

/-- A running module whose die E0 holds all its tags. -/
def tagless (waited : Bool) : State :=
  { withCl { Cluster.blank with quarryQ := [quarry0 waited] } [] with net := { Net.blank with tags := heldTags 16384 4096 } }

theorem takeTag_none {s : State} {w : TagOwner} (h : freeTag s.net.tags 16384 4096 = none) : s.takeTag 0 w = none := by
  unfold State.takeTag
  simp [tagPool, h]

theorem tagless_tags (waited : Bool) : (tagless waited).net.tags = heldTags 16384 4096 := by
  unfold tagless
  rfl

theorem witness_QuarryWaitsForATag (waited : Bool) : (tagless waited).takeTag 0 (.quarry 0 (quarry0 false)) = none :=
  takeTag_none (by rw [tagless_tags]; exact heldTags_noneFree 16384 4096 4096 16384 (Nat.le_refl _) (Nat.le_refl _))

theorem witness_QuarryHeadWaits : ∀ w ∈ [false, true],
    quarryHead ((withCl { Cluster.blank with quarryQ := [quarry0 w] } []).cl 0).quarryQ = some (quarry0 w) := by decide +kernel

/-- A module in STANDBY to which a packet has come. -/
def arrived (p : Packet) (l : List (Nat × Nat)) : State := { up l with net := { Net.blank with arrived := [p] } }

/-- A response under tag 0. -/
def answer0 : Packet := { packet0 with op := 8, dstNode := nodeCores }

theorem witness_PacketsAndPortsAct :
    (∀ p ∈ [packet0, { packet0 with poison := true }, { packet0 with dstNode := 0, addr := 1 }, { packet0 with dstDie := 0, dstNode := 68 },
        { packet0 with dstDie := 0, dstNode := 67 }, answer0, { packet0 with dstMod := 1 }, { answer0 with dstMod := 1 }],
      let s := arrived p []
      s.clockWait = false ∧ s.net.arrived[0]? = some p ∧ overtakes (s.net.arrived.take 0) p = false) ∧
    (∀ p ∈ [packet0, { packet0 with poison := true }, { packet0 with dstNode := 0, addr := 1 }, { packet0 with dstDie := 0, dstNode := 68 },
        { packet0 with dstDie := 0, dstNode := 67 }],
      let s := arrived p []
      s.canAnswer p = true ∧ (s.setOutLink (s.sourceLink (errorTo p 0)) { OutLink.blank with vc1 := [run0] }).canAnswer p = false) ∧
    packet0.dstMod = (up []).ownId ∧ packet0.op < 8 ∧ ¬ packet0.dstNode < 4 ∧ 8 ≤ answer0.op ∧ answer0.dstMod = (up []).ownId ∧
    ¬ answer0.dstDie < 4 ∧ { packet0 with dstMod := 1 }.dstMod ≠ (up []).ownId ∧
    packetShapely { packet0 with dstNode := 0, addr := 1 } = false ∧
    packet0.dstDie = 4 ∧ packet0.dstNode = 0x20 ∧
    tget (fun _ => none) [(0, some (⟨0, .bus ⟨.gone, 0, 0, []⟩⟩ : TagUse))] answer0.tag = some ⟨answer0.gen, .bus ⟨.gone, 0, 0, []⟩⟩ ∧
    tget (fun _ => none) (up []).net.tags 32767 = none ∧
    (let s := arrived { answer0 with dstDie := 0, dstNode := 67 } [(O.PORT_STATE 0 67, 3)]
     s.port (cidOf 0 67) = 3) ∧
    ((up [(O.PORT_STATE 3 67, 2)]).port (cidOf 3 67) = 2) ∧ ((up [(O.PORT_STATE 3 67, 0)]).port (cidOf 3 67) = 0) ∧
    (up [(O.PORT_STATE 3 67, 0)]).sluiceSet.contains (cidOf 3 67) = false ∧ (going []).sluiceSet.contains 0 = true := by decide +kernel

theorem witness_NoTagHeld : ∀ w, tget (fun _ => none) (up []).net.tags answer0.tag ≠ some ⟨answer0.gen, w⟩ := by
  intro w h
  exact nomatch (show (none : Option TagUse) = some ⟨answer0.gen, w⟩ from h)

/-- A receive lane as given, everything else of it blank. -/
def laned (f : SeamLane → SeamLane) : SeamLane := f SeamLane.blank

/-- A locked lane that has had two markers of its own number. -/
def marked (i : Nat) : SeamLane := laned fun v => { v with locked := true, markers := 2, laneId := i, unitNo := i }

/-- A link with every lane locked and twice marked. -/
def lanesUp : SeamLink := { SeamLink.blank with lanes := (List.range 8).map fun i => (i, marked i) }

/-- An IDLE block of module 1. -/
def idle1 (rx : Nat) : IdleBlock := ⟨1, 0, rx, 0, false⟩

/-- A link on which a block stands first, having come at time 7. -/
def hearing (b : SeamBlock) : SeamLink := { SeamLink.blank with rxQ := [(b, 7)] }

/-- A block with a damaged bit. -/
def damaged (b : SeamBlock) : SeamBlock := { b with payload := b.payload ^^^ 2 ^ 100 }

theorem witness_LinksAlignAndPartner :
    ((linked SeamLink.blank []).link 0).lane 7 = SeamLane.blank ∧ SeamLane.blank.locked = false ∧ SeamLane.blank.good + 1 < 64 ∧
    (∀ x ∈ [(false, 0, true), (false, 1, false), (true, 1, true), (false, 3, true)],
      let v := laned fun v => { v with bad := x.1, acc := x.2.1 }
      (! v.bad && (v.acc % 4 == 1 || v.acc % 4 == 2)) = ! x.2.2) ∧
    64 ≤ (laned fun v => { v with good := 63, acc := 1 }).good + 1 ∧ (marked 7).locked = true ∧
    16 ≤ (((true :: List.replicate 15 true).take 64).filter id).length ∧ (((true :: List.replicate 14 true).take 64).filter id).length < 16 ∧
    (∀ x ∈ [(markerBlock 7 7, true), (damaged (markerBlock 7 7), false), (markerBlock 7 15, true), (markerBlock 6 7, true)],
      let v := { marked 7 with rx := [(x.1, 5)] }
      v.rx = (x.1, 5) :: [] ∧ isMarker x.1 = true ∧ crcGood x.1.payload = x.2) ∧
    field (markerBlock 7 7).payload 245 3 = 7 ∧ field (markerBlock 7 7).payload 213 32 = 7 ∧ field (markerBlock 7 15).payload 213 32 = 15 ∧
    field (markerBlock 6 7).payload 213 32 % 8 ≠ field (markerBlock 6 7).payload 245 3 ∧ isMarker (idleBlock (idle1 2)) = false ∧
    lanesUp.aligned = true ∧ SeamLink.blank.aligned = false ∧
    ((linked SeamLink.blank []).link 0 |>.lane 7).txBlocks < (linked SeamLink.blank []).markerEvery 0 ∧
    (linked SeamLink.blank []).markerEvery 0 ≤ (laned fun v => { v with txBlocks := 16384 }).txBlocks ∧
    SeamLink.blank.heard ctIdle = none ∧
    (hearing (idleBlock (idle1 2))).heard ctIdle = some (((idleBlock (idle1 2)).payload, 7), SeamLink.blank) ∧
    crcGood (idleBlock (idle1 2)).payload = true ∧ readIdle (idleBlock (idle1 2)).payload = idle1 2 ∧
    (hearing (damaged (idleBlock (idle1 2)))).heard ctIdle = some (((damaged (idleBlock (idle1 2))).payload, 7), SeamLink.blank) ∧
    crcGood (damaged (idleBlock (idle1 2))).payload = false ∧
    (∀ st ∈ [0, 1, 2, 3, 4], ((linked SeamLink.blank [(O.LINK_STATE 0, st)]).setObj (O.PARTNER_RUN 0) 0).obj (O.LINK_STATE 0) = st) ∧
    ((linked { SeamLink.blank with idleSeen := some (1, 0), idleRun := 3 } []).link 0).idleSeen = some ((idle1 2).moduleId, (idle1 2).link) ∧
    (idle1 2).rxState = 2 ∧ (linked SeamLink.blank []).obj (O.PARTNER_ID 0) ≠ (idle1 2).moduleId := by decide +kernel

/-- A frame of one slot unit as it stands on a link: the unit, then the trailer. -/
def frame0 (seq : Nat) (kill : Bool) : List SeamBlock := [dataBlock 0, trailerBlock seq 0 (some 0) [.slot 0 0 0] kill]

/-- A link on which the blocks of a list stand. -/
def framed (l : List SeamBlock) : SeamLink := { SeamLink.blank with rxQ := l.map fun b => (b, 7) }

/-- A Seam record: ingress, link 0, tag 0, for module 1. -/
def ingress1 : Nat := 2 ^ 127 + 1 * 2 ^ 86

theorem witness_FramesAreAcceptedInOrder :
    (up []).linkOpen 0 = false ∧ (linked SeamLink.blank []).linkOpen 0 = true ∧
    (∀ x ∈ [(0, false), (1, false), (0, true)],
      let k := framed (frame0 x.1 x.2)
      let e := trailerBlock x.1 0 (some 0) [.slot 0 0 0] x.2
      (k.rxQ.dropWhile fun e => ! isApart e.1) = (e, 7) :: [] ∧ ctype e.payload = ctFrameEnd ∧
        readFrame k.frameUnits e.payload = some [.slot 0 0 0] ∧ field e.payload 236 12 = x.1 ∧ e.payload.testBit 32 = x.2) ∧
    (let k := framed ((frame0 0 false).map damaged)
     readFrame k.frameUnits (damaged (trailerBlock 0 0 (some 0) [.slot 0 0 0] false)).payload = none ∧
       (k.rxQ.dropWhile fun e => ! isApart e.1) = (damaged (trailerBlock 0 0 (some 0) [.slot 0 0 0] false), 7) :: []) ∧
    SeamLink.blank.rxSeq = 0 ∧ SeamLink.blank.heard ctAck = none ∧ SeamLink.blank.heard ctNak = none ∧
    (∀ x ∈ [(ctAck, (SeamMsg.ack 0 1).block 0), (ctNak, (SeamMsg.nak 0).block 0)],
      (hearing x.2).heard x.1 = some ((x.2.payload, 7), SeamLink.blank) ∧ crcGood x.2.payload = true ∧
        (hearing (damaged x.2)).heard x.1 = some (((damaged x.2).payload, 7), SeamLink.blank) ∧
        crcGood (damaged x.2).payload = false) ∧
    (linked SeamLink.blank []).ingressRecord 0 0 = none ∧ SeamLink.blank.frameUnits[0]? = none ∧
    (let t := linked (framed [dataBlock 0]) []
     let s : State := { t with sluice := { t.sluice with seamSlots := [ingress1] } }
     (s.link 0).frameUnits[0]? = some (dataBlock 0) ∧ (dataBlock 0).header = 1 ∧ (s.link 0).relayed.contains 0 = false ∧
     s.ingressRecord 0 0 = some ingress1 ∧ s.linkOpen 0 = true ∧ ssDmod ingress1 ≠ s.ownId ∧ s.run.discarding = false ∧ s.restoring = none ∧
       (0 : BitVec 2).toNat = s.dcNum % 4 ∧ (1 : BitVec 2).toNat ≠ s.dcNum % 4) := by decide +kernel

theorem witness_LinksSendAndForget :
    (linked SeamLink.blank []).linkOpen 0 = true ∧ (up []).linkOpen 0 = false ∧ ((linked SeamLink.blank []).link 0) = SeamLink.blank ∧
    (∀ x ∈ [(0, true), (1, false)],
      let s := linked { SeamLink.blank with retry := [⟨0, frame0 0 false, 0⟩], ackFrom := x.1 } [(O.ACK_TIMEOUT, 0)]
      s.linkOpen 0 = true ∧ (s.link 0).retry ≠ [] ∧ s.reached ((s.link 0).ackFrom + s.obj O.ACK_TIMEOUT) = x.2) ∧
    (let s := (linked { SeamLink.blank with nakSent := true } [])
     let t : State := { s with tb := { s.tb with counter := 1000 * ns } }
     (t.link 0).nakSent = true ∧ t.linkOpen 0 = true ∧ t.reached ((t.link 0).nakAt + 1000) = true ∧ s.reached 1000 = false) ∧
    0 < ((linked { SeamLink.blank with ackDue := 1 } []).link 0).ackDue ∧ ((linked { SeamLink.blank with ackCredits := [(0, 1)] } []).link
      0).ackCredits ≠ [] ∧
    (up []).clk.sysStopped = false ∧ ({ Clocks.blank with sysStopped := true } : Clocks).sysStopped = true ∧
    (linked SeamLink.blank []).markerDue 0 0 = false ∧
    (linked { SeamLink.blank with lanes := [(0, laned fun v => { v with txBlocks := 16384 })] } []).markerDue 0 0 = true ∧
    SeamLink.blank.fillerDue = false ∧
    ({ SeamLink.blank with lanes := (List.range 8).map fun i => (i, laned fun v => { v with txLag := if i = 0 then 0 else 258 }) } : SeamLink).fillerDue
      = true ∧
    ((linked { SeamLink.blank with msgQ := [.nak 0] } []).link 0).msgQ = .nak 0 :: [] ∧
    (let s := linked { SeamLink.blank with downSince := some 0 } [(O.RESUME_LIMIT, 0)]
     (s.link 0).downSince = some 0 ∧ (s.link 0).expired = false ∧ s.reached (0 + s.obj O.RESUME_LIMIT) = true) ∧
    (let s := linked { SeamLink.blank with downSince := some 0 } [(O.RESUME_LIMIT, 1)]
     s.reached (0 + s.obj O.RESUME_LIMIT) = false) := by decide +kernel

/-- A transmit lane and a receive lane in step, 39 equal bits behind them. -/
def run39 (locked : Bool) : SeamLane :=
  laned fun v => { v with locked := locked, rxRun := 39, rxLast := true, rxHist := 5, txRun := 39, txLast := true, txHist := 5 }

/-- R205–R207: a block of ones behind a run of 39, whose first header bit makes the run 40, comes back from its line bits. -/
theorem witness_LineCodeIsReadBack :
    (let b : SeamBlock := ⟨1, 2 ^ 256 - 1⟩
     ((run39 true).lineBits 9 ((run39 false).encode b).2).2 = [.block b 9]) ∧
    (run39 true).got = 0 ∧ (run39 true).slip = false ∧ (run39 true).acc = 0 ∧ (run39 true).bad = false := by decide +kernel

/-- A TIME_SYNC block of module 1. -/
def sync1 (steps gm : Nat) : SyncBlock := ⟨1, 0, gm, steps, 0, 0⟩

/-- A module with its time base changed. -/
def timed (f : TimeBase → TimeBase) (l : List (Nat × Nat)) : State :=
  let s := linked SeamLink.blank l
  { s with tb := f s.tb }

/-- The blocks of the time base as they come. -/
def timeBlocks : List (Nat × SeamBlock) :=
  [(ctPdelayReq, (SeamMsg.pdelayReq 0 0).block 0), (ctPdelayResp, (SeamMsg.pdelayResp 0 0 0).block 0), (ctTimeSync, (SeamMsg.sync (sync1 254 1)).block 0)]

/-- A module that has just taken a TIME_SYNC from the parent on link 0. -/
def synced (f : TimeBase → TimeBase) (l : List (Nat × Nat)) : State :=
  let s := timed f l
  State.elect { s with tb := { s.tb with
    lastSync := tput (fun _ => none) s.tb.lastSync (1 * 32 + 0) (some (1, 0))
    candidates := tput (fun _ => none) s.tb.candidates 0 (some ⟨0, 1, 0, (s.nowNs + 4 * s.obj O.SYNC_INTERVAL) % 2 ^ 64⟩) } }

theorem witness_TimeMessagesAreAnswered :
    (up []).linkOpen 0 = false ∧ (timed id []).linkOpen 0 = true ∧
    (∀ x ∈ timeBlocks, SeamLink.blank.heard x.1 = none ∧
      (hearing x.2).heard x.1 = some ((x.2.payload, 7), SeamLink.blank) ∧ crcGood x.2.payload = true ∧
      (hearing (damaged x.2)).heard x.1 = some (((damaged x.2).payload, 7), SeamLink.blank) ∧ crcGood (damaged x.2).payload = false) ∧
    field ((SeamMsg.pdelayResp 0 0 0).block 0).payload 232 16 = 0 ∧
    tget (fun _ => none) (timed (fun b => { b with pdelayReq := [(0, some (0, 0))] }) []).tb.pdelayReq 0 = some (0, 0) ∧
    tget (fun _ => none) (timed id []).tb.pdelayReq 0 = none ∧
    (timeDiff 0 0 - timeDiff 1 0) / 2 < 0 ∧ (0 : Int) ≤ (timeDiff 0 0 - timeDiff 0 0) / 2 ∧
    1000 * (ns : Int) < (timeDiff (2002 * ns) 0 - timeDiff 0 0) / 2 ∧ (timeDiff (2000 * ns) 0 - timeDiff 0 0) / 2 ≤ 1000 * (ns : Int) ∧
    (timed id []).reached (timed id []).tb.nextPdelay = true ∧ (timed (fun b => { b with nextPdelay := 1 }) []).reached 1 = false ∧
    (timed id [(O.TB_STATE, tbGrandmaster)]).obj O.TB_STATE = tbGrandmaster ∧ (timed id []).reached (timed id []).tb.nextSync = true ∧
    (timed id [(O.TB_STATE, tbFollower)]).obj O.TB_STATE ≠ tbGrandmaster ∧
    tget (fun _ => none) (timed id []).tb.candidates 0 = none ∧
    (let s := timed (fun b => { b with candidates := [(0, some ⟨0, 1, 0, 0⟩)] }) []
     tget (fun _ => none) s.tb.candidates 0 = some ⟨0, 1, 0, 0⟩ ∧ s.reached 0 = true ∧ s.reached 1 = false) ∧
    readSync ((SeamMsg.sync (sync1 254 1)).block 0).payload = sync1 254 1 ∧
    (sync1 254 1).steps < 255 ∧ (sync1 254 1).gmId ≠ (timed id []).ownId ∧
    follows (tget (fun _ => none) (timed id []).tb.lastSync (1 * 32 + 0)) 1 0 = true ∧ ¬ (sync1 255 1).steps < 255 ∧
    (synced (fun b => { b with pdelays := [(0, [0])] }) [(O.PRIORITY, 255)]).obj O.PARENT_LINK = 0 ∧
    (synced (fun b => { b with pdelays := [(0, [0])] }) [(O.PRIORITY, 255)]).pathDelay 0 = some 0 ∧
    (synced id [(O.PRIORITY, 255)]).pathDelay 0 = none ∧
    (∀ j ∈ [0, 1],
      let s := timed id [(O.JOINED, j), (O.JUMP_THRESHOLD, 100)]
      let t := s.setObj O.OFFSET_LAST (ofSigned 32 (offsetPs (100 * ns)))
      t.obj O.JOINED = j ∧ t.tiedRun = false ∧ (100 * ns : Int).natAbs ≤ t.obj O.JUMP_THRESHOLD * ns) ∧
    ¬ (101 * ns : Int).natAbs ≤ 100 * ns ∧ (timed id [(O.MODE, mTied)]).tiedRun = true := by decide +kernel

theorem witness_PulsesAndTimeObjectsAct :
    (∀ m ∈ [mTied, mStandby],
      let s := timed (fun b => { b with setPps := some 5 }) [(O.MODE, m)]
      s.tb.setPps = some 5 ∧ s.tiedRun = decide (m = mTied)) ∧
    (timed id []).tb.setPps = none ∧ (timed id []).disciplined = false ∧
    (∀ j ∈ [0, 1],
      let s := timed id [(O.TB_STATE, tbGrandmaster), (O.PPS_CTRL, 1), (O.JOINED, j), (O.JUMP_THRESHOLD, 100), (O.PPS_STATE, 2)]
      let t := State.setObj { s with tb := { s.tb with ppsSeen := some s.nowNs } } O.PPS_IN_LAST 0
      s.tb.setPps = none ∧ t.disciplined = true ∧ t.obj O.JOINED = j ∧ t.tiedRun = false ∧ t.obj O.JUMP_THRESHOLD = 100 ∧
        s.obj O.PPS_STATE ≠ 0) ∧
    (fromSecond (100 * ns)).natAbs ≤ 100 * ns ∧ 100 * ns < (fromSecond (101 * ns)).natAbs ∧
    (let s := timed (fun b => { b with counter := 2 * second * ns, ppsSeen := some 0 }) [(O.TB_STATE, tbGrandmaster), (O.PPS_CTRL, 1)]
     s.disciplined = true ∧ s.tb.ppsSeen = some 0 ∧ s.reached (0 + 2 * second) = true) ∧
    (timed id []).reached (0 + 2 * second) = false ∧
    (∀ d ∈ [0, 1],
      let s := timed (fun b => { b with running := true, ppsNext := d * second }) [(O.INCREMENT, 4 * ns)]
      s.clk.sysStopped = false ∧ s.tb.running = true ∧ s.tick.tb.ppsDue = decide (d = 0)) ∧
    (let s := timed (fun b => { b with ppsDue := true }) [(O.PPS_CTRL, 2)]
     (s.obj O.PPS_CTRL).testBit 1 = true ∧ s.tb.ppsOut = none ∧ s.tb.ppsDue = true) ∧
    (timed (fun b => { b with ppsOut := some 0 }) []).tb.ppsOut = some 0 ∧
    (∀ k ∈ [O.TIME_SET, O.REJOIN, O.INCREMENT, O.PRIORITY], (timed id []).serves k) ∧ (timed id []).engineStopped = false ∧
    (timed id []).gate O.TIME_NS false = eNone ∧ (timed id [(O.TB_STATE, tbFree)]).obj O.TB_STATE = tbFree ∧
    (timed id []).tiedRun = false ∧ 0x3FAE147AF ≤ (0x3FAE147AF : BitVec 64).toNat ∧ (0x4051EB851 : BitVec 64).toNat ≤
      0x4051EB851 ∧ ¬ 0x3FAE147AF ≤ (0x3FAE147AE : BitVec 64).toNat := by decide +kernel

/-- A module whose tie unit 7 holds applications. -/
def tied (l : List Application) (o : List (Nat × Nat)) : State := (up o).setTie 7 { TieUnit.blank with apps := l }

theorem witness_TieUnitsCaptureAndApply :
    ({ up [] with clk := { Clocks.blank with sysStopped := true } } : State).clk.sysStopped = true ∧
    (tied [] []).clk.sysStopped = false ∧ ((tied [] []).tie 7).apps = [] ∧ (tied [] [(O.REPLAY_STATE, 1)]).replaying = true ∧
    (∀ u ∈ [0, 1],
      let s := up [(O.TIED_STATE, u), (O.PERIOD 7, 1000), (O.DOMAIN 7, 0)]
      s.tieUsed 7 = true ∧ s.reached (s.tie 7).capEdge = true ∧ s.obj (O.PERIOD 7) ≠ 0 ∧ s.obj O.TIED_STATE = u) ∧
    (∀ x ∈ [(false, 1, false), (false, 0, true), (true, 1, false)],
      let s := tied [⟨x.2.1, 0, x.1, 0, 1⟩] []
      (s.tie 7).apps = ⟨x.2.1, 0, x.1, 0, 1⟩ :: [] ∧ s.reached x.2.1 = x.2.2 ∧ s.replaying = false) := by decide +kernel

/-- A module on whose core 31 thread 5 runs; its core as given. -/
def threaded (k : Core) (l : List (Nat × Nat)) : State :=
  let s := up ([(O.CORE_STATE 31, 1), (O.RUNNING_TCX 31, 5)] ++ l)
  { s with hub := { s.hub with cores := [(31, k)], threads := [(5, { Thread.blank with st := 2, home := 31 })] } }

/-- A core in U-mode without a PMP entry. -/
def userCore : Core := { Core.blank with ctx := { Ctx.blank with priv := 0 } }

theorem witness_LocksHaveOneOwner :
    (up []).executing 31 = none ∧ (threaded Core.blank []).executing 31 = some 5 ∧ Width.word ≠ .double ∧
    (threaded Core.blank []).lockOwner 255 = none ∧
    (∀ w ∈ [true, false], (threaded Core.blank []).coreDenied 31 w (0x10000000 + 8 * 255) 8 = false ∧
      (threaded userCore []).coreDenied 31 w (0x10000000 + 8 * 255) 8 = true ∧ (threaded userCore []).executing 31 = some 5) ∧
    (∀ o ∈ [5, 6], ((threaded Core.blank []).setLock 255 (some o)).lockOwner 255 = some o ∧
      ((threaded Core.blank []).setLock 255 (some o)).executing 31 = some 5) := by decide +kernel

/-- An address of the shared SRAM. -/
def shared : Nat := 0x1000000

theorem witness_AtomicsAndReservations :
    (up []).executing 31 = none ∧ (threaded Core.blank []).executing 31 = some 5 ∧ (up [(O.CLOCK_WAIT, 1)]).clockWait = true ∧
    (up []).clockWait = false ∧ (threaded Core.blank []).atomicFault 31 true (shared + 4) 8 = some 4 ∧ (threaded Core.blank []).atomicFault 31 false (shared + 4) 8 = some 6 ∧
    (threaded Core.blank []).atomicFault 31 true 0x10000000 4 = some 5 ∧ (threaded userCore []).atomicFault 31 false shared 4 = some 7 ∧
    (∀ l ∈ [true, false], (threaded { Core.blank with resv := some (shared / 64) } []).atomicFault 31 l shared 8 = none ∧
      (threaded Core.blank []).atomicFault 31 l shared 8 = none) ∧
    ((threaded { Core.blank with resv := some (shared / 64) } []).core 31).resv = some (shared / 64) ∧
    (threaded { Core.blank with resv := some (shared / 64) } []).executing 31 = some 5 ∧
    ((threaded Core.blank []).core 31).resv ≠ some (shared / 64) := by decide +kernel

theorem witness_CoreRegistersAct :
    (∀ k ∈ [Core.blank, { Core.blank with vtTx := List.replicate 63 0 }, { Core.blank with vtTx := List.replicate 64 0, vtRx := [1] }],
      (threaded k []).executing 31 = some 5 ∧ (threaded k []).core 31 = k) ∧
    (∀ o ∈ [0x40, 0x48, 0x90], (threaded Core.blank []).coreDenied 31 false (0x11000000 + 256 * 4095 + o) 8 = false ∧
      (threaded userCore []).coreDenied 31 false (0x11000000 + 256 * 4095 + o) 8 = true) ∧
    (threaded Core.blank []).coreDenied 31 true (0x12000000 + 8 * 63) 8 = false ∧
    (threaded userCore []).coreDenied 31 true (0x12000000 + 8 * 63) 8 = true ∧
    0x41 % Width.double.bytes ≠ 0 ∧ 0xA8 % Width.double.bytes = 0 ∧ 0x40 % Width.double.bytes = 0 ∧ 0x44 % Width.word.bytes = 0 ∧
    (List.replicate 63 (0 : Byte)).length < 64 ∧ 64 ≤ (List.replicate 64 (0 : Byte)).length ∧
    (threaded Core.blank [(O.VT_BLOCK, 2 ^ 31)]).objBit O.VT_BLOCK 31 = true ∧ (threaded Core.blank [(O.VT_BLOCK, 0)]).objBit O.VT_BLOCK 31
      = false ∧
    (let s := threaded Core.blank []
     let t : State := { s with sluice := { s.sluice with domains := [(63, 3 * 2 ^ 126 + 31)] } }
     t.executing 31 = some 5 ∧ domKind (tget (fun _ => 0) t.sluice.domains 63) = 3 ∧ field (tget (fun _ => 0) t.sluice.domains 63) 0 5 = 31 ∧
       domKind (tget (fun _ => 0) s.sluice.domains 63) ≠ 3) := by decide +kernel

theorem witness_CoreTimersAndHaltsAct :
    (∀ e ∈ [true, false], (threaded { Core.blank with ebreakHalt := e } []).executing 31 = some 5 ∧
      ((threaded { Core.blank with ebreakHalt := e } []).core 31).ebreakHalt = e) ∧
    (up []).executing 31 = none ∧ (0xA5 : Byte).toNat = 0xA5 ∧ (0xA4 : Byte).toNat ≠ 0xA5 ∧ (up []).clockWait = false ∧
    (up [(O.CLOCK_WAIT, 1)]).clockWait = true ∧ (up []).reached ((up []).core 31).mtimecmp = true ∧
    (threaded { Core.blank with mtimecmp := 1 } []).reached ((threaded { Core.blank with mtimecmp := 1 } []).core 31).mtimecmp = false ∧
    (threaded Core.blank []).coreDenied 31 true 0x12010008 8 = false ∧ (threaded userCore []).coreDenied 31 true 0x12010008 8 = true ∧
    (∀ n ∈ [248, 249],
      let s := threaded { Core.blank with wdt := 1, wdtTicks := n } [(O.WDT_PERIOD 31, 1)]
      s.coreRuns 31 = true ∧ s.obj (O.WDT_PERIOD 31) ≠ 0 ∧ (s.core 31).wdt ≠ 0 ∧ (s.core 31).wdtTicks = n) ∧
    (∀ w ∈ [true, false],
      let s := threaded { Core.blank with warned := w, wdtDue := true } [(O.WDT_PERIOD 31, 1), (O.WDT_ACTION 31, 1)]
      s.coreRuns 31 = true ∧ (s.core 31).wdtDue = true ∧
        ((s.setCore 31 { s.core 31 with wdtDue := false }).bump (O.WDT_EXPIRIES 31) 1).obj (O.WDT_ACTION 31) = 1 ∧
        (s.core 31).warned = w) ∧
    (up []).coreRuns 31 = false ∧ (up []).portOpen = true ∧ (up [(O.LC_STATE, 3)]).portOpen = false ∧
    (∀ k ∈ [{ Core.blank with stepArm := true }, { Core.blank with haltReq := true },
        { Core.blank with haltReq := true, deferring := true, resv := some 0 }, Core.blank],
      let s := threaded k []
      s.obj (O.CORE_STATE 31) = 1 ∧ (s.core 31).halted = false ∧ s.clockWait = false ∧ s.core 31 = k) ∧
    (threaded { Core.blank with haltReq := true } []).lockedSequence 31 = false ∧
    (threaded { Core.blank with haltReq := true, deferring := true, resv := some 0 } []).lockedSequence 31 = true := by decide +kernel

/-- Core 31 with thread 5 running in the given form, and thread 6 as given. -/
def pair (five six : Thread) (l : List (Nat × Nat)) : State :=
  let s := threaded Core.blank l
  { s with hub := { s.hub with threads := [(5, { five with st := 2, home := 31 }), (6, six)] } }

theorem witness_ThreadsCommandThemselves :
    (threaded Core.blank []).executing 31 = some 5 ∧
    { Thread.blank with mask := 0, timeout := 0 }.mask = 0 ∧ { Thread.blank with flags := 1, mask := 1 }.holds = true ∧
    { Thread.blank with mask := 1, timeout := 1 }.holds = false ∧ (threaded Core.blank []).reached (2 ^ 64 - 1) = true ∧
    (threaded Core.blank []).reached 1 = false ∧ (pair { Thread.blank with outstanding := 8 } Thread.blank []).executing 31 = some 5 ∧
    8 ≤ ((pair { Thread.blank with outstanding := 8 } Thread.blank []).thread 5).outstanding ∧
    (pair { Thread.blank with outstanding := 7 } Thread.blank []).executing 31 = some 5 ∧
    ((pair { Thread.blank with outstanding := 7 } Thread.blank []).thread 5).outstanding < 8 ∧
    bufferOk 0x1FFF00 256 = true := by decide +kernel

/-- A module of whose threads 512 have core 0 as home. -/
def crowded : State :=
  let s := threaded Core.blank []
  { s with hub := { s.hub with
    threads := (5, { Thread.blank with st := 2, home := 31 }) :: (List.range 512).map fun i => (1024 + i, { Thread.blank with st := 4 }) } }

theorem witness_ThreadsCommandOthers :
    (∀ st ∈ [0, 1, 3, 4], (pair Thread.blank { Thread.blank with st := st } []).executing 31 = some 5 ∧
      ((pair Thread.blank { Thread.blank with st := st } []).thread 6).st = st) ∧
    (threaded Core.blank []).executing 31 = some 5 ∧ ((threaded Core.blank []).thread 5).st = 2 ∧
    ((threaded Core.blank []).thread 5).home = 31 ∧
    (let s := pair Thread.blank { Thread.blank with st := 2, home := 30 } []
     s.executing 31 = some 5 ∧ (s.thread 6).st = 2 ∧ (s.thread 6).home ≠ 31) ∧
    ((crowded).executing 31 = some 5 ∧ 512 ≤ (crowded.homed 0).length ∧ (crowded.thread 5).home ≠ 0 ∧ (crowded.thread 5).st ≠ 0) ∧
    ((threaded Core.blank []).homed 0).length < 512 ∧ 1 ≤ (1 : BitVec 64).toNat ∧ (999 : BitVec 64).toNat ≤ 999 ∧
    (0 : BitVec 64).toNat = 0 ∧ 1000 ≤ (1000 : BitVec 64).toNat ∧ (up []).executing 31 = none := by decide +kernel

/-- A module whose core 31 has a write-back, an alarm and a prefetch slot. -/
def scheduling : Core :=
  { Core.blank with writeback := [(6, Ctx.blank)], alarms := [(7, some ⟨6, 31, 1, 0⟩)], prefetch := [(8, true), (9, false)] }

theorem witness_SchedulerCyclesAct :
    (up []).clockWait = false ∧
    (∀ t ∈ [0, 1, 2 ^ 64 - 1],
      let s := pair Thread.blank { Thread.blank with st := 3, timeout := t } []
      s.clockWait = false ∧ (s.thread 6).st = 3 ∧ (s.thread 6).timeout = t ∧ s.reached t = decide (t ≠ 1)) ∧
    ((up []).thread 6).st ≠ 3 ∧ tget (fun _ => none) ((up []).core 31).alarms 7 = none ∧
    (∀ w ∈ [0, 1],
      let s := threaded { scheduling with alarms := [(7, some ⟨6, 31, w, 0⟩)] } []
      tget (fun _ => none) (s.core 31).alarms 7 = some ⟨6, 31, w, 0⟩ ∧ s.reached w = decide (w = 0)) ∧
    ((up []).core 31).writeback = [] ∧ ((threaded scheduling []).core 31).writeback = (6, Ctx.blank) :: [] ∧
    (∀ e ∈ ((up []).core 31).prefetch, e.2 = true) ∧
    ((threaded scheduling []).core 31).prefetch = [(8, true)] ++ (9, false) :: [] ∧ (up []).net.done = [] ∧
    (let o : TagOwner := .thread 31 6 31 false 0 4
     let s : State := { up [] with net := { Net.blank with done := [(0, o, answer0)] } }
     s.net.done = (0, o, answer0) :: []) := by decide +kernel

/-- Core 31, idle, with thread 6 READY in a filled slot. -/
def waitingSix (run : Nat) (k : Core) (locks : Tab (Option Nat)) (l : List (Nat × Nat)) : State :=
  let s := up ([(O.CORE_STATE 31, 1), (O.RUNNING_TCX 31, run)] ++ l)
  { s with hub := { s.hub with
    cores := [(31, { k with prefetch := [(6, true)] })], ready := [(31 * 32 + 3, [6])], locks := locks
    threads := [(5, { Thread.blank with st := 2, home := 31, prio := 4 }), (6, { Thread.blank with st := 1, home := 31, prio := 3 })] } }

theorem witness_CoresDispatchAndPreempt :
    (let s := waitingSix 0xFFFF Core.blank [] []
     s.clockWait = false ∧ s.obj (O.CORE_STATE 31) = 1 ∧ (s.core 31).halted = false ∧ (s.core 31).haltReq = false ∧
       (s.core 31).stepArm = false ∧ s.clk.shutdown = false ∧ s.running 31 = none ∧ s.dispatchable 31 = some 6) ∧
    (up []).dispatchable 31 = none ∧ (up []).obj (O.CORE_STATE 31) ≠ 1 ∧
    (∀ x ∈ [(Core.blank, ([] : Tab (Option Nat)), 1), (Core.blank, [], 0), (Core.blank, [(255, some 5)], 1),
        ({ Core.blank with deferred := true }, [(255, some 5)], 1)],
      let s := waitingSix 5 x.1 x.2.1 [(O.PREEMPT 31, x.2.2)]
      s.executing 31 = some 5 ∧ s.dispatchable 31 = some 6 ∧ s.obj (O.PREEMPT 31) = x.2.2 ∧ (s.thread 6).prio < (s.thread 5).prio ∧
        (s.locksOf 5 = [] ↔ x.2.1 = []) ∧ (s.core 31).deferred = x.1.deferred) := by decide +kernel

theorem witness_HostCommandsThreads :
    (up []).serves O.CORE_RUN ∧ (up []).mode = mStandby ∧ (up [(O.MODE, mReady)]).serves O.CORE_RUN ∧
    ¬ ((up [(O.MODE, mReady)]).mode = mStandby ∨ (up [(O.MODE, mReady)]).mode = mLoad ∨ (up [(O.MODE, mReady)]).mode = mDiag) ∧
    (up []).serves O.THREAD_CMD ∧ (up []).startUnchecked = false ∧ (up []).startsFree ((up []).obj O.THREAD_SEL) = false ∧
    (∀ v ∈ [0, 1],
      let s := up [(O.THREAD_SEL, 6), (O.CORE_STATE 0, v)]
      let t : State := { s with hub := { s.hub with threads := [(6, { Thread.blank with written := true })] } }
      t.serves O.THREAD_CMD ∧ t.startUnchecked = decide (v = 0) ∧ t.startsFree (t.obj O.THREAD_SEL) = true) ∧
    (up []).serves O.THREAD_FLAGS_SET ∧ (up []).endpointUp = true ∧ (up []).engineStopped = false ∧
    ({ up [] with clk := { Clocks.blank with sysStopped := true } } : State).engineStopped = true ∧
    ({ up [] with host := HostIf.blank } : State).endpointUp = false := by decide +kernel

theorem witness_TriggerAndTraceAct :
    ((up []).objBit O.TRIG_LEVEL 3 = false ∧ (up [(O.TRIG_CFG 3, 2)]).objBit O.TRIG_LEVEL 3 = false ∧
      ((up [(O.TRIG_CFG 3, 2)]).obj (O.TRIG_CFG 3)).testBit 0 = false ∧ ((up [(O.TRIG_CFG 3, 2)]).obj (O.TRIG_CFG 3)).testBit 1 = true) ∧
    ({ Trigger.blank with pulses := 8 } : Trigger).pulses.testBit 3 = true ∧ (up []).trig.pulses.testBit 3 = false ∧
    (let s := up [(O.CMP_STATE 63, cHoldoff), (O.CMP_CTRL 63, 2 ^ 17), (O.CMP_HOLDOFF 63, 0)]
     s.obj (O.CMP_STATE 63) = cHoldoff ∧ cUnit (s.obj (O.CMP_CTRL 63)) = 1 ∧
       s.reached ((tget (fun _ => CmpRun.blank) s.trig.cmps 63).fired + s.obj (O.CMP_HOLDOFF 63)) = true) ∧
    (up []).obj (O.CMP_STATE 63) ≠ cHoldoff ∧ (up []).serves O.REARM ∧ (up []).advancing = false ∧ (going []).serves O.REARM ∧
    (going []).advancing = true ∧ (up []).obj O.MT_ENABLE = 0 ∧
    (∀ b ∈ [[], [0]],
      let t := up [(O.MT_ENABLE, 1), (O.MT_WR, 1), (O.MT_RD, 0), (O.MT_BASE, 0), (O.MT_WORDS, 0)]
      let s : State := { t with hbm := { t.hbm with bad := b } }
      s.obj O.MT_ENABLE ≠ 0 ∧ s.obj O.MT_RD ≠ s.obj O.MT_WR ∧ s.trig.mtRec = none) ∧
    (up []).serves O.TRACE_CMD ∧ (∀ v ∈ [1, 2], (up [(O.TRACE_STATE, v)]).serves O.TRACE_CMD ∧ (up [(O.TRACE_STATE, v)]).obj O.TRACE_STATE = v) ∧
    (up [(O.TRACE_STATE, 3)]).obj O.TRACE_STATE = 3 ∧ (up [(O.CLOCK_WAIT, 1)]).clockWait = true ∧ (up []).clockWait = false ∧
    (up []).trace.buffer = [] ∧
    (let s : State := { up [(O.CAPACITY, 4), (O.RECORD_BYTES, 64)] with trace := { Trace.blank with buffer := [(3, [1])] } }
     s.trace.buffer = (3, [1]) :: [] ∧ s.obj O.CAPACITY ≠ 0) ∧
    (let s : State := { going [] with run := { Run.blank with pause := some (.snapshot 15 0 0) } }
     s.run.pause = some (.snapshot 15 0 0) ∧ s.clockWait = false) ∧
    (∀ b ∈ [[], [(up []).peatSlot 15]],
      let t := up []
      let s : State := { t with run := { Run.blank with pause := some (.restore 15 0 0) }, hbm := { t.hbm with bad := b } }
      s.quarryIdle = true ∧ s.run.pause = some (.restore 15 0 0) ∧
       ((s.clearTransit fun _ => false).ovbUndo (s.obj (O.SLOT_DC 15))).slotDamage 15 = b.head?) ∧
    (withCl { Cluster.blank with quarryQ := [⟨0, false, 0, 0, 0, 0, false, 0, 0, false⟩] } []).quarryIdle = false := by decide +kernel

theorem witness_NothingPauses : (∀ slot cause start, (up []).run.pause ≠ some (.snapshot slot cause start)) ∧
    (∀ slot kind start, (up []).run.pause ≠ some (.restore slot kind start)) := by
  have h : (up []).run.pause = none := by decide +kernel
  rw [h]
  exact ⟨nofun, nofun⟩

/-- A module whose fabric load is in a phase. -/
def fabbing (phase : Nat) (l : List (Nat × Nat)) : State := { up l with fabric := { Fabric.blank with phase := phase } }

theorem witness_FabricLoadsInPhases :
    (∀ p ∈ [0, 1, 2, 3], (fabbing p []).serves O.FAB_LOAD_CMD ∧ (fabbing p []).fabric.phase = p ∧ (fabbing p []).fabModes = true) ∧
    (fabbing 0 [(O.MODE, mRun)]).serves O.FAB_LOAD_CMD ∧ (fabbing 0 [(O.MODE, mRun)]).fabModes = false ∧
    (let t := (fabbing 2 []).setObjs ((List.range 8).map fun i => (O.BANK_VDDIO i, ([] : List Nat).getD i 0))
     (fabCheck (fabbing 2 []).fabric.fetched (t.obj O.FAB_ID) (t.obj O.FAB_BYTES) false (t.fabPolicyBad (fabbing 2 []).fabric.fetched)
       (tget (fun _ => []) t.keys.signing (bytesNat (fabbing 2 []).fabric.fetched 0x1C 4)) []).1 ≠ 0) := by decide +kernel


/-- A request buffer that lies in no store. -/
theorem witness_BuffersOutsideTheStores : bufferOk 0x10000000 8 = false ∧ bufferOk 0x1FFFF8 9 = false := by decide +kernel
/-- A byte string cut or filled with zeros to a length. -/
def filled (n : Nat) (l : List Byte) : List Byte := l.take n ++ List.replicate (n - l.length) 0

/-- The header of a fabric container of five sections with a header CRC (Table 16-5). -/
def fabHead (crc : Nat) : List Byte :=
  filled 256 (leBytes 4 0x46425354 ++ leBytes 2 1 ++ leBytes 2 5 ++ leBytes 4 (dflt O.FAB_ID) ++ leBytes 4 0 ++ leBytes 8 0x2C0 ++ leBytes 4 crc)

/-- A section entry of a container. -/
def fabEntry (kind off : Nat) (body : List Byte) : List Byte :=
  leBytes 2 kind ++ leBytes 2 0 ++ leBytes 4 (crc32 body) ++ leBytes 4 off ++ leBytes 4 body.length

/-- A container with no frame, driver or pin, no bank declared and no region enabled. -/
def container : List Byte :=
  let banks : List Byte := (List.replicate 8 [3, 0]).flatten
  let table := fabEntry 1 0x180 [] ++ fabEntry 2 0x180 (leBytes 4 0) ++ fabEntry 3 0x1C0 (leBytes 4 0) ++ fabEntry 4 0x200 banks
    ++ fabEntry 5 0x240 (List.replicate 128 0)
  fabHead (crc32 (fabHead 0)) ++ filled 0x100 table ++ filled 64 banks ++ List.replicate 128 0

/-- R158: the check value of the CRC-32. -/
theorem test_crc32 : crc32 [0x31, 0x32, 0x33, 0x34, 0x35, 0x36, 0x37, 0x38, 0x39] = 0xCBF43926 := by decide +kernel

/-- A container that passes every check that the spec publishes passes if its frames and drivers do. -/
theorem witness_FabricCheckPasses (h1 : Config.fabFrameFault (fabBody container 1) = none)
    (h2 : Config.fabDriverFault (fabBody container 1) (fabBody container 2) = none) :
    let t := (fabbing 2 [(O.FAB_BYTES, 0x2C0)]).setObjs ((List.range 8).map fun i => (O.BANK_VDDIO i, ([] : List Nat).getD i 0))
    (fabCheck container (t.obj O.FAB_ID) (t.obj O.FAB_BYTES) false (t.fabPolicyBad container)
       (tget (fun _ => []) t.keys.signing (bytesNat container 0x1C 4)) []).1 = 0 := by
  intro t
  unfold fabCheck
  dsimp only
  rw [h1, h2]
  decide +kernel

/-- A module with region 15 and pad 383 as given. -/
def edged (r : Region) (p : Pad) (l : List (Nat × Nat)) : State := ((up l).setRegion 15 r).setPad 383 p

/-- The entry of an enabled region under the logic's select with a loss window. -/
def region43 : Nat := 2 ^ 43 + 2 ^ 25 + 2 ^ 26

theorem witness_FabricClocksAndPadsAct :
    (∀ r ∈ [{ Region.blank with entry := region43 }, { Region.blank with entry := region43, switching := some true },
        { Region.blank with entry := region43, switching := some true, wanted := some false }],
      let s := edged r Pad.blank []
      s.region 15 = r ∧ regEnable (s.region 15).entry = true ∧ regByLogic (s.region 15).entry = true ∧
        regLossWindow (s.region 15).entry ≠ 0) ∧
    regEnable ((up []).region 15).entry = false ∧ true ≠ ((edged { Region.blank with entry := region43 } Pad.blank []).region 15).sel ∧
    (let p : Pad := { Pad.blank with entry := 2 * 2 ^ 52 }
     pinDrives p.entry = true ∧ p.forced = false ∧ (edged Region.blank p []).padCauses p.entry ≠ 0) ∧
    (let p : Pad := { Pad.blank with entry := 2 * 2 ^ 52, forced := true }
     let s := edged Region.blank p [(O.FAB_STATE, 2)]
     (s.pad 383).forced = true ∧ s.padCauses (s.pad 383).entry = 0 ∧
       (edged Region.blank p [(O.FAB_STATE, 1)]).padCauses p.entry ≠ 0) ∧
    (up []).serves O.SAFE_FORCE ∧ (1 : Byte).toNat ≤ 1 ∧ 1 < (2 : Byte).toNat ∧
    (let p : Pad := { Pad.blank with entry := 2 ^ 52 + 2 ^ 37 }
     pinDyn p.entry = true ∧ pinMode p.entry ≠ 0) ∧
    pinDyn Pad.blank.entry = false := by decide +kernel

theorem witness_ConfiguredFabricActs :
    (up []).obj O.FAB_STATE ≠ 2 ∧ (up [(O.FAB_STATE, 2)]).obj O.FAB_STATE = 2 ∧ (up [(O.FAB_STATE, 2)]).obj O.CLOCK_WAIT ≠ 1 ∧
    (up [(O.CLOCK_WAIT, 1)]).obj O.CLOCK_WAIT = 1 ∧
    (up [(O.FIN_LANE_MODE_HI, 2 ^ 63)]).lanePosted 127 = true ∧ (up [(O.FIN_LANE_MODE_HI, 0)]).lanePosted 127 = false ∧
    tget (fun _ => none) (up []).fabric.pend 127 = none ∧ tget (fun _ => none) ([(127, some 0)] : Tab (Option Nat)) 127 ≠ none ∧
    (0x3FFFFF : BitVec 23).toNat < 0x400000 ∧ 0x400000 ≤ (0x400000 : BitVec 23).toNat ∧ (up [(O.FAB_STATE, 2)]).fabric.flashOp = none ∧
    (up [(O.FLASH_USER_WP, 1)]).obj O.FLASH_USER_WP = 1 ∧ (up [(O.FLASH_USER_WP, 0)]).obj O.FLASH_USER_WP ≠ 1 ∧ UserFlash.erase ≠ .read ∧
    (up [(O.FL_STATE, 1)]).obj O.FL_STATE = 1 ∧ (up []).obj O.FL_STATE ≠ 1 ∧
    (∀ o ∈ [UserFlash.read, .program [1], .erase],
      let s : State := { up [] with fabric := { Fabric.blank with flashOp := some (o, 0x400000) } }
      s.fabric.flashOp = some (o, 0x400000) ∧ s.obj O.FL_STATE ≠ 1) := by decide +kernel

theorem witness_MastersWriteObjects :
    (∀ k ∈ [O.FAULT_ACK, O.MODE, O.ACCESS_ERRORS, O.STAGED_ORDER, O.STAGE_LIST_ADDR, O.ERROR_COUNT, 0x200005, 0x200006, O.STEP_COUNT],
      (up []).serves k) ∧
    lengthFits O.STEP_COUNT 7 = false ∧ lengthFits O.STEP_COUNT 4 = true ∧
    rowOf 0xFFFF00 = none ∧ (up []).serves 0xFFFF00 ∧
    (rowOf O.MODE).map Row.acc = some .ro ∧ (rowOf 0x200000).map Row.acc = some .const ∧ (rowOf O.ACCESS_ERRORS).map Row.acc = some .rw ∧
    (rowOf O.ACCESS_ERRORS).map Row.clears = some true ∧ (writeObj .can O.STEP_COUNT 1 (up [])).2 = eNone ∧
    (writeObj .can O.FAULT_ACK 1 (up [])).2 ≠ eNone ∧ isStaged O.STEP_COUNT = false ∧ isStaged O.STAGED_ORDER = true ∧
    listKey O.STAGE_LIST_ADDR = true ∧ isStaged O.STAGE_LIST_ADDR = true ∧ listKey O.STAGED_ORDER = false ∧
    listFits O.STAGE_LIST_ADDR 1 = false ∧ listFits O.STAGE_LIST_ADDR 64 = true ∧
    listKey O.STAGE_LIST_RECORDS = true ∧ listFits O.STAGE_LIST_RECORDS (2 ^ 32 - 1) = false ∧ (up []).serves O.STAGE_LIST_RECORDS ∧
    clearsOnWrite O.STEP_COUNT = false ∧ clearsOnWrite O.ACCESS_ERRORS = true ∧
    ¬ (0x242002 ≤ O.ACCESS_ERRORS ∧ O.ACCESS_ERRORS ≤ 0x24200C) := by decide +kernel

theorem witness_ConsumingReadsAnswerAndClear :
    (up []).engineStopped = false ∧ (∀ i : Fin 4, (up []).gate (O.ACCESS_ERR i) false = eNone) ∧
    (up []).gate O.ERROR_REGISTER false = eNone := by decide +kernel

theorem witness_RefusalLeavesOnlyItsRecord :
    ((up []).obj O.ACCEPTED_0).testBit 4 = false ∧ ((up [(O.ACCEPTED_0, 16)]).obj O.ACCEPTED_0).testBit 4 = true ∧
    (up []).vecMasked.contains 4 = false ∧ (up []).vecPending.contains 4 = false := by decide +kernel

theorem witness_Bar2AccessesComplete :
    (up []).endpointUp = true ∧ busShapely (2 ^ 37 - 4) 4 = true ∧ busShapely 0xFFF 2 = false ∧
    tget (fun _ => none) (up []).host.reads 1023 = none ∧ State.reset.booted = false ∧
    ({ State.reset with host := { HostIf.blank with perstHigh := true } } : State).endpointUp = true ∧ (up []).booted = true ∧
    (up [(O.CLOCK_WAIT, 1)]).clockWait = true ∧ (up [(O.CLOCK_WAIT, 1)]).booted = true ∧ (up []).clockWait = false ∧
    busPlace false 0x1800000000 = .node 0 0 0 ∧ (up []).pcOf 0 0 = none ∧ (going []).pcOf 0 0 = some 0 ∧ (going []).booted = true ∧
    busPlace false 0 = .hbm 0 ∧ (up []).packetPlace (busPlace false 0) = some (4, 0, 0) ∧ busPlace false 0x1C00000000 = .shared 0 ∧
    (up []).packetPlace (busPlace false 0x1C00000000) = none ∧ ((up []).busWrite (.shared 0) [1]).2 = stOk ∧
    ((up []).busWrite (.node 0 0 0) [1]).2 ≠ stOk ∧
    ({ up [] with host := HostIf.blank } : State).endpointUp = false ∧
    (let r : BusRead := ⟨0, 4, 1, [], none⟩
     tget (fun _ => none) ([(1023, some r)] : Tab (Option BusRead)) 1023 = some r) ∧
    (up []).host.waitReads = [] ∧
    ({ up [] with host := { HostIf.blank with waitReads := [.bar2 0 4] } } : State).host.waitReads = .bar2 0 4 :: [] := by decide +kernel

theorem witness_HubPlaces : (∀ die lc a, busPlace false 0 ≠ .node die lc a) ∧ (∀ die lc a, busPlace false 0x1C00000000 ≠ .node die lc a) := by
  have h0 : busPlace false 0 = .hbm 0 := by decide +kernel
  have h1 : busPlace false 0x1C00000000 = .shared 0 := by decide +kernel
  rw [h0, h1]
  exact ⟨nofun, nofun⟩

/-- A descriptor of 4 bytes between host address 0 and a module address, out of the module or into it. -/
def dma4 (addr : Nat) (out : Bool) : Nat := addr * 2 ^ 64 + 4 * 2 ^ 128 + out.toNat * 2 ^ 160

/-- A module whose channel 15 has one descriptor to do. -/
def moving (l : List (Nat × Nat)) : State := going ([(O.CH_STATE 15, 1), (O.PRODUCER 15, 1), (O.RING_ENTRIES 15, 1)] ++ l)

theorem witness_EndpointAndChannelsAct :
    (moving []).endpointUp = true ∧ (moving []).engineStopped = false ∧ (moving []).serves (bar0Key (0x2020000 + 64 * 15)) ∧
    ((1 : BitVec 16).toNat + 65536 - (moving []).obj (O.CONSUMER 15)) % 65536 ≤ (moving []).obj (O.RING_ENTRIES 15) ∧
    (moving []).obj (O.RING_ENTRIES 15) < ((2 : BitVec 16).toNat + 65536 - (moving []).obj (O.CONSUMER 15)) % 65536 ∧
    (up [(O.PLL_STATE, 15)]).objBit O.PLL_STATE 3 = true ∧ linkShape 5 8 = true ∧ linkShape 0 0 = false ∧
    (∀ ch : Fin 16, (up []).serves (O.CH_CMD ch)) ∧ (moving []).clockWait = false ∧ (moving []).booted = true ∧
    (moving []).obj (O.CH_STATE 15) = 1 ∧ (moving []).obj (O.CONSUMER 15) ≠ (moving []).obj (O.PRODUCER 15) ∧
    dmaShapely 0 = false ∧ dmaShapely (dma4 0x1800000000 false) = true ∧
    (∀ e ∈ dmaParts (dma4 0x1C00000000 false), (moving []).dmaStatus e.1 e.2 = stOk) ∧
    (moving [(O.PORT_STATE 0 0, 1)]).dmaAsleep (dma4 0x1800000000 false) ≠ [] ∧
    (moving [(O.PORT_STATE 0 0, 0)]).dmaAsleep (dma4 0x1800000000 false) = [] ∧ dmaOut (dma4 0x1800000000 true) = true ∧
    dmaOut (dma4 0x1800000000 false) = false ∧ dmaBytes (dma4 0x1800000000 false) = 4 := by decide +kernel

/-- A module with a node number on the CAN bus. -/
def noded (f : HostIf → HostIf) (l : List (Nat × Nat)) : State :=
  let s := up ((O.NMT_STATE, 0x05) :: l)
  { s with host := f { s.host with mgmtStrap := 1 } }

theorem witness_CanNodeActs :
    (noded id []).canUp = true ∧ (noded id []).sdoUp = true ∧ (up []).canUp = false ∧ (up []).sdoUp = false ∧
    (noded id [(O.HEARTBEAT_TIME, 1)]).obj O.HEARTBEAT_TIME ≠ 0 ∧ (noded id [(O.HEARTBEAT_TIME, 0)]).obj O.HEARTBEAT_TIME = 0 ∧
    (noded id []).emcyQ = [] ∧
    (let s : State := { noded id [] with emcyQ := [(0xFF01, 1)] }
     s.sdoUp = true ∧ s.emcyQ = (0xFF01, 1) :: []) ∧
    sdoMissing 0xFFFF00 = some 0x06020000 ∧ sdoMissing O.STEP_COUNT = none ∧ 8 * 3 ≠ widthOf O.STEP_COUNT ∧ 8 * 4 = widthOf O.STEP_COUNT ∧
    (noded id []).gate O.STEP_COUNT true = eNone ∧ (noded id []).gate O.STEP_COUNT false = eNone ∧
    (noded id [(O.BOOT_STATE, 5)]).gate O.STEP_COUNT false ≠ eNone ∧ (noded id [(O.BOOT_STATE, 5)]).sdoUp = true ∧
    (noded id [(O.BOOT_STATE, 5)]).gate O.STEP_COUNT true ≠ eNone ∧
    (noded id []).host.sdo = none ∧
    (noded (fun h => { h with sdo := some (0, []) }) []).host.sdo = some (0, []) ∧
    ({ up [] with clk := { Clocks.blank with sysStopped := true } } : State).engineStopped = true ∧ (up []).engineStopped = false ∧
    (noded (fun h => { h with busOff := true }) []).host.busOff = true ∧ (up []).host.busOff = false ∧ 127 < (128 : BitVec 8).toNat ∧
    ¬ 127 < (127 : BitVec 8).toNat := by decide +kernel

/-- A fault record of a number. -/
def rec7 : FaultRec := { FaultRec.blank with number := 7, code := 1 }

theorem witness_FaultsAreHandled :
    (let s : State := { up [(O.FAULT_OLDEST, 7), (O.FAULT_TOTAL, 7)] with faults := { Faults.blank with ring := [rec7] } }
     s.serves O.FAULT_SEL ∧ s.faults.ring.find? (fun r => r.number == 7) = some rec7 ∧ s.obj O.FAULT_OLDEST ≤ 7 ∧ 7 ≤ s.obj O.FAULT_TOTAL ∧
       s.faults.ring.find? (fun r => r.number == 8) = none ∧ 6 < s.obj O.FAULT_OLDEST ∧ s.obj O.FAULT_TOTAL < 8) ∧
    (∀ a ∈ [6, 7],
      let s := up [(O.FAULT_TOTAL, 7), (O.FAULT_ACKED, a)]
      s.serves O.FAULT_ACK ∧ 7 ≤ s.obj O.FAULT_TOTAL ∧ s.obj O.FAULT_TOTAL < 8 ∧ s.obj O.FAULT_ACKED = a) ∧
    (up []).serves O.FAIL_SET ∧ (up []).serves O.FAIL_CLEAR ∧ (up []).mode = mStandby ∧ selectorOk 68 = false ∧ selectorOk 0x343 = true ∧
    (going []).serves O.FAIL_SET ∧ (going []).serves O.FAIL_CLEAR ∧ ¬ ((going []).mode = mStandby ∨ (going []).held = true) ∧
    (up []).cl (selectorCid 0x343) = Cluster.blank ∧
    (((up []).setCl (selectorCid 0x343) { Cluster.blank with mark := 1 }).cl (selectorCid 0x343)).mark ≠ 0 ∧
    (up []).serves O.REMAP_LC ∧ (up []).held = false ∧
    (let s := (up [(O.MODE, mHold), (O.BINDING 0 0, 0)]).setCl 0 { Cluster.blank with mark := 1 }
     s.serves O.REMAP_LC ∧ s.held = true ∧ field 0 6 2 = 0 ∧ bindingOf s.bound 0 0 = 0 ∧ (s.cl (cidOf 0 0)).mark ≠ 0 ∧
       bindingOf s.bound 3 63 = 0xFF) ∧
    (up []).obj O.RECOVERY_STATE ≠ 2 ∧
    (∀ x ∈ [(([] : List Nat), ([] : List Nat), ([] : List Nat)), ([0], [], []), ([], [3], []), ([0], [], [imageBase])],
      let t := up [(O.RECOVERY_STATE, 2)]
      let s : State := { t with faults := { Faults.blank with failed := x.1, rewrites := x.2.1 }, hbm := { Hbm.blank with bad := x.2.2 } }
      s.obj O.RECOVERY_STATE = 2 ∧ s.clockWait = false ∧ s.run.abandon = none ∧ s.noCopy = decide (x.2.2 ≠ [])) := by decide +kernel

/-- The header of an image of one DOMAINS section, with flags, depth and header CRC (Table 07-3). -/
def imgHead (flags depth crc : Nat) : List Byte :=
  filled 0x28 (leBytes 4 0x5542494D ++ leBytes 2 1 ++ leBytes 2 0x200 ++ leBytes 8 flags ++ leBytes 8 0x640)
    ++ filled (0x4C - 0x28) (leBytes 2 1 ++ leBytes 2 0 ++ leBytes 2 depth ++ leBytes 2 1) ++ filled (512 - 0x4C) (leBytes 4 crc)

/-- An image of one DOMAINS section of zeros. -/
def image (flags depth : Nat) : List Byte :=
  imgHead flags depth (crc32 (imgHead flags depth 0))
    ++ filled 64 (leBytes 2 7 ++ [0xFF, 0xFF] ++ leBytes 4 (crc32 (List.replicate 1024 0)) ++ leBytes 8 0x240 ++ leBytes 8 1024)
    ++ List.replicate 1024 0

/-- A module in a state of a load, with an image of 1,600 bytes in its window. -/
def loadingAt (st : Nat) (b : List Byte) (l : List (Nat × Nat)) : State :=
  let s := up ([(O.MODE, mLoad), (O.LOAD_STATE, st), (O.IMAGE_BYTES, 0x640)] ++ l)
  { s with hbm := { Hbm.blank with 
    mem := (b.zipIdx.filter fun e => e.1 != 0).map fun e => (imageBase + e.2, e.1), open_ := [] } }

theorem witness_LoadsRunInPhases :
    (∀ k ∈ [1, 2, 3], (loadingAt k [] []).serves O.LOAD_CMD ∧ (loadingAt k [] []).loading = true ∧ (loadingAt k [] []).obj O.LOAD_STATE = k) ∧
    (up []).serves O.LOAD_CMD ∧ (up []).loading = false ∧ (up []).recovering = false ∧ (up []).keys.target = none ∧ (up []).mode = mStandby ∧
    (up [(O.RECOVERY_STATE, 1)]).recovering = true ∧ (up [(O.RECOVERY_STATE, 1)]).obj O.RECOVERY_STATE ≠ 4 ∧
    (going []).serves O.LOAD_CMD ∧ (going []).loading = false ∧ (going []).recovering = false ∧
    ¬ ((going []).mode = mStandby ∨ (going []).held = true) ∧
    (up []).obj O.LOAD_STATE ≠ 1 ∧ (loadingAt 1 [] []).clockWait = false ∧ (List.replicate 0x63F (0 : Byte)).length < (loadingAt 1 [] []).obj
      O.IMAGE_BYTES ∧
    (loadingAt 1 [] []).obj O.IMAGE_BYTES ≤ (List.replicate 0x640 (0 : Byte)).length ∧ (loadingAt 2 [] []).clockWait = false ∧
    (loadingAt 3 [] []).clockWait = false := by decide +kernel

theorem test_imageLength : (image 0 64).length = 0x640 := by decide +kernel

/-- The image is opened and found well made; with a depth of 65 it is refused with 0x000C, with a wrong header CRC with 0x0005. -/
theorem witness_LoadChecks :
    (match (loadingAt 2 [] []).openImage (image 0 64) 0x640 with | .ok p => p == image 0 64 | .error _ => false) = true ∧
    plainFault (image 0 64) = none ∧ plainFault (image 0 65) = some (0xC, 0) ∧
    headerFault (imgHead 0 64 0 ++ (image 0 64).drop 512) 0x640 = some (5, 0) := by decide +kernel

theorem witness_ImageIsRead : (loadingAt 2 (image 0 64) []).imageBytes = image 0 64 := by decide +kernel

/-- A module with a window of orders. -/
def ordered (l : List Order) (o : List (Nat × Nat)) : State := let s := up o; { s with run := { s.run with window := l } }

theorem witness_OrdersAreAnswered :
    (up []).serves O.RUN_CMD ∧ (up []).orderAnswer .can .run ≠ 1 ∧ (up []).recovering = false ∧
    (∀ x ∈ [(mReady, OrderKind.hold, 2), (mReady, .run, 1), (mReady, .step, 1), (mReady, .diag, 1), (mLoad, .run, 0)],
      orderTable x.2.1 (up [(O.MODE, x.1)]).judgedMode = x.2.2) ∧
    (up [(O.LC_STATE, 5)]).identityOnly = true ∧ (up []).identityOnly = false ∧ Master.can ≠ .debug ∧
    (up [(O.RECOVERY_STATE, 1)]).recovering = true ∧ (up [(O.RECOVERY_STATE, 1)]).obj O.RECOVERY_STATE ≠ 4 ∧
    (up [(O.STATE_VALID, 0)]).obj O.STATE_VALID = 0 ∧ (up []).tiedReady = false ∧
    (up [(O.STEP_COUNT, 0)]).obj O.STEP_COUNT = 0 ∧ (up [(O.STEP_COUNT, 1)]).obj O.STEP_COUNT ≠ 0 ∧ (up []).keys.target = none ∧
    ({ up [] with keys := { Keys.blank with target := some 3 } } : State).keys.target.isSome = true ∧
    diagTest ((up [(O.DIAG_SEL, 1)]).obj O.DIAG_SEL) = true ∧ diagTest ((up [(O.DIAG_SEL, 99)]).obj O.DIAG_SEL) = false ∧
    (∀ x ∈ [mReady, mHold, mRun, mStep, mTied],
      let s := up [(O.MODE, x), (O.STATE_VALID, 1), (O.STEP_COUNT, 1), (O.DIAG_SEL, 1)]
      s.serves O.RUN_CMD ∧ s.recovering = false ∧ s.obj O.STATE_VALID ≠ 0 ∧ s.mode = x ∧ s.obj O.STEP_COUNT ≠ 0 ∧
        s.advancing = decide (x = mRun ∨ x = mStep ∨ x = mTied) ∧ s.run.pause = none ∧ s.run.moving = none ∧
        diagTest (s.obj O.DIAG_SEL) = true) ∧
    (match (up [(O.MODE, mReady), (O.STATE_VALID, 1), (O.PEAT_COUNT, 16)]).snapSlot with | .inl _ => true | .inr _ => false) = true := by
  decide +kernel

/-- TIED is taken of a module in a time domain whose ties are set. -/
theorem witness_TiedIsReady :
    (up [(O.MODE, mReady), (O.STATE_VALID, 1), (O.MODULE_COUNT, 2), (O.TB_STATE, tbGrandmaster), (O.JOINED, 1)]).tiedReady = true := by decide +kernel

theorem witness_OrdersTakeEffect :
    (up []).run.window = [] ∧ (up []).engineStopped = false ∧ (going []).advancing = true ∧ (up []).clockWait = false ∧
    (∀ k ∈ [OrderKind.run, .step, .tied],
      let s := ordered [⟨k, .can, 1, 1⟩] [(O.MODE, mReady)]
      s.engineStopped = false ∧ s.clockWait = false ∧ s.run.window = [⟨k, .can, 1, 1⟩] ∧ s.advancing = false ∧ s.run.pause = none ∧
        s.held = true ∧ s.run.due = [] ∧ s.run.dueCauses = [] ∧ s.run.snapOrders = [] ∧ s.run.arm = .none ∧
        ((s.supersede [⟨k, .can, 1, 1⟩] (some ⟨k, .can, 1, 1⟩)).released).mode ≠ mTied) ∧
    (let s := ordered [⟨.run, .can, 0, 1⟩] []
     s.engineStopped = false ∧ s.run.window ≠ [] ∧ s.advancing = false ∧ s.run.pause = none ∧ s.held = false) ∧
    (let t := ordered [⟨.run, .can, 0, 1⟩] [(O.MODE, mReady)]
     let s : State := { t with run := { t.run with pause := some (.commit true) } }
     s.engineStopped = false ∧ s.run.window ≠ [] ∧ s.advancing = false ∧ s.run.pause ≠ none) ∧
    (up []).run.moving = none ∧
    (∀ n ∈ [none, some (⟨.standby, .can, 0, 1⟩ : Order), some ⟨.diag, .can, 0, 1⟩], ∀ to_ ∈ [mDiag, mStandby],
      let t := up []
      let s : State := { t with run := { t.run with moving := some to_, nextMove := n } }
      s.run.moving = some to_ ∧ s.clockWait = false ∧ s.run.nextMove = n) ∧
    orderTable .standby (up [(O.MODE, mReady)]).mode ≠ 0 ∧ orderTable .diag (up [(O.MODE, mLoad)]).mode = 0 ∧
    (up [(O.MODE, mDiag)]).mode = mDiag ∧ (up [(O.MODE, mDiag)]).run.moving = none ∧ (up [(O.MODE, mDiag)]).clockWait = false ∧
    (up []).mode ≠ mDiag := by decide +kernel

theorem witness_StagingChecksAndCommits :
    (∀ st ∈ [stEmpty, stPending, stChecking, stChecked, stArmed, stApplying],
      let s := up [(O.STAGE_STATE, st)]
      (∀ k ∈ [O.CHECK, O.COMMIT, O.COMMIT_AT_TIME, O.COMMIT_AT_DC, O.DISCARD], s.serves k) ∧ s.obj O.STAGE_STATE = st ∧ s.engineStopped = false ∧
        s.advancing = false ∧ s.run.pause = none) ∧
    (let s := going [(O.STAGE_STATE, stChecked)]
     s.serves O.COMMIT ∧ s.obj O.STAGE_STATE = stChecked ∧ s.advancing = true) ∧
    (let t := up [(O.STAGE_STATE, stChecked)]
     let s : State := { t with run := { t.run with pause := some (.commit false) } }
     s.serves O.COMMIT ∧ s.obj O.STAGE_STATE = stChecked ∧ s.advancing = false ∧ s.run.pause ≠ none) ∧
    (up []).reached 0 = true ∧ (up []).reached 1 = false ∧ (up []).dcNum = 0 ∧
    (let t := up []
     let s : State := { t with run := { t.run with arm := .time 0 } }
     s.run.arm = .time 0 ∧ s.reached 0 = true ∧ s.advancing = false ∧ s.run.pause = none ∧ s.recovering = false ∧ s.run.abandon = none ∧
       s.engineStopped = false) ∧
    (let t := up []
     let s : State := { t with run := { t.run with arm := .time 1 } }
     s.run.arm = .time 1 ∧ ¬ s.reached 1 = true) ∧
    (∀ b ∈ [true, false],
      let t := up []
      let s : State := { t with run := { t.run with pause := some (.commit b) } }
      s.engineStopped = false ∧ s.clockWait = false ∧ s.run.pause = some (.commit b)) ∧
    (up [(O.CLOCK_WAIT, 1)]).clockWait = true := by decide +kernel

theorem witness_NothingIsArmed : ∀ t, (up []).run.arm ≠ .time t := by
  have h : (up []).run.arm = .none := by decide +kernel
  rw [h]
  nofun

theorem witness_ClocksFailAndRestart :
    (up []).host.perstHigh = true ∧ State.reset.host.perstHigh = false ∧ (up []).clockWait = false ∧ (up [(O.CLOCK_WAIT, 1)]).clockWait = true ∧
    (up [(O.CLOCK_WAIT, 1), (O.REF_STATE, 0)]).objBit O.REF_STATE 0 = false ∧
    (up [(O.CLOCK_WAIT, 1), (O.REF_STATE, 3), (O.PLL_STATE, 15)]).clocksGood = true ∧
    (up [(O.CLOCK_WAIT, 1), (O.REF_STATE, 2)]).clocksGood = false ∧
    (let s := up [(O.CLOCK_WAIT, 1), (O.REF_STATE, 3), (O.PLL_STATE, 15)]
     s.clockWait = true ∧ s.run.heldWrites = [] ∧ s.tap.busy = none) ∧
    inWindow 125000 125000 = true ∧ inWindow 100000 100000 = true ∧ inWindow 0 125000 = false ∧
    (up [(O.REF_STATE, 3)]).objBit O.REF_STATE 0 = true := by decide +kernel

theorem witness_PointsAndPowerChange :
    (up []).clk.coreMux = none ∧ (up []).clk.stepMux = none ∧
    (∀ h ∈ [true, false], ({ Clocks.blank with coreMux := some h } : Clocks).coreMux = some h) ∧ (up []).clk.coreHalved = false ∧
    (∀ d ∈ [(up []).obj O.STEP_DIV, (up []).obj O.STEP_DIV + 1], ({ Clocks.blank with stepMux := some d } : Clocks).stepMux = some d) ∧
    (up [(O.OP_STATE, 1)]).obj O.OP_STATE ≠ 0 ∧ (up [(O.OP_STATE, 1)]).clk.railsAt.testBit 3 = false ∧ (up []).obj O.OP_STATE = 0 ∧
    (up []).engineStopped = false ∧ ({ up [] with clk := { Clocks.blank with sysStopped := true } } : State).engineStopped = true ∧
    (let t := up [(O.POWER_LIMIT, 100)]
     let s : State := { t with clk := { t.clk with above := 2 } }
     s.obj O.POWER_LIMIT < (101 : BitVec 16).toNat ∧ min 3 (s.clk.above + 1) = 3) ∧
    (let t := up [(O.POWER_LIMIT, 100)]
     let s : State := { t with clk := { t.clk with under := 99 } }
     100 * (94 : BitVec 16).toNat < 95 * s.obj O.POWER_LIMIT ∧ min 100 (s.clk.under + 1) = 100 ∧ ¬ s.obj O.POWER_LIMIT < 94 ∧
       ¬ 100 * (95 : BitVec 16).toNat < 95 * s.obj O.POWER_LIMIT) ∧
    (up [(O.HALVE_CAUSES, 1)]).obj O.HALVE_CAUSES ≠ 0 ∧
    (let s := withCl { Cluster.blank with seq := .runStep } [(O.HALVE_CAUSES, 0)]
     let t := if toSigned 16 (s.obj O.TJ_HOT) + 3 ≤ toSigned 16 (s.obj O.TJ_THROTTLE) then s.setObjBit O.HALVE_CAUSES 2 false else s
     t.obj O.HALVE_CAUSES = 0 ∧ t.inOpening = true) := by decide +kernel

/-- The voltage object of a rail after a brown-out measurement of `mv`. -/
def rail (r : RailIx) (mv : Nat) (bo : Nat) : State := (up [(O.BO_STATE r, bo)]).setObj (O.RAIL_MV r) mv

theorem witness_SupplyHeatAndAgeingAct :
    (∀ r : RailIx, (rail r 0 0).setpointOf r = if r = 6 then 800 else if r < 4 then 720 else 750) ∧
    (rail 0 683 0).obj (O.BO_STATE 0) = 0 ∧ 100 * 683 < 95 * 720 ∧ ¬ 100 * 684 < 95 * 720 ∧
    (rail 0 655 1).obj (O.BO_STATE 0) ≠ 0 ∧ 100 * 655 < 91 * 720 ∧ 91 * 720 ≤ 100 * 656 ∧ 100 * 656 < 96 * 720 ∧ 96 * 720 ≤ 100 * 692 ∧
    100 * 647 < 90 * 720 ∧ ¬ 100 * 648 < 90 * 720 ∧ (rail 0 647 1).obj (O.BO_STATE 0) ≠ 2 ∧
    (∀ r ∈ [(4 : RailIx), 5], (rail r 674 1).obj (O.BO_STATE r) ≠ 2 ∧ 100 * 674 < 90 * 750) ∧ (rail 6 719 1).obj (O.BO_STATE 6) ≠ 2 ∧
    100 * 719 < 90 * 800 ∧ toSigned 16 (104 : BitVec 16).toNat < 105 ∧ 105 ≤ toSigned 16 (105 : BitVec 16).toNat ∧
    (up []).clk.shutdown = false ∧ (up []).serves O.AGE_PLAN ∧ (up []).engineStopped = false ∧
    ({ up [] with clk := { Clocks.blank with sysStopped := true } } : State).engineStopped = true ∧
    ((up [(O.POWER_HOURS, 998)]).bump O.POWER_HOURS 1).obj O.POWER_HOURS % 1000 ≠ 0 ∧
    ((up [(O.POWER_HOURS, 999)]).bump O.POWER_HOURS 1).obj O.POWER_HOURS % 1000 = 0 ∧ (up []).obj O.AGE_STATE ≠ 1 ∧
    (up [(O.AGE_STATE, 1)]).obj O.AGE_STATE = 1 := by decide +kernel

theorem witness_ResetsTakeEffect :
    (up []).serves O.RESET_CMD ∧ (up []).engineStopped = false ∧ 4 ≤ (up [(O.BOOT_STATE, 4)]).obj O.BOOT_STATE ∧
    (up [(O.BOOT_STATE, 3)]).obj O.BOOT_STATE < 4 ∧ (up []).host.resetHigh = true ∧ State.reset.host.resetHigh = false ∧
    1000 ≤ (1000 : BitVec 32).toNat ∧ (999 : BitVec 32).toNat < 1000 ∧ 100 ≤ (100 : BitVec 32).toNat ∧ (99 : BitVec 32).toNat < 100 := by
  decide +kernel

/-- A module at a point of its boot. -/
def bootAt (b : Nat) (l : List (Nat × Nat)) : State :=
  State.setObjs { State.reset with tb := TimeBase.blank, host := { HostIf.blank with resetHigh := true } } ((O.BOOT_STATE, b) :: l)

theorem witness_BootGoesStepByStep :
    State.reset.obj O.BOOT_STATE = 0 ∧ State.reset.booting = 0 ∧ (bootAt 1 []).obj O.BOOT_STATE ≠ 0 ∧
    (let s := bootAt 1 [(O.REF_STATE, 3), (O.PLL_STATE, 15)]
     s.obj O.BOOT_STATE = 1 ∧ s.clockWait = false ∧ s.obj O.REF_STATE % 2 = 1 ∧ s.obj O.PLL_STATE % 2 = 1) ∧
    (let s := bootAt 2 []
     s.obj O.BOOT_STATE = 2 ∧ s.host.up = false ∧ s.host.resetHigh = true ∧ s.tap.busy = none) ∧
    (let s := up [(O.BOOT_STATE, 2)]
     s.obj O.BOOT_STATE = 2 ∧ s.host.up = true ∧ s.tap.busy = none) ∧
    (State.reset.setObj O.BOOT_STATE 2).host.up = false ∧ (State.reset.setObj O.BOOT_STATE 2).host.resetHigh = false ∧
    (bootAt 3 [(O.LC_STATE, 5)]).obj O.LC_STATE = 5 ∧ (bootAt 3 []).obj O.LC_STATE ≠ 5 ∧ (bootAt 3 []).engineStopped = false ∧
    (bootAt 3 []).obj O.BOOT_STATE = 3 ∧ (bootAt 3 []).keys.returnPending = false ∧
    (∀ z ∈ [true, false],
      let s : State := { bootAt 3 [] with keys := { Keys.blank with returnPending := true }, hbm := { Hbm.blank with zeroing := z } }
      s.obj O.BOOT_STATE = 3 ∧ s.obj O.LC_STATE ≠ 5 ∧ s.keys.returnPending = true ∧ s.hbm.zeroing = z ∧ s.engineStopped = false) ∧
    (bootAt 4 []).obj O.BOOT_STATE = 4 ∧ (bootAt 4 []).engineStopped = false ∧
    (∀ z ∈ [true, false],
      let s : State := { bootAt 5 [] with hbm := { Hbm.blank with zeroing := z } }
      s.obj O.BOOT_STATE = 5 ∧ s.engineStopped = false ∧ s.host.up = false ∧ s.hbm.zeroing = z) ∧
    (up [(O.BOOT_STATE, 5)]).obj O.BOOT_STATE = 5 ∧ (up [(O.BOOT_STATE, 5)]).host.up = true := by decide +kernel

theorem witness_DebugPortActs :
    (up []).portOpen = true ∧ (up [(O.LC_STATE, 5)]).portOpen = false ∧ (up []).tap.busy = none ∧
    ({ up [] with tap := { Tap.blank with busy := some ⟨false, false, 1, 0, 0, 0, false⟩ } } : State).tap.busy ≠ none ∧
    (let t := up [(O.BOOT_STATE, 2)]
     let s : State := { t with tap := { t.tap with busy := some ⟨false, false, 1, 0, 0, 0, false⟩ } }
     ¬ (3 ≤ s.obj O.BOOT_STATE) ∧ t.portOpen = true ∧ t.tap.busy = none) ∧
    3 ≤ (up []).obj O.BOOT_STATE ∧ (up []).engineStopped = false ∧ (up []).clockWait = false ∧ O.STEP_COUNT < 2 ^ 24 ∧
    (up []).gate O.STEP_COUNT false = eNone ∧ (rowOf O.STEP_COUNT).isSome ∧ ((up []).core 31).vtRx.length < 64 ∧
    64 ≤ (List.replicate 64 (0 : Byte)).length ∧
    (∀ x ∈ [mRun, mReady, mStandby, mDiag],
      let s := up [(O.MODE, x)]
      s.serves O.DHALT ∧ s.recovering = false ∧ s.mode = x ∧ s.advancing = decide (x = mRun) ∧ s.held = decide (x = mReady)) := by decide +kernel

theorem witness_FlashLifeCycleAndKeys :
    (∀ x ∈ [(0x10000, 256, true), (0x10000, 4096, true), (0x10001, 256, true), (0xFF00, 256, false), (0, 4096, false)],
      let s := up [(O.FL_ADDR, x.1)]
      s.serves O.FL_CMD ∧ s.mode = mStandby ∧ s.obj O.FL_STATE ≠ 1 ∧ s.obj O.FL_ADDR = x.1 ∧
        (x.1 % x.2.1 = 0 → flashAllowed (s.obj O.LC_STATE) x.1 x.2.1 = x.2.2)) ∧
    0x10001 % 256 ≠ 0 ∧ Master.can ≠ .debug ∧ (up []).tap.flOp = none ∧
    ({ up [] with tap := { Tap.blank with flOp := some (1, 0x10000) } } : State).tap.flOp = some (1, 0x10000) ∧
    (up []).serves O.LC_REQ ∧ 5 < (6 : Byte).toNat ∧ (5 : Byte).toNat ≤ 5 ∧
    (going []).mode ≠ mStandby ∧ (going []).obj O.BOOT_STATE ≠ 7 ∧
    lcRow ((up []).obj O.LC_STATE) 1 = none ∧ lcRow ((up []).obj O.LC_STATE) 3 = some false ∧ (up []).obj O.OWNER_SET = 0 ∧
    lcRow ((up [(O.LC_STATE, 0)]).obj O.LC_STATE) 1 = some true ∧ (up [(O.OWNER_SET, 1)]).obj O.OWNER_SET ≠ 0 ∧
    lcRow ((up []).obj O.LC_STATE) 4 = some false ∧ (up [(O.RETURNS_LEFT, 0)]).obj O.RETURNS_LEFT = 0 ∧
    (up [(O.RETURNS_LEFT, 1)]).obj O.RETURNS_LEFT ≠ 0 ∧
    (up []).engineStopped = false ∧ (up []).keys.target = none ∧
    (∀ k ∈ [3, 4], ({ up [] with keys := { Keys.blank with target := some k } } : State).keys.target = some k) ∧
    (up []).serves O.KEY_CMD ∧ ((up []).obj O.LC_STATE = 1 ∨ (up []).obj O.LC_STATE = 2) ∧ (up [(O.LC_RESULT, 6)]).obj O.LC_RESULT = 6 ∧
    (up []).obj O.LC_RESULT ≠ 6 ∧ (up [(O.LC_STATE, 3)]).serves O.KEY_CMD ∧
    ¬ ((up [(O.LC_STATE, 3)]).obj O.LC_STATE = 1 ∨ (up [(O.LC_STATE, 3)]).obj O.LC_STATE = 2) ∧
    (up [(O.KEY_SLOT, 0)]).obj O.KEY_SLOT = 0 ∧ (up [(O.KEY_SLOT, 9)]).obj O.KEY_SLOT = 9 ∧ (up [(O.KEY_SLOT, 8)]).obj O.KEY_SLOT = 8 ∧
    (∀ k ∈ [O.IMG_KEYS, O.SIG_KEYS], (up [(k, 128)]).objBit k 7 = true ∧ (up [(k, 127)]).objBit k 7 = false) ∧
    (up [(O.OWNER_SET, 1)]).obj O.OWNER_SET = 1 ∧ (up []).obj O.OWNER_SET ≠ 1 ∧ (up [(O.KEY_KIND, 0)]).obj O.KEY_KIND = 0 ∧
    (up [(O.KEY_KIND, 1)]).obj O.KEY_KIND ≠ 0 := by decide +kernel

/-- A public key on the curve, the base point, in the byte order of R479, and one beside it. -/
theorem witness_KeysOnTheCurve :
    let key := leBytes 48 p384Base.1 ++ leBytes 48 p384Base.2
    let s := up ((List.range 12).map fun i => (O.KEY_DATA i, leNat ((key.drop (8 * i)).take 8)))
    s.keyData 96 = key ∧ onCurve (s.keyData 96) = true ∧ onCurve ((up []).keyData 96) = false := by decide +kernel

theorem witness_EmptyQueueCountsTime :
    State.reset.pending = [] ∧ State.reset.obj O.FAB_STATE ≠ 2 ∧ (∀ c, c < 32 → State.reset.coreRuns c = false) ∧
    State.reset.tb.running = false ∧ (timed id []).pending = [] ∧ (timed id []).clk.sysStopped = false ∧
    (timed (fun b => { b with running := true }) []).tb.running = true ∧ (timed id []).tb.setTo = none ∧ (timed id []).tb.stepBy = none ∧
    (timed (fun b => { b with stepBy := some (-1) }) []).tb.stepBy = some (-1) ∧
    (timed (fun b => { b with setTo := some 5 }) []).tb.setTo = some 5 ∧ (timed id []).tick.nowNs < 2 ^ 64 - 1000000000 ∧
    (timed id []).tick.tb.ppsDue = false ∧ (timed (fun b => { b with running := true, ppsNext := 0 }) []).tick.tb.ppsDue = true := by decide +kernel

theorem witness_StepKeepsStoresAndBounds :
    (going []).tidy = true ∧ (going []).bounded = true ∧ isNext (step { going [] with pending := [.flr, .sluiceOpen] }) = true ∧
    ({ going [] with pending := [.flr, .sluiceOpen] } : State).tidy = true ∧
    ({ going [] with pending := [.flr, .sluiceOpen] } : State).bounded = true := by decide +kernel

theorem witness_StepTakesOnlyTheFront :
    let s : State := { up [] with pending := [.flr, .idcode, .bypass] }
    s.tidy = true ∧ s.bounded = true ∧ isNext (step s) = true := by decide +kernel

theorem witness_NopDoesNothing :
    iClass (plain 0 1 0) = .nop ∧ iClass (word 0 0xFFFF 0 0 0 0 0x8000) = .nop ∧
    (op (plain 0 1 0) []).opReady 0 0 0 (plain 0 1 0) ∧
    (((op 0 []).cl (cidOf 0 0)).ops.find? fun o => o.1 == 0) = none := by
  decide +kernel

theorem witness_LutWaitsForWhatItDependsOn :
    iClass (word 1 0xAAAA 0 0x600 0x600 0x600 0) = .lut ∧
    waitingOperand Cluster.blank [(0, word 1 0xAAAA 0 0x600 0x600 0x600 0)] = some (0, 0) ∧
    waitingOperand Cluster.blank [(0, word 1 0xCCCC 0 0x600 0x600 0x600 0)] = none := by decide +kernel

theorem witness_FaultRecordsAreNumberedAndKept :
    (let s : State := { up [(O.FAULT_OLDEST, 7)] with
       faults := { Faults.blank with ring := List.replicate 255 FaultRec.blank ++ [rec7] } }
     s.faults.ring = List.replicate 255 FaultRec.blank ++ [rec7] ∧ (List.replicate 255 FaultRec.blank).length = 255 ∧
       s.obj O.FAULT_OLDEST = rec7.number ∧ 1 ≤ rec7.code ∧ rec7.code ≤ 20 ∧ s.obj O.FAULT_ACKED < rec7.number) ∧
    (up []).faults.ring.length < 256 := by decide +kernel


/-! ### Terms that are not well-formed -/

theorem test_upset_bounds :
    (Instr.clusterStep 0 0 [⟨0x0400FFFF, 7⟩]).wf ∧ ¬ (Instr.clusterStep 0 0 [⟨0, 8⟩]).wf ∧
    ¬ (Instr.clusterStep 0 0 [⟨0, 0⟩, ⟨0x04010000, 0⟩]).wf := by decide +kernel

theorem test_access_bounds :
    (Instr.bar2Read 0 4096 0).wf ∧ ¬ (Instr.bar2Read 0 0 0).wf ∧ ¬ (Instr.bar2Read 1 4096 0).wf ∧ (Instr.bar2Write 4095 [0]).wf ∧
    ¬ (Instr.bar2Write 4095 [0, 0]).wf ∧ ¬ (Instr.bar2Write 0 []).wf := by decide +kernel

theorem test_link_bounds :
    (Instr.perstN true 5 8).wf ∧ (Instr.perstN true 0 0).wf ∧ ¬ (Instr.perstN true 6 8).wf ∧ ¬ (Instr.perstN true 5 3).wf ∧
    ¬ (Instr.perstN true 0 1).wf := by decide +kernel

theorem test_operand_lengths :
    ¬ (Instr.userFlashAccess (.program (List.replicate 257 0)) 0).wf ∧ ¬ (Instr.avsbusPoll 0 0 5).wf ∧
    ¬ (Instr.fabCheckDone (List.replicate 9 0)).wf ∧ ¬ (Instr.loadCheckDone (List.replicate 9 0)).wf ∧
    ¬ (Instr.sdoDownload 0 (List.replicate 890 0) true 0).wf := by decide +kernel

/-! ### Numbers that the spec works out -/

/-- Chapter 03, worked example: the sum bit of a counter. -/
theorem test_worked_instruction : word 2 0x4030 0x0C6 0x0C7 0x0C8 0x0C9 0 = 0x2403018C31C640C90000 := by decide +kernel

/-- R55: the CKEN word of the text and its check byte. -/
theorem test_check_byte : checkBits 80 0xC0002000000000000000 = 0xC4 := by decide +kernel

/-- Chapter 03, worked example: a remote route entry. -/
theorem test_worked_route :
    rKind 0x8044930140000000 = 2 ∧ rMod 0x8044930140000000 = 4 ∧ rDie 0x8044930140000000 = 1 ∧ rLc 0x8044930140000000 = 9 ∧
    rBp 0x8044930140000000 = 192 ∧ rInbox 0x8044930140000000 = 0xA0 := by decide +kernel

/-- Chapter 09, worked example: an ORIGIN record of the egress. -/
theorem test_worked_seam_record :
    let r := 0x414CDB3C0140FB10 * 2 ^ 64
    ssIngress r = false ∧ ssOrigin r = true ∧ ssLink r = 5 ∧ ssTag r = 411 ∧ ssPos r = 828 ∧ ssDmod r = 5 ∧ ssDdie r = 0 ∧
    ssDlc r = 3 ∧ ssKey r = 945 := by decide +kernel

/-- Chapter 17: an offset in BAR0 and its dictionary key. -/
theorem test_bar0_key : bar0Key 0x0088000C = 0x220003 := by decide +kernel

/-- Chapter 19: the millivolts by which a period's lengthening raises a rail. -/
theorem test_raise : raiseFor 4300 = 15 ∧ raiseFor 12600 = 55 := by decide +kernel

/-- FIPS 197's S-box example. -/
theorem test_sbox : aesSub 0x53 = 0xED := by decide +kernel

/-- FIPS 180-4's example, which R159 rests on. -/
theorem test_sha384 : sha384 [0x61, 0x62, 0x63] =
    beBytes 48 0xcb00753f45a35e8bb5a03d699ac65007272c32ab0eded1631a8b605a43ff5bed8086072ba1e7cc2358baeca134c825a7 := by decide +kernel

end Sys2Proof.Tests
end

section
/-!
PROOFS. The ops of a Boolean processor at the boundary of the design (R63): what each of them does at the home of its bit and elsewhere
(R8, R80), and that a cluster which does not execute its step executes no op (R30, R72).
-/

namespace Sys2Proof.Machine

/-- R30, R72: nothing of a step that does not execute is executed. -/
theorem State.opAt_of_not_executes {s : State} {die pc : Nat} (bp : Nat) (f : Nat → Bool) (h : s.executes (cidOf die pc) = false) :
    s.opAt die pc bp f = .next s := by
  simp only [State.opAt, h, Bool.false_and, Bool.false_eq_true, if_false]
  split <;> rfl

/-! ### The op of a class, about to execute -/

section Ready

variable {s : State} {die : Die} {pc : Pc} {bp : BpIx} {w : Nat}

theorem exec_xin_of_opReady (h : s.opReady die pc bp w) (hw : iClass w = .xin) :
    exec (.xin die pc bp) s = .next ((s.opDone die pc bp).opXin (cidOf die pc) bp w) :=
  (State.opAt_executes h (by simp [hw])).trans (by simp only [State.execOp, hw])

theorem exec_xout_of_opReady (h : s.opReady die pc bp w) (hw : iClass w = .xout) :
    exec (.xout die pc bp) s = .next ((s.opDone die pc bp).opXout (cidOf die pc) bp w) :=
  (State.opAt_executes h (by simp [hw])).trans (by simp only [State.execOp, hw])

theorem exec_fin_of_opReady (h : s.opReady die pc bp w) (hw : iClass w = .fin) :
    exec (.fin die pc bp) s = .next ((s.opDone die pc bp).opFin (cidOf die pc) bp w) :=
  (State.opAt_executes h (by simp [hw])).trans (by simp only [State.execOp, hw])

theorem exec_fout_of_opReady (h : s.opReady die pc bp w) (hw : iClass w = .fout) :
    exec (.fout die pc bp) s = .next ((s.opDone die pc bp).opFout (cidOf die pc) bp w) :=
  (State.opAt_executes h (by simp [hw])).trans (by simp only [State.execOp, hw])

end Ready

/-! ### At the home of the bit and elsewhere -/

section Home

variable {s : State} {cid w : Nat} (bp : Nat)

theorem State.opXin_of_home (h : s.isHome cid (field (iTt w) 0 12) = true) :
    s.opXin cid bp w = s.result cid bp w (s.xinBit (field (iTt w) 0 12) (field (iSel w 3) 0 9)) :=
  if_pos h

theorem State.opXin_of_foreign (h : s.isHome cid (field (iTt w) 0 12) = false) : s.opXin cid bp w = s.opForeign cid bp w :=
  if_neg (Bool.eq_false_iff.mp h)

theorem State.opXout_of_home (h : s.isHome cid (field (iTt w) 0 12) = true) :
    s.opXout cid bp w =
      (s.drive cid (.xout (field (iTt w) 0 12) (field (iSel w 3) 0 9) (operand (s.cl cid) bp w 0))).result cid bp w
        (operand (s.cl cid) bp w 0) :=
  if_pos h

theorem State.opXout_of_foreign (h : s.isHome cid (field (iTt w) 0 12) = false) : s.opXout cid bp w = s.opForeign cid bp w :=
  if_neg (Bool.eq_false_iff.mp h)

theorem State.opFin_of_home (h : s.isHome cid (4096 + field (iTt w) 0 13) = true) :
    s.opFin cid bp w = s.result cid bp w (s.finBit (field (iTt w) 0 13)) :=
  if_pos h

theorem State.opFin_of_foreign (h : s.isHome cid (4096 + field (iTt w) 0 13) = false) : s.opFin cid bp w = s.opForeign cid bp w :=
  if_neg (Bool.eq_false_iff.mp h)

theorem State.opFout_of_home (h : s.isHome cid (12288 + field (iTt w) 0 13) = true) :
    s.opFout cid bp w =
      (s.drive cid (.fout (field (iTt w) 0 13) (operand (s.cl cid) bp w 0))).result cid bp w (operand (s.cl cid) bp w 0) :=
  if_pos h

theorem State.opFout_of_foreign (h : s.isHome cid (12288 + field (iTt w) 0 13) = false) : s.opFout cid bp w = s.opForeign cid bp w :=
  if_neg (Bool.eq_false_iff.mp h)

end Home

/-- Settles O2: an op about to execute is its class's op in the state in which its BP is noted as done; that op branches on the home of
the bit, and a step that is not executed executes none. -/
theorem exchangeOpsExecute : Obligations.ExchangeOpsExecute := by
  intro s die pc bp
  refine ⟨fun w h => ⟨?xinHome, ?xoutHome, ?finHome, ?foutHome, ?xinWild, ?xoutWild, ?finWild, ?foutWild⟩, fun h => ?held⟩
  case xinHome => intro hw hh; rw [exec_xin_of_opReady h hw, State.opXin_of_home _ hh]
  case xoutHome => intro hw hh; rw [exec_xout_of_opReady h hw, State.opXout_of_home _ hh]
  case finHome => intro hw hh; rw [exec_fin_of_opReady h hw, State.opFin_of_home _ hh]
  case foutHome => intro hw hh; rw [exec_fout_of_opReady h hw, State.opFout_of_home _ hh]
  case xinWild => intro hw hh; rw [exec_xin_of_opReady h hw, State.opXin_of_foreign _ hh, State.opForeign]
  case xoutWild => intro hw hh; rw [exec_xout_of_opReady h hw, State.opXout_of_foreign _ hh, State.opForeign]
  case finWild => intro hw hh; rw [exec_fin_of_opReady h hw, State.opFin_of_foreign _ hh, State.opForeign]
  case foutWild => intro hw hh; rw [exec_fout_of_opReady h hw, State.opFout_of_foreign _ hh, State.opForeign]
  case held =>
    have idle (f : Nat → Bool) : s.opAt die pc bp f = .next s := State.opAt_of_not_executes bp f h
    exact ⟨idle _, idle _, idle _, idle _, idle _, idle _⟩

end Sys2Proof.Machine
end

section
/-!
PROOFS. The exchange instant of a DC and its last exchange step (R15, R36, R90, R278, R342, R360): each is taken once, and the inputs of
the instant are live ones, those of the replay buffer, or none where the buffer cannot be read.
-/

namespace Sys2Proof.Machine

/-! ### The parts of the exchange instant -/

/-- The instant has come (R90): it has not been taken in this DC, no abandon holds, and every cluster is in its exchange steps. -/
structure State.InstantDue (s : State) : Prop where
  stepping : s.stepping = true
  notTaken : s.sluice.exchanged = false
  noAbandon : s.run.abandon = none
  allThere : s.atExchange = true

/-- The first part: STATE is committed, the enables of the next DC are stepped and the observed words are passed. -/
def State.instantOpens (s : State) : State :=
  ({ s with sluice := { s.sluice with exchanged := true, nextEnables := 0 } } : State).stateCommit.ratioEnables.passWords

/-- Where the replay buffer's entry of the current DC cannot be read, the first such address. -/
def State.replayBad (s : State) : Option Nat :=
  match s.hbm.replay.find? fun e => e.1 == s.dcNum with
  | some e => s.firstBad (replayBase + e.2.1) e.2.2
  | none => none

/-- The second part: the inputs of the next DC. -/
def State.instantInputs (s : State) (fin : BitVec 8192) : State :=
  if s.replaying then
    match s.replayBad with
    | some x => if (s.hbmBad x).obj O.RECOVERY_STATE = 4 then (s.hbmBad x).recoveryFails 4 else s.hbmBad x
    | none => s.takeReplay
  else s.exchangeLive (s.finBoundary fin)

/-- The last part: what the last exchange step outputs is kept, and the order window closes. -/
def State.instantCloses (s : State) : State :=
  ({ s with sluice := { s.sluice with drives := s.sluice.drives.filter Drive.late } } : State).closeWindow

theorem State.replayBad_eq_none {s : State}
    (h : ∀ e, s.hbm.replay.find? (fun e => e.1 == s.dcNum) = some e → s.firstBad (replayBase + e.2.1) e.2.2 = none) :
    s.replayBad = none := by
  unfold State.replayBad
  split
  · exact h _ ‹_›
  · rfl

theorem State.replayBad_eq_firstBad {s : State} {e : Nat × Nat × Nat}
    (h : s.hbm.replay.find? (fun e => e.1 == s.dcNum) = some e) : s.replayBad = s.firstBad (replayBase + e.2.1) e.2.2 := by
  simp only [State.replayBad, h]

section Inputs

variable {s : State} (fin : BitVec 8192)

theorem State.instantInputs_live (h : s.replaying = false) : s.instantInputs fin = s.exchangeLive (s.finBoundary fin) := by
  simp [State.instantInputs, h]

theorem State.instantInputs_replayed (h : s.replaying = true) (hb : s.replayBad = none) : s.instantInputs fin = s.takeReplay := by
  simp [State.instantInputs, h, hb]

theorem State.instantInputs_unreadable {x : Nat} (h : s.replaying = true) (hb : s.replayBad = some x) :
    s.instantInputs fin = if (s.hbmBad x).obj O.RECOVERY_STATE = 4 then (s.hbmBad x).recoveryFails 4 else s.hbmBad x := by
  simp [State.instantInputs, h, hb]

end Inputs

/-! ### The two commands -/

section Commands

variable {s : State}

theorem exec_exchangeInstant_of_due (fin : BitVec 8192) (h : s.InstantDue) :
    exec (.exchangeInstant fin) s = .next (s.instantOpens.instantInputs fin).instantCloses := by
  have hg : ¬ (! s.stepping || s.sluice.exchanged || s.run.abandon.isSome || ! s.atExchange) = true := by
    simp [h.stepping, h.notTaken, h.noAbandon, h.allThere]
  change execExchangeInstant fin s = _
  unfold execExchangeInstant
  rw [if_neg hg]
  extract_lets _ _ opened bad inputs
  have hopened : s.instantOpens = opened := rfl
  rw [hopened]
  clear_value opened
  have hinputs : opened.instantInputs fin = inputs := rfl
  rw [hinputs]
  clear_value inputs
  rfl

theorem exec_exchangeInstant_of_not_due (fin : BitVec 8192)
    (h : s.sluice.exchanged = true ∨ s.run.abandon ≠ none ∨ s.atExchange = false) : exec (.exchangeInstant fin) s = .next s := by
  refine if_pos ?_
  rcases h with h | h | h <;> simp [h, Option.isSome_iff_ne_none]

theorem exec_xportOutLatch_of_due (hs : s.stepping = true) (he : s.sluice.exchanged = true) (hl : s.sluice.latched = false)
    (ha : s.atLastExchange = true) : exec .xportOutLatch s = .next s.outLatch :=
  if_neg (by simp [hs, he, hl, ha])

theorem exec_xportOutLatch_of_not_due (h : s.sluice.exchanged = false ∨ s.sluice.latched = true ∨ s.atLastExchange = false) :
    exec .xportOutLatch s = .next s := by
  refine if_pos ?_
  rcases h with h | h | h <;> simp [h]

end Commands

theorem State.outLatch_live {s : State} (h : s.replaying = false) :
    s.outLatch = { s.latchXports.latchFout with sluice := { s.latchXports.latchFout.sluice with latched := true, drives := [] } } := by
  simp [State.outLatch, h]

theorem State.outLatch_replayed {s : State} (h : s.replaying = true) :
    s.outLatch = { s with sluice := { s.sluice with latched := true, drives := [] } } := by
  simp [State.outLatch, h]

/-- Settles O12: an instant that is due opens, takes its inputs as the replay buffer says and closes; the last exchange step latches, but
for a replayed DC; neither is taken a second time. -/
theorem exchangeTakesPlaceOnce : Obligations.ExchangeTakesPlaceOnce := by
  intro s fin hs
  refine ⟨exec_exchangeInstant_of_not_due fin, fun he hn ha => ?instant,
    fun he hl ha => ⟨fun hr => ?latchLive, fun hr => ?latchReplayed⟩, exec_xportOutLatch_of_not_due⟩
  case instant =>
    intro a ends
    have due := exec_exchangeInstant_of_due fin ⟨hs, he, hn, ha⟩
    have hopens : s.instantOpens = a := rfl
    have hends : State.instantCloses = ends := rfl
    rw [hopens, hends] at due
    clear_value a ends
    refine ⟨fun hr => ?live, fun hr hg => ?replayed, fun e x hr hf hx => ?unreadable⟩
    case live => rw [due, State.instantInputs_live fin hr]
    case replayed => rw [due, State.instantInputs_replayed fin hr (State.replayBad_eq_none hg)]
    case unreadable => rw [due, State.instantInputs_unreadable fin hr ((State.replayBad_eq_firstBad hf).trans hx)]
  case latchLive => rw [exec_xportOutLatch_of_due hs he hl ha, State.outLatch_live hr]
  case latchReplayed => rw [exec_xportOutLatch_of_due hs he hl ha, State.outLatch_replayed hr]

end Sys2Proof.Machine
end

section
/-!
PROOFS. Clocks that fail and restart (R18, R418–R423, R447): what each loss keeps of the state, the module at a stop once SYS_REFCLK is
lost, and a judging window that finds every clock good.
-/

namespace Sys2Proof.Machine

/-! ### A bit set -/

theorem add_two_pow_eq_or {n i : Nat} (h : n.testBit i = false) : n + 2 ^ i = n ||| 2 ^ i := by
  have hlow : n % 2 ^ i < 2 ^ i := Nat.mod_lt _ (Nat.two_pow_pos i)
  have hlow' : n % 2 ^ i + 2 ^ i < 2 ^ (i + 1) := by omega
  have heven : n / 2 ^ i % 2 = 0 := by simpa [Nat.testBit_eq_decide_div_mod_eq] using h
  have hn : n = 2 ^ (i + 1) * (n / 2 ^ i / 2) + n % 2 ^ i := by
    have := Nat.div_add_mod n (2 ^ i)
    have h2 : n / 2 ^ i = 2 * (n / 2 ^ i / 2) := by omega
    rw [Nat.pow_succ, Nat.mul_assoc, ← h2, this]
  calc n + 2 ^ i = 2 ^ (i + 1) * (n / 2 ^ i / 2) + (n % 2 ^ i + 2 ^ i) := by omega
    _ = 2 ^ (i + 1) * (n / 2 ^ i / 2) ||| (n % 2 ^ i + 2 ^ i) := Nat.two_pow_add_eq_or_of_lt hlow' _
    _ = 2 ^ (i + 1) * (n / 2 ^ i / 2) ||| (n % 2 ^ i ||| 2 ^ i) := by rw [Nat.or_two_pow_eq_add_of_lt hlow]
    _ = (2 ^ (i + 1) * (n / 2 ^ i / 2) ||| n % 2 ^ i) ||| 2 ^ i := (Nat.or_assoc ..).symm
    _ = n ||| 2 ^ i := by rw [← Nat.two_pow_add_eq_or_of_lt (by omega), ← hn]

theorem or_two_pow_eq_self {n i : Nat} (h : n.testBit i = true) : n ||| 2 ^ i = n := by
  refine Nat.eq_of_testBit_eq fun j => ?_
  by_cases hj : i = j
  · subst hj; simp [h]
  · simp [Nat.testBit_two_pow_of_ne hj]

/-- A set bit is the disjunction with its power of two. -/
theorem setBit_true (n i : Nat) : setBit n i true = n ||| 2 ^ i := by
  have hb : n >>> i % 2 = (n.testBit i).toNat := by rw [Nat.shiftRight_eq_div_pow, Nat.toNat_testBit]
  simp only [setBit, setField, field, Nat.pow_one, hb]
  cases h : n.testBit i with
  | false => simpa using add_two_pow_eq_or h
  | true => simpa [or_two_pow_eq_self h] using Nat.sub_add_cancel (Nat.ge_two_pow_of_testBit h)

/-! ### The parts of a loss -/

/-- The loss of a reference shown, and a boot held in CLOCKS (R419, R448). -/
def State.showLoss (s : State) (ref : Nat) : State :=
  let a := s.setObjBit O.REF_STATE ref false
  if 1 ≤ a.obj O.BOOT_STATE ∧ a.obj O.BOOT_STATE ≤ 5 then a.setObj O.BOOT_STATE 1 else a

/-- The cause of a CLOCK-WAIT by the references that are lost. -/
def State.lossCause (s : State) : Nat :=
  match s.obj O.REF_STATE % 4 with | 0 => 3 | 1 => 2 | _ => 1

/-- CLOCK-WAIT entered for the references that are lost. -/
def State.waitForReferences (s : State) : State := s.enterClockWait s.lossCause

/-- Every clock but those of PCIe stands (R419–R421). -/
def State.standStill (s : State) : State := { s with clk := { s.clk with sysStopped := true } }

theorem State.loseReference_eq (s : State) (ref : Nat) :
    s.loseReference ref = if ref = 0 then (s.showLoss ref).waitForReferences.standStill else (s.showLoss ref).waitForReferences := by
  unfold State.loseReference
  extract_lets a b cause t
  have hb : s.showLoss ref = b := by simp only [State.showLoss, b, a, Bool.and_eq_true, decide_eq_true_eq]
  have hc : b.lossCause = cause := by
    unfold State.lossCause cause
    rcases b.obj O.REF_STATE % 4 with _ | _ | n <;> rfl
  have ht : b.waitForReferences = t := congrArg b.enterClockWait hc
  rw [hb, ht]
  clear_value t
  rfl

theorem State.losePll_eq (s : State) (pll : Nat) :
    s.losePll pll = if pll = 0 then ((s.setObjBit O.PLL_STATE pll false).enterClockWait 4).standStill
      else (s.setObjBit O.PLL_STATE pll false).enterClockWait 4 := rfl

@[simp] theorem State.showLoss_host (s : State) (ref : Nat) : (s.showLoss ref).host = s.host := by
  simp only [State.showLoss]
  split <;> rfl

@[simp] theorem State.enterClockWait_host (s : State) (cause : Nat) : (s.enterClockWait cause).host = s.host := by
  unfold State.enterClockWait
  split <;> rfl

theorem State.enterClockWait_clk (s : State) (cause : Nat) : (s.enterClockWait cause).clk = s.clk := by
  unfold State.enterClockWait
  split <;> rfl

theorem State.enterClockWait_clockWait (s : State) (cause : Nat) : (s.enterClockWait cause).clockWait = true := by
  unfold State.enterClockWait
  split
  · rw [State.clockWait, State.obj_setObj_other _ _ (by decide)]
    assumption
  · simp only [State.setObjs]
    rw [State.clockWait, State.fabObjs, State.obj_setObj_other _ _ (by decide), State.obj_bump_other _ _ (by decide),
      State.obj_setObjBit_other _ _ _ (by decide), State.obj_setObj_other _ _ (by decide), State.obj_setObj_same, beq_self_eq_true]

@[simp] theorem State.waitForReferences_host (s : State) : s.waitForReferences.host = s.host := s.enterClockWait_host _

@[simp] theorem State.standStill_host (s : State) : s.standStill.host = s.host := rfl

@[simp] theorem State.loseReference_host (s : State) (ref : Nat) : (s.loseReference ref).host = s.host := by
  rw [State.loseReference_eq]
  split <;> simp

@[simp] theorem State.judgeReference_host (s : State) (ref : Nat) (good : Bool) : (s.judgeReference ref good).host = s.host := by
  unfold State.judgeReference
  split
  · rfl
  · split <;> simp

/-! ### The module stopped -/

/-- CLOCK-WAIT holds and the clocks that derive from SYS_REFCLK stand. -/
structure State.Stopped (s : State) : Prop where
  waits : s.clockWait = true
  stands : s.clk.sysStopped = true

theorem State.standStill_stopped {s : State} (h : s.clockWait = true) : s.standStill.Stopped := ⟨h, rfl⟩

/-- Without SYS_REFCLK the module stops. -/
theorem State.loseReference_sys_stopped (s : State) : (s.loseReference 0).Stopped := by
  rw [State.loseReference_eq, if_pos rfl]
  exact State.standStill_stopped (State.enterClockWait_clockWait ..)

theorem State.Stopped.setObj {s : State} (h : s.Stopped) {k : Nat} (v : Nat) (hk : O.CLOCK_WAIT ≠ k) : (s.setObj k v).Stopped :=
  ⟨by rw [State.clockWait, State.obj_setObj_other s v hk]; exact h.waits, h.stands⟩

theorem State.Stopped.setObjBit {s : State} (h : s.Stopped) {k : Nat} (i : Nat) (b : Bool) (hk : O.CLOCK_WAIT ≠ k) :
    (s.setObjBit k i b).Stopped :=
  h.setObj _ hk

theorem State.Stopped.enterClockWait {s : State} (h : s.Stopped) (cause : Nat) : (s.enterClockWait cause).Stopped :=
  ⟨s.enterClockWait_clockWait cause, by rw [State.enterClockWait_clk]; exact h.stands⟩

theorem State.Stopped.showLoss {s : State} (h : s.Stopped) (ref : Nat) : (s.showLoss ref).Stopped := by
  have ha := h.setObjBit (k := O.REF_STATE) ref false (by decide)
  simp only [State.showLoss]
  split
  · exact ha.setObj 1 (by decide)
  · exact ha

theorem State.Stopped.loseReference {s : State} (h : s.Stopped) (ref : Nat) : (s.loseReference ref).Stopped := by
  have hw : (s.showLoss ref).waitForReferences.Stopped := (h.showLoss ref).enterClockWait _
  rw [State.loseReference_eq]
  split
  · exact State.standStill_stopped hw.waits
  · exact hw

theorem State.Stopped.losePll {s : State} (h : s.Stopped) (pll : Nat) : (s.losePll pll).Stopped := by
  have hw := (h.setObjBit (k := O.PLL_STATE) pll false (by decide)).enterClockWait 4
  rw [State.losePll_eq]
  split
  · exact State.standStill_stopped hw.waits
  · exact hw

theorem State.Stopped.judgeReference {s : State} (h : s.Stopped) (ref : Nat) (good : Bool) : (s.judgeReference ref good).Stopped := by
  unfold State.judgeReference
  split
  · exact h.setObjBit _ _ (by decide)
  · split
    · exact h.loseReference ref
    · exact h

theorem State.Stopped.judgePll {s : State} (h : s.Stopped) (good pll : Nat) : (s.judgePll good pll).Stopped := by
  have hset (b : Bool) : (s.setObjBit O.PLL_STATE pll b).Stopped := h.setObjBit pll b (by decide)
  exact iteInduction (motive := State.Stopped) (fun _ => hset true)
    fun _ => iteInduction (fun _ => h.losePll pll) fun _ => hset false

theorem State.Stopped.judgePlls {s : State} (h : s.Stopped) (good : Nat) (l : List Nat) :
    (l.foldl (fun u p => u.judgePll good p) s).Stopped := by
  induction l generalizing s with
  | nil => exact h
  | cons p l ih => exact ih (h.judgePll good p)

/-! ### The loss of a reference -/

theorem exec_referenceLost_judged {ref : Fin 2} {s : State} (h : ref = 1 → s.host.perstHigh = true) :
    exec (.referenceLost ref) s = .next (s.loseReference ref) :=
  if_neg (by simpa using h)

theorem exec_referenceLost_unjudged {ref : Fin 2} {s : State} (hr : ref = 1) (hp : s.host.perstHigh = false) :
    exec (.referenceLost ref) s = .next s :=
  if_pos (by simp [hr, hp])

/-! ### The judging window -/

/-- The references as a judging window finds them: PCIE_REFCLK only while PERST_N is high (R447). -/
def State.judgeReferences (s : State) (sysKhz pcieKhz : Nat) : State :=
  let a := (s.setObj O.SYS_REF_FREQ sysKhz).judgeReference 0 (inWindow sysKhz 125000)
  if s.host.perstHigh then (a.setObj O.PCIE_REF_FREQ pcieKhz).judgeReference 1 (inWindow pcieKhz 100000) else a

theorem exec_judgingWindowEnd (sysKhz pcieKhz : BitVec 32) (plls : BitVec 4) (s : State) :
    exec (.judgingWindowEnd sysKhz pcieKhz plls) s =
      .next ((if s.host.perstHigh then [0, 1, 2, 3] else [0, 1, 2]).foldl (fun u p => u.judgePll plls.toNat p)
        (s.judgeReferences sysKhz.toNat pcieKhz.toNat)) := by
  change execJudgingWindowEnd sysKhz pcieKhz plls s = _
  cases hp : s.host.perstHigh <;> simp [execJudgingWindowEnd, State.judgeReferences, hp]

theorem State.judgeReferences_stopped {s : State} {sysKhz : Nat} (pcieKhz : Nat) (hr : s.objBit O.REF_STATE 0 = true)
    (hw : inWindow sysKhz 125000 = false) : (s.judgeReferences sysKhz pcieKhz).Stopped := by
  have hlost : ((s.setObj O.SYS_REF_FREQ sysKhz).judgeReference 0 (inWindow sysKhz 125000)).Stopped := by
    have : (s.setObj O.SYS_REF_FREQ sysKhz).objBit O.REF_STATE 0 = true := by
      rw [State.objBit, State.obj_setObj_other s _ (by decide)]; exact hr
    simp only [State.judgeReference, hw, this, if_true, Bool.false_eq_true, if_false]
    exact State.loseReference_sys_stopped _
  unfold State.judgeReferences
  split
  · exact (hlost.setObj _ (by decide)).judgeReference _ _
  · exact hlost

/-- The references as a window finds them that finds both good. -/
theorem State.judgeReferences_good {s : State} {sysKhz pcieKhz : Nat} (hs : inWindow sysKhz 125000 = true)
    (hp : inWindow pcieKhz 100000 = true) (hh : s.host.perstHigh = true) :
    s.judgeReferences sysKhz pcieKhz = (((s.setObj O.SYS_REF_FREQ sysKhz).setObjBit O.REF_STATE 0 true).setObj
      O.PCIE_REF_FREQ pcieKhz).setObjBit O.REF_STATE 1 true := by
  simp only [State.judgeReferences, State.judgeReference, hs, hp, hh, if_true]

/-- The PLLs as a window finds them that finds all good. -/
theorem State.judgePlls_good (s : State) : [0, 1, 2, 3].foldl (fun u p => u.judgePll (15#4).toNat p) s =
    (((s.setObjBit O.PLL_STATE 0 true).setObjBit O.PLL_STATE 1 true).setObjBit O.PLL_STATE 2 true).setObjBit O.PLL_STATE 3 true := rfl

/-- Nothing outside the dictionary differs. -/
def State.SameOutside (s t : State) : Prop := { t with dict := s.dict } = s

theorem State.SameOutside.refl (s : State) : s.SameOutside s := rfl

theorem State.SameOutside.setObj {s t : State} (h : s.SameOutside t) (k v : Nat) : s.SameOutside (t.setObj k v) := h

theorem State.SameOutside.setObjBit {s t : State} (h : s.SameOutside t) (k i : Nat) (b : Bool) : s.SameOutside (t.setObjBit k i b) := h

/-- A window that finds every clock good shows what it found and nothing else. -/
theorem State.judgingWindow_good_wrote (s : State) (sysKhz pcieKhz : Nat) :
    let r := (((s.setObj O.SYS_REF_FREQ sysKhz).setObjBit O.REF_STATE 0 true).setObj O.PCIE_REF_FREQ pcieKhz).setObjBit O.REF_STATE 1 true
    s.wrote ((((r.setObjBit O.PLL_STATE 0 true).setObjBit O.PLL_STATE 1 true).setObjBit O.PLL_STATE 2 true).setObjBit O.PLL_STATE 3 true)
      [(O.SYS_REF_FREQ, sysKhz), (O.PCIE_REF_FREQ, pcieKhz), (O.REF_STATE, s.obj O.REF_STATE ||| 3),
        (O.PLL_STATE, s.obj O.PLL_STATE ||| 15)] := by
  intro r
  have outsidePlls {k : Nat} (hk : k ≠ O.PLL_STATE) :
      ((((r.setObjBit O.PLL_STATE 0 true).setObjBit O.PLL_STATE 1 true).setObjBit O.PLL_STATE 2 true).setObjBit O.PLL_STATE 3
        true).obj k = r.obj k := by
    simp only [State.obj_setObjBit_other _ _ _ hk]
  have outsideReferences {k : Nat} (hk : k ≠ O.REF_STATE) (hs : k ≠ O.SYS_REF_FREQ) (hp : k ≠ O.PCIE_REF_FREQ) :
      r.obj k = s.obj k := by
    simp only [r, State.obj_setObjBit_other _ _ _ hk, State.obj_setObj_other _ _ hp, State.obj_setObj_other _ _ hs]
  have outside : s.SameOutside ((((r.setObjBit O.PLL_STATE 0 true).setObjBit O.PLL_STATE 1 true).setObjBit O.PLL_STATE 2 true).setObjBit
      O.PLL_STATE 3 true) :=
    have href : s.SameOutside r := (((State.SameOutside.refl s).setObj _ _).setObjBit _ _ _ |>.setObj _ _).setObjBit _ _ _
    (((href.setObjBit _ _ _).setObjBit _ _ _).setObjBit _ _ _).setObjBit _ _ _
  refine ⟨outside, ?_, ?_⟩
  · simp only [List.forall_mem_cons, List.not_mem_nil, false_implies, implies_true, and_true]
    have two : 2 ^ 0 ||| 2 ^ 1 = 3 := rfl
    have four : 2 ^ 0 ||| (2 ^ 1 ||| (2 ^ 2 ||| 2 ^ 3)) = 15 := rfl
    refine ⟨?sys, ?pcie, ?ref, ?pll⟩
    case sys =>
      rw [outsidePlls (by decide), State.obj_setObjBit_other _ _ _ (by decide), State.obj_setObj_other _ _ (by decide),
        State.obj_setObjBit_other _ _ _ (by decide), State.obj_setObj_same]
    case pcie => rw [outsidePlls (by decide), State.obj_setObjBit_other _ _ _ (by decide), State.obj_setObj_same]
    case ref =>
      rw [outsidePlls (by decide), State.obj_setObjBit_same, State.obj_setObj_other _ _ (by decide), State.obj_setObjBit_same,
        State.obj_setObj_other _ _ (by decide), setBit_true, setBit_true, Nat.or_assoc, two]
    case pll =>
      simp only [State.obj_setObjBit_same, setBit_true, Nat.or_assoc, four]
      rw [outsideReferences (by decide) (by decide) (by decide)]
  · intro k hk
    simp only [List.forall_mem_cons, List.not_mem_nil, false_implies, implies_true, and_true] at hk
    obtain ⟨hsys, hpcie, href, hpll⟩ := hk
    rw [outsidePlls hpll.symm, outsideReferences href.symm hsys.symm hpcie.symm]

/-! ### The gate of the HBM PLL and the end of CLOCK-WAIT -/

theorem exec_hbmPllGate (s : State) : exec .hbmPllGate s =
    if s.clockWait = true ∧ (s.objBit O.REF_STATE 0 = false ∨ s.objBit O.PLL_STATE 2 = false) then
      .next { s with clk := { s.clk with hbmGated := true }, hbm := { s.hbm with selfRefresh := true } }
    else .next s := by
  change execHbmPllGate s = _
  simp only [execHbmPllGate, Bool.and_eq_true, Bool.or_eq_true, Bool.not_eq_true']

theorem exec_clockWaitEnd_of_good {s : State} (us : BitVec 32) (hw : s.clockWait = true) (hg : s.clocksGood = true) :
    exec (.clockWaitEnd us) s = .next (s.run.heldWrites.foldl State.passOn
      (State.clocksRestart { s with run := { s.run with heldWrites := [] } } us.toNat).serveTap) :=
  if_pos (by simp [hw, hg])

theorem exec_clockWaitEnd_of_not_good {s : State} (us : BitVec 32) (h : s.clockWait = false ∨ s.clocksGood = false) :
    exec (.clockWaitEnd us) s = .next s :=
  if_neg (by rcases h with h | h <;> simp [h])

theorem State.serveTap_of_idle {s : State} (h : s.tap.busy = none) : s.serveTap = s := by
  simp only [State.serveTap, h]

/-- Settles O46: a loss shows itself, waits for its clocks and stops what derives from them; a stopped module stays stopped through the
rest of a judging window; and a window or a CLOCK-WAIT's end goes by which clocks are good. -/
theorem clocksFailAndRestart : Obligations.ClocksFailAndRestart := by
  intro s
  refine ⟨fun ref => ?reference, fun pll => ?pll, ?gate, fun us => ⟨exec_clockWaitEnd_of_not_good us, fun hw hg => ?waitEnd⟩,
    fun sysKhz pcieKhz plls => ?window⟩
  case reference =>
    intro a b t
    have ht : (s.showLoss ref).waitForReferences = t := by
      change b.enterClockWait b.lossCause = t
      unfold State.lossCause t
      rcases b.obj O.REF_STATE % 4 with _ | _ | n <;> rfl
    have hlose := s.loseReference_eq ref
    rw [ht] at hlose
    clear_value t
    refine ⟨fun hr hp => ?unjudged, fun hr hp => ?pcie, fun hr => ?sys⟩
    case unjudged => exact exec_referenceLost_unjudged hr hp
    case pcie => rw [exec_referenceLost_judged fun _ => hp, hlose, if_neg (by simp [hr])]
    case sys =>
      rw [exec_referenceLost_judged fun h => by simp [hr] at h, hlose, if_pos (by simp [hr])]
      rfl
  case pll =>
    refine ⟨fun hp => ?root, fun hp => ?other, fun hw => if_neg (by simp [hw]), fun hw => if_pos hw⟩
    case root => exact congrArg Host.Outcome.next ((s.losePll_eq pll).trans (if_pos (by simp [hp])))
    case other => exact congrArg Host.Outcome.next ((s.losePll_eq pll).trans (if_neg (by simpa using Fin.val_ne_of_ne hp)))
  case gate => exact ⟨fun hg => (exec_hbmPllGate s).trans (if_pos hg), fun hg => (exec_hbmPllGate s).trans (if_neg hg)⟩
  case waitEnd =>
    intro t
    have hend : exec (.clockWaitEnd us) s = .next (s.run.heldWrites.foldl State.passOn t.serveTap) := exec_clockWaitEnd_of_good us hw hg
    refine ⟨hend, fun hh ht => ?_⟩
    have hidle : t.tap.busy = none := ht
    rw [hend, hh, State.serveTap_of_idle hidle, List.foldl_nil]
  case window =>
    have hexec := exec_judgingWindowEnd sysKhz pcieKhz plls s
    refine ⟨fun hp => ?low, fun hp => ?high, fun hs hp hl hh => ?good, fun hr hw => ?lost⟩
    case low => simpa only [State.judgeReferences, hp, Bool.false_eq_true, if_false] using hexec
    case high => simpa only [State.judgeReferences, hp, if_true] using hexec
    case good =>
      rw [hh, hl, if_pos rfl, State.judgePlls_good, State.judgeReferences_good hs hp hh] at hexec
      exact ⟨_, hl ▸ hexec, s.judgingWindow_good_wrote ..⟩
    case lost =>
      have hstop := (s.judgeReferences_stopped pcieKhz.toNat hr hw).judgePlls plls.toNat
        (if s.host.perstHigh then [0, 1, 2, 3] else [0, 1, 2])
      exact ⟨_, hexec, hstop.waits, hstop.stands⟩

end Sys2Proof.Machine
end

section
/-!
SUPPORT. Tables and byte memories: a key written twice, and a bit read after a write; and what follows from them for the state.
-/

namespace Sys2Proof.Machine

/-! ### A key written twice -/

theorem tdel_of_all_ne {α : Type} {t : Tab α} {k : Nat} (h : t.all fun e => e.1 != k) : tdel t k = t :=
  List.filter_eq_self.mpr (List.all_eq_true.mp h)

theorem tdel_tins {α : Type} {t : Tab α} {k : Nat} (v : α) (h : t.all fun e => e.1 != k) : tdel (tins t k v) k = t := by
  induction t with
  | nil => simp [tins, tdel]
  | cons e t ih =>
    obtain ⟨j, w⟩ := e
    have hall := h
    simp only [List.all_cons, Bool.and_eq_true] at h
    obtain ⟨hj, ht⟩ := h
    unfold tins
    split
    · exact (List.filter_cons_of_neg (by simp)).trans (tdel_of_all_ne hall)
    · exact (List.filter_cons_of_pos (a := (j, w)) hj).trans (congrArg ((j, w) :: ·) (ih ht))

/-- The later of two writes to one key stands. -/
@[simp] theorem tput_tput_same {α : Type} [DecidableEq α] (d : Nat → α) (t : Tab α) (k : Nat) (v w : α) :
    tput d (tput d t k v) k w = tput d t k w := by
  have hdel : tdel (tput d t k v) k = tdel t k := by
    unfold tput
    split
    · exact tdel_of_all_ne (tdel_all t k)
    · exact tdel_tins v (tdel_all t k)
  rw [tput, hdel, ← tput]

/-! ### A cluster written twice, a maximum raised -/

@[simp] theorem State.setCl_setCl_same (s : State) (cid : Nat) (c k : Cluster) : (s.setCl cid c).setCl cid k = s.setCl cid k :=
  congrArg (fun l => { s with clusters := l }) (tput_tput_same ..)

@[simp] theorem State.raise_sluice (s : State) (k v : Nat) : (s.raise k v).sluice = s.sluice := by
  unfold State.raise
  split <;> rfl

/-! ### One bit of a byte memory -/

theorem testBit_setBit_same (n i : Nat) (b : Bool) : (setBit n i b).testBit i = b := by
  have hdiv : setBit n i b / 2 ^ i = n / 2 ^ i - n / 2 ^ i % 2 + b.toNat := by
    simp only [setBit, setField, field, Nat.shiftRight_eq_div_pow, Nat.pow_one, Nat.mod_eq_of_lt b.toNat_lt]
    rw [Nat.add_mul_div_right _ _ (Nat.two_pow_pos i), Nat.mul_comm, Nat.sub_mul_div]
  rw [Nat.testBit_eq_decide_div_mod_eq, hdiv]
  cases b <;> simp only [Bool.toNat_false, Bool.toNat_true, decide_eq_true_eq, decide_eq_false_iff_not] <;> omega

/-- A bit written is read back. -/
@[simp] theorem mbit_mputBit_same (m : Memory) (a i : Nat) (b : Bool) : mbit (mputBit m a i b) a i = b := by
  have hi : i % 8 < 8 := Nat.mod_lt _ (by decide)
  rw [mbit, mputBit, mget_mput_same, BitVec.getLsbD_ofNat, testBit_setBit_same, decide_eq_true hi, Bool.true_and]

theorem mget_mputBit_other (m : Memory) {a i x : Nat} (b : Bool) (h : x ≠ a + i / 8) : mget (mputBit m a i b) x = mget m x :=
  mget_mput_other _ _ h

theorem mbit_mputBit_other (m : Memory) {a i x j : Nat} (b : Bool) (h : x + j / 8 ≠ a + i / 8) :
    mbit (mputBit m a i b) x j = mbit m x j :=
  congrArg (fun v : Byte => v.getLsbD (j % 8)) (mget_mputBit_other m b h)

end Sys2Proof.Machine
end

section
/-!
PROOFS. Deliveries that land (R28, R33, R60): the due ones of a cluster in their order, each written with its tag, or discarded where its
stamp is not that of the current DC.
-/

namespace Sys2Proof.Machine

/-! ### An entry written with its tag -/

/-- Entry `i` of the values at `a` written with its tag, of those at `tag`. -/
def mputTagged (m : Memory) (a tag i : Nat) (v : Bool) : Memory := mputBit (mputBit m a i v) tag i true

theorem mbit_mputTagged_tag (m : Memory) (a tag i : Nat) (v : Bool) : mbit (mputTagged m a tag i v) tag i = true :=
  mbit_mputBit_same ..

theorem mbit_mputTagged_value (m : Memory) {a tag : Nat} (i : Nat) (v : Bool) (h : a ≠ tag) : mbit (mputTagged m a tag i v) a i = v :=
  (mbit_mputBit_other _ _ (by omega)).trans (mbit_mputBit_same ..)

theorem mget_mputTagged_other (m : Memory) {a tag i x : Nat} (v : Bool) (ha : x ≠ a + i / 8) (ht : x ≠ tag + i / 8) :
    mget (mputTagged m a tag i v) x = mget m x :=
  (mget_mputBit_other _ _ ht).trans (mget_mputBit_other _ _ ha)

theorem nLocal_ne_nLocalTag (bp : Nat) : nLocal bp ≠ nLocalTag bp := by
  unfold nLocal nLocalTag
  omega

theorem nInbox_ne_nInboxTag (bp : Nat) : nInbox bp ≠ nInboxTag bp := by
  unfold nInbox nInboxTag
  omega

/-! ### One delivery -/

section Landing

variable {s : State} {d : Deliv} (cid : Nat)

theorem State.landOne_of_stale (h : d.stamp ≠ s.stamp) : s.landOne cid d = s.setCl cid ((s.cl cid).count 2 1) :=
  if_pos (bne_iff_ne.mpr h)

theorem State.landOne_local (hs : d.stamp = s.stamp) (hi : d.inbox = false) :
    s.landOne cid d =
      s.setCl cid { s.cl cid with node := mputTagged (s.cl cid).node (nLocal d.bp) (nLocalTag d.bp) d.idx d.val } := by
  simp [State.landOne, hs, hi, mputTagged]

/-- In INBOX the value of a second delivery to one entry is free (R50). -/
theorem State.landOne_inbox_node (hs : d.stamp = s.stamp) (hi : d.inbox = true) :
    ((s.landOne cid d).cl cid).node = mputTagged (s.cl cid).node (nInbox d.bp) (nInboxTag d.bp) d.idx
      (if mbit (s.cl cid).node (nInboxTag d.bp) d.idx then Config.freeBit s.fresh else d.val) := by
  simp [State.landOne, hs, hi, mputTagged]

end Landing

/-! ### The first due delivery of a cluster -/

section Due

variable {s : State} {die : Die} {pc : Pc}

theorem exec_deliveryLand_of_none_due (h : ∀ d ∈ (s.cl (cidOf die pc)).inflight, (s.cl (cidOf die pc)).period < d.due) :
    exec (.deliveryLand die pc) s = .next s := by
  have hnone : ((s.cl (cidOf die pc)).inflight.find? fun d => d.due ≤ (s.cl (cidOf die pc)).period) = none := by
    simpa [List.find?_eq_none] using h
  change execDeliveryLand die pc s = _
  simp only [execDeliveryLand, hnone]

theorem exec_deliveryLand_of_first_due {l r : List Deliv} {d : Deliv} (hc : (s.cl (cidOf die pc)).inflight = l ++ d :: r)
    (hl : ∀ e ∈ l, (s.cl (cidOf die pc)).period < e.due) (hd : d.due ≤ (s.cl (cidOf die pc)).period) :
    exec (.deliveryLand die pc) s =
      .next ((s.setCl (cidOf die pc) { s.cl (cidOf die pc) with inflight := (s.cl (cidOf die pc)).inflight.erase d }).landOne
        (cidOf die pc) d) := by
  have hfirst : ((s.cl (cidOf die pc)).inflight.find? fun d => d.due ≤ (s.cl (cidOf die pc)).period) = some d := by
    rw [hc, List.find?_append, List.find?_eq_none.mpr (by simpa using hl), List.find?_cons_of_pos (by simpa using hd)]
    rfl
  change execDeliveryLand die pc s = _
  simp only [execDeliveryLand, hfirst]

end Due

/-- Settles O6: the first due delivery leaves those in flight and lands; one that lands is written with its tag, in bytes that differ, or
counted as discarded. -/
theorem deliveriesLand : Obligations.DeliveriesLand := by
  refine ⟨fun s die pc => ⟨rfl, exec_deliveryLand_of_none_due, fun l d r => exec_deliveryLand_of_first_due⟩,
    fun s cid d => ⟨State.landOne_of_stale cid, fun hs hi _ _ => ?toLocal, fun hs hi _ _ => ?toInbox⟩⟩
  case toLocal =>
    intro t
    have ht : t = _ := State.landOne_local cid hs hi
    have hnode : (t.cl cid).node = mputTagged (s.cl cid).node (nLocal d.bp) (nLocalTag d.bp) d.idx d.val := by
      rw [ht, State.cl_setCl_same]
    rw [hnode]
    exact ⟨mbit_mputTagged_value _ _ _ (nLocal_ne_nLocalTag _), mbit_mputTagged_tag .., fun _ => mget_mputTagged_other _ _, ht⟩
  case toInbox =>
    intro t
    have hnode : (t.cl cid).node = _ := State.landOne_inbox_node cid hs hi
    rw [hnode]
    refine ⟨fun hfree => ?_, mbit_mputTagged_tag .., fun _ => mget_mputTagged_other _ _⟩
    rw [mbit_mputTagged_value _ _ _ (nInbox_ne_nInboxTag _), hfree]
    rfl

end Sys2Proof.Machine
end

section
/-!
PROOFS. The operands a LUT op waits for (R31): those that its truth table depends on.
-/

namespace Sys2Proof.Machine

/-! ### The rows of a truth table -/

/-- The row TT[{S3,S2,S1,S0}] that four operand values name (Table 03-3). -/
def ttRow (f : Nat → Bool) : Nat := (f 0).toNat + 2 * (f 1).toNat + 4 * (f 2).toNat + 8 * (f 3).toNat

theorem ttRow_lt (f : Nat → Bool) : ttRow f < 16 := by
  have h (i : Nat) := (f i).toNat_lt
  have h0 := h 0
  have h1 := h 1
  have h2 := h 2
  have h3 := h 3
  unfold ttRow
  omega

/-- Every row is that of its own bits. -/
theorem ttRow_testBit {x : Nat} (h : x < 16) : ttRow x.testBit = x := by
  revert x
  decide

theorem testBit_ttRow (f : Nat → Bool) {i : Nat} (h : i < 4) : (ttRow f).testBit i = f i := by
  have key : ∀ a b c d : Bool, ∀ i < 4, (a.toNat + 2 * b.toNat + 4 * c.toNat + 8 * d.toNat).testBit i = [a, b, c, d].getD i false := by
    decide
  rw [ttRow, key _ _ _ _ i h]
  match i, h with
  | 0, _ | 1, _ | 2, _ | 3, _ => rfl

/-- Where one operand rises from 0 to 1, the row rises by its weight. -/
theorem ttRow_of_rise {f g : Nat → Bool} {i : Nat} (h : i < 4) (ho : ∀ j, j ≠ i → f j = g j) (hf : f i = false) (hg : g i = true) :
    ttRow g = ttRow f + 2 ^ i := by
  have same (j : Nat) (hj : j ≠ i) : (f j).toNat = (g j).toNat := congrArg Bool.toNat (ho j hj)
  have low : (f i).toNat = 0 := congrArg Bool.toNat hf
  have high : (g i).toNat = 1 := congrArg Bool.toNat hg
  have hi : i = 0 ∨ i = 1 ∨ i = 2 ∨ i = 3 := by omega
  unfold ttRow
  rcases hi with rfl | rfl | rfl | rfl
  · have s1 := same 1 (by decide); have s2 := same 2 (by decide); have s3 := same 3 (by decide); omega
  · have s0 := same 0 (by decide); have s2 := same 2 (by decide); have s3 := same 3 (by decide); omega
  · have s0 := same 0 (by decide); have s1 := same 1 (by decide); have s3 := same 3 (by decide); omega
  · have s0 := same 0 (by decide); have s1 := same 1 (by decide); have s2 := same 2 (by decide); omega

/-- Operand values with that of operand `i` raised to 1. -/
def raised (f : Nat → Bool) (i j : Nat) : Bool := if j = i then true else f j

theorem raised_same (f : Nat → Bool) (i : Nat) : raised f i i = true := if_pos rfl

theorem raised_other (f : Nat → Bool) {i j : Nat} (h : j ≠ i) : raised f i j = f j := if_neg h

/-! ### Dependence -/

theorem lutDepends_iff_row {tt i : Nat} :
    lutDepends tt i = true ↔ ∃ x < 16, x.testBit i = false ∧ tt.testBit x ≠ tt.testBit (x + 2 ^ i) := by
  simp [lutDepends]

/-- R31: the truth table depends on an operand where that operand alone changes its value. -/
theorem lutDepends_iff {tt i : Nat} (h : i < 4) :
    lutDepends tt i = true ↔ ∃ f g : Nat → Bool, (∀ j, j ≠ i → f j = g j) ∧ tt.testBit (ttRow f) ≠ tt.testBit (ttRow g) := by
  rw [lutDepends_iff_row]
  constructor
  · rintro ⟨x, hx, hi, hne⟩
    have hother : ∀ j, j ≠ i → x.testBit j = raised x.testBit i j := fun j hj => (raised_other _ hj).symm
    refine ⟨x.testBit, raised x.testBit i, hother, ?_⟩
    rwa [ttRow_of_rise h hother hi (raised_same ..), ttRow_testBit hx]
  · rintro ⟨f, g, ho, hne⟩
    have rises {f g : Nat → Bool} (ho : ∀ j, j ≠ i → f j = g j) (hf : f i = false) (hg : g i = true)
        (hne : tt.testBit (ttRow f) ≠ tt.testBit (ttRow g)) :
        ∃ x < 16, x.testBit i = false ∧ tt.testBit x ≠ tt.testBit (x + 2 ^ i) :=
      ⟨ttRow f, ttRow_lt f, (testBit_ttRow f h).trans hf, ttRow_of_rise h ho hf hg ▸ hne⟩
    have hfg : f i ≠ g i := fun heq =>
      hne (congrArg (tt.testBit <| ttRow ·) (funext fun j => if hj : j = i then hj ▸ heq else ho j hj))
    cases hf : f i with
    | false => exact rises ho hf (by simpa [hf] using hfg.symm) hne
    | true => exact rises (fun j hj => (ho j hj).symm) (by simpa [hf] using hfg.symm) hf hne.symm

/-! ### The wait -/

theorem mem_dependents_of_lut {w sel : Nat} (h : iClass w = .lut) :
    sel ∈ dependents w ↔ ∃ i, i < 4 ∧ lutDepends (iTt w) i = true ∧ iSel w i = sel := by
  simp [dependents, h, and_assoc]

theorem waitingOperand_single (c : Cluster) (bp w : Nat) :
    waitingOperand c [(bp, w)] = ((dependents w).find? fun sel => ! selReady c bp sel).map fun sel => (bp, sel) := by
  unfold waitingOperand
  cases (dependents w).find? fun sel => ! selReady c bp sel <;> rfl

/-- R31: STATE never holds. -/
theorem selReady_of_state (c : Cluster) (bp : Nat) {sel : Nat} (h : 0x600 ≤ sel) : selReady c bp sel = true := by
  rw [selReady, if_neg (by omega), if_neg (by omega)]

/-- Settles O59: a LUT's dependent operands are those its truth table depends on, and it waits for the first that is not ready. -/
theorem lutWaitsForWhatItDependsOn : Obligations.LutWaitsForWhatItDependsOn := by
  intro c bp w hw index depends
  have hdep (i : Nat) (hi : i < 4) : lutDepends (iTt w) i = true ↔ depends i := lutDepends_iff hi
  clear_value depends
  rw [waitingOperand_single]
  refine ⟨?none, fun sel hsel => ?some, fun _ => selReady_of_state c bp⟩
  case none =>
    simp only [Option.map_eq_none_iff, List.find?_eq_none, mem_dependents_of_lut hw, Bool.not_eq_true', Bool.not_eq_false]
    exact ⟨fun hall i hi hd => hall _ ⟨i, hi, (hdep i hi).mpr hd, rfl⟩,
      fun hall sel ⟨i, hi, hd, hs⟩ => hs ▸ hall i hi ((hdep i hi).mp hd)⟩
  case some =>
    obtain ⟨sel', hfind, heq⟩ := Option.map_eq_some_iff.mp hsel
    obtain ⟨i, hi, hd, hs⟩ := (mem_dependents_of_lut hw).mp (List.mem_of_find?_eq_some hfind)
    exact ⟨i, hi, (hdep i hi).mp hd, hs.trans (Prod.mk.inj heq).2⟩

end Sys2Proof.Machine
end

section
/-!
PROOFS. The forms of MRD and MWR (R44, R50, R59–R62, R136, R138, R142): what each does on its port, and what an MRD GO gives on a port of
each kind.
-/

namespace Sys2Proof.Machine

/-! ### The form of a class, about to execute -/

section Ready

variable {s : State} {die : Die} {pc : Pc} {bp : BpIx} {w : Nat}

theorem exec_mrdAddr_of_opReady (h : s.opReady die pc bp w) (hw : iClass w = .mrd) (hf : mrdForm w = .addr) :
    exec (.mrdAddr die pc bp) s = .next ((s.opDone die pc bp).opAddr (cidOf die pc) bp w) :=
  (State.opAt_executes h (by simp [hw, hf])).trans (by simp only [State.execOp, hw, hf])

theorem exec_mrdGo_of_opReady (h : s.opReady die pc bp w) (hw : iClass w = .mrd) (hf : mrdForm w = .go) :
    exec (.mrdGo die pc bp) s = .next ((s.opDone die pc bp).opMrdGo (cidOf die pc) bp w) :=
  (State.opAt_executes h (by simp [hw, hf])).trans (by simp only [State.execOp, hw, hf])

theorem exec_mwrAddr_of_opReady (h : s.opReady die pc bp w) (hw : iClass w = .mwr) (hf : mwrForm w = .addr) :
    exec (.mwrAddr die pc bp) s = .next ((s.opDone die pc bp).opAddr (cidOf die pc) bp w) :=
  (State.opAt_executes h (by simp [hw, hf])).trans (by simp only [State.execOp, hw, hf])

theorem exec_mwrData_of_opReady (h : s.opReady die pc bp w) (hw : iClass w = .mwr) (hf : mwrForm w = .data) :
    exec (.mwrData die pc bp) s = .next ((s.opDone die pc bp).opData (cidOf die pc) bp w) :=
  (State.opAt_executes h (by simp [hw, hf])).trans (by simp only [State.execOp, hw, hf])

theorem exec_mwrGo_of_opReady (h : s.opReady die pc bp w) (hw : iClass w = .mwr) (hf : mwrForm w = .go) :
    exec (.mwrGo die pc bp) s = .next ((s.opDone die pc bp).opMwrGo (cidOf die pc) bp w) :=
  (State.opAt_executes h (by simp [hw, hf])).trans (by simp only [State.execOp, hw, hf])

end Ready

/-! ### An MRD GO on a port of each kind -/

/-- The descriptor of the port of an op. -/
def State.opDesc (s : State) (cid w : Nat) : Nat := s.portDesc cid (mPort w)

/-- The word address that the port of an op uses (R133). -/
def State.opWord (s : State) (cid w : Nat) : Nat := wordAddr (s.opDesc cid w) ((s.cl cid).paddr (mPort w))

/-- Row and bit offset of that word (R135). -/
def State.opRow (s : State) (cid w : Nat) : Nat × Nat := rowOfWord (s.opDesc cid w) (s.opWord cid w)

/-- The bits of a GO's word as its port sees them in a row that reads `v` without the unseen writes (R136). -/
def State.opBits (s : State) (cid w v : Nat) : Nat :=
  field ((s.cl cid).rowView (mPort w) (s.opRow cid w).1 v) (s.opRow cid w).2 (dWidth (s.opDesc cid w))

/-- In `x`, the return of `v` to a GO that was given in `s` (R60). -/
def State.goReturns (s : State) (cid w : Nat) (x : State) (v : Nat) : State :=
  x.returnBits cid (iDest w % 16384) v ((s.cl cid).period + s.lat 10) .memory s.stamp (dWidth (s.opDesc cid w))

/-- The read request of a GO on a Quarry port (R142). -/
def State.goRequest (s : State) (cid w : Nat) : QuarryReq :=
  ⟨mPort w, false, dBase (s.opDesc cid w) + s.opWord cid w, 0, dWidth (s.opDesc cid w), iDest w % 16384, s.stamp, s.dcNum,
    s.sluice.base + (s.cl cid).period, false⟩

/-- A GO on a port of design memory: the bits of its row as its check gives it, corrected and noted, or a memory fault (R136, R138). -/
def State.goReadsRow (s : State) (cid w : Nat) : State :=
  let used : Cluster := { s.cl cid with memUse := (s.cl cid).period + 1 }
  let row := (s.opRow cid w).1
  match (s.cl cid).rowBefore row with
  | .uncorrectable _ => s.raiseFault 4 (FaultLoc.cluster s cid) (row + mPort w * 2 ^ 16) 0 0
  | .clean v => s.goReturns cid w (s.setCl cid used) (s.opBits cid w v)
  | .corrected v =>
    s.goReturns cid w (s.setCl cid (if (s.cl cid).unseen row = [] then used.noteRow row else used.count 9 1)) (s.opBits cid w v)

section MrdGo

variable {s : State} {cid w : Nat}

/-- R60, R142: with a DEST of the return kind, an MRD GO goes by the descriptor of its port. -/
theorem State.mrdGo_of_return (hk : iDest w / 16384 = 2) :
    s.mrdGo cid w =
      if ! dValid (s.opDesc cid w) then s.goReturns cid w s 0
      else if dQuarry (s.opDesc cid w) then s.quarryGo cid (s.goRequest cid w)
      else s.goReadsRow cid w := by
  have hkind : ¬ iDest w / 16384 ≠ 2 := fun h => h hk
  unfold State.mrdGo
  rw [if_neg hkind]
  rfl

section Kinds

variable (hk : iDest w / 16384 = 2)

include hk

theorem State.mrdGo_of_no_descriptor (hv : dValid (s.opDesc cid w) = false) : s.mrdGo cid w = s.goReturns cid w s 0 := by
  simp only [State.mrdGo_of_return hk, hv, Bool.not_false, if_true]

theorem State.mrdGo_of_quarry (hv : dValid (s.opDesc cid w) = true) (hq : dQuarry (s.opDesc cid w) = true) :
    s.mrdGo cid w = s.quarryGo cid (s.goRequest cid w) := by
  simp only [State.mrdGo_of_return hk, hv, hq, Bool.not_true, Bool.false_eq_true, if_false, if_true]

theorem State.mrdGo_of_memory (hv : dValid (s.opDesc cid w) = true) (hq : dQuarry (s.opDesc cid w) = false) :
    s.mrdGo cid w = s.goReadsRow cid w := by
  simp only [State.mrdGo_of_return hk, hv, hq, Bool.not_true, Bool.false_eq_true, if_false]

end Kinds

theorem State.goReadsRow_of_uncorrectable {y : Nat} (hr : (s.cl cid).rowBefore (s.opRow cid w).1 = .uncorrectable y) :
    s.goReadsRow cid w = s.raiseFault 4 (FaultLoc.cluster s cid) ((s.opRow cid w).1 + mPort w * 2 ^ 16) 0 0 := by
  simp only [State.goReadsRow, hr]

theorem State.goReadsRow_of_clean {v : Nat} (hr : (s.cl cid).rowBefore (s.opRow cid w).1 = .clean v) :
    s.goReadsRow cid w =
      s.goReturns cid w (s.setCl cid { s.cl cid with memUse := (s.cl cid).period + 1 }) (s.opBits cid w v) := by
  simp only [State.goReadsRow, hr]

theorem State.goReadsRow_of_corrected {v : Nat} (hr : (s.cl cid).rowBefore (s.opRow cid w).1 = .corrected v) :
    s.goReadsRow cid w =
      (let used : Cluster := { s.cl cid with memUse := (s.cl cid).period + 1 }
       s.goReturns cid w
         (s.setCl cid (if (s.cl cid).unseen (s.opRow cid w).1 = [] then used.noteRow (s.opRow cid w).1 else used.count 9 1))
         (s.opBits cid w v)) := by
  simp only [State.goReadsRow, hr]

end MrdGo

/-- Settles O3: a form about to execute is its op with its port in use; an MRD GO then branches on the descriptor of its port and on the
check of its row. -/
theorem memoryOpsExecute : Obligations.MemoryOpsExecute := by
  intro s die pc bp w h cid o c u z k d a row e used give seen
  refine ⟨exec_mrdAddr_of_opReady h, exec_mwrAddr_of_opReady h, exec_mwrData_of_opReady h, exec_mwrGo_of_opReady h,
    fun hw hf hk => ?go⟩
  case go =>
    have hexec : exec (.mrdGo die pc bp) s = .next (z.mrdGo cid w) := exec_mrdGo_of_opReady h hw hf
    have hmemory (hv : dValid d = true) (hq : dQuarry d = false) : exec (.mrdGo die pc bp) s = .next (z.goReadsRow cid w) :=
      hexec.trans (congrArg _ (State.mrdGo_of_memory hk hv hq))
    clear_value z
    exact ⟨fun hv hq => hexec.trans (congrArg _ (State.mrdGo_of_quarry hk hv hq)),
      fun hv => hexec.trans (congrArg _ (State.mrdGo_of_no_descriptor hk hv)),
      fun hv hq y hr => (hmemory hv hq).trans (congrArg _ (State.goReadsRow_of_uncorrectable hr)),
      fun hv hq v hr => (hmemory hv hq).trans (congrArg _ (State.goReadsRow_of_clean hr)),
      fun hv hq v hr => (hmemory hv hq).trans (congrArg _ (State.goReadsRow_of_corrected hr))⟩

end Sys2Proof.Machine
end

section
/-!
PROOFS. One step-clock period of a cluster (R30, R33, R54, R81, R84, R87, R91, R92): what begins it, and what it is at each place of the
sequencer.
-/

namespace Sys2Proof.Machine

/-! ### A scheduled step -/

/-- The cluster as it has fetched its present step, the corrected entries noted (R54). -/
def State.fetched (s : State) (cid : Nat) : Cluster := (s.cl cid).noteFixes (activeBps (s.cl cid) (s.cl cid).step)

section Scheduled

variable {s : State} {cid : Nat}

theorem State.scheduledStep_of_badFetch {bp syn : Nat} (h : (s.fetched cid).badFetch = some (bp, syn)) :
    s.scheduledStep cid =
      (let f := s.setCl cid (s.fetched cid)
       let r := f.raiseFault 2 (FaultLoc.cluster f cid) (bp + (s.fetched cid).step * 2 ^ 16 + syn * 2 ^ 32) 0 0
       r.setCl cid { r.cl cid with period := (s.fetched cid).period + 1 }) := by
  unfold State.fetched at h
  simp only [State.scheduledStep, h]
  rfl

section Sound

variable (h : (s.fetched cid).badFetch = none)

include h

theorem State.scheduledStep_of_waiting {w : Nat × Nat} (hw : waitingOperand (s.fetched cid) (s.fetched cid).ops = some w) :
    s.scheduledStep cid = (s.setCl cid (s.fetched cid)).holdPeriod cid (some w) := by
  unfold State.fetched at h hw
  simp only [State.scheduledStep, h, hw]
  rfl

theorem State.scheduledStep_of_overflow (hw : waitingOperand (s.fetched cid) (s.fetched cid).ops = none)
    (ho : routeOverflow (s.fetched cid) (s.fetched cid).ops = true) :
    s.scheduledStep cid = (s.setCl cid (s.fetched cid)).holdPeriod cid none := by
  unfold State.fetched at h hw ho
  simp only [State.scheduledStep, h, hw, ho, if_true]
  rfl

theorem State.scheduledStep_of_goes (hw : waitingOperand (s.fetched cid) (s.fetched cid).ops = none)
    (ho : routeOverflow (s.fetched cid) (s.fetched cid).ops = false) :
    s.scheduledStep cid =
      (let u := (s.setCl cid (s.fetched cid)).execAll cid (s.fetched cid).ops
       u.setCl cid { u.cl cid with
         seq := if (u.cl cid).step + 1 ≥ u.depth then .commit else .runStep
         step := if (u.cl cid).step + 1 ≥ u.depth then 0 else (u.cl cid).step + 1
         period := (u.cl cid).period + 1
         done := []
         holdLen := 0 }) := by
  unfold State.fetched at h hw ho
  simp only [State.scheduledStep, h, hw, ho, Bool.false_eq_true, if_false]
  rfl

end Sound

end Scheduled

/-! ### The parts of a period -/

/-- What follows the landings of a period: writes that every port sees are forgotten (R136); where every partner runs, the cluster counts
towards its overrun, and the first of the Sluice set the wait after LOCAL_DONE (R91, R92). -/
def State.periodCounts (s : State) (cid : Nat) (run first : Bool) : State :=
  let c := s.cl cid
  let d := s.setCl cid { c with
    recent := c.recent.filter fun w => w.step + 1 ≥ c.step
    overrun := if run && c.seq != .atEnd then c.overrun + 1 else c.overrun }
  if run && first && d.sluice.localDone.isSome then { d with sluice := { d.sluice with waitCount := d.sluice.waitCount + 1 } } else d

/-- What begins a period: what is due lands (R33), and the counts go on. -/
def State.periodBegins (s : State) (cid : Nat) : State :=
  (s.landDue cid fun _ => true).periodCounts cid s.partnersRunning (s.sluiceSet.head? == some cid)

/-- What the rest of a period is at each place of the sequencer (R81). -/
def State.periodGoesOn (s : State) (cid : Nat) : State :=
  let next : Cluster := { s.cl cid with period := (s.cl cid).period + 1 }
  match (s.cl cid).seq with
  | .runStep => s.scheduledStep cid
  | .held => s.scheduledStep cid
  | .commit => s.overheadStep cid
  | .exchange => s.overheadStep cid
  | .drain => s.setCl cid { next with notice := next.noticeUp }
  | .atEnd => s.setCl cid next

section Period

variable {s : State} {cid : Nat}

theorem State.periodGoesOn_atEnd (h : (s.cl cid).seq = .atEnd) :
    s.periodGoesOn cid = s.setCl cid { s.cl cid with period := (s.cl cid).period + 1 } := by
  simp only [State.periodGoesOn, h]

theorem State.periodGoesOn_drain (h : (s.cl cid).seq = .drain) :
    s.periodGoesOn cid = s.setCl cid { s.cl cid with
      period := (s.cl cid).period + 1, notice := { s.cl cid with period := (s.cl cid).period + 1 }.noticeUp } := by
  simp only [State.periodGoesOn, h]

theorem State.periodGoesOn_overhead (h : (s.cl cid).seq = .commit ∨ (s.cl cid).seq = .exchange) :
    s.periodGoesOn cid = s.overheadStep cid := by
  rcases h with h | h <;> simp only [State.periodGoesOn, h]

theorem State.periodGoesOn_scheduled (h : (s.cl cid).seq = .runStep ∨ (s.cl cid).seq = .held) :
    s.periodGoesOn cid = s.scheduledStep cid := by
  rcases h with h | h <;> simp only [State.periodGoesOn, h]

end Period

/-! ### The command -/

/-- The state after the upsets of a period. -/
def State.upsetCl (s : State) (cid : Nat) (upsets : List Upset) : State := s.setCl cid ((s.cl cid).upset upsets)

/-- The cluster takes part in the period (R81, R85, R491). -/
def State.takesPart (s : State) (cid : Nat) : Bool := s.stepping && s.sluiceSet.contains cid && s.mayAct cid

theorem State.takesPart_iff {s : State} {cid : Nat} :
    s.takesPart cid = true ↔ s.stepping = true ∧ s.sluiceSet.contains cid = true ∧ s.mayAct cid = true := by
  simp only [State.takesPart, Bool.and_eq_true, and_assoc]

section Command

variable {s : State} {die : Die} {pc : Pc} {upsets : List Upset}

theorem exec_clusterStep_of_idle (h : (s.upsetCl (cidOf die pc) upsets).takesPart (cidOf die pc) = false) :
    exec (.clusterStep die pc upsets) s = .next (s.upsetCl (cidOf die pc) upsets) :=
  if_neg (Bool.eq_false_iff.mp h)

theorem exec_clusterStep_of_takesPart (h : (s.upsetCl (cidOf die pc) upsets).takesPart (cidOf die pc) = true) :
    exec (.clusterStep die pc upsets) s =
      .next (((s.upsetCl (cidOf die pc) upsets).periodBegins (cidOf die pc)).periodGoesOn (cidOf die pc)) := by
  change execClusterStep die pc upsets s = _
  unfold execClusterStep
  extract_lets cid a run first b _ _ _ _ begun k _
  refine (if_pos h).trans ?_
  change _ = Host.Outcome.next ((b.periodCounts cid run first).periodGoesOn cid)
  clear_value b run first
  have hbegun : b.periodCounts cid run first = begun := rfl
  rw [hbegun]
  clear_value begun
  have hk : begun.cl cid = k := rfl
  rw [State.periodGoesOn, hk]
  clear_value k
  rcases k with ⟨seq⟩
  cases seq <;> rfl

end Command

/-- Settles O5: a cluster that takes part begins its period and goes on as its sequencer stands; a scheduled step goes by its fetches, its
operands and its route ports. -/
theorem clusterPeriodPasses : Obligations.ClusterPeriodPasses := by
  intro s die pc upsets cid a
  refine ⟨fun hidle => ?idle, fun hs hm hc => ?takesPart⟩
  case idle =>
    refine exec_clusterStep_of_idle (Bool.eq_false_iff.mpr fun h => ?_)
    obtain ⟨hs, hm, hc⟩ := State.takesPart_iff.mp h
    rcases hidle with hidle | hidle | hidle
    · exact Bool.eq_false_iff.mp hidle hs
    · exact Bool.eq_false_iff.mp hidle hm
    · exact Bool.eq_false_iff.mp hidle hc
  case takesPart =>
    intro b c d t k n f later
    have hexec : exec (.clusterStep die pc upsets) s = .next ((a.periodBegins cid).periodGoesOn cid) :=
      exec_clusterStep_of_takesPart (State.takesPart_iff.mpr ⟨hs, hm, hc⟩)
    have hbegun : a.periodBegins cid = t := rfl
    rw [hbegun] at hexec
    clear_value t
    refine ⟨fun hq => ?atEnd, fun hq => ?drain, fun hq => ?overhead, fun hq => ?scheduled⟩
    case atEnd => exact hexec.trans (congrArg _ (State.periodGoesOn_atEnd hq))
    case drain => exact hexec.trans (congrArg _ (State.periodGoesOn_drain hq))
    case overhead => exact hexec.trans (congrArg _ (State.periodGoesOn_overhead hq))
    case scheduled =>
      rw [State.periodGoesOn_scheduled hq] at hexec
      exact ⟨fun bp syn hb => hexec.trans (congrArg _ (State.scheduledStep_of_badFetch hb)),
        fun hb w hw => hexec.trans (congrArg _ (State.scheduledStep_of_waiting hb hw)),
        fun hb hw ho => hexec.trans (congrArg _ (State.scheduledStep_of_overflow hb hw ho)),
        fun hb hw ho => hexec.trans (congrArg _ (State.scheduledStep_of_goes hb hw ho))⟩

end Sys2Proof.Machine
end

section
/-!
PROOFS. Quarry requests (R43, R120, R122, R137, R142, R144, R145, R151): they leave under a tag, are served and return; banks refresh, and
the patrol goes on.
-/

namespace Sys2Proof.Machine

/-! ### The bits of a return -/

/-- Route entry `e` of a cluster, as stored with its check bits. -/
def Cluster.routeEntry (c : Cluster) (e : Nat) : Nat := mnat c.node (nRoute (e % 16384)) 9

/-- An entry of a return map: clean and of the return kind (Table 03-7, R55). -/
def isReturnEntry (v : Nat) : Prop := eccCheck 64 (v % 2 ^ 64) (v / 2 ^ 64) = .clean (v % 2 ^ 64) ∧ rKind (v % 2 ^ 64) = 2

theorem State.readRoute_of_clean {s : State} {cid e : Nat}
    (h : eccCheck 64 ((s.cl cid).routeEntry e % 2 ^ 64) ((s.cl cid).routeEntry e / 2 ^ 64) = .clean ((s.cl cid).routeEntry e % 2 ^ 64)) :
    s.readRoute cid e = (s, some ((s.cl cid).routeEntry e % 2 ^ 64)) := by
  unfold Cluster.routeEntry at h
  simp only [State.readRoute, State.readRouteAt, h]
  rfl

/-- The delivery of bit `i` of a return through entry `e + i` (R60, R76). -/
def Cluster.returnBit (c : Cluster) (e val due : Nat) (src : DelivSrc) (stamp : Bool) (i : Nat) : Deliv :=
  ⟨due, src, true, rBp (c.routeEntry (e + i) % 2 ^ 64), rInbox (c.routeEntry (e + i) % 2 ^ 64), val.testBit i, stamp⟩

/-- The cluster with `l` behind its deliveries in flight. -/
def Cluster.sends (c : Cluster) (l : List Deliv) : Cluster := { c with inflight := c.inflight ++ l }

theorem Cluster.sends_sends (c : Cluster) (l r : List Deliv) : (c.sends l).sends r = c.sends (l ++ r) := by
  simp [Cluster.sends]

@[simp] theorem Cluster.sends_routeEntry (c : Cluster) (l : List Deliv) : (c.sends l).routeEntry = c.routeEntry := rfl

theorem State.returnBits_succ {s : State} {cid e : Nat} (val due : Nat) (src : DelivSrc) (stamp : Bool) (n : Nat)
    (h : isReturnEntry ((s.cl cid).routeEntry e)) :
    s.returnBits cid e val due src stamp (n + 1) =
      (s.setCl cid ((s.cl cid).sends [(s.cl cid).returnBit e val due src stamp 0])).returnBits cid (e + 1) (val / 2) due src stamp n := by
  obtain ⟨hclean, hkind⟩ := h
  simp only [State.returnBits, State.readRoute_of_clean hclean, hkind]
  rfl

/-- The bits behind the first are those of the half value from the next entry on. -/
theorem Cluster.returnBit_sends_succ (c : Cluster) (l : List Deliv) (e val due : Nat) (src : DelivSrc) (stamp : Bool) (i : Nat) :
    (c.sends l).returnBit (e + 1) (val / 2) due src stamp i = c.returnBit e val due src stamp (i + 1) := by
  simp only [Cluster.returnBit, Cluster.sends_routeEntry, Nat.testBit_succ, Nat.add_assoc, Nat.add_comm 1 i]

/-- R60, R76, R137: through return entries, bit `i` of a return goes with entry `e + i`, and nothing else changes. -/
theorem State.returnBits_of_returnEntries {s : State} {cid e : Nat} (val due : Nat) (src : DelivSrc) (stamp : Bool) {n : Nat} (hn : 0 < n)
    (h : ∀ i, i < n → isReturnEntry ((s.cl cid).routeEntry (e + i))) :
    s.returnBits cid e val due src stamp n =
      s.setCl cid ((s.cl cid).sends ((List.range n).map ((s.cl cid).returnBit e val due src stamp))) := by
  induction n generalizing s e val with
  | zero => exact absurd hn (Nat.lt_irrefl 0)
  | succ n ih =>
    have hfirst : isReturnEntry ((s.cl cid).routeEntry e) := h 0 (Nat.succ_pos n)
    rw [State.returnBits_succ val due src stamp n hfirst]
    rcases n.eq_zero_or_pos with rfl | hn
    · rw [List.range_one, List.map_singleton, State.returnBits]
    · have hrest (i : Nat) (hi : i < n) : isReturnEntry ((s.cl cid).routeEntry (e + 1 + i)) := by
        have hnext := h (i + 1) (Nat.succ_lt_succ hi)
        rwa [Nat.add_comm i, ← Nat.add_assoc] at hnext
      rw [ih _ hn (by simpa only [State.cl_setCl_same, Cluster.sends_routeEntry] using hrest), State.cl_setCl_same,
        State.setCl_setCl_same, Cluster.sends_sends, List.singleton_append, List.range_succ_eq_map, List.map_cons, List.map_map,
        List.map_congr_left fun i _ => Cluster.returnBit_sends_succ ..]
      rfl

/-! ### The head of a Quarry queue leaves -/

section Leave

variable {s : State} {die : Die} {pc : Pc}

theorem exec_quarryRequestSend_of_empty (hw : s.clockWait = false) (hq : quarryHead (s.cl (cidOf die pc)).quarryQ = none) :
    exec (.quarryRequestSend die pc) s = .next s := by
  change execQuarryRequestSend die pc s = _
  simp only [execQuarryRequestSend, hw, hq, Bool.false_eq_true, if_false]

theorem exec_quarryRequestSend_of_tag (hw : s.clockWait = false) {r : QuarryReq}
    (hq : quarryHead (s.cl (cidOf die pc)).quarryQ = some r) {tag : Nat} {t : State}
    (ht : s.takeTag die (.quarry (cidOf die pc) { r with waited := false }) = some (tag, t)) :
    exec (.quarryRequestSend die pc) s =
      .next ((t.setCl (cidOf die pc)
        ({ s.cl (cidOf die pc) with quarryQ := (s.cl (cidOf die pc)).quarryQ.erase r }.count 5 1)).inject
          (t.quarryPacket (cidOf die pc) tag r)) := by
  change execQuarryRequestSend die pc s = _
  simp only [execQuarryRequestSend, hw, hq, ht, Bool.false_eq_true, if_false]

theorem exec_quarryRequestSend_of_no_tag (hw : s.clockWait = false) {r : QuarryReq}
    (hq : quarryHead (s.cl (cidOf die pc)).quarryQ = some r)
    (ht : s.takeTag die (.quarry (cidOf die pc) { r with waited := false }) = none) :
    exec (.quarryRequestSend die pc) s =
      if r.waited then .next s
      else .next ((s.setCl (cidOf die pc) ({ s.cl (cidOf die pc) with
        quarryQ := (s.cl (cidOf die pc)).quarryQ.map fun x => if x = r then { r with waited := true } else x }.count 6 1)).bump
          O.TAG_WAITS 1) := by
  change execQuarryRequestSend die pc s = _
  simp only [execQuarryRequestSend, hw, hq, ht, Bool.false_eq_true, if_false]

end Leave

/-! ### A controller serves it -/

section Serve

variable {s : State} {stack : Fin 4} {i : Nat} {check : WordCheck} {p : Packet} (hw : s.clockWait = false)
  (hp : s.net.arrived[i]? = some p)

include hw hp

theorem exec_quarryServe_of_cannot_answer (h : s.canAnswer p = false) : exec (.quarryServe stack i check) s = .next s := by
  change execQuarryServe stack i check s = _
  simp only [execQuarryServe, hw, hp, h, Bool.and_false, Bool.false_eq_true, if_false]

theorem exec_quarryServe_of_oldest (hq : s.isQuarry stack p = true)
    (hold : ∀ q ∈ s.net.arrived.take i, s.isQuarry stack q = true → q.addr ≠ p.addr)
    (hr : 4 * Config.hbmBank p.addr + stack ∉ s.hbm.refreshing) (hs : s.hbm.selfRefresh = false) (h : s.canAnswer p = true) :
    exec (.quarryServe stack i check) s =
      (let t : State := { s with net := { s.net with arrived := s.net.arrived.eraseIdx i }
                                 hbm := { s.hbm with waited := s.hbm.waited.erase p.tag } }
       .next (if p.poison then t else t.serveQuarry p check)) := by
  have hfirst : ((s.net.arrived.take i).any fun q => s.isQuarry stack q && q.addr == p.addr) = false := by
    simpa only [List.any_eq_false, Bool.and_eq_true, beq_iff_eq, not_and] using hold
  have hbank : s.hbm.refreshing.contains (4 * Config.hbmBank p.addr + stack) = false := by simpa using hr
  change execQuarryServe stack i check s = _
  simp only [execQuarryServe, hw, hp, hq, hfirst, hbank, hs, h, Bool.not_false, Bool.and_self, Bool.false_eq_true, if_false, if_true]

end Serve

/-! ### Its response returns -/

/-- R137: the return bus gives no place before the one asked for. -/
theorem busSlot_ge (last : Nat × Nat) (due w : Nat) : due ≤ (busSlot last due w).1 := by
  unfold busSlot
  split
  · exact Nat.le_refl due
  · split <;> (dsimp only; omega)

/-- The state in which the bits of the first response at a cluster's return path go to INBOX. -/
def State.returning (s : State) (cid : Nat) (r : QuarryRet) (rest : List QuarryRet) : State :=
  let b := s.returnDue cid r
  let t := s.setCl cid { s.cl cid with returns := rest, retBus := tput (fun _ => (0, 0)) (s.cl cid).retBus r.req.port b }
  (if b.1 > r.req.issued + s.lat 11 then t.bump O.QRY_LATE 1 else t).raise O.QRY_LAT_MAX (u32 (b.1 - r.req.issued))

section Return

variable {s : State} {die : Die} {pc : Pc} (hw : s.clockWait = false)

include hw

theorem exec_quarryReturn_of_empty (hr : (s.cl (cidOf die pc)).returns = []) : exec (.quarryReturn die pc) s = .next s := by
  change execQuarryReturn die pc s = _
  simp only [execQuarryReturn, hw, hr, Bool.false_eq_true, if_false]

theorem exec_quarryReturn_of_cons {r : QuarryRet} {rest : List QuarryRet} (hr : (s.cl (cidOf die pc)).returns = r :: rest) :
    exec (.quarryReturn die pc) s =
      (let v := s.returning (cidOf die pc) r rest
       .next (v.returnBits (cidOf die pc) r.req.ret r.val ((s.returnDue (cidOf die pc) r).1 - v.sluice.base) .quarry r.req.stamp
         r.req.width)) := by
  change execQuarryReturn die pc s = _
  simp only [execQuarryReturn, hw, hr, Bool.false_eq_true, if_false, State.returning, State.raise_sluice]
  rfl

end Return

/-! ### Refresh and patrol -/

section Refresh

variable {s : State} {stack : Fin 4} {bank : Nat} (hw : s.clockWait = false)

include hw

theorem exec_bankRefresh_begin : exec (.bankRefresh stack bank true) s =
    .next { s with hbm := { s.hbm with
      refreshing := if s.hbm.refreshing.contains (4 * bank + stack) then s.hbm.refreshing
        else (4 * bank + stack) :: s.hbm.refreshing } } := by
  change execBankRefresh stack bank true s = _
  simp only [execBankRefresh, hw, Bool.false_eq_true, if_false, if_true]

theorem exec_bankRefresh_end_of_not_refreshing (h : 4 * bank + stack ∉ s.hbm.refreshing) :
    exec (.bankRefresh stack bank false) s = .next s := by
  change execBankRefresh stack bank false s = _
  simp [execBankRefresh, hw, h]

theorem exec_bankRefresh_end_of_refreshing (h : 4 * bank + stack ∈ s.hbm.refreshing) :
    exec (.bankRefresh stack bank false) s =
      (let w := (s.net.arrived.filter fun p =>
         s.isQuarry stack p && Config.hbmBank p.addr == bank && ! s.hbm.waited.contains p.tag).map Packet.tag
       .next (State.bump { s with hbm := { s.hbm with
         refreshing := s.hbm.refreshing.erase (4 * bank + stack), waited := s.hbm.waited ++ w } } O.REFRESH_WAITS w.length)) := by
  have hb : s.hbm.refreshing.contains (4 * bank + stack) = true := by simpa using h
  change execBankRefresh stack bank false s = _
  simp only [execBankRefresh, hw, hb, Bool.false_eq_true, if_false, if_true]

theorem exec_hbmPatrolScrub (addr : BitVec 37) (check : WordCheck) (passDone : Bool) :
    exec (.hbmPatrolScrub addr check passDone) s =
      (let t := if passDone then s.bump O.HBM_SCRUB_PASSES 1 else s
       .next (if addr.toNat < 96 * 2 ^ 30 then
         (match check with | .clean => t | .corrected => t.bump O.HBM_CORRECTED 1 | .uncorrectable => t.hbmBad addr.toNat) else t)) := by
  change execHbmPatrolScrub addr check passDone s = _
  unfold execHbmPatrolScrub
  rw [if_neg (Bool.eq_false_iff.mp hw)]
  extract_lets t
  by_cases ha : addr.toNat < 96 * 2 ^ 30
  · rw [if_neg (Nat.not_le.mpr ha), if_pos ha]
    cases check <;> rfl
  · rw [if_pos (Nat.not_lt.mp ha), if_neg ha]

end Refresh

/-- Settles O13: each command branches once, on the head of its queue, on the tag, on the bank or on the word met; a response's bits go
through its return map no earlier than its nominal period and the third after it reached the router. -/
theorem quarryAndHbmServe : Obligations.QuarryAndHbmServe := by
  intro s die pc hw cid c
  refine ⟨exec_quarryRequestSend_of_empty hw, fun r hq => ⟨fun tag t => exec_quarryRequestSend_of_tag hw hq, fun ht => ?noTag⟩,
    fun stack i check p hp hq hold hr hs => ⟨exec_quarryServe_of_cannot_answer hw hp, exec_quarryServe_of_oldest hw hp hq hold hr hs⟩,
    exec_quarryReturn_of_empty hw, fun r rest hr => ?returned, fun stack bank => ?refresh,
    fun addr check passDone => exec_hbmPatrolScrub hw addr check passDone⟩
  case noTag =>
    have hexec := exec_quarryRequestSend_of_no_tag hw hq ht
    exact ⟨fun h => hexec.trans (if_pos h), fun h => hexec.trans (if_neg (Bool.eq_false_iff.mp h))⟩
  case returned =>
    intro b due t u v
    have hexec : exec (.quarryReturn die pc) s =
      .next (v.returnBits cid r.req.ret r.val (due - v.sluice.base) .quarry r.req.stamp r.req.width) := exec_quarryReturn_of_cons hw hr
    refine ⟨busSlot_ge .., hexec, fun hn hentries => ?_⟩
    clear_value v
    rw [hexec, State.returnBits_of_returnEntries _ _ _ _ hn hentries]
    rfl
  case refresh =>
    intro b
    refine ⟨fun h => ?_, exec_bankRefresh_end_of_not_refreshing hw, fun h => ?_, exec_bankRefresh_end_of_refreshing hw⟩
    · rw [exec_bankRefresh_begin hw, if_neg (by simpa using h)]
    · rw [exec_bankRefresh_begin hw, if_pos (by simpa using h)]

end Sys2Proof.Machine
end

section
/-!
PROOFS. The bits of a memory return (R60, R76, R137).
-/

namespace Sys2Proof.Machine

/-- Settles O4: bit by bit, a return through entries of the return kind is one delivery more in flight. -/
theorem returnedBitsAreQueued : Obligations.ReturnedBitsAreQueued := by
  intro s cid e val due src stamp n hn entry hentries bit
  exact State.returnBits_of_returnEntries val due src stamp hn hentries

end Sys2Proof.Machine
end

section
/-!
PROOFS. The ops of a Boolean processor without memory (R31, R64–R66, R68–R70): what each class does in the state in which its BP is noted
as done, and that a NOP has no part in what holds its cluster.
-/

namespace Sys2Proof.Machine

theorem cidOf_div (die : Die) (pc : Pc) : cidOf die pc / 68 = die := by
  unfold cidOf
  omega

/-! ### What an op of each class does -/

section Classes

variable {s : State} {cid bp w : Nat}

theorem State.execOp_nop (hw : iClass w = .nop) : s.execOp cid bp w = s := by
  simp only [State.execOp, hw]

theorem State.execOp_lut (hw : iClass w = .lut) : s.execOp cid bp w = s.result cid bp w (lutResult (s.cl cid) bp w) := by
  simp only [State.execOp, hw, State.opLut]

theorem State.execOp_trg (hw : iClass w = .trg) :
    s.execOp cid bp w =
      (s.drive cid (.trg (cid / 68 * 4096 + field (iTt w) 0 12) (operand (s.cl cid) bp w 0))).result cid bp w
        (operand (s.cl cid) bp w 0) := by
  simp only [State.execOp, hw, State.opTrg]

theorem State.execOp_prb (hw : iClass w = .prb) :
    s.execOp cid bp w =
      (s.drive cid (.prb (cid / 68 * 16384 + field (iTt w) 0 14) (operand (s.cl cid) bp w 0))).result cid bp w
        (operand (s.cl cid) bp w 0) := by
  simp only [State.execOp, hw, State.opPrb]

theorem State.execOp_evt (hw : iClass w = .evt) :
    s.execOp cid bp w =
      (if operand (s.cl cid) bp w 0 then s.drive cid (.evt (field (iTt w) 0 14) (field (iSel w 3) 0 5)) else s).result cid bp w
        (operand (s.cl cid) bp w 0) := by
  simp only [State.execOp, hw, State.opEvt]

theorem State.execOp_asrt (hw : iClass w = .asrt) :
    s.execOp cid bp w =
      (if operand (s.cl cid) bp w 0 then s.drive cid (.asrt (iTt w) (cid / 68) ((s.lcOf cid).getD 0) bp) else s).result cid bp w
        (operand (s.cl cid) bp w 0) := by
  simp only [State.execOp, hw, State.opAsrt]

theorem State.execOp_cken (hw : iClass w = .cken) :
    s.execOp cid bp w = s.result cid bp w (s.sluice.enables.testBit (field (iTt w) 0 6)) := by
  simp only [State.execOp, hw, State.opCken]

theorem State.execOp_end (hw : iClass w = .stop) :
    s.execOp cid bp w =
      (let t := s.landLocal cid bp false
       t.setCl cid { t.cl cid with stopped := (t.cl cid).stopped ++ [bp] }) := by
  simp only [State.execOp, hw, State.opEnd]

end Classes

/-! ### The op that a BP has at its cluster's present step -/

section AtStep

variable {s : State} {die : Die} {pc : Pc} {bp : BpIx} {w : Nat}

/-- An op about to execute is executed by the command of its class. -/
theorem State.opAt_of_class {k : OpClass} (h : s.opReady die pc bp w) (hw : iClass w = k) :
    s.opAt die pc bp (fun x => iClass x == k) = .next ((s.opDone die pc bp).execOp (cidOf die pc) bp w) :=
  State.opAt_executes h (beq_iff_eq.mpr hw)

theorem State.opAt_of_no_op (f : Nat → Bool)
    (h : ((s.cl (cidOf die pc)).ops.find? fun o => o.1 == (bp : Nat)) = none) : s.opAt die pc bp f = .next s := by
  simp only [State.opAt, h]

theorem exec_nop_of_opReady (h : s.opReady die pc bp w) (hw : iClass w = .nop) :
    exec (.nop die pc bp) s = .next (s.opDone die pc bp) :=
  (State.opAt_of_class h hw).trans (congrArg _ (State.execOp_nop hw))

end AtStep

/-- Settles O1: an op about to execute is its class's op in the state in which its BP is noted as done. -/
theorem logicOpsExecute : Obligations.LogicOpsExecute := by
  intro s die pc bp w h cid u v
  have executed {k : OpClass} (hw : iClass w = k) : s.opAt die pc bp (fun x => iClass x == k) = .next (u.execOp cid bp w) :=
    State.opAt_of_class h hw
  have hdie : cid / 68 = die := cidOf_div die pc
  refine ⟨fun hw => exec_nop_of_opReady h hw, fun hw => ?lut, fun hw => ?trg, fun hw => ?prb, fun hw => ?evt, fun hw => ?asrt,
    fun hw => ?cken, fun hw => ?stop⟩
  case lut => exact (executed hw).trans (congrArg _ (State.execOp_lut hw))
  case trg => exact (executed hw).trans (by rw [State.execOp_trg hw, hdie])
  case prb => exact (executed hw).trans (by rw [State.execOp_prb hw, hdie])
  case evt => exact (executed hw).trans (congrArg _ (State.execOp_evt hw))
  case asrt => exact (executed hw).trans (by rw [State.execOp_asrt hw, hdie])
  case cken => exact (executed hw).trans (congrArg _ (State.execOp_cken hw))
  case stop => exact (executed hw).trans (congrArg _ (State.execOp_end hw))

/-! ### A NOP holds nothing -/

/-- The ops of a step wait in their order. -/
theorem waitingOperand_append (c : Cluster) (l r : List (Nat × Nat)) :
    waitingOperand c (l ++ r) = (waitingOperand c l).or (waitingOperand c r) := by
  induction l with
  | nil => rfl
  | cons o l ih =>
    simp only [List.cons_append, waitingOperand]
    split
    · rfl
    · exact ih

theorem waitingOperand_of_nop (c : Cluster) (bp : Nat) {w : Nat} (hw : iClass w = .nop) : waitingOperand c [(bp, w)] = none := by
  have hdep : dependents w = [] := by simp only [dependents, hw]
  rw [waitingOperand_single, hdep]
  rfl

theorem usesRoute_of_nop {w : Nat} (hw : iClass w = .nop) : usesRoute w = false := by
  simp only [usesRoute, hw, Bool.and_false]

/-- An op whose result goes through no route fills no route port. -/
theorem routeOverflow_of_no_route (c : Cluster) (l r : List (Nat × Nat)) (bp : Nat) {w : Nat} (hw : usesRoute w = false) :
    routeOverflow c (l ++ (bp, w) :: r) = routeOverflow c (l ++ r) := by
  simp only [routeOverflow, List.filter_append, List.filter_cons, hw, Bool.and_false, Bool.false_eq_true, if_false]

/-- Settles O58: a NOP is executed with no effect, an all-zero word is no op at all, and neither an operand nor a route read of a NOP
is among those that hold a step. -/
theorem nopDoesNothing : Obligations.NopDoesNothing := by
  intro s die pc bp w hw
  refine ⟨fun h => exec_nop_of_opReady h hw, State.opAt_of_no_op _, fun c b before after => ⟨?operands, ?routes⟩⟩
  case operands =>
    rw [← List.singleton_append, waitingOperand_append, waitingOperand_append, waitingOperand_of_nop c b hw, Option.none_or,
      ← waitingOperand_append]
  case routes => exact routeOverflow_of_no_route c before after b (usesRoute_of_nop hw)

end Sys2Proof.Machine
end

section
/-!
PROOFS. What a cluster does for itself (R54, R55, R79, R82, R112, R138, R139): its DC ends, entries and rows that were corrected are
rewritten, and the scrub goes on.
-/

namespace Sys2Proof.Machine

/-! ### The end of a DC -/

section End

variable {s : State} {die : Die} {pc : Pc}

theorem exec_clusterEnd_of_drained
    (h : (s.cl (cidOf die pc)).seq = .drain ∧ (s.cl (cidOf die pc)).longestPort = 0 ∧ s.stepping = true) :
    exec (.clusterEnd die pc) s =
      (let c := s.cl (cidOf die pc)
       .next ((s.setCl (cidOf die pc) { c with
         seq := .atEnd, endPeriod := some c.period, notice := true
         gather := c.gather.filter fun g => g.2.any fun x => c.flitWhole g.1 x }).bump O.SLOT_DISCARDS
           (c.gather.filter fun g => g.2.any fun x => ! c.flitWhole g.1 x).length)) := by
  obtain ⟨hseq, hport, hstep⟩ := h
  exact if_pos (by simp [hseq, hport, hstep])

theorem exec_clusterEnd_of_not_drained
    (h : ¬ ((s.cl (cidOf die pc)).seq = .drain ∧ (s.cl (cidOf die pc)).longestPort = 0 ∧ s.stepping = true)) :
    exec (.clusterEnd die pc) s = .next s :=
  if_neg (by simpa [and_assoc] using h)

end End

/-! ### Corrected entries -/

/-- A stored word of `width` bits at `a`, in `n` bytes with its check bits, rewritten where they correct it (R54, R55). -/
def rewriteEntry (width n a : Nat) (m : Memory) : Memory :=
  match eccCheck width (mnat m a n % 2 ^ width) (mnat m a n / 2 ^ width) with
  | .corrected d => mputNat m a n (d + checkBits width d * 2 ^ width)
  | _ => m

theorem rewriteEntry_of_corrected {width n a d : Nat} {m : Memory}
    (h : eccCheck width (mnat m a n % 2 ^ width) (mnat m a n / 2 ^ width) = .corrected d) :
    rewriteEntry width n a m = mputNat m a n (d + checkBits width d * 2 ^ width) := by
  simp only [rewriteEntry, h]

/-- A node with the noted instruction entries rewritten, then the noted route entries. -/
def Cluster.nodeRewritten (c : Cluster) : Memory :=
  c.fixRoute.foldl (fun m e => rewriteEntry 64 9 (nRoute e) m) (c.fixInstr.foldl (fun m a => rewriteEntry 80 11 (a * 16) m) c.node)

section Entries

variable {s : State} {die : Die} {pc : Pc} (hw : s.clockWait = false)

include hw

theorem exec_eccRewrite_of_not_exchange (h : (s.cl (cidOf die pc)).seq ≠ .exchange) : exec (.eccRewrite die pc) s = .next s := by
  change execEccRewrite die pc s = _
  simp only [execEccRewrite, hw, h, Bool.false_eq_true, if_false]

theorem exec_eccRewrite_of_exchange (h : (s.cl (cidOf die pc)).seq = .exchange) :
    exec (.eccRewrite die pc) s =
      .next (s.setCl (cidOf die pc) { s.cl (cidOf die pc) with
        node := (s.cl (cidOf die pc)).nodeRewritten, fixInstr := [], fixRoute := [] }) := by
  change execEccRewrite die pc s = _
  simp only [execEccRewrite, hw, h, Bool.false_eq_true, if_false, if_true]
  rfl

end Entries

/-! ### Rows of design memory -/

/-- What keeps the period from a row's rewrite and from the scrub: a port touches the memory, or the cluster has no power (R138, R139). -/
theorem State.memory_taken_iff {s : State} {cid : Nat} :
    (! (s.cl cid).memFree || decide (s.port cid ≠ 0)) = true ↔ (s.cl cid).memFree = false ∨ s.port cid ≠ 0 := by
  rw [Bool.or_eq_true, Bool.not_eq_true', decide_eq_true_eq]

section Rows

variable {s : State} {die : Die} {pc : Pc} (hw : s.clockWait = false)

include hw

theorem exec_rowRewrite_of_none (h : (s.cl (cidOf die pc)).fixRows = []) : exec (.rowRewrite die pc) s = .next s := by
  change execRowRewrite die pc s = _
  simp only [execRowRewrite, hw, h, Bool.false_eq_true, if_false]

theorem exec_rowRewrite_of_busy (h : (s.cl (cidOf die pc)).memFree = false ∨ s.port (cidOf die pc) ≠ 0) :
    exec (.rowRewrite die pc) s = .next s := by
  change execRowRewrite die pc s = _
  simp only [execRowRewrite, hw, State.memory_taken_iff.mpr h, Bool.false_eq_true, if_false, if_true]
  split <;> rfl

theorem exec_rowRewrite_of_corrected {row v : Nat} {rest : List Nat} (hm : (s.cl (cidOf die pc)).memFree = true)
    (hp : s.port (cidOf die pc) = 0) (hr : (s.cl (cidOf die pc)).fixRows = row :: rest)
    (hv : (s.cl (cidOf die pc)).rowCheck row = .corrected v) :
    exec (.rowRewrite die pc) s =
      .next (s.setCl (cidOf die pc) ({ s.cl (cidOf die pc) with fixRows := rest }.putRow row v)) := by
  have hrest : { s.cl (cidOf die pc) with fixRows := rest }.rowCheck row = .corrected v := hv
  change execRowRewrite die pc s = _
  simp [execRowRewrite, hw, hm, hp, hr, hrest]

end Rows

/-! ### The scrub -/

/-- The cluster with its scrub at the next row, and a pass counted behind the last (R139). -/
def Cluster.scrubNext (c : Cluster) : Cluster :=
  let d := { c with scrubRow := (c.scrubRow + 1) % 65536 }
  if c.scrubRow = 65535 then d.count 10 1 else d

@[simp] theorem Cluster.scrubNext_rowCheck (c : Cluster) (row : Nat) : c.scrubNext.rowCheck row = c.rowCheck row := by
  unfold Cluster.scrubNext
  split <;> rfl

@[simp] theorem Cluster.scrubNext_fixRows (c : Cluster) : c.scrubNext.fixRows = c.fixRows := by
  unfold Cluster.scrubNext
  split <;> rfl

/-- One row read by the scrub: clean, corrected and rewritten, or a memory fault. -/
def State.scrubOne (s : State) (cid : Nat) : State :=
  let row := (s.cl cid).scrubRow
  let c := (s.cl cid).scrubNext
  match c.rowCheck row with
  | .clean _ => s.setCl cid c
  | .corrected v => s.setCl cid { (c.count 9 1).putRow row v with fixRows := c.fixRows.filter (· != row) }
  | .uncorrectable _ => (s.setCl cid c).raiseFault 4 (FaultLoc.cluster s cid) (row + 2 ^ 18) 0 0

section Scrub

variable {s : State} {cid : Nat}

theorem State.scrubOne_of_clean {v : Nat} (h : (s.cl cid).rowCheck (s.cl cid).scrubRow = .clean v) :
    s.scrubOne cid = s.setCl cid (s.cl cid).scrubNext := by
  simp only [State.scrubOne, Cluster.scrubNext_rowCheck, h]

theorem State.scrubOne_of_corrected {v : Nat} (h : (s.cl cid).rowCheck (s.cl cid).scrubRow = .corrected v) :
    s.scrubOne cid = s.setCl cid { ((s.cl cid).scrubNext.count 9 1).putRow (s.cl cid).scrubRow v with
      fixRows := (s.cl cid).fixRows.filter (· != (s.cl cid).scrubRow) } := by
  simp only [State.scrubOne, Cluster.scrubNext_rowCheck, Cluster.scrubNext_fixRows, h]

theorem State.scrubOne_of_uncorrectable {y : Nat} (h : (s.cl cid).rowCheck (s.cl cid).scrubRow = .uncorrectable y) :
    s.scrubOne cid =
      (s.setCl cid (s.cl cid).scrubNext).raiseFault 4 (FaultLoc.cluster s cid) ((s.cl cid).scrubRow + 2 ^ 18) 0 0 := by
  simp only [State.scrubOne, Cluster.scrubNext_rowCheck, h]

end Scrub

section Command

variable {s : State} {die : Die} {pc : Pc} (hw : s.clockWait = false)

include hw

theorem exec_memoryScrub_of_busy (h : (s.cl (cidOf die pc)).memFree = false ∨ s.port (cidOf die pc) ≠ 0) :
    exec (.memoryScrub die pc) s = .next s := by
  change execMemoryScrub die pc s = _
  simp only [execMemoryScrub, hw, State.memory_taken_iff.mpr h, Bool.false_eq_true, if_false, if_true]

theorem exec_memoryScrub_of_free (hm : (s.cl (cidOf die pc)).memFree = true) (hp : s.port (cidOf die pc) = 0) :
    exec (.memoryScrub die pc) s = .next (s.scrubOne (cidOf die pc)) := by
  have hfree : ¬ (! (s.cl (cidOf die pc)).memFree || decide (s.port (cidOf die pc) ≠ 0)) = true := by simp [hm, hp]
  change execMemoryScrub die pc s = _
  unfold execMemoryScrub State.scrubOne
  rw [if_neg (Bool.eq_false_iff.mp hw)]
  refine (if_neg hfree).trans ?_
  extract_lets row _ c d
  have hc : c = d := rfl
  clear_value c d
  subst hc
  cases c.rowCheck row <;> rfl

end Command

/-- Settles O7: each upkeep command branches once, on the place of the sequencer, on the use of the memory or on the check of what it
reads. -/
theorem clusterUpkeepCompletes : Obligations.ClusterUpkeepCompletes := by
  intro s die pc cid c
  refine ⟨exec_clusterEnd_of_drained, exec_clusterEnd_of_not_drained, fun hw => ⟨if_pos hw, if_pos hw, if_pos hw⟩, fun hw =>
    ⟨exec_eccRewrite_of_not_exchange hw, fun hx => ⟨c.nodeRewritten, exec_eccRewrite_of_exchange hw hx, ?noEntry, ?instr, ?route⟩,
      ?rowStays, exec_memoryScrub_of_busy hw, fun row r v => exec_rowRewrite_of_corrected hw, fun hm hp => ?scrub⟩⟩
  case noEntry =>
    intro hi hr
    rw [Cluster.nodeRewritten, hi, hr]
    rfl
  case instr =>
    intro a v hi hr hv
    rw [Cluster.nodeRewritten, hi, hr]
    exact rewriteEntry_of_corrected hv
  case route =>
    intro e v hi hr hv
    rw [Cluster.nodeRewritten, hi, hr]
    exact rewriteEntry_of_corrected hv
  case rowStays =>
    rintro (hnone | hbusy)
    · exact exec_rowRewrite_of_none hw hnone
    · exact exec_rowRewrite_of_busy hw hbusy
  case scrub =>
    have hexec : exec (.memoryScrub die pc) s = .next (s.scrubOne cid) := exec_memoryScrub_of_free hw hm hp
    exact ⟨fun v hv => hexec.trans (congrArg _ (State.scrubOne_of_clean hv)),
      fun v hv => hexec.trans (congrArg _ (State.scrubOne_of_corrected hv)),
      fun y hy => hexec.trans (congrArg _ (State.scrubOne_of_uncorrectable hy))⟩

end Sys2Proof.Machine
end

section
/-!
PROOFS. The ports of a cluster (R78, R80, R106–R111, R113, R114, R131): what a route port, the link of the cluster's router and a landing
port each do with the first of what waits at them.
-/

namespace Sys2Proof.Machine

/-! ### What a route read does with its entry -/

/-- A read for a BP of its own cluster (R114): its bit joins the landing port of that BP's group. -/
def State.routeLands (s : State) (cid : Nat) (r : RouteRead) (d : Nat) : State :=
  let c := s.cl cid
  let b : LandBit := ⟨c.now + s.lat 3 - 1, true, rBp d, rInbox d, r.val, r.stamp⟩
  s.setCl cid { c with landQ := tupd (fun _ => []) c.landQ (rBp d / 32) (· ++ [b]) }

/-- A read for another cluster (R109, R110): its bit joins the gather buffer of its SLOT, in period `now`. -/
def State.routeGathers (s : State) (cid : Nat) (r : RouteRead) (d now : Nat) : State :=
  let c := s.cl cid
  let x := gatherBit (tget (fun _ => none) c.gather (rSlot d)) r (rBit d) now
  s.setCl cid { c with gather := tput (fun _ => none) c.gather (rSlot d) (some x) }

section RouteRead

variable {s : State} {cid d : Nat} {r : RouteRead} (hd : s.readRouteAt cid r.entry (FaultLoc.executed s cid) = (s, some d))

include hd

theorem State.routeRead_of_no_delivery (hk : rKind d = 0) : s.routeRead cid r = s := by
  simp only [State.routeRead, hd, hk, if_true]

theorem State.routeRead_of_error (hk : rKind d ≠ 0) (h : rKind d ≠ 1 ∨ s.noTarget d = true) : s.routeRead cid r = s.astray := by
  have herror : (decide (rKind d ≠ 1) || s.noTarget d) = true := by simpa using h
  simp only [State.routeRead, hd, hk, herror, if_false, if_true]

section Delivered

variable (hk : rKind d = 1) (ht : s.noTarget d = false)

include hk ht

theorem State.routeRead_of_own (hm : rMod d = s.ownId) (hdie : rDie d = cid / 68) (hlc : s.lcOf cid = some (rLc d)) :
    s.routeRead cid r = s.routeLands cid r d := by
  simp [State.routeRead, State.routeLands, hd, hk, ht, hm, hdie, hlc]

theorem State.routeRead_of_other (h : ¬ (rMod d = s.ownId ∧ rDie d = cid / 68 ∧ s.lcOf cid = some (rLc d))) :
    s.routeRead cid r = (if s.gatherBad cid r d then s.astray else s).routeGathers cid r d (s.cl cid).now := by
  have hother : (decide (rMod d = s.ownId) && decide (rDie d = cid / 68) && decide (s.lcOf cid = some (rLc d))) = false := by
    simpa [and_assoc] using h
  simp [State.routeRead, State.routeGathers, hd, hk, ht, hother]

end Delivered

end RouteRead

/-! ### A route port -/

/-- The state in which a route port has taken the first of its reads. -/
def State.routeTaken (s : State) (cid g : Nat) (rest : List RouteRead) : State :=
  let c := s.cl cid
  s.setCl cid { c with
    routeQ := tput (fun _ => []) c.routeQ g rest, routeLast := tput (fun _ => 0) c.routeLast g c.period }

section RoutePort

variable {s : State} {die : Die} {pc : Pc} {g : GroupIx} {r : RouteRead} {rest : List RouteRead}

theorem exec_routePortRead_of_empty (hq : tget (fun _ => []) (s.cl (cidOf die pc)).routeQ g = []) :
    exec (.routePortRead die pc g) s = .next s := by
  change execRoutePortRead die pc g s = _
  simp [execRoutePortRead, hq]

theorem exec_routePortRead_of_later (hq : tget (fun _ => []) (s.cl (cidOf die pc)).routeQ g = r :: rest)
    (hi : (s.cl (cidOf die pc)).now < r.issued) : exec (.routePortRead die pc g) s = .next s := by
  change execRoutePortRead die pc g s = _
  simp [execRoutePortRead, hq, hi]

theorem exec_routePortRead_of_issued (ha : s.active (cidOf die pc) = true) (hs : (s.cl (cidOf die pc)).seq ≠ .atEnd)
    (hl : tget (fun _ => 0) (s.cl (cidOf die pc)).routeLast g ≠ (s.cl (cidOf die pc)).period)
    (hq : tget (fun _ => []) (s.cl (cidOf die pc)).routeQ g = r :: rest) (hi : r.issued ≤ (s.cl (cidOf die pc)).now) :
    exec (.routePortRead die pc g) s = .next ((s.routeTaken (cidOf die pc) g rest).routeRead (cidOf die pc) r) := by
  change execRoutePortRead die pc g s = _
  simp [execRoutePortRead, State.routeTaken, ha, hs, hl, hq, Nat.not_lt.mpr hi]

end RoutePort

/-! ### A slot flit leaves -/

/-- The state in which the output link `k` has had its period (R107). -/
def State.linkTried (s : State) (k : Nat) : State := s.setOutLink k { s.outLink k with last := s.period }

/-- The state in which the flit of a SLOT is on the link `k`: its gather buffer is empty, and a flit past its position is counted as
displaced (R110, R111). -/
def State.flitGone (s : State) (cid k slot : Nat) (onTime : Bool) : State :=
  let c := s.cl cid
  let t := (s.linkTried k).setCl cid { c with gather := tput (fun _ => none) c.gather slot none }
  if onTime then t else t.bump O.DISPLACED 1

/-- The word of a slot flit on the output link of a cluster's router, with its check (R106). -/
def State.flitSent (s : State) (die pc now : Nat) (f : Flit) : WordCheck → State
  | .clean => s.putFlit die (spineOf pc) (now + 2) (linkKey die (8 + pc) 0) f
  | .corrected => (s.bump O.LINK_CORRECTED 1).putFlit die (spineOf pc) (now + 2) (linkKey die (8 + pc) 0) f
  | .uncorrectable => s.linkFault die (8 + pc) 0 0

section FlitLeaves

variable {s : State} {die : Die} {pc : Pc} {slot : SlotIx} {check : WordCheck}

theorem exec_slotFlitLeave_of_not_first
    (h : s.active (cidOf die pc) = false ∨ s.linkBusy (linkKey die (8 + pc) 0) = true ∨
      (s.cl (cidOf die pc)).firstFlit (s.cl (cidOf die pc)).now ≠ some slot.val) :
    exec (.slotFlitLeave die pc slot check) s = .next s := by
  have hnot : (s.active (cidOf die pc) && ! s.linkBusy (linkKey die (8 + pc) 0) &&
      (s.cl (cidOf die pc)).firstFlit (s.cl (cidOf die pc)).now == some slot.val) = false := by
    rcases h with h | h | h <;> simp [h]
  change execSlotFlitLeave die pc slot check s = _
  simp only [execSlotFlitLeave, hnot, Bool.false_eq_true, if_false]
  split <;> rfl

section First

variable {x : Gather} (hx : tget (fun _ => none) (s.cl (cidOf die pc)).gather slot = some x) (ha : s.active (cidOf die pc) = true)
  (hb : s.linkBusy (linkKey die (8 + pc) 0) = false)
  (hf : (s.cl (cidOf die pc)).firstFlit (s.cl (cidOf die pc)).now = some slot.val)

include hx ha hb hf

theorem exec_slotFlitLeave_of_refused
    (hr : (s.linkTried (linkKey die (8 + pc) 0)).refusesFlit (.router die (spineOf pc)) (linkKey die (8 + pc) 0)
      (s.cl (cidOf die pc)).now (s.flitOf (cidOf die pc) slot (s.cl (cidOf die pc)).now x).onTime = true) :
    exec (.slotFlitLeave die pc slot check) s = .next (s.linkTried (linkKey die (8 + pc) 0)) := by
  unfold State.linkTried at hr
  change execSlotFlitLeave die pc slot check s = _
  simp only [execSlotFlitLeave, hx, ha, hb, hf, hr, Bool.not_false, Bool.and_self, beq_self_eq_true, if_true]
  rfl

theorem exec_slotFlitLeave_of_accepted
    (hr : (s.linkTried (linkKey die (8 + pc) 0)).refusesFlit (.router die (spineOf pc)) (linkKey die (8 + pc) 0)
      (s.cl (cidOf die pc)).now (s.flitOf (cidOf die pc) slot (s.cl (cidOf die pc)).now x).onTime = false) :
    exec (.slotFlitLeave die pc slot check) s =
      (let f := s.flitOf (cidOf die pc) slot (s.cl (cidOf die pc)).now x
       .next ((s.flitGone (cidOf die pc) (linkKey die (8 + pc) 0) slot f.onTime).flitSent die pc (s.cl (cidOf die pc)).now f check)) := by
  unfold State.linkTried at hr
  change execSlotFlitLeave die pc slot check s = _
  simp only [execSlotFlitLeave, hx, ha, hb, hf, hr, Bool.not_false, Bool.and_self, beq_self_eq_true, Bool.false_eq_true, if_false,
    if_true]
  cases check <;> rfl

end First

end FlitLeaves

/-! ### Landing -/

section Landing

variable {s : State} {die : Die} {pc : Pc}

theorem exec_slotFlitLand_of_empty (h : (s.cl (cidOf die pc)).arrived = []) : exec (.slotFlitLand die pc) s = .next s := by
  change execSlotFlitLand die pc s = _
  simp only [execSlotFlitLand, h]

theorem exec_slotFlitLand_of_cons {f : Flit} {rest : List Flit} (h : (s.cl (cidOf die pc)).arrived = f :: rest) :
    exec (.slotFlitLand die pc) s =
      (let c := { s.cl (cidOf die pc) with arrived := rest }
       .next (s.setCl (cidOf die pc) (if (mnat c.node (nLandTable f.key) 4).testBit 31 then c.landFlit f else c))) := by
  change execSlotFlitLand die pc s = _
  simp only [execSlotFlitLand, h]

theorem exec_landingPortWrite_of_ready {g : GroupIx} {b : LandBit} (ha : s.active (cidOf die pc) = true)
    (hl : tget (fun _ => 0) (s.cl (cidOf die pc)).landLast g ≠ (s.cl (cidOf die pc)).period)
    (hn : nextLanding (s.cl (cidOf die pc)).now (tget (fun _ => []) (s.cl (cidOf die pc)).landQ g) = some b) :
    exec (.landingPortWrite die pc g) s =
      (let c := s.cl (cidOf die pc)
       .next ((s.setCl (cidOf die pc) { c with
         landQ := tput (fun _ => []) c.landQ g ((tget (fun _ => []) c.landQ g).erase b)
         landLast := tput (fun _ => 0) c.landLast g c.period }).landOne (cidOf die pc)
           ⟨c.now, .route, true, b.bp, b.idx, b.val, b.stamp⟩)) := by
  change execLandingPortWrite die pc g s = _
  simp [execLandingPortWrite, ha, hl, hn]

end Landing

/-- Settles O8: a route port branches on the first of its reads and on the entry that this reads, a cluster's link on the flit that goes
first and on the check of its word; what has arrived goes by its KEY's entry, and a landing port writes the next of its bits. -/
theorem clusterPortsMove : Obligations.ClusterPortsMove := by
  intro s die pc g slot check cid c link lands
  refine ⟨fun ha hs hl => ⟨exec_routePortRead_of_empty, fun r rest => exec_routePortRead_of_later,
      fun r rest hq hi => ?issued⟩,
    fun x hx ha hb hf => ?first, exec_slotFlitLeave_of_not_first, exec_slotFlitLand_of_empty, fun f rest => exec_slotFlitLand_of_cons,
    fun b => exec_landingPortWrite_of_ready⟩
  case issued =>
    intro t now d hd
    have hexec : exec (.routePortRead die pc g) s = .next (t.routeRead cid r) := exec_routePortRead_of_issued ha hs hl hq hi
    clear_value t
    exact ⟨fun hk => hexec.trans (congrArg _ (State.routeRead_of_no_delivery hd hk)),
      fun hk h => hexec.trans (congrArg _ (State.routeRead_of_error hd hk h)),
      fun hk ht hm hdie hlc => hexec.trans (congrArg _ (State.routeRead_of_own hd hk ht hm hdie hlc)),
      fun hk ht h => hexec.trans (congrArg _ (State.routeRead_of_other hd hk ht h))⟩
  case first =>
    intro f a gone t onward
    refine ⟨exec_slotFlitLeave_of_refused hx ha hb hf, fun hr => ?_⟩
    have hexec : exec (.slotFlitLeave die pc slot check) s = .next (t.flitSent die pc c.now f check) :=
      exec_slotFlitLeave_of_accepted hx ha hb hf hr
    refine ⟨fun hc => ?_, fun hc => ?_, fun hc => ?_⟩
    all_goals
      rw [hexec, hc]
      rfl

end Sys2Proof.Machine
end

section
/-!
PROOFS. The Sluice (R88–R93, R491): local completion, the opening of the next DC, and the cycle overruns.
-/

namespace Sys2Proof.Machine

section Sluice

variable {s : State}

/-! ### Local completion -/

theorem State.localCompletes_of_isSome (h : s.sluice.localDone.isSome = true) : s.localCompletes = s := if_pos h

theorem exec_localCompletion_of_allAtEnd (hs : s.stepping = true) (ha : ∀ a, s.run.abandon = some a → a.opening = true)
    (hd : s.obj O.DEPTH ≠ 0) (he : s.allAtEnd = true) : exec .localCompletion s = .next s.localCompletes := by
  have hnone : s.run.abandon.any (fun a => ! a.opening) = false := by
    cases h : s.run.abandon with
    | none => rfl
    | some a => simp [ha a h]
  change execLocalCompletion s = _
  unfold execLocalCompletion
  cases hl : s.sluice.localDone.isSome with
  | true => simp [State.localCompletes_of_isSome hl]
  | false => simp [hs, hnone, hd, he]

theorem exec_localCompletion_of_not_allAtEnd
    (h : (∃ a, s.run.abandon = some a ∧ a.opening = false) ∨ s.obj O.DEPTH = 0 ∨ s.allAtEnd = false) :
    exec .localCompletion s = .next s := by
  refine if_pos ?_
  rcases h with ⟨a, ha, ho⟩ | h | h
  · simp [ha, ho]
  · simp [h]
  · simp [h]

/-! ### The opening -/

/-- The next DC is to open (R89): the exchange is done, the Sluice set stands at END and every partner's token was visible before. -/
structure State.OpeningDue (s : State) : Prop where
  stepping : s.stepping = true
  noAbandon : s.run.abandon = none
  deep : s.obj O.DEPTH ≠ 0
  exchanged : s.sluice.exchanged = true
  latched : s.sluice.latched = true
  ready : s.sluiceReady = true
  tokens : s.tokensVisible s.period = true

theorem exec_sluiceOpen_of_due (h : s.OpeningDue) : exec .sluiceOpen s = .next s.localCompletes.openNext.boundary :=
  if_neg (by simp [h.stepping, h.noAbandon, h.deep, h.exchanged, h.latched, h.ready, h.tokens])

theorem exec_sluiceOpen_of_not_due
    (h : s.run.abandon ≠ none ∨ s.sluice.exchanged = false ∨ s.sluice.latched = false ∨ s.sluiceReady = false ∨
      s.tokensVisible s.period = false) : exec .sluiceOpen s = .next s := by
  refine if_pos ?_
  rcases h with h | h | h | h | h <;> simp [h, Option.isSome_iff_ne_none]

/-! ### Cycle overruns -/

theorem exec_cycleOverrunLocal_of_abandon (h : s.run.abandon ≠ none) : exec .cycleOverrunLocal s = .next s :=
  if_pos (by simp [Option.isSome_iff_ne_none, h])

theorem exec_cycleOverrunPartner_of_abandon (h : s.run.abandon ≠ none) : exec .cycleOverrunPartner s = .next s :=
  if_pos (by simp [Option.isSome_iff_ne_none, h])

theorem exec_cycleOverrunLocal_of_none (h : s.overrunCluster (s.obj O.OVERRUN_LIMIT) = none) :
    exec .cycleOverrunLocal s = .next s := by
  change execCycleOverrunLocal s = _
  simp only [execCycleOverrunLocal, h, ite_self]

theorem exec_cycleOverrunLocal_of_some {c : Nat} (hs : s.stepping = true) (ha : s.run.abandon = none)
    (h : s.overrunCluster (s.obj O.OVERRUN_LIMIT) = some c) :
    exec .cycleOverrunLocal s =
      .next (s.raiseFault 1 (FaultLoc.cluster s c) 1 (if (s.cl c).seq = .held then (s.cl c).holdWhere
        else c / 68 * 2 ^ 38 + (s.lcOf c).getD 0 * 2 ^ 32 + min (s.cl c).step 1023 * 2 ^ 11) 0) := by
  have hruns : ¬ (! s.stepping || s.run.abandon.isSome) = true := by simp [hs, ha]
  change execCycleOverrunLocal s = _
  simp only [execCycleOverrunLocal, if_neg hruns, h]

theorem exec_cycleOverrunPartner_of_reached (hs : s.stepping = true) (ha : s.run.abandon = none) (hd : s.sluice.localDone ≠ none)
    (hw : s.obj O.OVERRUN_LIMIT ≤ s.sluice.waitCount) :
    exec .cycleOverrunPartner s = .next (s.raiseFault 1 FaultLoc.hub 2 s.missingTokens 0) :=
  if_neg (by simp [hs, ha, hd, Nat.not_lt.mpr hw])

theorem exec_cycleOverrunPartner_of_not_reached (h : s.sluice.localDone = none ∨ s.sluice.waitCount < s.obj O.OVERRUN_LIMIT) :
    exec .cycleOverrunPartner s = .next s := by
  refine if_pos ?_
  rcases h with h | h <;> simp [h]

end Sluice

/-- Settles O10: the Sluice completes once the set is at END, opens once its opening is due, and each overrun branches on the count that
it watches; an abandon stops the opening and the overruns. -/
theorem sluiceCompletesAndOpens : Obligations.SluiceCompletesAndOpens := by
  intro s hs e done
  have hdone : s.localCompletes = done := rfl
  clear_value done
  subst hdone
  exact ⟨exec_localCompletion_of_allAtEnd hs, exec_localCompletion_of_not_allAtEnd,
    fun ha hd hx hl hr ht => exec_sluiceOpen_of_due ⟨hs, ha, hd, hx, hl, hr, ht⟩, exec_sluiceOpen_of_not_due,
    fun ha => ⟨exec_cycleOverrunLocal_of_abandon ha, exec_cycleOverrunPartner_of_abandon ha⟩,
    fun ha => ⟨exec_cycleOverrunLocal_of_none, fun c => exec_cycleOverrunLocal_of_some hs ha,
      exec_cycleOverrunPartner_of_reached hs ha, exec_cycleOverrunPartner_of_not_reached⟩⟩

end Sys2Proof.Machine
end

section
/-!
PROOFS. The DC-done tokens of a link (R88, R224) and the end of an abandon (R491, R492, R501).
-/

namespace Sys2Proof.Machine

/-! ### The oldest due token of a link -/

/-- The link's token of `dc` no longer waits for the ORIGIN tag `t` (R88): the tag's flit is sent, or past the deadline that DONE_DRAIN
set none is queued. -/
def SeamLink.tagServed (k : SeamLink) (now dc deadline t : Nat) : Prop :=
  (dc, t) ∈ k.originSent ∨ (deadline < now ∧ ∀ e ∈ k.slotQ, ¬ (e.origin = true ∧ e.tag = t ∧ e.dc = dc))

/-- A link with its token of `dc` on the way and `rest` still due (R224). -/
def SeamLink.tokenSent (k : SeamLink) (dc : Nat) (rest : List (Nat × Nat)) : SeamLink :=
  { k with doneDue := rest, doneSent := some dc, originSent := k.originSent.filter fun e => e.1 != dc, ctrlQ := k.ctrlQ ++ [.dcDone dc] }

theorem SeamLink.tagServed_iff (k : SeamLink) (now dc deadline t : Nat) :
    (k.originSent.contains (dc, t) ||
      (decide (now > deadline) && ! k.slotQ.any fun e => e.origin && e.tag == t && e.dc == dc)) = true ↔
    k.tagServed now dc deadline t := by
  simp [SeamLink.tagServed, and_assoc]

section Token

variable {s : State} {link : LinkIx}

theorem exec_dcDoneSend_of_nil (h : (s.link link).doneDue = []) : exec (.dcDoneSend link) s = .next s := by
  change execDcDoneSend link s = _
  simp only [execDcDoneSend, h]

variable {dc deadline : Nat} {rest : List (Nat × Nat)} (hk : (s.link link).doneDue = (dc, deadline) :: rest)

include hk

theorem exec_dcDoneSend_of_served (ho : s.linkOpen link = true)
    (hr : ∀ t ∈ s.originTags link, (s.link link).tagServed s.period dc deadline t) :
    exec (.dcDoneSend link) s = .next (s.setLink link ((s.link link).tokenSent dc rest)) := by
  change execDcDoneSend link s = _
  simp only [execDcDoneSend, hk]
  refine if_pos ?_
  rw [Bool.and_eq_true, List.all_eq_true]
  exact ⟨fun t ht => (SeamLink.tagServed_iff ..).mpr (hr t ht), ho⟩

theorem exec_dcDoneSend_of_not_served
    (h : ¬ (s.linkOpen link = true ∧ ∀ t ∈ s.originTags link, (s.link link).tagServed s.period dc deadline t)) :
    exec (.dcDoneSend link) s = .next s := by
  change execDcDoneSend link s = _
  simp only [execDcDoneSend, hk]
  refine if_neg fun hgo => h ?_
  rw [Bool.and_eq_true, List.all_eq_true] at hgo
  obtain ⟨hall, ho⟩ := hgo
  exact ⟨ho, fun t ht => (SeamLink.tagServed_iff ..).mp (hall t ht)⟩

end Token

/-! ### The end of an abandon -/

section Abandon

variable {s : State} {a : Abandon} (ha : s.run.abandon = some a)

include ha

theorem exec_abandonOpening_of_allAtEnd (hw : s.clockWait = false) (ho : a.opening = true) (he : s.allAtEnd = true) :
    exec .abandonOpening s = .next (s.localCompletes.abandonOpens a) := by
  change execAbandonOpening s = _
  simp [execAbandonOpening, ha, ho, he, hw]

theorem exec_abandonOpening_of_not_allAtEnd (h : a.opening = false ∨ s.allAtEnd = false) :
    exec .abandonOpening s = .next s := by
  change execAbandonOpening s = _
  rcases h with h | h <;> simp [execAbandonOpening, ha, h]

theorem exec_abandonHold_of_quarryIdle (hw : s.clockWait = false) (ho : a.opening = false) (hq : s.quarryIdle = true)
    (hp : s.run.pause = none) :
    exec .abandonHold s = .next (let t := s.abandonEnds a; if t.clk.shutdown then t.shutdownGates else t) := by
  change execAbandonHold s = _
  simp [execAbandonHold, ha, ho, hq, hw, hp]

theorem exec_abandonHold_of_not_quarryIdle (h : a.opening = true ∨ s.quarryIdle = false ∨ s.run.pause ≠ none) :
    exec .abandonHold s = .next s := by
  change execAbandonHold s = _
  rcases h with h | h | h <;> simp [execAbandonHold, ha, h]

end Abandon

/-- Settles O11: the oldest token goes by whether every ORIGIN tag is served, an abandon by the DC that it abandons: the opening waits for
END, the hold for the Quarry. -/
theorem tokensAndAbandonsEnd : Obligations.TokensAndAbandonsEnd := by
  exact ⟨fun s link => ⟨exec_dcDoneSend_of_nil, fun dc deadline r hk =>
    ⟨exec_dcDoneSend_of_served hk, exec_dcDoneSend_of_not_served hk⟩⟩, fun s a ha hw =>
    ⟨exec_abandonOpening_of_allAtEnd ha hw, exec_abandonOpening_of_not_allAtEnd ha, exec_abandonHold_of_quarryIdle ha hw,
      exec_abandonHold_of_not_quarryIdle ha⟩⟩

end Sys2Proof.Machine
end

section
/-!
PROOFS. The output links of the routers (R106–R108, R179): what a link sends in a period.
-/

namespace Sys2Proof.Machine

section LinkWord

variable {s : State} {die : Fin 5} {node : Fin 76} {port : Fin 72} {check : WordCheck}

theorem exec_linkWordSend_of_busy (h : (s.clockWait || s.linkBusy (linkKey die node port) || s.flitFirst die node) = true) :
    exec (.linkWordSend die node port check) s = .next s := by
  rw [Bool.or_assoc, Bool.or_eq_true] at h
  change execLinkWordSend die node port check s = _
  unfold execLinkWordSend
  rcases h with hw | hb
  · exact if_pos hw
  · simp only [hb, if_true, ite_self]

theorem exec_linkWordSend_of_nothing (hp : pickSlot s.netNow (s.outLink (linkKey die node port)).slots = none)
    (hv : s.pickVc (hopOf die node port) (linkKey die node port) = none) : exec (.linkWordSend die node port check) s = .next s := by
  change execLinkWordSend die node port check s = _
  simp only [execLinkWordSend, hp, hv, ite_self]

section Free

variable (h : (s.clockWait || s.linkBusy (linkKey die node port) || s.flitFirst die node) = false)

include h

theorem exec_linkWordSend_of_slot {i : Nat} {onTime : Bool} {w : SlotWait}
    (hp : pickSlot s.netNow (s.outLink (linkKey die node port)).slots = some (i, onTime))
    (hi : (s.outLink (linkKey die node port)).slots[i]? = some w) :
    exec (.linkWordSend die node port check) s = .next (s.sendSlot die node port i onTime w check) := by
  simp only [Bool.or_eq_false_iff, and_assoc] at h
  obtain ⟨hw, hb, hf⟩ := h
  change execLinkWordSend die node port check s = _
  simp only [execLinkWordSend, hw, hb, hf, hp, hi, Bool.or_self, Bool.false_eq_true, if_false]

theorem exec_linkWordSend_of_packet {vc wrr : Nat} {r : PacketRun} {rest : List PacketRun}
    (hp : pickSlot s.netNow (s.outLink (linkKey die node port)).slots = none)
    (hv : s.pickVc (hopOf die node port) (linkKey die node port) = some (vc, wrr))
    (hq : (s.outLink (linkKey die node port)).queue vc = r :: rest) :
    exec (.linkWordSend die node port check) s = .next (s.sendFlit die node port vc wrr r rest check) := by
  simp only [Bool.or_eq_false_iff, and_assoc] at h
  obtain ⟨hw, hb, hf⟩ := h
  change execLinkWordSend die node port check s = _
  simp only [execLinkWordSend, hw, hb, hf, hp, hv, hq, Bool.or_self, Bool.false_eq_true, if_false]

end Free

end LinkWord

/-- Settles O9: a link that may send branches on its slot flits, then on the channel that the round robin picks. -/
theorem linkSendsFirstOfWhatItHolds : Obligations.LinkSendsFirstOfWhatItHolds := by
  intro s die node port check link o busy
  exact ⟨exec_linkWordSend_of_busy, fun h => ⟨fun i onTime w => exec_linkWordSend_of_slot h, exec_linkWordSend_of_nothing,
    fun vc wrr r rest => exec_linkWordSend_of_packet h⟩⟩

end Sys2Proof.Machine
end

section
/-!
PROOFS. Packets that have reached this module (R118–R123, R127, R227, R384), the timeouts of their tags (R123), and the states of the
cluster ports that they meet (R125, R433).
-/

namespace Sys2Proof.Machine

/-- The state in which the `i`-th packet that has arrived is taken. -/
def State.packetTaken (s : State) (i : Nat) : State := { s with net := { s.net with arrived := s.net.arrived.eraseIdx i } }

/-- A packet goes to a cluster whose port is not ACTIVE (Table 05-8). -/
def State.meetsPort (s : State) (p : Packet) : Prop :=
  p.dstDie < 4 ∧ p.dstNode < 68 ∧ s.port (cidOf p.dstDie p.dstNode) ≠ 0

theorem State.meetsPort_iff (s : State) (p : Packet) :
    (decide (p.dstDie < 4) && decide (p.dstNode < 68) && decide (s.port (cidOf p.dstDie p.dstNode) ≠ 0)) = true ↔ s.meetsPort p := by
  simp only [State.meetsPort, Bool.and_eq_true, decide_eq_true_iff, and_assoc]

/-! ### A request at its target -/

section Target

variable {s : State} {p : Packet} {check : WordCheck}

theorem State.requestArrives_of_meetsPort (h : s.meetsPort p) : s.requestArrives p check = s.atPort (cidOf p.dstDie p.dstNode) p :=
  if_pos ((s.meetsPort_iff p).mpr h)

/-- R122, R127, R129: past the ports, a request is discarded, answered UNMAPPED, or answered by what its destination names. -/
theorem State.requestArrives_of_not_meetsPort (h : ¬ s.meetsPort p) :
    s.requestArrives p check =
      if p.poison then s
      else if packetShapely p = false ∨ (p.dstDie < 4 ∧ 68 ≤ p.dstNode) then s.inject (errorTo p stUnmapped)
      else if p.dstDie < 4 then s.answerNode (cidOf p.dstDie p.dstNode) p
      else if p.dstNode < 4 then s.answerHbm p check
      else if p.dstNode = 0x20 then s.answerVector p
      else s.inject (errorTo p stUnmapped) := by
  rw [State.requestArrives, if_neg (mt (s.meetsPort_iff p).mp h)]
  cases hs : packetShapely p with
  | false => simp
  | true =>
    by_cases hd : p.dstDie < 4
    · by_cases hn : p.dstNode < 68
      · simp [hd, hn, Nat.not_le.mpr hn]
      · simp [hd, hn, Nat.not_lt.mp hn]
    · simp [hd, State.atHub]

end Target

/-! ### A response at its requester -/

section Requester

variable {s : State} {p : Packet}

theorem State.responseArrives_of_outstanding {w : TagOwner} (h : tget (fun _ => none) s.net.tags p.tag = some ⟨p.gen, w⟩) :
    s.responseArrives p = (let u := s.completeTag p.tag w p; u.sendThreadReqs u.hub.reqQ.length) := by
  simp only [State.responseArrives, h, if_true]

/-- R123: a response to no outstanding request, or to an earlier generation of its tag, is discarded. -/
theorem State.responseArrives_of_not_outstanding (h : ∀ w, tget (fun _ => none) s.net.tags p.tag ≠ some ⟨p.gen, w⟩) :
    s.responseArrives p = s := by
  unfold State.responseArrives
  split
  next g w hg =>
    refine if_neg ?_
    rintro rfl
    exact h w hg
  next => rfl

end Requester

/-! ### The first packet of its path among those that have arrived -/

section Arrived

variable {s : State} {i : Nat} {p : Packet} {check : WordCheck} (hw : s.clockWait = false) (hi : s.net.arrived[i]? = some p)
  (ho : overtakes (s.net.arrived.take i) p = false)

include hw hi ho

section Request

variable (hop : p.op < 8)

include hop

theorem exec_packetRequestArrive_of_other (hm : p.dstMod ≠ s.ownId) :
    exec (.packetRequestArrive i check) s = .next ((s.packetTaken i).outward p) := by
  change execPacketRequestArrive i check s = _
  simp [execPacketRequestArrive, State.packetTaken, hw, hi, ho, hm, Nat.not_le.mpr hop]

theorem exec_packetRequestArrive_of_own (hm : p.dstMod = s.ownId) (hq : ¬ (p.dstNode < 4 ∧ s.isQuarry p.dstNode p = true)) :
    exec (.packetRequestArrive i check) s =
      if s.canAnswer p then .next ((s.packetTaken i).requestArrives p check) else .next s := by
  have hserved : ¬ (decide (p.op ≥ 8) || overtakes (s.net.arrived.take i) p ||
      (decide (p.dstMod = s.ownId) && decide (p.dstNode < 4) && s.isQuarry p.dstNode p)) = true := by
    simpa [ho, hm, Nat.not_le.mpr hop] using hq
  change execPacketRequestArrive i check s = _
  unfold execPacketRequestArrive State.packetTaken
  simp only [hw, hi, if_neg hserved, Bool.false_eq_true, if_false]
  exact if_neg (not_not_intro hm)

theorem exec_xactVectorWrite_of_answerable (hm : p.dstMod = s.ownId) (hd : p.dstDie = 4) (hn : p.dstNode = 0x20)
    (hc : s.canAnswer p = true) :
    exec (.xactVectorWrite i) s =
      .next (if p.poison then s.packetTaken i else (s.packetTaken i).answerVector p) := by
  change execXactVectorWrite i s = _
  simp [execXactVectorWrite, State.packetTaken, hw, hi, ho, hop, hm, hd, hn, hc]

end Request

section Response

variable (hop : 8 ≤ p.op)

include hop

theorem exec_packetResponseArrive_of_other (hm : p.dstMod ≠ s.ownId) :
    exec (.packetResponseArrive i) s = .next ((s.packetTaken i).outward p) := by
  change execPacketResponseArrive i s = _
  simp [execPacketResponseArrive, State.packetTaken, hw, hi, ho, hm, Nat.not_lt.mpr hop]

variable (hm : p.dstMod = s.ownId)

include hm

theorem exec_packetResponseArrive_of_meetsPort (h : s.meetsPort p) :
    exec (.packetResponseArrive i) s = .next ((s.packetTaken i).atPort (cidOf p.dstDie p.dstNode) p) := by
  have hport := (s.meetsPort_iff p).mpr h
  change execPacketResponseArrive i s = _
  simp only [execPacketResponseArrive, State.packetTaken, hw, hi, ho, hm, hport, Nat.not_lt.mpr hop, decide_false, Bool.or_self,
    Bool.false_eq_true, if_false, if_true, ne_eq, not_true_eq_false]

theorem exec_packetResponseArrive_of_not_meetsPort (h : ¬ s.meetsPort p) :
    exec (.packetResponseArrive i) s = .next ((s.packetTaken i).responseArrives p) := by
  have hport := mt (s.meetsPort_iff p).mp h
  change execPacketResponseArrive i s = _
  simp only [execPacketResponseArrive, State.packetTaken, hw, hi, ho, hm, if_neg hport, Nat.not_lt.mpr hop, decide_false,
    Bool.or_self, Bool.false_eq_true, if_false, ne_eq, not_true_eq_false]

end Response

end Arrived

/-! ### A tag whose timer expires -/

/-- The response that ends generation `g` of a tag whose timer has expired (R123). -/
def State.timeoutResponse (s : State) (tag g : Nat) : Packet :=
  { vc := 1, op := 0xA, dstMod := s.ownId, dstDie := 0, dstNode := 0, srcMod := s.ownId, srcDie := 0, srcNode := 0
    tag := tag, gen := g, status := stTimeout, bytes := 0, addr := 0, payload := [], poison := false }

section Timeout

variable {s : State} {tag : Fin 32768}

theorem exec_tagTimeout_of_free (h : tget (fun _ => none) s.net.tags tag = none) : exec (.tagTimeout tag) s = .next s := by
  change execTagTimeout tag s = _
  simp only [execTagTimeout, h, ite_self]

theorem exec_tagTimeout_of_outstanding (hw : s.clockWait = false) {g : Nat} {w : TagOwner}
    (h : tget (fun _ => none) s.net.tags tag = some ⟨g, w⟩) :
    exec (.tagTimeout tag) s =
      (let u := ((s.nextGen tag).bump O.RESP_TIMEOUTS 1).completeTag tag w (s.timeoutResponse tag g)
       .next (u.sendThreadReqs u.hub.reqQ.length)) := by
  change execTagTimeout tag s = _
  simp only [execTagTimeout, State.timeoutResponse, hw, h, Bool.false_eq_true, if_false]

end Timeout

/-! ### The states of a cluster port -/

section Port

variable {s : State} {die : Die} {pc : Pc}

theorem exec_wakeComplete_of_not_waking (h : s.port (cidOf die pc) ≠ 2) : exec (.wakeComplete die pc) s = .next s := by
  change execWakeComplete die pc s = _
  simp only [execWakeComplete, h, if_false, ite_self]

theorem exec_wakeLimitExpiry_of_not_waking (h : s.port (cidOf die pc) ≠ 2) : exec (.wakeLimitExpiry die pc) s = .next s := by
  change execWakeLimitExpiry die pc s = _
  simp only [execWakeLimitExpiry, h, if_false, ite_self]

theorem exec_idleGate_of_not_idle (h : s.port (cidOf die pc) ≠ 0 ∨ s.sluiceSet.contains (cidOf die pc) = true) :
    exec (.idleGate die pc) s = .next s := by
  have hnot : (decide (s.port (cidOf die pc) = 0) && ! s.sluiceSet.contains (cidOf die pc)) = false := by
    rcases h with h | h
    · simp [h]
    · rw [h, Bool.not_true, Bool.and_false]
  change execIdleGate die pc s = _
  simp only [execIdleGate, hnot, Bool.false_eq_true, if_false, ite_self]

/-- The state in which a port whose wake has failed absorbs and has answered the requests that it held (R125). -/
def State.wakeFails (s : State) (cid : Nat) : State :=
  let a := (s.setPort cid 3).bump O.WAKE_FAILS 1
  let b : State := { a with net := { a.net with held := tput (fun _ => []) a.net.held cid [] } }
  (tget (fun _ => []) s.net.held cid).foldl (fun t p => if p.op < 8 && ! p.poison then t.portSends (errorTo p stWakeFail) else t) b

variable (hw : s.clockWait = false)

include hw

theorem exec_wakeComplete_of_waking (h : s.port (cidOf die pc) = 2) :
    exec (.wakeComplete die pc) s =
      (let t := (s.portWakes (cidOf die pc)).bump O.CW_WAKES 1
       .next (t.setCl (cidOf die pc) ((t.cl (cidOf die pc)).count 4 1))) := by
  change execWakeComplete die pc s = _
  simp only [execWakeComplete, hw, h, Bool.false_eq_true, if_false, if_true]

theorem exec_wakeLimitExpiry_of_waking (h : s.port (cidOf die pc) = 2) :
    exec (.wakeLimitExpiry die pc) s =
      (let t := s.wakeFails (cidOf die pc)
       .next (t.raiseFault 7 ⟨die, pc, (t.lcOf (cidOf die pc)).getD 255, 0xFFFF⟩ 0 0 0)) := by
  change execWakeLimitExpiry die pc s = _
  simp only [execWakeLimitExpiry, State.wakeFails, hw, h, Bool.false_eq_true, if_false, if_true]

theorem exec_idleGate_of_idle (hp : s.port (cidOf die pc) = 0) (hs : s.sluiceSet.contains (cidOf die pc) = false) :
    exec (.idleGate die pc) s =
      .next ((s.setCl (cidOf die pc) (s.cl (cidOf die pc)).gated).setPort (cidOf die pc) 1) := by
  change execIdleGate die pc s = _
  simp only [execIdleGate, hw, hp, hs, decide_true, Bool.not_false, Bool.and_self, Bool.false_eq_true, if_false, if_true]

end Port

/-- Settles O14: a packet goes by its module, then by the port that it meets, then by what its target or its tag is; a tag's timeout and
the commands of a port branch on the tag and on the state of the port. HBM at the hub's endpoints 0–3 (log entry 30) and what it takes to
be able to answer (log entry 149) are the model's. -/
theorem packetsAndPortsAct : Obligations.PacketsAndPortsAct := by
  refine ⟨fun s hw => ⟨fun i p check hi ho hm => ?own, fun i p check hi ho hm => ?other, fun tag => ?timeout⟩,
    fun s die pc hw => ?port⟩
  case own =>
    intro t cid away
    refine ⟨fun hop hq => ?_, fun hop hd hn hc => exec_xactVectorWrite_of_answerable hw hi ho hop hm hd hn hc,
      fun hop h => exec_packetResponseArrive_of_meetsPort hw hi ho hop hm h, fun hop h => ?_⟩
    · have hexec : exec (.packetRequestArrive i check) s = if s.canAnswer p then .next (t.requestArrives p check) else .next s :=
        exec_packetRequestArrive_of_own hw hi ho hop hm hq
      refine ⟨fun hc => hexec.trans (if_neg (Bool.eq_false_iff.mp hc)), fun hc h => ?_, fun hc h => ?_⟩
      · rw [hexec, if_pos hc, State.requestArrives_of_meetsPort (s := t) h]
      · rw [hexec, if_pos hc, State.requestArrives_of_not_meetsPort (s := t) h]
    · have hexec : exec (.packetResponseArrive i) s = .next (t.responseArrives p) :=
        exec_packetResponseArrive_of_not_meetsPort hw hi ho hop hm h
      exact ⟨fun w ht => hexec.trans (congrArg _ (State.responseArrives_of_outstanding ht)),
        fun ht => hexec.trans (congrArg _ (State.responseArrives_of_not_outstanding ht))⟩
  case other =>
    exact ⟨fun hop => exec_packetRequestArrive_of_other hw hi ho hop hm, fun hop => exec_packetResponseArrive_of_other hw hi ho hop hm⟩
  case timeout => exact ⟨exec_tagTimeout_of_free, fun g w => exec_tagTimeout_of_outstanding hw⟩
  case port =>
    exact ⟨fun h => ⟨exec_wakeComplete_of_waking hw h, exec_wakeLimitExpiry_of_waking hw h⟩,
      fun h => ⟨exec_wakeComplete_of_not_waking h, exec_wakeLimitExpiry_of_not_waking h⟩,
      exec_idleGate_of_idle hw, exec_idleGate_of_not_idle⟩

end Sys2Proof.Machine
end

section
/-!
PROOFS. The inputs of the trigger engine (R311, R319, R323, R324), and how trace commands, records on their way to HBM, snapshots and
restores end (R148, R331, R332, R335, R338, R339, R341).
-/

namespace Sys2Proof.Machine

/-! ### Balls (R323) -/

section Ball

variable {s : State} {ball : Fin 4} {level : Bool}

/-- The new level of a ball is a rising edge, and the ball is an input in edge mode. -/
def State.edgeLatches (s : State) (ball : Fin 4) (level : Bool) : Prop :=
  level = true ∧ s.objBit O.TRIG_LEVEL ball = false ∧ (s.obj (O.TRIG_CFG ball)).testBit 0 = false ∧
    (s.obj (O.TRIG_CFG ball)).testBit 1 = true

theorem State.edgeLatches_iff (s : State) (ball : Fin 4) (level : Bool) :
    (level && ! s.objBit O.TRIG_LEVEL ball && ! (s.obj (O.TRIG_CFG ball)).testBit 0 && (s.obj (O.TRIG_CFG ball)).testBit 1) = true ↔
      s.edgeLatches ball level := by
  simp only [State.edgeLatches, Bool.and_eq_true, Bool.not_eq_true', and_assoc]

theorem exec_trigInputEdge_of_edge (h : s.edgeLatches ball level) :
    exec (.trigInputEdge ball level) s =
      (let t := s.setObjBit O.TRIG_LEVEL ball level
       .next { t with trig := { t.trig with triglatch := setBit t.trig.triglatch ball true } }) :=
  if_pos ((s.edgeLatches_iff ball level).mpr h)

theorem exec_trigInputEdge_of_no_edge (h : ¬ s.edgeLatches ball level) :
    exec (.trigInputEdge ball level) s = .next (s.setObjBit O.TRIG_LEVEL ball level) :=
  if_neg (mt (s.edgeLatches_iff ball level).mp h)

theorem exec_trigPulseEnd_of_pulse (h : s.trig.pulses.testBit ball = true) :
    exec (.trigPulseEnd ball) s =
      .next ((State.emit { s with trig := { s.trig with pulses := setBit s.trig.pulses ball false } } (.pin (1 + ball) false)).setObjBit
        O.TRIG_LEVEL ball false) :=
  if_pos h

theorem exec_trigPulseEnd_of_no_pulse (h : s.trig.pulses.testBit ball = false) : exec (.trigPulseEnd ball) s = .next s :=
  if_neg (Bool.eq_false_iff.mp h)

end Ball

/-! ### Hold-offs in ns (R311) and REARM (R324) -/

section Holdoff

variable {s : State} {n : Fin 64}

/-- The data of a comparator. -/
def State.cmpRun (s : State) (n : Nat) : CmpRun := tget (fun _ => CmpRun.blank) s.trig.cmps n

/-- Comparator `n` is in a hold-off in ns whose end the time base has reached. -/
def State.holdoffEndReached (s : State) (n : Nat) : Prop :=
  s.obj (O.CMP_STATE n) = cHoldoff ∧ cUnit (s.obj (O.CMP_CTRL n)) = 1 ∧
    s.reached ((s.cmpRun n).fired + s.obj (O.CMP_HOLDOFF n)) = true

theorem State.holdoffEndReached_iff (s : State) (n : Nat) :
    (decide (s.obj (O.CMP_STATE n) = cHoldoff) && decide (cUnit (s.obj (O.CMP_CTRL n)) = 1) &&
      s.reached ((s.cmpRun n).fired + s.obj (O.CMP_HOLDOFF n))) = true ↔ s.holdoffEndReached n := by
  simp only [State.holdoffEndReached, Bool.and_eq_true, decide_eq_true_iff, and_assoc]

theorem exec_holdoffExpiry_of_over (h : s.holdoffEndReached n) :
    exec (.holdoffExpiry n) s = .next { s with trig := { s.trig with
      cmps := tput (fun _ => CmpRun.blank) s.trig.cmps n { s.cmpRun n with ended := true } } } :=
  if_pos ((s.holdoffEndReached_iff n).mpr h)

theorem exec_holdoffExpiry_of_not_over (h : ¬ s.holdoffEndReached n) : exec (.holdoffExpiry n) s = .next s :=
  if_neg (mt (s.holdoffEndReached_iff n).mp h)

end Holdoff

section Rearm

variable {s : State} {m : Master} {v : Byte} (hs : s.serves O.REARM)

include hs

theorem exec_rearm_of_other (hv : v.toNat ≠ 1) : exec (.rearm m v) s = .next (s.refuse m O.REARM eRange) :=
  State.write_refused hs (if_pos hv) (by decide)

theorem exec_rearm_of_advancing (hv : v.toNat = 1) (ha : s.advancing = true) :
    exec (.rearm m v) s = .next { s with trig := { s.trig with rearm := true } } :=
  State.write_accepted hs ((if_neg (not_not_intro hv)).trans (if_pos ha))

theorem exec_rearm_of_not_advancing (hv : v.toNat = 1) (ha : s.advancing = false) : exec (.rearm m v) s = .next s.rearm :=
  State.write_accepted hs ((if_neg (not_not_intro hv)).trans (if_neg (Bool.eq_false_iff.mp ha)))

end Rearm

/-! ### The mask test's fetch (R319) -/

section MaskTest

variable {s : State}

/-- The first uncorrectable word of the record at MT_RD, if there is one, is met. -/
def State.maskWordMet (s : State) : State :=
  match s.firstBad (s.obj O.MT_BASE + s.obj O.MT_RD * s.mtStride) (16 * (s.obj O.MT_WORDS + 1)) with
  | some b => s.hbmBad b
  | none => s

/-- The record at hand is the one at MT_RD, or empty where that cannot be read. -/
def State.maskRecordTaken (s : State) : State := { s with trig := { s.trig with mtRec := some (s.mtRecord.getD []) } }

theorem exec_maskTestFetchDone_of_nothing_to_fetch
    (h : s.obj O.MT_ENABLE = 0 ∨ s.obj O.MT_RD = s.obj O.MT_WR ∨ s.trig.mtRec ≠ none) :
    exec .maskTestFetchDone s = .next s := by
  refine if_pos ?_
  simpa [or_assoc, Option.isSome_iff_ne_none] using h

theorem exec_maskTestFetchDone_of_fetched (he : s.obj O.MT_ENABLE ≠ 0) (hr : s.obj O.MT_RD ≠ s.obj O.MT_WR)
    (hm : s.trig.mtRec = none) :
    exec .maskTestFetchDone s =
      .next (s.maskWordMet.maskRecordTaken.mtDrain s.maskWordMet.maskRecordTaken.trig.mtWait.length) := by
  change execMaskTestFetchDone s = _
  unfold execMaskTestFetchDone
  rw [if_neg (by simp [he, hr, hm])]
  extract_lets _ t rec_ _ u
  have hrec : rec_ = t.mtRecord.getD [] := by
    cases h : t.mtRecord <;> simp only [rec_, h, Option.getD_some, Option.getD_none]
  have hu : t.maskRecordTaken = u := by rw [State.maskRecordTaken, ← hrec]
  rw [← hu]
  rfl

end MaskTest

/-! ### Trace commands (R332, R335) and records (R331) -/

section TraceCmd

variable {s : State} {m : Master} (hs : s.serves O.TRACE_CMD)

include hs

theorem exec_traceCmdArm_of_served : exec (.traceCmdArm m) s = .next s.traceArm := State.write_accepted hs rfl

theorem exec_traceCmdFreeze_of_tracing (h : s.obj O.TRACE_STATE = 1 ∨ s.obj O.TRACE_STATE = 2) :
    exec (.traceCmdFreeze m) s = .next (s.setObj O.TRACE_STATE 3) :=
  State.write_accepted hs (by simp [writeTraceCmd, h])

theorem exec_traceCmdFreeze_of_not_tracing (h : ¬ (s.obj O.TRACE_STATE = 1 ∨ s.obj O.TRACE_STATE = 2)) :
    exec (.traceCmdFreeze m) s = .next s :=
  State.write_accepted hs (by simp [writeTraceCmd, h])

end TraceCmd

section Record

variable {s : State} {n : Nat} {r : List Byte} {rest : List (Nat × List Byte)}

/-- The oldest buffered record, number `n`, lies at its place of the ring (R329), and WR is past it (R331). -/
def State.recordLies (s : State) (n : Nat) (r : List Byte) (rest : List (Nat × List Byte)) : State :=
  State.setObj (State.hbmWrite { s with trace := { s.trace with buffer := rest } }
    (s.obj O.SPOIL_BASE + n % s.obj O.CAPACITY * s.obj O.RECORD_BYTES)
    (r ++ List.replicate (s.obj O.RECORD_BYTES - r.length) 0)) O.WR (n + 1)

/-- In WRAP, FIRST_VALID follows WR (R334). -/
def State.firstValidFollows (s : State) (first : Nat) : State :=
  if s.obj O.TRACE_MODE = 0 then s.setObj O.FIRST_VALID first else s

theorem exec_traceRecordWrite_of_clockWait (hw : s.clockWait = true) : exec .traceRecordWrite s = .next s := if_pos hw

theorem exec_traceRecordWrite_of_no_record (h : s.trace.buffer = [] ∨ s.obj O.CAPACITY = 0) :
    exec .traceRecordWrite s = .next s := by
  change execTraceRecordWrite s = _
  unfold execTraceRecordWrite
  split
  case isTrue => rfl
  case isFalse =>
    split
    next => rfl
    next _ _ _ hb =>
      refine if_pos (h.resolve_left ?_)
      simp [hb]

theorem exec_traceRecordWrite_of_cons (hw : s.clockWait = false) (hb : s.trace.buffer = (n, r) :: rest) (hc : s.obj O.CAPACITY ≠ 0) :
    exec .traceRecordWrite s = .next ((s.recordLies n r rest).firstValidFollows (n + 1 - s.obj O.CAPACITY)) := by
  change execTraceRecordWrite s = _
  simp only [execTraceRecordWrite, hw, hb, hc, Bool.false_eq_true, if_false]
  rfl

end Record

/-! ### The end of a snapshot (R338, R339) -/

section Snapshot

variable {s : State} {bad : Option (BitVec 37)}

/-- The pause for a snapshot is over. -/
def State.snapshotEnds (s : State) : State :=
  let t : State := { s with run := { s.run with pause := none } }
  (t.setMode t.run.resumeMode).afterPause

/-- The outcome of a snapshot in its slot: VALID, or DAMAGED by the uncorrectable word met. -/
def State.snapshotOutcome (s : State) (slot : Nat) : Option (BitVec 37) → State
  | some a => (s.hbmBad a.toNat).setObjs [(O.SLOT_STATUS slot, 3), (O.SNAP_RESULT, 4)]
  | none => s.setObjs [(O.SLOT_STATUS slot, 1), (O.SNAP_RESULT, 1)]

theorem exec_snapshotDone_of_clockWait (hw : s.clockWait = true) : exec (.snapshotDone bad) s = .next s := if_pos hw

theorem exec_snapshotDone_of_no_snapshot (h : ∀ slot cause start, s.run.pause ≠ some (.snapshot slot cause start)) :
    exec (.snapshotDone bad) s = .next s := by
  change execSnapshotDone bad s = _
  unfold execSnapshotDone
  split
  case isTrue => rfl
  case isFalse =>
    split
    next slot cause start hp => exact absurd hp (h slot cause start)
    next => rfl

theorem exec_snapshotDone_of_snapshot {slot cause start : Nat} (hw : s.clockWait = false)
    (hp : s.run.pause = some (.snapshot slot cause start)) :
    exec (.snapshotDone bad) s =
      .next ((s.setObj O.SNAP_TIME_LAST (s.sinceNs start)).snapshotOutcome slot bad).snapshotEnds := by
  change execSnapshotDone bad s = _
  unfold execSnapshotDone
  rw [if_neg (Bool.eq_false_iff.mp hw), hp]
  dsimp -zeta only
  extract_lets t u
  have hu : t.snapshotOutcome slot bad = u := by cases bad <;> rfl
  change _ = Host.Outcome.next (t.snapshotOutcome slot bad).snapshotEnds
  rw [hu]
  rfl

end Snapshot

/-! ### The end of a restore (R148, R341) -/

section Restore

variable {s : State} {slot kind start : Nat}

/-- What is in transit is dropped and the overburden log is undone to the DC of a slot. -/
def State.restoreUndoes (s : State) (slot : Nat) : State := (s.clearTransit fun _ => false).ovbUndo (s.obj (O.SLOT_DC slot))

/-- After a restore that has succeeded: the recovery that it belongs to goes on (R503), or the orders that it held. -/
def State.restored (s : State) : State := if s.obj O.RECOVERY_STATE = 3 then s.recoveryRestored else s.afterPause

theorem exec_restoreDone_of_clockWait (hw : s.clockWait = true) : exec .restoreDone s = .next s :=
  if_pos (by simp [hw])

theorem exec_restoreDone_of_quarry_busy (hq : s.quarryIdle = false) : exec .restoreDone s = .next s :=
  if_pos (by simp [hq])

theorem exec_restoreDone_of_no_restore (h : ∀ slot kind start, s.run.pause ≠ some (.restore slot kind start)) :
    exec .restoreDone s = .next s := by
  change execRestoreDone s = _
  unfold execRestoreDone
  split
  case isTrue => rfl
  case isFalse =>
    split
    next slot kind start hp => exact absurd hp (h slot kind start)
    next => rfl

variable (hw : s.clockWait = false) (hq : s.quarryIdle = true) (hp : s.run.pause = some (.restore slot kind start))

include hw hq hp

theorem exec_restoreDone_of_damaged {a : Nat} (hd : (s.restoreUndoes slot).slotDamage slot = some a) :
    exec .restoreDone s = .next ((s.restoreUndoes slot).restoreFails start a) := by
  unfold State.restoreUndoes at hd ⊢
  change execRestoreDone s = _
  simp only [execRestoreDone, hw, hq, hp, hd, Bool.not_true, Bool.or_self, Bool.false_eq_true, if_false]

theorem exec_restoreDone_of_sound (hd : (s.restoreUndoes slot).slotDamage slot = none) :
    exec .restoreDone s = .next (((s.restoreUndoes slot).restoreBack slot kind).restoreEnds start 1).restored := by
  unfold State.restoreUndoes at hd ⊢
  change execRestoreDone s = _
  simp only [execRestoreDone, State.restored, hw, hq, hp, hd, Bool.not_true, Bool.or_self, Bool.false_eq_true, if_false]

end Restore

/-- Settles O31: each command branches once, on the ball, the comparator, the value written or the record at hand; a freeze, a record, a
snapshot and a restore on what is in progress, and a restore then on the damage of its slot. -/
theorem triggerAndTraceAct : Obligations.TriggerAndTraceAct := by
  refine ⟨fun s => ⟨fun ball level => ?edge, fun ball => ?pulse, fun n => ?holdoff, fun m hs v => ?rearm,
    exec_maskTestFetchDone_of_nothing_to_fetch, exec_maskTestFetchDone_of_fetched⟩,
    fun s => ⟨fun m hs => ?command, fun hw => ?waiting, fun hw => ⟨exec_traceRecordWrite_of_no_record, fun n r rest => ?record,
      fun slot cause start hp => ?snapshot, fun h b => exec_snapshotDone_of_no_snapshot h, exec_restoreDone_of_quarry_busy,
      fun slot kind start hq hp => ?restore, exec_restoreDone_of_no_restore⟩⟩⟩
  case edge => exact ⟨exec_trigInputEdge_of_edge, exec_trigInputEdge_of_no_edge⟩
  case pulse => exact ⟨exec_trigPulseEnd_of_pulse, exec_trigPulseEnd_of_no_pulse⟩
  case holdoff => exact ⟨exec_holdoffExpiry_of_over, exec_holdoffExpiry_of_not_over⟩
  case rearm => exact ⟨exec_rearm_of_other hs, exec_rearm_of_advancing hs, exec_rearm_of_not_advancing hs⟩
  case command =>
    exact ⟨exec_traceCmdArm_of_served hs, fun h => ⟨_, exec_traceCmdFreeze_of_tracing hs h, s.wrote_setObj ..⟩,
      exec_traceCmdFreeze_of_not_tracing hs⟩
  case waiting =>
    exact ⟨exec_traceRecordWrite_of_clockWait hw, fun _ => exec_snapshotDone_of_clockWait hw, exec_restoreDone_of_clockWait hw⟩
  case record => exact exec_traceRecordWrite_of_cons hw
  case snapshot =>
    intro t ends
    have hends : State.snapshotEnds = ends := rfl
    rw [← hends]
    exact ⟨exec_snapshotDone_of_snapshot hw hp, fun _ => exec_snapshotDone_of_snapshot hw hp⟩
  case restore => exact ⟨fun _ => exec_restoreDone_of_damaged hw hq hp, exec_restoreDone_of_sound hw hq hp⟩

end Sys2Proof.Machine
end

section
/-!
PROOFS. The phases of a load: the order and its abort (R163, R167, R480, R505), the bytes fetched into the image window (R161), the
checks in the order of Table 07-10 (R164, R165), and the writing, whose end is the completion point (R166, R167).
-/

namespace Sys2Proof.Machine

/-! ### The order (R163) -/

section Order

variable {s : State} {m : Master}

/-- A recovery that has not failed, or a life-cycle transition, turns a load away (R505, R480). -/
def State.turnsLoad (s : State) : Prop := (s.recovering = true ∧ s.obj O.RECOVERY_STATE ≠ 4) ∨ s.keys.target ≠ none

/-- A load may begin: the module is in STANDBY, READY or HOLD (R163). -/
def State.mayLoad (s : State) : Prop := s.mode = mStandby ∨ s.held = true

theorem State.turnsLoad_iff (s : State) :
    ((s.recovering && decide (s.obj O.RECOVERY_STATE ≠ 4)) || s.keys.target.isSome) = true ↔ s.turnsLoad := by
  simp only [State.turnsLoad, Bool.or_eq_true, Bool.and_eq_true, decide_eq_true_iff, Option.isSome_iff_ne_none]

theorem State.mayLoad_iff (s : State) : (s.mode == mStandby || s.held) = true ↔ s.mayLoad := by
  simp only [State.mayLoad, Bool.or_eq_true, beq_iff_eq]

/-- The orders of the window are superseded, and the fetch begins. -/
def State.loadBegins (s : State) : State :=
  let t := s.supersede (s.run.window ++ s.run.due) none
  (State.setObj { t with run := { t.run with window := [], due := [], loadFrom := t.mode } } O.LOAD_STATE 1).loadMode mLoad

/-- The order is answered REFUSED with cause MODE. -/
def State.loadOrderRefused (s : State) : State :=
  (s.setObjs [(O.LOAD_STATE, 5), (O.REFUSE_CAUSE, 1), (O.REFUSE_DETAIL, 0)]).msix 3

theorem State.loadOrder_of_loading (hl : s.loading = true) : s.loadOrder = (s, eNone) := if_pos hl

section Idle

variable (hl : s.loading = false)

include hl

theorem State.loadOrder_of_turned (ht : s.turnsLoad) : s.loadOrder = (s, eMode) :=
  (if_neg (Bool.eq_false_iff.mp hl)).trans (if_pos (s.turnsLoad_iff.mpr ht))

theorem State.loadOrder_of_may (ht : ¬ s.turnsLoad) (hm : s.mayLoad) : s.loadOrder = (s.loadBegins, eNone) :=
  ((if_neg (Bool.eq_false_iff.mp hl)).trans (if_neg (mt s.turnsLoad_iff.mp ht))).trans (if_pos (s.mayLoad_iff.mpr hm))

theorem State.loadOrder_of_may_not (ht : ¬ s.turnsLoad) (hm : ¬ s.mayLoad) : s.loadOrder = (s.loadOrderRefused, eNone) :=
  ((if_neg (Bool.eq_false_iff.mp hl)).trans (if_neg (mt s.turnsLoad_iff.mp ht))).trans (if_neg (mt s.mayLoad_iff.mp hm))

theorem State.loadAbort_of_not_loading : s.loadAbort = (s.setObj O.ABORT_RESULT 2, eNone) := if_pos (by simp [hl])

end Idle

/-! ### The abort (R167) -/

/-- Where the check of the image's FABRIC section has set FAB_STATE to 1 and no fabric load is under way, the fabric becomes UNCONFIGURED. -/
def State.fabricDropped (s : State) : State := if s.obj O.FAB_STATE = 1 ∧ s.fabric.phase = 0 then s.fabClear else s

/-- An abort during the writing leaves the module with no image, in STANDBY. -/
def State.abortWriting (s : State) : State :=
  (((((s.setObj O.ABORT_RESULT 1).fabricDropped).setObj O.LOAD_STATE 6).msix 3).unload).loadMode mStandby

theorem State.loadAbort_of_not_writing (hl : s.loading = true) (hw : s.obj O.LOAD_STATE ≠ 3) :
    s.loadAbort = ((s.setObj O.ABORT_RESULT 1).loadEnds 6, eNone) :=
  (if_neg (by simp [hl])).trans (if_neg hw)

theorem State.loadAbort_of_writing (hl : s.loading = true) (hw : s.obj O.LOAD_STATE = 3) : s.loadAbort = (s.abortWriting, eNone) := by
  refine ((if_neg (by simp [hl])).trans (if_pos hw)).trans ?_
  simp only [State.abortWriting, State.fabricDropped, Bool.and_eq_true, decide_eq_true_iff]

end Order

/-! ### The fetch (R161, R163) -/

section Fetch

variable {s : State} {data : List Byte}

/-- What was fetched lies in the image window, and nothing past IMAGE_BYTES. -/
def State.imageFetched (s : State) (data : List Byte) : State := s.hbmWrite imageBase (data.take (s.obj O.IMAGE_BYTES))

theorem exec_loadFetchDone_of_not_fetching (h : s.obj O.LOAD_STATE ≠ 1 ∨ s.clockWait = true) :
    exec (.loadFetchDone data) s = .next s :=
  if_pos (by simpa using h)

variable (hl : s.obj O.LOAD_STATE = 1) (hw : s.clockWait = false)

include hl hw

theorem exec_loadFetchDone_of_fetching :
    exec (.loadFetchDone data) s =
      if (data.take (s.obj O.IMAGE_BYTES)).length < s.obj O.IMAGE_BYTES then
        .next ((s.imageFetched data).loadRefuse 2 (data.take (s.obj O.IMAGE_BYTES)).length)
      else .next ((s.imageFetched data).setObj O.LOAD_STATE 2) :=
  if_neg (by simp [hl, hw])

theorem exec_loadFetchDone_of_short (hn : data.length < s.obj O.IMAGE_BYTES) :
    exec (.loadFetchDone data) s = .next ((s.imageFetched data).loadRefuse 2 data.length) := by
  rw [exec_loadFetchDone_of_fetching hl hw, List.take_of_length_le (Nat.le_of_lt hn), if_pos hn]

theorem exec_loadFetchDone_of_whole (hn : s.obj O.IMAGE_BYTES ≤ data.length) :
    exec (.loadFetchDone data) s = .next ((s.imageFetched data).setObj O.LOAD_STATE 2) := by
  rw [exec_loadFetchDone_of_fetching hl hw, List.length_take_of_le hn, if_neg (Nat.lt_irrefl _)]

end Fetch

/-! ### The checks (R164, R165) -/

section Check

variable {s : State} {vddio : List Nat}

/-- The first uncorrectable word of the image window, if there is one, is met. -/
def State.imageWordMet (s : State) : State :=
  match s.firstBad imageBase s.imageBytes.length with
  | some a => (s.hbmBad a).draw
  | none => s

/-- The image is decrypted in place, where it is ENCRYPTED (R159). -/
def State.imagePlain (s : State) (b p : List Byte) : State := if (imgFlags b).testBit 1 then s.hbmWrite imageBase p else s

theorem exec_loadCheckDone_of_not_checking (h : s.obj O.LOAD_STATE ≠ 2 ∨ s.clockWait = true) :
    exec (.loadCheckDone vddio) s = .next s :=
  if_pos (by simpa using h)

/-- What the end of phase 2 does with the outcome of opening the container. -/
def State.openedEnds (s : State) (b : List Byte) (vddio : List Nat) : Except (Nat × Nat) (List Byte) → State
  | .error e => s.loadRefuse e.1 e.2
  | .ok p =>
    match plainFault p with
    | some e => (s.imagePlain b p).loadRefuse e.1 e.2
    | none => (s.imagePlain b p).contentStage p vddio

variable (hl : s.obj O.LOAD_STATE = 2) (hw : s.clockWait = false)

include hl hw

theorem exec_loadCheckDone_of_checking :
    exec (.loadCheckDone vddio) s =
      .next (s.imageWordMet.openedEnds s.imageBytes vddio
        (s.imageWordMet.openImage s.imageBytes (s.imageWordMet.obj O.IMAGE_BYTES))) := by
  change execLoadCheckDone vddio s = _
  unfold execLoadCheckDone
  rw [if_neg (by simp [hl, hw])]
  extract_lets b t
  change _ = Host.Outcome.next (t.openedEnds b vddio (t.openImage b (t.obj O.IMAGE_BYTES)))
  cases t.openImage b (t.obj O.IMAGE_BYTES) with
  | error e => rfl
  | ok p =>
    simp only [State.openedEnds, State.imagePlain]
    cases plainFault p <;> rfl

theorem exec_loadCheckDone_of_not_opened {cause detail : Nat}
    (ho : s.imageWordMet.openImage s.imageBytes (s.imageWordMet.obj O.IMAGE_BYTES) = .error (cause, detail)) :
    exec (.loadCheckDone vddio) s = .next (s.imageWordMet.loadRefuse cause detail) := by
  rw [exec_loadCheckDone_of_checking hl hw, ho, State.openedEnds]

variable {p : List Byte} (ho : s.imageWordMet.openImage s.imageBytes (s.imageWordMet.obj O.IMAGE_BYTES) = .ok p)

include ho

theorem exec_loadCheckDone_of_plainFault {e : Nat × Nat} (hp : plainFault p = some e) :
    exec (.loadCheckDone vddio) s = .next ((s.imageWordMet.imagePlain s.imageBytes p).loadRefuse e.1 e.2) := by
  simp only [exec_loadCheckDone_of_checking hl hw, ho, State.openedEnds, hp]

theorem exec_loadCheckDone_of_well_made (hp : plainFault p = none) :
    exec (.loadCheckDone vddio) s = .next ((s.imageWordMet.imagePlain s.imageBytes p).contentStage p vddio) := by
  simp only [exec_loadCheckDone_of_checking hl hw, ho, State.openedEnds, hp]

end Check

/-! ### The writing (R166, R167) -/

section Write

variable {s : State}

/-- Phase 3: the image retained and written to clusters, tables and ties, then the engines, the hub, the identity and the fabric. -/
def State.imageWritten (s : State) (b : List Byte) : State :=
  let t := ((s.retain b).clearPorts.writeClusters b s.run.loadBinding).writeTables b
  let u := (t.writeTies (imgDomains b (imgSections b))).loadEngines.loadHub.loadRun
  (u.loadIdentity b).loadFabric b

theorem exec_loadWriteDone_of_not_writing (h : s.obj O.LOAD_STATE ≠ 3 ∨ s.clockWait = true) : exec .loadWriteDone s = .next s :=
  if_pos (by simpa using h)

theorem exec_loadWriteDone_of_writing (hl : s.obj O.LOAD_STATE = 3) (hw : s.clockWait = false) :
    exec .loadWriteDone s = .next ((((s.imageWritten s.imageBytes).setObj O.LOAD_STATE 4).msix 3).loadMode mReady) :=
  if_neg (by simp [hl, hw])

end Write

/-- Settles O42: the order branches on a load in progress, on what turns it away and on the mode; the abort on the phase; and the end of
each phase on its LOAD_STATE, then on the length fetched or on the first check that fails. -/
theorem loadsRunInPhases : Obligations.LoadsRunInPhases := by
  refine fun s m => ⟨fun hs => ?orders, fun data => ?fetch, fun vddio => ?check, exec_loadWriteDone_of_not_writing,
    exec_loadWriteDone_of_writing⟩
  case orders =>
    exact ⟨fun hl => State.write_accepted hs (State.loadOrder_of_loading hl),
      fun hl ht => State.write_refused hs (State.loadOrder_of_turned hl ht) (by decide),
      fun hl ht hm => State.write_accepted hs (State.loadOrder_of_may hl ht hm),
      fun hl ht hm => State.write_accepted hs (State.loadOrder_of_may_not hl ht hm),
      fun hl => ⟨_, State.write_accepted hs (State.loadAbort_of_not_loading hl), s.wrote_setObj ..⟩,
      fun hl hw => State.write_accepted hs (State.loadAbort_of_not_writing hl hw),
      fun hl hw => State.write_accepted hs (State.loadAbort_of_writing hl hw)⟩
  case fetch =>
    exact ⟨exec_loadFetchDone_of_not_fetching,
      fun hl hw => ⟨exec_loadFetchDone_of_short hl hw, exec_loadFetchDone_of_whole hl hw⟩⟩
  case check =>
    exact ⟨exec_loadCheckDone_of_not_checking,
      fun hl hw => ⟨fun _ _ => exec_loadCheckDone_of_not_opened hl hw,
        fun _ ho => ⟨fun _ => exec_loadCheckDone_of_plainFault hl hw ho, exec_loadCheckDone_of_well_made hl hw ho⟩⟩⟩

end Sys2Proof.Machine
end

section
/-!
PROOFS. What every step keeps (R380, R394, R413): the stores canonical and what may wait within its places, whichever command is at the
front, and in an idle tick.
-/

namespace Sys2Proof.Machine

theorem State.kept_of_tidy_of_bounded {s : State} (ht : s.tidy = true) (hb : s.bounded = true) : s.Kept s.pending := by
  simp only [State.tidy, Bool.and_eq_true] at ht
  simp only [State.bounded, Bool.and_eq_true, decide_eq_true_eq] at hb
  obtain ⟨⟨⟨hdict, hshadow⟩, hsram⟩, hhbm⟩ := ht
  obtain ⟨⟨hemcy, hring⟩, hheld⟩ := hb
  exact ⟨rfl, hdict, hshadow, hsram, hhbm, hemcy, hring, hheld⟩

theorem State.Kept.tidy {ql : List Instr} {s : State} (h : s.Kept ql) : s.tidy = true := by
  simp only [State.tidy, h.dict, h.shadow, h.sram, h.hbm, Bool.and_self]

theorem State.Kept.bounded {ql : List Instr} {s : State} (h : s.Kept ql) : s.bounded = true := by
  simp only [State.bounded, h.emcy, h.ring, h.held, decide_true, Bool.and_self]

/-- The front of the queue taken off: the rest is the queue, and nothing else changes. -/
theorem State.Kept.dequeued {ql rest : List Instr} {s : State} (h : s.Kept ql) : State.Kept rest { s with pending := rest } :=
  ⟨rfl, h.dict, h.shadow, h.sram, h.hbm, h.emcy, h.ring, h.held⟩

/-- Every command keeps the queue behind it, the stores and the bounds. -/
theorem exec_kept {ql : List Instr} {s : State} (h : s.Kept ql) : ∀ i : Instr, Out.Kept ql (exec i s)
  | .sluiceOpen => execSluiceOpen_kept h
  | .clusterStep .. => execClusterStep_kept h
  | .nop .. => execNop_kept h
  | .lut .. => execLut_kept h
  | .mrdAddr .. => execMrdAddr_kept h
  | .mrdGo .. => execMrdGo_kept h
  | .mwrAddr .. => execMwrAddr_kept h
  | .mwrData .. => execMwrData_kept h
  | .mwrGo .. => execMwrGo_kept h
  | .xin .. => execXin_kept h
  | .xout .. => execXout_kept h
  | .fin .. => execFin_kept h
  | .fout .. => execFout_kept h
  | .trg .. => execTrg_kept h
  | .prb .. => execPrb_kept h
  | .evt .. => execEvt_kept h
  | .asrt .. => execAsrt_kept h
  | .cken .. => execCken_kept h
  | .endOp .. => execEnd_kept h
  | .deliveryLand .. => execDeliveryLand_kept h
  | .routePortRead .. => execRoutePortRead_kept h
  | .slotFlitLeave .. => execSlotFlitLeave_kept h
  | .linkWordSend .. => execLinkWordSend_kept h
  | .slotFlitLand .. => execSlotFlitLand_kept h
  | .landingPortWrite .. => execLandingPortWrite_kept h
  | .exchangeInstant .. => execExchangeInstant_kept h
  | .xportOutLatch => execXportOutLatch_kept h
  | .eccRewrite .. => execEccRewrite_kept h
  | .clusterEnd .. => execClusterEnd_kept h
  | .localCompletion => execLocalCompletion_kept h
  | .dcDoneSend .. => execDcDoneSend_kept h
  | .cycleOverrunLocal => execCycleOverrunLocal_kept h
  | .cycleOverrunPartner => execCycleOverrunPartner_kept h
  | .memoryReturn .. => execMemoryReturn_kept h
  | .rowRewrite .. => execRowRewrite_kept h
  | .memoryScrub .. => execMemoryScrub_kept h
  | .quarryRequestSend .. => execQuarryRequestSend_kept h
  | .quarryServe .. => execQuarryServe_kept h
  | .bankRefresh .. => execBankRefresh_kept h
  | .quarryReturn .. => execQuarryReturn_kept h
  | .hbmPatrolScrub .. => execHbmPatrolScrub_kept h
  | .packetRequestArrive .. => execPacketRequestArrive_kept h
  | .packetResponseArrive .. => execPacketResponseArrive_kept h
  | .tagTimeout .. => execTagTimeout_kept h
  | .wakeComplete .. => execWakeComplete_kept h
  | .wakeLimitExpiry .. => execWakeLimitExpiry_kept h
  | .idleGate .. => execIdleGate_kept h
  | .seamBlockReceive .. => execSeamBlockReceive_kept h
  | .laneMarkerReceive .. => execLaneMarkerReceive_kept h
  | .laneMarkerSend .. => execLaneMarkerSend_kept h
  | .idleReceive .. => execIdleReceive_kept h
  | .frameEnd .. => execFrameEnd_kept h
  | .relayForward .. => execRelayForward_kept h
  | .ack .. => execAck_kept h
  | .nak .. => execNak_kept h
  | .ackTimeout .. => execAckTimeout_kept h
  | .nakRepeat .. => execNakRepeat_kept h
  | .ackSend .. => execAckSend_kept h
  | .seamEgressSend .. => execSeamEgressSend_kept h
  | .resumeLimitExpiry .. => execResumeLimitExpiry_kept h
  | .timeSync .. => execTimeSync_kept h
  | .pdelayReq .. => execPdelayReq_kept h
  | .pdelayResp .. => execPdelayResp_kept h
  | .pdelayIntervalExpiry => execPdelayIntervalExpiry_kept h
  | .syncIntervalExpiry => execSyncIntervalExpiry_kept h
  | .candidateExpiry .. => execCandidateExpiry_kept h
  | .ppsInEdge .. => execPpsInEdge_kept h
  | .ppsLost => execPpsLost_kept h
  | .ppsOutRise => execPpsOutRise_kept h
  | .ppsOutFall => execPpsOutFall_kept h
  | .timeNsRead .. => execTimeNsRead_kept h
  | .timeSet .. => execTimeSet_kept h
  | .rejoin .. => execRejoin_kept h
  | .incrementWrite .. => execIncrementWrite_kept h
  | .priorityWrite .. => execPriorityWrite_kept h
  | .tieEdgeReached .. => execTieEdgeReached_kept h
  | .tieApply .. => execTieApply_kept h
  | .lockLoad .. => execLockLoad_kept h
  | .lockStore .. => execLockStore_kept h
  | .post .. => execPost_kept h
  | .inStageStore .. => execInStageStore_kept h
  | .outLoad .. => execOutLoad_kept h
  | .paceStore .. => execPaceStore_kept h
  | .wdtKick .. => execWdtKick_kept h
  | .wdtExpiry .. => execWdtExpiry_kept h
  | .mtimecmpReached .. => execMtimecmpReached_kept h
  | .lr .. => execLr_kept h
  | .sc .. => execSc_kept h
  | .amo .. => execAmo_kept h
  | .fenceI .. => execFenceI_kept h
  | .reservationExpiry .. => execReservationExpiry_kept h
  | .ebreak .. => execEbreak_kept h
  | .coreRun .. => execCoreRun_kept h
  | .tcmdWait .. => execTcmdWait_kept h
  | .tcmdYield .. => execTcmdYield_kept h
  | .tcmdExit .. => execTcmdExit_kept h
  | .tcmdSignal .. => execTcmdSignal_kept h
  | .tcmdSpawn .. => execTcmdSpawn_kept h
  | .tcmdStop .. => execTcmdStop_kept h
  | .tcmdStart .. => execTcmdStart_kept h
  | .tcmdMigrate .. => execTcmdMigrate_kept h
  | .tcmdAlarm .. => execTcmdAlarm_kept h
  | .tcmdReqRead .. => execTcmdReqRead_kept h
  | .tcmdReqWrite .. => execTcmdReqWrite_kept h
  | .tflagsWrite .. => execTflagsWrite_kept h
  | .tctlWrite .. => execTctlWrite_kept h
  | .flagApply => execFlagApply_kept h
  | .threadTimeout .. => execThreadTimeout_kept h
  | .alarmFire .. => execAlarmFire_kept h
  | .dispatch .. => execDispatch_kept h
  | .prefetchFill .. => execPrefetchFill_kept h
  | .preemption .. => execPreemption_kept h
  | .contextWriteback .. => execContextWriteback_kept h
  | .requestCompletion => execRequestCompletion_kept h
  | .threadCmdStop .. => execThreadCmdStop_kept h
  | .threadCmdStart .. => execThreadCmdStart_kept h
  | .threadFlagsSet .. => execThreadFlagsSet_kept h
  | .vttx .. => execVttx_kept h
  | .vtrx .. => execVtrx_kept h
  | .trigInputEdge .. => execTrigInputEdge_kept h
  | .trigPulseEnd .. => execTrigPulseEnd_kept h
  | .holdoffExpiry .. => execHoldoffExpiry_kept h
  | .rearm .. => execRearm_kept h
  | .maskTestFetchDone => execMaskTestFetchDone_kept h
  | .traceCmdArm .. => execTraceCmdArm_kept h
  | .traceCmdFreeze .. => execTraceCmdFreeze_kept h
  | .traceRecordWrite => execTraceRecordWrite_kept h
  | .snapshotDone .. => execSnapshotDone_kept h
  | .restoreDone => execRestoreDone_kept h
  | .fabLoadCmdLoad .. => execFabLoadCmdLoad_kept h
  | .fabLoadCmdAbort .. => execFabLoadCmdAbort_kept h
  | .fabLoadCmdUnconfigure .. => execFabLoadCmdUnconfigure_kept h
  | .fabFetchDone .. => execFabFetchDone_kept h
  | .fabCheckDone .. => execFabCheckDone_kept h
  | .fabWriteDone => execFabWriteDone_kept h
  | .regionSelectChange .. => execRegionSelectChange_kept h
  | .regionForcedSwitch .. => execRegionForcedSwitch_kept h
  | .regionLoss .. => execRegionLoss_kept h
  | .safeStateBegin .. => execSafeStateBegin_kept h
  | .padRelease .. => execPadRelease_kept h
  | .safeForce .. => execSafeForce_kept h
  | .finLanePost .. => execFinLanePost_kept h
  | .delayTapStep .. => execDelayTapStep_kept h
  | .userFlashAccess .. => execUserFlashAccess_kept h
  | .userFlashDone => execUserFlashDone_kept h
  | .configScrub .. => execConfigScrub_kept h
  | .roFreqMeasure .. => execRoFreqMeasure_kept h
  | .tapFsMeasure .. => execTapFsMeasure_kept h
  | .registerWrite .. => execRegisterWrite_kept h
  | .shadowWrite .. => execShadowWrite_kept h
  | .counterClear .. => execCounterClear_kept h
  | .accessErrRead .. => execAccessErrRead_kept h
  | .errorRegisterRead .. => execErrorRegisterRead_kept h
  | .errorCountWrite .. => execErrorCountWrite_kept h
  | .bar2Read .. => execBar2Read_kept h
  | .bar2Write .. => execBar2Write_kept h
  | .completionTimeout .. => execCompletionTimeout_kept h
  | .cwReadTimeout => execCwReadTimeout_kept h
  | .threadDoorbell .. => execThreadDoorbell_kept h
  | .dmaDoorbell .. => execDmaDoorbell_kept h
  | .flr => execFlr_kept h
  | .perstN .. => execPerstN_kept h
  | .chCmdRun .. => execChCmdRun_kept h
  | .chCmdStop .. => execChCmdStop_kept h
  | .dmaDescriptor .. => execDmaDescriptor_kept h
  | .acceptedWrite .. => execAcceptedWrite_kept h
  | .xactVectorWrite .. => execXactVectorWrite_kept h
  | .nmtStart => execNmtStart_kept h
  | .nmtStop => execNmtStop_kept h
  | .nmtEnterPreOperational => execNmtEnterPreOperational_kept h
  | .nmtResetNode => execNmtResetNode_kept h
  | .nmtResetCommunication => execNmtResetCommunication_kept h
  | .sdoDownload .. => execSdoDownload_kept h
  | .sdoUpload .. => execSdoUpload_kept h
  | .sdoTimeout => execSdoTimeout_kept h
  | .emcySend => execEmcySend_kept h
  | .heartbeat => execHeartbeat_kept h
  | .busOff .. => execBusOff_kept h
  | .faultSel .. => execFaultSel_kept h
  | .faultAck .. => execFaultAck_kept h
  | .failSet .. => execFailSet_kept h
  | .failClear .. => execFailClear_kept h
  | .remapLc .. => execRemapLc_kept h
  | .loadCmdLoad .. => execLoadCmdLoad_kept h
  | .loadCmdAbort .. => execLoadCmdAbort_kept h
  | .loadFetchDone .. => execLoadFetchDone_kept h
  | .loadCheckDone .. => execLoadCheckDone_kept h
  | .loadWriteDone => execLoadWriteDone_kept h
  | .remapDone => execRemapDone_kept h
  | .runCmdRun .. => execRunCmdRun_kept h
  | .runCmdStep .. => execRunCmdStep_kept h
  | .runCmdTied .. => execRunCmdTied_kept h
  | .runCmdHold .. => execRunCmdHold_kept h
  | .runCmdSnapshot .. => execRunCmdSnapshot_kept h
  | .runCmdStandby .. => execRunCmdStandby_kept h
  | .runCmdDiag .. => execRunCmdDiag_kept h
  | .startPoint => execStartPoint_kept h
  | .modeMoveDone => execModeMoveDone_kept h
  | .diagTestDone .. => execDiagTestDone_kept h
  | .check .. => execCheck_kept h
  | .checkDone .. => execCheckDone_kept h
  | .commit .. => execCommit_kept h
  | .commitAtTime .. => execCommitAtTime_kept h
  | .commitAtDc .. => execCommitAtDc_kept h
  | .discard .. => execDiscard_kept h
  | .commitTimeReached => execCommitTimeReached_kept h
  | .commitPauseEnd => execCommitPauseEnd_kept h
  | .referenceLost .. => execReferenceLost_kept h
  | .pllUnstable .. => execPllUnstable_kept h
  | .hbmPllGate => execHbmPllGate_kept h
  | .clockWaitEnd .. => execClockWaitEnd_kept h
  | .pllRelockFail .. => execPllRelockFail_kept h
  | .stepMuxSwitch .. => execStepMuxSwitch_kept h
  | .railTargetReached .. => execRailTargetReached_kept h
  | .rampLimitExpiry .. => execRampLimitExpiry_kept h
  | .avsbusPoll .. => execAvsbusPoll_kept h
  | .brownOutWarning .. => execBrownOutWarning_kept h
  | .brownOutWarningEnd .. => execBrownOutWarningEnd_kept h
  | .brownOutResetLevel .. => execBrownOutResetLevel_kept h
  | .powerSample .. => execPowerSample_kept h
  | .thermalSample .. => execThermalSample_kept h
  | .halveEnd => execHalveEnd_kept h
  | .thermalShutdown .. => execThermalShutdown_kept h
  | .agePlan .. => execAgePlan_kept h
  | .agePlanCommit => execAgePlanCommit_kept h
  | .persistentStoreWrite => execPersistentStoreWrite_kept h
  | .powerOnReset => execPowerOnReset_kept h
  | .moduleResetN .. => execModuleResetN_kept h
  | .resetCmdWarm .. => execResetCmdWarm_kept h
  | .resetCmdManagement .. => execResetCmdManagement_kept h
  | .managementWatchdog => execManagementWatchdog_kept h
  | .dieReset .. => execDieReset_kept h
  | .auxStartDone => execAuxStartDone_kept h
  | .clocksDone => execClocksDone_kept h
  | .hubStart .. => execHubStart_kept h
  | .romDone .. => execRomDone_kept h
  | .firmwareDone .. => execFirmwareDone_kept h
  | .hbmDone .. => execHbmDone_kept h
  | .testLogicReset => execTestLogicReset_kept h
  | .extest .. => execExtest_kept h
  | .samplePreload .. => execSamplePreload_kept h
  | .idcode => execIdcode_kept h
  | .clamp => execClamp_kept h
  | .highz => execHighz_kept h
  | .bypass => execBypass_kept h
  | .dstat => execDstat_kept h
  | .daccRead .. => execDaccRead_kept h
  | .daccWrite .. => execDaccWrite_kept h
  | .daccCapture => execDaccCapture_kept h
  | .haltreq .. => execHaltreq_kept h
  | .resumereq .. => execResumereq_kept h
  | .clrBroke .. => execClrBroke_kept h
  | .haltDeferLimit .. => execHaltDeferLimit_kept h
  | .coreHalted .. => execCoreHalted_kept h
  | .dhalt .. => execDhalt_kept h
  | .vtTx .. => execVtTx_kept h
  | .vtRx .. => execVtRx_kept h
  | .flCmdProgram .. => execFlCmdProgram_kept h
  | .flCmdErase .. => execFlCmdErase_kept h
  | .flDone .. => execFlDone_kept h
  | .lcReq .. => execLcReq_kept h
  | .lcTransitionDone => execLcTransitionDone_kept h
  | .keyCmdInstallImageKey .. => execKeyCmdInstallImageKey_kept h
  | .keyCmdInstallSigningKey .. => execKeyCmdInstallSigningKey_kept h
  | .keyCmdSetOwnerKey .. => execKeyCmdSetOwnerKey_kept h
  | .keyCmdRevoke .. => execKeyCmdRevoke_kept h
  | .abandonOpening => execAbandonOpening_kept h
  | .abandonHold => execAbandonHold_kept h
  | .canErrorPassive .. => execCanErrorPassive_kept h
  | .ageingSensorReport .. => execAgeingSensorReport_kept h
  | .regionFreqMeasure .. => execRegionFreqMeasure_kept h
  | .judgingWindowEnd .. => execJudgingWindowEnd_kept h
  | .regionLossEnd .. => execRegionLossEnd_kept h

/-- A step leaves the queue behind the command at its front, and keeps the stores and the bounds. -/
theorem step_kept {s : State} (h : s.Kept s.pending) : Out.Kept s.pending.tail (step s) := by
  unfold step
  split
  case h_1 hq => exact Out.next_kept (by simpa [hq] using State.idle_kept h)
  case h_2 c rest hq => simpa [hq] using exec_kept h.dequeued c

/-- Settles O56: `State.Kept`, which is both conditions, is kept by every command and by the idle tick. -/
theorem stepKeepsStoresAndBounds : Obligations.StepKeepsStoresAndBounds := by
  intro s t ht hb hstep
  have hkept : t.Kept s.pending.tail := step_kept (State.kept_of_tidy_of_bounded ht hb) t hstep
  exact ⟨hkept.tidy, hkept.bounded⟩

end Sys2Proof.Machine
end

section
/-!
PROOFS. What a master's write of an object does (R191, R372–R374, R376, R394, R396, R400): the length that is judged first, the class of
the object, and the writes that have commands of their own.
-/

namespace Sys2Proof.Machine

/-! ### What an object's class makes of a write (R372–R374, R396, R400) -/

section Class

variable {k : Nat}

theorem writeObj_of_undeclared (m : Master) (v : Nat) (s : State) (h : rowOf k = none) : writeObj m k v s = (s.astray, eNone) := by
  simp only [writeObj, h]

variable {r : Row} (hr : rowOf k = some r)

include hr

theorem writeObj_of_readOnly (m : Master) (v : Nat) (s : State) (ha : r.acc = .const ∨ r.acc = .ro) :
    writeObj m k v s = (s, eReadOnly) := by
  rcases ha with ha | ha <;> simp only [writeObj, hr, ha]

theorem writeObj_of_counter (m : Master) (v : Nat) (s : State) (ha : r.acc = .rw) (hc : r.clears = true) :
    writeObj m k v s = (s.clearCounter k, eNone) := by
  simp only [writeObj, hr, ha, hc, if_true]

end Class

/-! ### Writes of a served object -/

section Register

variable {s : State} {m : Master} {key : BitVec 24} {v : BitVec 64} {bytes : Fin 16}

theorem exec_registerWrite_of_wrong_length (hs : s.serves key.toNat) (hm : m = .pcie) (hn : lengthFits key.toNat bytes.val = false) :
    exec (.registerWrite m key v bytes) s = .next (s.refuse m key.toNat eSize) := by
  obtain ⟨hrun, hgate⟩ := hs
  exact if_pos (by simp [hm, hn, hrun, hgate])

/-- A write whose length fits, which R376 asks of PCIe alone, is the write of its object. -/
theorem exec_registerWrite_of_fitting_length (h : m = .pcie → lengthFits key.toNat bytes.val = true) :
    exec (.registerWrite m key v bytes) s = s.write m key.toNat v.toNat (writeObj m key.toNat v.toNat) := by
  refine if_neg fun hwrong => ?_
  simp only [Bool.and_eq_true, beq_iff_eq, Bool.not_eq_true'] at hwrong
  obtain ⟨⟨⟨hm, hn⟩, -⟩, -⟩ := hwrong
  exact absurd (h hm) (Bool.eq_false_iff.mp hn)

end Register

section Shadow

variable {s : State} {m : Master} {key : BitVec 24}

theorem exec_shadowWrite_of_not_staged {v : BitVec 64} (h : isStaged key.toNat = false) : exec (.shadowWrite m key v) s = .next s :=
  if_neg (Bool.eq_false_iff.mp h)

theorem exec_shadowWrite_of_staged {v : BitVec 64} (h : isStaged key.toNat = true) :
    exec (.shadowWrite m key v) s =
      s.write m key.toNat (v.toNat % 2 ^ widthOf key.toNat) (writeShadow key.toNat (v.toNat % 2 ^ widthOf key.toNat)) :=
  if_pos h

theorem writeShadow_of_unfit {k v : Nat} (hl : listKey k = true) (hf : listFits k v = false) : writeShadow k v s = (s, eRange) :=
  if_pos (by simp [hl, hf])

theorem writeShadow_of_fit {k v : Nat} (h : listKey k = false ∨ listFits k v = true) : writeShadow k v s = (s.stageWrite k v, eNone) :=
  if_neg (by rcases h with h | h <;> simp [h])

end Shadow

section Counter

variable {s : State} {m : Master} {key : BitVec 24}

theorem exec_counterClear_of_not_counter (h : clearsOnWrite key.toNat = false) : exec (.counterClear m key) s = .next s :=
  if_neg (Bool.eq_false_iff.mp h)

theorem exec_counterClear_of_counter (h : clearsOnWrite key.toNat = true) (hs : s.serves key.toNat) :
    exec (.counterClear m key) s = .next (s.clearCounter key.toNat) :=
  (if_pos h).trans (State.write_accepted hs rfl)

/-- A counter that is an object of its own, not one of the selected cluster (R409). -/
theorem State.clearCounter_of_object {k : Nat} (h : ¬ (0x242002 ≤ k ∧ k ≤ 0x24200C)) : s.clearCounter k = s.setObj k 0 :=
  if_neg (by simpa using h)

end Counter

/-- ERROR_COUNT and the fields of the list, emptied (R394). -/
def clearedErrorList : List (Nat × Nat) := (O.ERROR_COUNT, 0) :: (List.range 16).map fun i => (O.ERROR_FIELD i, 0)

theorem clearedErrorList_nodup : (clearedErrorList.map Prod.fst).Nodup := by decide

theorem writeErrorCount_zero (s : State) : writeErrorCount 0 s = (s.setObjs clearedErrorList, eNone) := rfl

theorem writeErrorCount_of_ne_zero {v : Nat} (s : State) (h : v ≠ 0) : writeErrorCount v s = (s, eRange) := if_pos h

theorem writeAccepted_zero (v : Nat) (s : State) :
    writeAccepted 0 v s = (s.setObj O.ACCEPTED_0 ((v &&& s.obj O.OFFERED_0) ||| 1), eNone) := rfl

theorem writeAccepted_of_ne_zero {i : Nat} (v : Nat) (s : State) (h : i ≠ 0) :
    writeAccepted i v s = (s.setObj (O.ACCEPTED_X (i - 1)) (v &&& s.obj (O.OFFERED_X (i - 1))), eNone) := if_neg h

/-- Settles O35: a write of the wrong length is refused, any other goes by the class of its object; a write with a command of its own goes
by the one condition on its key or value. -/
theorem mastersWriteObjects : Obligations.MastersWriteObjects := by
  refine fun s m key v => ⟨fun hs bytes => ⟨?wrongLength, fun hfit => ?byClass⟩, exec_shadowWrite_of_not_staged, fun hk hs => ?staged,
    exec_counterClear_of_not_counter, fun hk hs => ⟨exec_counterClear_of_counter hk hs, fun hc => ?cleared⟩, fun hs e => ?errorCount,
    fun hs => ⟨_, State.write_accepted hs (writeAccepted_zero ..), State.wrote_setObj ..⟩, fun i hi hs => ?accepted⟩
  case wrongLength =>
    intro hn
    obtain ⟨hm, hlen⟩ := Classical.not_imp.mp hn
    exact exec_registerWrite_of_wrong_length hs hm (Bool.eq_false_iff.mpr hlen)
  case byClass =>
    rw [exec_registerWrite_of_fitting_length hfit]
    exact ⟨fun hr => State.write_accepted hs (writeObj_of_undeclared m _ s hr),
      fun r hr ha => State.write_refused hs (writeObj_of_readOnly hr m _ s ha) (by decide),
      fun r hr ha hc => State.write_accepted hs (writeObj_of_counter hr m _ s ha hc),
      fun hc => State.write_accepted hs (Prod.ext rfl hc), State.write_refused hs rfl⟩
  case staged =>
    intro w
    rw [exec_shadowWrite_of_staged hk]
    exact ⟨fun hl hf => State.write_refused hs (writeShadow_of_unfit hl hf) (by decide),
      fun hf => State.write_accepted hs (writeShadow_of_fit hf)⟩
  case cleared =>
    rw [State.clearCounter_of_object hc]
    exact State.wrote_setObj ..
  case errorCount =>
    refine ⟨fun hz => ⟨_, State.write_accepted hs ?_, State.wrote_setObjs s _ clearedErrorList_nodup⟩,
      fun hz => State.write_refused hs (writeErrorCount_of_ne_zero s hz) (by decide)⟩
    rw [hz]
    exact writeErrorCount_zero s
  case accepted =>
    exact ⟨_, State.write_accepted hs (writeAccepted_of_ne_zero _ s (Fin.val_ne_of_ne hi)), State.wrote_setObj ..⟩

end Sys2Proof.Machine
end

section
/-!
PROOFS. Run orders (R181, R183–R186, R254, R322, R336): what their answer depends on (Table 08-3, Table 08-5), and what an accepted one
does at once.
-/

namespace Sys2Proof.Machine

/-! ### The answer -/

section Answer

variable {s : State} {m : Master} {k : OrderKind}

/-- The order comes from the debug port of a module that shows its identity alone. -/
def State.deniesOrder (s : State) (m : Master) : Prop := m = .debug ∧ s.identityOnly = true

/-- What turns an order away with MODE whatever its value: the mode, a recovery, an invalid state, or for TIED the time base. -/
def State.turnsOrder (s : State) (k : OrderKind) : Prop :=
  orderTable k s.judgedMode = 0 ∨ (s.recovering = true ∧ s.obj O.RECOVERY_STATE ≠ 4 ∧ k ≠ .hold) ∨
    ((k = .run ∨ k = .step ∨ k = .tied ∨ k = .snapshot) ∧ s.obj O.STATE_VALID = 0) ∨ (k = .tied ∧ s.tiedReady = false)

/-- The answer to an order that is neither denied nor turned away: what is left to judge is a STEP's count and a self-test. -/
def State.valueAnswer (s : State) (k : OrderKind) : Nat :=
  if orderTable k s.judgedMode = 2 then 1
  else if k = .step ∧ s.obj O.STEP_COUNT = 0 then 3
  else if k = .diag ∧ s.keys.target.isSome then 2
  else if k = .diag ∧ diagTest (s.obj O.DIAG_SEL) = false then 3
  else 1

theorem State.orderAnswer_of_denied (h : s.deniesOrder m) : s.orderAnswer m k = 5 := by
  obtain ⟨hm, hi⟩ := h
  exact if_pos (by simp [hm, hi])

theorem State.orderAnswer_of_turned (hd : ¬ s.deniesOrder m) (h : s.turnsOrder k) : s.orderAnswer m k = 2 := by
  have hopen : ¬ (decide (m = .debug) && s.identityOnly) = true := by simpa [State.deniesOrder] using hd
  unfold State.orderAnswer
  simp only [if_neg hopen]
  rcases h with h | ⟨hr, h4, hk⟩ | ⟨hk, hv⟩ | ⟨hk, ht⟩
  · simp [h]
  · simp [hr, h4, hk]
  · rcases hk with rfl | rfl | rfl | rfl <;> simp [hv]
  · simp [hk, ht]

theorem State.orderAnswer_of_judged (hd : ¬ s.deniesOrder m) (h : ¬ s.turnsOrder k) : s.orderAnswer m k = s.valueAnswer k := by
  simp only [State.deniesOrder] at hd
  simp only [State.turnsOrder, not_or] at h
  obtain ⟨htable, hbusy, hvoid, htied⟩ := h
  simp only [State.orderAnswer, State.valueAnswer, Bool.and_eq_true, Bool.or_eq_true, decide_eq_true_eq, beq_iff_eq, Bool.not_eq_true',
    and_assoc, or_assoc, hd, htable, hbusy, hvoid, htied, if_false]

theorem State.valueAnswer_of_no_change (h : orderTable k s.judgedMode = 2) : s.valueAnswer k = 1 := if_pos h

theorem State.valueAnswer_step (h : orderTable .step s.judgedMode ≠ 2) :
    s.valueAnswer .step = if s.obj O.STEP_COUNT = 0 then 3 else 1 := by
  simp [State.valueAnswer, h]

theorem State.valueAnswer_diag (h : orderTable .diag s.judgedMode ≠ 2) :
    s.valueAnswer .diag = if s.keys.target.isSome then 2 else if diagTest (s.obj O.DIAG_SEL) then 1 else 3 := by
  simp only [State.valueAnswer, h]
  cases diagTest (s.obj O.DIAG_SEL) <;> simp

theorem State.valueAnswer_of_other (hs : k ≠ .step) (hd : k ≠ .diag) : s.valueAnswer k = 1 := by
  simp [State.valueAnswer, hs, hd]

theorem State.judgedMode_of_not_snapshot (h : s.mode ≠ mSnapshot) : s.judgedMode = s.mode := if_neg (by simpa using h)

theorem State.valueAnswer_step_of_count (h : s.obj O.STEP_COUNT ≠ 0) : s.valueAnswer .step = 1 := by
  simp [State.valueAnswer, h]

theorem State.valueAnswer_diag_of_test (hk : s.keys.target = none) (hd : diagTest (s.obj O.DIAG_SEL) = true) :
    s.valueAnswer .diag = 1 := by
  simp [State.valueAnswer, hk, hd]

/-- What leaves an order to Table 08-3 and to its value: no recovery, a valid state, and for TIED the time base. -/
theorem State.not_turnsOrder (hr : s.recovering = false) (hv : s.obj O.STATE_VALID ≠ 0) (ht : k = .tied → s.tiedReady = true)
    (hm : orderTable k s.judgedMode ≠ 0) : ¬ s.turnsOrder k := by
  rintro (h | ⟨h, -⟩ | ⟨-, h⟩ | ⟨hk, h⟩)
  · exact hm h
  · simp [hr] at h
  · exact hv h
  · simp [ht hk] at h

end Answer

/-! ### The answer shown -/

section Answered

variable (s : State) (m : Master) (r : Nat)

theorem State.wrote_answered :
    ({ s with run := { s.run with serial := s.run.serial + 1
                                  lastOrder := tput (fun _ => 0) s.run.lastOrder (Master.number m) (s.run.serial + 1) } }
      : State).wrote (s.answered m r) [(orderKey m, r)] :=
  State.wrote_setObj ..

theorem State.obj_answered {k : Nat} (h : k ≠ orderKey m) : (s.answered m r).obj k = s.obj k := State.obj_setObj_other _ _ h

theorem State.answered_mode : (s.answered m r).mode = s.mode := by
  have h : (s.answered m r).obj O.MODE = s.obj O.MODE := s.obj_answered m r (by cases m <;> decide)
  exact congrArg (fun v => if s.host.up then v else mOff) h

theorem State.answered_advancing : (s.answered m r).advancing = s.advancing := by
  simp only [State.advancing, State.answered_mode]

theorem State.answered_recovering : (s.answered m r).recovering = s.recovering := by
  simp only [State.recovering, s.obj_answered m r (k := O.RECOVERY_STATE) (by cases m <;> decide)]

theorem State.answered_snapSlot : (s.answered m r).snapSlot = s.snapSlot := by
  have hcount := s.obj_answered m r (k := O.PEAT_COUNT) (by cases m <;> decide)
  have hnext := s.obj_answered m r (k := O.PEAT_NEXT) (by cases m <;> decide)
  have hpin := s.obj_answered m r (k := O.PEAT_PIN) (by cases m <;> decide)
  simp only [State.snapSlot, State.slotsFrom, State.objBit, hcount, hnext, hpin]

end Answered

/-! ### The order of a RUN_CMD value -/

section Order

variable {s : State} {m : Master} {k : OrderKind}

/-- The commands that write RUN_CMD, with their orders. -/
def runCommands (m : Master) : List (Instr × OrderKind) :=
  [(.runCmdRun m, .run), (.runCmdStep m, .step), (.runCmdTied m, .tied), (.runCmdHold m, .hold), (.runCmdSnapshot m, .snapshot),
    (.runCmdStandby m, .standby), (.runCmdDiag m, .diag)]

theorem exec_runCommand (hs : s.serves O.RUN_CMD) {c : Instr} (h : (c, k) ∈ runCommands m) : exec c s = .next (s.runOrder m k) := by
  simp only [runCommands, List.mem_cons, List.not_mem_nil, or_false, Prod.mk.injEq] at h
  rcases h with ⟨rfl, rfl⟩ | ⟨rfl, rfl⟩ | ⟨rfl, rfl⟩ | ⟨rfl, rfl⟩ | ⟨rfl, rfl⟩ | ⟨rfl, rfl⟩ | ⟨rfl, rfl⟩
  all_goals exact State.write_accepted hs rfl

theorem State.runOrder_of_accepted (h : s.orderAnswer m k = 1) : s.runOrder m k = (s.answered m 1).acceptOrder m k := by
  simp only [State.runOrder, h, if_true]

theorem State.runOrder_of_not_accepted (h : s.orderAnswer m k ≠ 1) : s.runOrder m k = s.answered m (s.orderAnswer m k) := if_neg h

/-- Table 08-3 takes no order in SNAPSHOT itself: there the mode that follows judges (R184). -/
theorem ne_mSnapshot_of_orderTable {n : Nat} (h : orderTable k n ≠ 0) : n ≠ mSnapshot := by
  rintro rfl
  cases k <;> exact h rfl

theorem orderTable_ne_zero_of_held {n : Nat} (k : OrderKind) (h : n = mReady ∨ n = mHold) : orderTable k n ≠ 0 := by
  rcases h with rfl | rfl <;> cases k <;> decide

theorem orderTable_ne_zero_of_rerun {n : Nat} (hk : k = .run ∨ k = .step) (h : n = mReady ∨ n = mHold ∨ n = mRun ∨ n = mStep) :
    orderTable k n ≠ 0 := by
  rcases hk with rfl | rfl <;> rcases h with rfl | rfl | rfl | rfl <;> decide

theorem orderTable_tied_ne_zero {n : Nat} (h : n = mReady ∨ n = mHold ∨ n = mTied) : orderTable .tied n ≠ 0 := by
  rcases h with rfl | rfl | rfl <;> decide

theorem State.advancing_iff (s : State) : s.advancing = true ↔ s.mode = mRun ∨ s.mode = mStep ∨ s.mode = mTied := by
  simp [State.advancing, or_assoc]

theorem orderTable_ne_zero_of_advancing (hk : k = .hold ∨ k = .snapshot) (h : s.advancing = true) : orderTable k s.mode ≠ 0 := by
  rcases hk with rfl | rfl <;> rcases s.advancing_iff.mp h with h | h | h <;> rw [h] <;> decide

theorem State.not_advancing_of_held (h : s.mode = mReady ∨ s.mode = mHold) : s.advancing = false := by
  have hne (n : Nat) (hready : mReady ≠ n) (hhold : mHold ≠ n) : s.mode ≠ n := by
    rcases h with h | h
    · exact h ▸ hready
    · exact h ▸ hhold
  rw [Bool.eq_false_iff, ne_eq, State.advancing_iff]
  rintro (h | h | h)
  · exact hne mRun (by decide) (by decide) h
  · exact hne mStep (by decide) (by decide) h
  · exact hne mTied (by decide) (by decide) h

end Order

/-! ### An accepted order outside SNAPSHOT -/

section Accepted

variable {t : State} (m : Master)

/-- The order as it waits: with the count of its time, under the number of the last answer. -/
def State.newOrder (t : State) (m : Master) (k : OrderKind) : Order := ⟨k, m, t.obj O.STEP_COUNT, t.run.serial⟩

/-- The order waits in the order window. -/
def State.orderWaits (t : State) (m : Master) (k : OrderKind) : State :=
  { t with run := { t.run with window := t.run.window ++ [t.newOrder m k] } }

variable (hm : t.mode ≠ mSnapshot)

include hm

theorem State.acceptOrder_of_start {k : OrderKind} (hk : k = .run ∨ k = .step ∨ k = .tied) :
    t.acceptOrder m k = t.orderWaits m k := by
  rcases hk with rfl | rfl | rfl <;> simp [State.acceptOrder, hm, State.orderWaits, State.newOrder]

theorem State.acceptOrder_hold_of_advancing (ha : t.advancing = true) (hr : t.recovering = false) :
    t.acceptOrder m .hold = (t.orderWaits m .hold).forwardStop 1 := by
  simp [State.acceptOrder, hm, ha, hr, State.orderWaits, State.newOrder]

theorem State.acceptOrder_snapshot_of_advancing (ha : t.advancing = true) :
    t.acceptOrder m .snapshot = { t with run := { t.run with snaps := t.run.snaps ++ [0] } } := by
  simp [State.acceptOrder, hm, ha]

theorem State.acceptOrder_snapshot_of_held (ha : t.advancing = false) (hp : t.run.pause = none) {slot : Nat}
    (hslot : t.snapSlot = .inl slot) : t.acceptOrder m .snapshot = t.beginSnapshot slot 0 := by
  simp [State.acceptOrder, State.snapshotNow, hm, ha, hp, hslot]

theorem State.acceptOrder_standby : t.acceptOrder m .standby = t.orderMove (t.newOrder m .standby) := by
  simp [State.acceptOrder, State.newOrder, hm]

theorem State.acceptOrder_diag : t.acceptOrder m .diag = t.orderMove (t.newOrder m .diag) := by
  simp [State.acceptOrder, State.newOrder, hm]

omit hm in
/-- A held module begins its move at once (R184). -/
theorem State.orderMove_of_held {o : Order} (hh : t.mode = mReady ∨ t.mode = mHold) (hv : t.run.moving = none)
    (ho : o.kind = .standby ∨ o.kind = .diag) : t.orderMove o = t.beginMove (o.kind.leads t.mode) := by
  have hleads : t.mode ≠ o.kind.leads t.mode := by
    rcases ho with ho | ho <;> rcases hh with hh | hh <;> rw [ho, hh] <;> decide
  have hdiag : t.mode ≠ mDiag := by
    rcases hh with hh | hh <;> rw [hh] <;> decide
  simp only [State.orderMove, if_neg hleads, if_neg hdiag, hv, Option.isSome_none, Bool.false_eq_true, if_false]

end Accepted

/-- RUN_CMD is served, and no closed port, recovery or invalid state stands against the orders of a master. -/
structure State.HearsOrders (s : State) (m : Master) : Prop where
  serves : s.serves O.RUN_CMD
  portOpen : ¬ s.deniesOrder m
  quiet : s.recovering = false
  valid : s.obj O.STATE_VALID ≠ 0

/-- An order that Table 08-3 takes in the mode, and whose value is judged good, acts in the state that shows its answer. -/
theorem State.HearsOrders.exec_eq {s u : State} {m : Master} {c : Instr} (h : s.HearsOrders m) (k : OrderKind)
    (hc : (c, k) ∈ runCommands m) (hm : orderTable k s.mode ≠ 0) (ht : k = .tied → s.tiedReady = true) (hv : s.valueAnswer k = 1)
    (hu : (s.answered m 1).mode ≠ mSnapshot → (s.answered m 1).acceptOrder m k = u) : exec c s = .next u := by
  have hn : s.mode ≠ mSnapshot := ne_mSnapshot_of_orderTable hm
  rw [← State.judgedMode_of_not_snapshot hn] at hm
  have hanswer : s.orderAnswer m k = 1 :=
    (State.orderAnswer_of_judged h.portOpen (State.not_turnsOrder h.quiet h.valid ht hm)).trans hv
  rw [exec_runCommand h.serves hc, State.runOrder_of_accepted hanswer, hu (by rwa [State.answered_mode])]

/-- Settles O43: an order is denied, turned away, or judged by its value; the accepted ones are then those that Table 08-3 takes in the
mode, and act as `State.acceptOrder` says of a module outside SNAPSHOT. -/
theorem ordersAreAnswered : Obligations.OrdersAreAnswered := by
  refine ⟨fun s m => ⟨fun hs c k hc => ⟨exec_runCommand hs hc, fun h => ?refused⟩, s.wrote_answered m, fun k => ?answers⟩,
    fun s m hs hdebug hr hv => ?accepted⟩
  case refused => rw [exec_runCommand hs hc, State.runOrder_of_not_accepted h]
  case answers =>
    refine ⟨State.orderAnswer_of_denied, State.orderAnswer_of_turned, fun hd ht => ?_⟩
    rw [State.orderAnswer_of_judged hd ht]
    refine ⟨State.valueAnswer_of_no_change, ?_, ?_, fun _ => State.valueAnswer_of_other⟩
    · rintro h2 rfl
      exact State.valueAnswer_step h2
    · rintro h2 rfl
      exact State.valueAnswer_diag h2
  case accepted =>
    intro t waits
    have hears : s.HearsOrders m := ⟨hs, fun ⟨hm, hi⟩ => by simp [hdebug hm] at hi, hr, hv⟩
    have hmode : t.mode = s.mode := s.answered_mode m 1
    have hadv : t.advancing = s.advancing := s.answered_advancing m 1
    have hrec : t.recovering = false := (s.answered_recovering m 1).trans hr
    refine ⟨fun hm => ?run, fun hm hc => ?step, fun hm ht => ?tied, fun ha => ?hold, fun ha => ?snapshotLater,
      fun slot hm hp hslot => ?snapshotNow, fun hm hv => ⟨?standby, fun hk hd => ?diag⟩⟩
    case run =>
      exact hears.exec_eq .run (by simp [runCommands]) (orderTable_ne_zero_of_rerun (.inl rfl) hm) nofun
        (State.valueAnswer_of_other nofun nofun) fun hn => State.acceptOrder_of_start m hn (.inl rfl)
    case step =>
      exact hears.exec_eq .step (by simp [runCommands]) (orderTable_ne_zero_of_rerun (.inr rfl) hm) nofun
        (State.valueAnswer_step_of_count hc) fun hn => State.acceptOrder_of_start m hn (.inr (.inl rfl))
    case tied =>
      exact hears.exec_eq .tied (by simp [runCommands]) (orderTable_tied_ne_zero hm) (fun _ => ht)
        (State.valueAnswer_of_other nofun nofun) fun hn => State.acceptOrder_of_start m hn (.inr (.inr rfl))
    case hold =>
      exact hears.exec_eq .hold (by simp [runCommands]) (orderTable_ne_zero_of_advancing (.inl rfl) ha) nofun
        (State.valueAnswer_of_other nofun nofun) fun hn => State.acceptOrder_hold_of_advancing m hn (hadv.trans ha) hrec
    case snapshotLater =>
      exact hears.exec_eq .snapshot (by simp [runCommands]) (orderTable_ne_zero_of_advancing (.inr rfl) ha) nofun
        (State.valueAnswer_of_other nofun nofun) fun hn => State.acceptOrder_snapshot_of_advancing m hn (hadv.trans ha)
    case snapshotNow =>
      exact hears.exec_eq .snapshot (by simp [runCommands]) (orderTable_ne_zero_of_held _ hm) nofun
        (State.valueAnswer_of_other nofun nofun) fun hn => State.acceptOrder_snapshot_of_held m hn
          (hadv.trans (State.not_advancing_of_held hm)) hp ((s.answered_snapSlot m 1).trans hslot)
    case standby =>
      exact hears.exec_eq .standby (by simp [runCommands]) (orderTable_ne_zero_of_held _ hm) nofun
        (State.valueAnswer_of_other nofun nofun) fun hn =>
          (State.acceptOrder_standby m hn).trans (State.orderMove_of_held (hmode ▸ hm) hv (.inl rfl))
    case diag =>
      exact hears.exec_eq .diag (by simp [runCommands]) (orderTable_ne_zero_of_held _ hm) nofun
        (State.valueAnswer_diag_of_test hk hd) fun hn =>
          (State.acceptOrder_diag m hn).trans (State.orderMove_of_held (hmode ▸ hm) hv (.inr rfl))

end Sys2Proof.Machine
end

section
/-!
PROOFS. How orders take effect (R178, R181–R185, R411): at the start point, at the end of a move to STANDBY or DIAG, and at the end of a
self-test.
-/

namespace Sys2Proof.Machine

/-! ### What an order that takes effect leaves of run control -/

section Frame

variable (s : State)

@[simp] theorem State.msix_run (v : Nat) : (s.msix v).run = s.run := by
  unfold State.msix
  split <;> rfl

@[simp] theorem State.msix_host (v : Nat) : (s.msix v).host = s.host := by
  unfold State.msix
  split <;> rfl

@[simp] theorem State.msix_obj (v k : Nat) : (s.msix v).obj k = s.obj k := by
  unfold State.msix
  split <;> rfl

@[simp] theorem State.msix_mode (v : Nat) : (s.msix v).mode = s.mode := by
  simp only [State.mode, State.msix_host, State.msix_obj]

theorem State.setObj_mode {k : Nat} (v : Nat) (h : O.MODE ≠ k) : (s.setObj k v).mode = s.mode := by
  simp only [State.mode, State.setObj_host, State.obj_setObj_other s v h]

theorem State.setObjs_mode (l : List (Nat × Nat)) (h : O.MODE ∉ l.map Prod.fst) : (s.setObjs l).mode = s.mode := by
  have hhost : (s.setObjs l).host = s.host := (congrArg State.host (s.setObjs_other l) :)
  have hmode : (s.setObjs l).obj O.MODE = s.obj O.MODE :=
    State.obj_setObjs s l fun e he hk => h (hk ▸ List.mem_map_of_mem he)
  simp only [State.mode, hhost, hmode]

theorem State.setObjs_run (l : List (Nat × Nat)) : (s.setObjs l).run = s.run :=
  (congrArg State.run (s.setObjs_other l) :)

@[simp] theorem State.setMode_run (m : Nat) : (s.setMode m).run = s.run := by
  unfold State.setMode
  split
  · rfl
  · simp

theorem State.setMode_obj {m k : Nat} (hm : k ≠ O.MODE) (hp : k ≠ O.MODE_PREVIOUS) : (s.setMode m).obj k = s.obj k := by
  unfold State.setMode
  split
  · rfl
  · rw [State.msix_obj, State.obj_setObj_other _ _ hm, State.obj_setObj_other _ _ hp]

/-- A module that is not in the mode set is OFF. -/
theorem State.setMode_mode_ne {m n : Nat} (hm : m ≠ n) (hn : mOff ≠ n) : (s.setMode m).mode ≠ n := by
  unfold State.setMode
  split
  case isTrue h => exact h ▸ hm
  case isFalse =>
    rw [State.msix_mode, State.mode, State.obj_setObj_same]
    split
    · exact hm
    · exact hn

/-! Tied domains stand outside run control and the mode. -/

@[simp] theorem State.tiedStart_run : s.tiedStart.run = s.run := by
  unfold State.tiedStart
  refine List.foldlRecOn (motive := fun u : State => u.run = s.run) _ _ (State.setObjs_run ..) fun u hu i _ => ?_
  dsimp only
  split
  · rw [State.setObjs_run, State.setTie_run, hu]
  · exact hu

theorem State.tiedStart_mode : s.tiedStart.mode = s.mode := by
  unfold State.tiedStart
  have hstart : O.MODE ∉ [O.TIED_STATE, O.START_LAST, O.TB_HOLDOVER, O.ANCHOR] := by decide
  have hslot (i : Nat) : O.MODE ∉ [O.NEXT_EDGE i, O.BUCKET i] := by
    simp only [List.mem_cons, List.not_mem_nil, or_false, not_or, O.NEXT_EDGE, O.BUCKET, O.MODE]
    omega
  refine List.foldlRecOn (motive := fun u : State => u.mode = s.mode) _ _ (State.setObjs_mode _ _ hstart) fun u hu i _ => ?_
  dsimp only
  split
  · refine (State.setObjs_mode _ _ ?_).trans hu
    exact hslot i
  · exact hu

theorem State.tiesOff_frame : s.tiesOff.run = s.run ∧ s.tiesOff.dict = s.dict ∧ s.tiesOff.host = s.host := by
  unfold State.tiesOff
  split
  · exact ⟨rfl, rfl, rfl⟩
  · refine List.foldlRecOn (motive := fun u : State => u.run = s.run ∧ u.dict = s.dict ∧ u.host = s.host) _ _ ⟨rfl, rfl, rfl⟩
      fun u hu i _ => ?_
    dsimp only
    split
    · exact hu
    · exact hu

@[simp] theorem State.tiesOff_run : s.tiesOff.run = s.run := s.tiesOff_frame.1

@[simp] theorem State.tiesOff_obj (k : Nat) : s.tiesOff.obj k = s.obj k := by
  obtain ⟨-, hdict, -⟩ := s.tiesOff_frame
  simp only [State.obj, hdict]

@[simp] theorem State.tiesOff_mode : s.tiesOff.mode = s.mode := by
  obtain ⟨-, -, hhost⟩ := s.tiesOff_frame
  simp only [State.mode, hhost, State.tiesOff_obj]

@[simp] theorem State.fate_run (o : Order) (r : Nat) : (s.fate o r).run = s.run := by
  unfold State.fate
  split <;> rfl

@[simp] theorem State.supersede_run (l : List Order) (w : Option Order) : (s.supersede l w).run = s.run :=
  List.foldlRecOn (motive := fun u : State => u.run = s.run) _ _ rfl fun u hu o _ => (u.fate_run o _).trans hu

end Frame

/-! ### One start order of a held module (R182, R183, R185) -/

section Start

variable {s : State} {o : Order}

/-- A start order: RUN, STEP or TIED. -/
def Order.starts (o : Order) : Prop := o.kind = .run ∨ o.kind = .step ∨ o.kind = .tied

theorem State.takeOrder_run (h : o.kind = .run) : s.takeOrder o = (s.setObj O.STEP_REMAIN 0).setMode mRun := by
  simp only [State.takeOrder, h]

theorem State.takeOrder_step (h : o.kind = .step) : s.takeOrder o = (s.setObj O.STEP_REMAIN o.count).setMode mStep := by
  simp only [State.takeOrder, h]

theorem State.takeOrder_tied (h : o.kind = .tied) (hm : s.mode ≠ mTied) :
    s.takeOrder o = ((s.setObj O.STEP_REMAIN 0).setMode mTied).tiedStart := by
  simp [State.takeOrder, h, hm]

theorem State.takeOrder_tied_of_tied (h : o.kind = .tied) (hm : s.mode = mTied) : s.takeOrder o = s := by
  simp [State.takeOrder, h, hm]

theorem State.takeOrder_keeps_run (h : o.starts) : (s.takeOrder o).run = s.run := by
  rcases h with h | h | h
  · simp [State.takeOrder_run h]
  · simp [State.takeOrder_step h]
  · by_cases hm : s.mode = mTied
    · rw [State.takeOrder_tied_of_tied h hm]
    · simp [State.takeOrder_tied h hm]

/-- A STEP run that has no DC left. -/
def State.stepDone (s : State) : Prop := s.mode = mStep ∧ s.obj O.STEP_REMAIN = 0

/-- No order but a STEP of 0 leaves a STEP run without a DC. -/
theorem State.takeOrder_not_stepDone (h : o.kind = .run ∨ o.kind = .tied ∨ (o.kind = .step ∧ o.count ≠ 0)) :
    ¬ (s.takeOrder o).stepDone := by
  rintro ⟨hmode, hremain⟩
  rcases h with h | h | ⟨h, hc⟩
  · rw [State.takeOrder_run h] at hmode
    exact State.setMode_mode_ne _ (by decide) (by decide) hmode
  · by_cases hm : s.mode = mTied
    · rw [State.takeOrder_tied_of_tied h hm, hm] at hmode
      exact absurd hmode (by decide)
    · rw [State.takeOrder_tied h hm, State.tiedStart_mode] at hmode
      exact State.setMode_mode_ne _ (by decide) (by decide) hmode
  · rw [State.takeOrder_step h, State.setMode_obj _ (by decide) (by decide), State.obj_setObj_same] at hremain
    exact hc hremain

theorem winner_singleton (h : o.starts) : winner [o] = some o := by
  rcases h with h | h | h <;> simp [winner, lastOf, h]

/-- The state in which the only order of a window has taken effect. -/
def State.started (s : State) (o : Order) : State := ((s.supersede [o] (some o)).released.takeOrder o).tiesOff

theorem State.resolveHeld_singleton (h : o.starts) : s.resolveHeld [o] = s.started o := by
  have hk : o.kind ≠ .hold := by rcases h with h | h | h <;> simp [h]
  simp only [State.resolveHeld, winner_singleton h, if_neg hk, State.started]

theorem State.started_run (h : o.starts) : (s.started o).run = { s.run with retreated := false, discarding := false } := by
  rw [State.started, State.tiesOff_run, State.takeOrder_keeps_run h, State.released, State.setObj_run]
  simp only [State.supersede_run]

theorem State.started_not_stepDone (h : o.kind = .run ∨ o.kind = .tied ∨ (o.kind = .step ∧ o.count ≠ 0)) :
    ¬ (s.started o).stepDone := by
  rw [State.stepDone, State.started, State.tiesOff_mode, State.tiesOff_obj]
  exact State.takeOrder_not_stepDone h

end Start

/-! ### What is due, where it is one start order -/

section Due

variable {s : State} {o : Order}

theorem State.held_iff (s : State) : s.held = true ↔ s.mode = mReady ∨ s.mode = mHold := by
  simp [State.held]

/-- A closed window without orders or causes stops a STEP run that has no DC left, and does nothing else. -/
theorem State.resolveWindow_nil (h : ¬ s.stepDone) : s.resolveWindow [] [] = s := by
  have hdone : ¬ (s.mode == mStep && s.obj O.STEP_REMAIN == 0 && ! false) = true := by simpa [State.stepDone] using h
  change (if [] ++ (if (s.mode == mStep && s.obj O.STEP_REMAIN == 0 && ! false) = true then ([⟨2, 0, 0⟩] : List StopCause) else []) ≠ []
    then s.halt _ else s) = s
  rw [if_neg hdone]
  exact if_neg (by simp)

/-- With no order waiting and no STEP run out of DCs nothing takes effect. -/
theorem State.takeWaiting_nil (h : ¬ s.stepDone) : s.takeWaiting [] = s := by
  simp only [State.takeWaiting, List.filter_nil, ne_eq, not_true_eq_false, if_false, State.resolveWindow_nil h]
  split
  · rfl
  · split <;> rfl

theorem State.armDue_of_none (h : s.run.arm = .none) : s.armDue = false := by
  simp [State.armDue, h]

theorem State.with_snapOrders_nil (h : s.run.snapOrders = []) : { s with run := { s.run with snapOrders := [] } } = s := by
  rw [← h]

theorem State.takeDue_of_held (h : s.held = true) :
    s.takeDue false = State.resolveHeld { s with run := { s.run with due := [], dueCauses := [] } } s.run.due := by
  have hadv : s.advancing = false := State.not_advancing_of_held (s.held_iff.mp h)
  have hheld : State.held { s with run := { s.run with due := [], dueCauses := [] } } = true := h
  have hstands : State.advancing { s with run := { s.run with due := [], dueCauses := [] } } = false := hadv
  simp only [State.takeDue, hheld, hstands, Bool.false_eq_true, Bool.not_true, if_false]

/-- What follows when the due orders have taken effect and none waits in SNAPSHOT: an armed commit of a module that was held, if it is
due. -/
def State.afterDue (s : State) (held : Bool) : State :=
  if s.run.pause.isSome then s
  else
    let t := State.takeWaiting { s with run := { s.run with snapOrders := [] } } []
    if held && t.advancing && t.armDue then t.beginCommit else t

theorem State.resolveDue_of_no_snapOrders (h : s.run.snapOrders = []) : s.resolveDue = (s.takeDue false).afterDue s.held := by
  unfold State.resolveDue
  rw [h]
  simp only [List.any_nil, List.filter_nil, List.length_nil, Nat.lt_irrefl, if_false]
  rw [State.with_snapOrders_nil h]
  rfl

theorem State.afterDue_of_idle (held : Bool) (hpause : s.run.pause = none) (hsnap : s.run.snapOrders = []) (harm : s.run.arm = .none)
    (hstep : ¬ s.stepDone) : s.afterDue held = s := by
  unfold State.afterDue
  rw [if_neg (by simp [hpause]), State.with_snapOrders_nil hsnap, State.takeWaiting_nil hstep]
  exact if_neg (by simp [State.armDue_of_none harm])

/-- A held module whose only due order is a start order, with no order of SNAPSHOT, pause or commit about. -/
theorem State.resolveDue_of_only (hheld : s.held = true) (hdue : s.run.due = [o]) (hsnap : s.run.snapOrders = [])
    (hpause : s.run.pause = none) (harm : s.run.arm = .none)
    (ho : o.kind = .run ∨ o.kind = .tied ∨ (o.kind = .step ∧ o.count ≠ 0)) :
    s.resolveDue = State.started { s with run := { s.run with due := [], dueCauses := [] } } o := by
  have hstarts : o.starts := by
    rcases ho with h | h | ⟨h, -⟩
    · exact .inl h
    · exact .inr (.inr h)
    · exact .inr (.inl h)
  rw [State.resolveDue_of_no_snapOrders hsnap, State.takeDue_of_held hheld, hdue, State.resolveHeld_singleton hstarts]
  refine State.afterDue_of_idle s.held ?_ ?_ ?_ (State.started_not_stepDone ho)
  all_goals rw [State.started_run hstarts]
  · exact hpause
  · exact hsnap
  · exact harm

end Due

/-! ### The start point (R181) -/

section StartPoint

variable {s : State}

theorem exec_startPoint_of_nothing
    (h : s.engineStopped = true ∨ s.clockWait = true ∨ s.run.window = [] ∨ s.advancing = true) : exec .startPoint s = .next s :=
  if_pos (by simpa [or_assoc] using h)

/-- The window closed, with its orders due. -/
def State.windowDue (s : State) : State := { s with run := { s.run with window := [], due := s.run.due ++ s.run.window } }

/-- The start point comes to orders of a module that does not advance. -/
structure State.AtStart (s : State) : Prop where
  runs : s.engineStopped = false
  clocked : s.clockWait = false
  ordered : s.run.window ≠ []
  stands : s.advancing = false

variable (h : s.AtStart)

include h

theorem State.AtStart.exec_eq : exec .startPoint s =
    if s.run.pause.isSome then .next s.windowDue
    else if s.held then .next s.windowDue.resolveDue
    else .next (State.supersede { s with run := { s.run with window := [] } } s.run.window none) :=
  if_neg (by simp [h.runs, h.clocked, h.ordered, h.stands])

theorem State.AtStart.exec_of_pause (hp : s.run.pause ≠ none) : exec .startPoint s = .next s.windowDue :=
  h.exec_eq.trans (if_pos (Option.isSome_iff_ne_none.mpr hp))

theorem State.AtStart.exec_of_no_pause (hp : s.run.pause = none) : exec .startPoint s =
    if s.held then .next s.windowDue.resolveDue
    else .next (State.supersede { s with run := { s.run with window := [] } } s.run.window none) :=
  h.exec_eq.trans (if_neg (by simp [hp]))

omit h in
/-- The window of one start order, where nothing was due, waiting in SNAPSHOT or armed. -/
theorem State.windowDue_resolveDue_of_only {o : Order} (hw : s.run.window = [o]) (hd : s.run.due = []) (hc : s.run.dueCauses = [])
    (hsnap : s.run.snapOrders = []) (harm : s.run.arm = .none) (hheld : s.held = true) (hp : s.run.pause = none)
    (ho : o.kind = .run ∨ o.kind = .tied ∨ (o.kind = .step ∧ o.count ≠ 0)) :
    s.windowDue.resolveDue = State.started { s with run := { s.run with window := [] } } o := by
  have hdue : s.windowDue.run.due = [o] := by rw [State.windowDue, hw, hd, List.nil_append]
  have hempty : ({ s.windowDue with run := { s.windowDue.run with due := [], dueCauses := [] } } : State) =
      { s with run := { s.run with window := [] } } := by
    rw [State.windowDue, ← hd, ← hc]
  rw [State.resolveDue_of_only (s := s.windowDue) hheld hdue hsnap hp harm ho, hempty]

end StartPoint

/-! ### The end of a move to STANDBY or DIAG (R184), and of a self-test (R411) -/

section Move

variable {s : State} {o : Order}

theorem State.takeMove_of_refused (h : orderTable o.kind s.mode = 0) : s.takeMove o = s.fate o 2 := if_pos h

theorem State.takeMove_of_taken (h : orderTable o.kind s.mode ≠ 0) : s.takeMove o = s.orderMove o := if_neg h

theorem exec_modeMoveDone_of_nothing (h : s.run.moving = none ∨ s.clockWait = true) : exec .modeMoveDone s = .next s := by
  change execModeMoveDone s = _
  unfold execModeMoveDone
  split
  case h_1 => rfl
  case h_2 to_ hm => exact if_pos (h.resolve_left (by simp [hm]))

/-- The move to `to_` over: none is under way or waits, and a test of DIAG begins. -/
def State.moved (s : State) (to_ : Nat) : State :=
  let t : State := { s with run := { s.run with moving := none, nextMove := none } }
  if to_ = mDiag then t.testBegins else t

variable {to_ : Nat} (hm : s.run.moving = some to_) (hw : s.clockWait = false)

include hm hw

theorem exec_modeMoveDone_of_last (hn : s.run.nextMove = none) : exec .modeMoveDone s = .next (s.moved to_) := by
  change execModeMoveDone s = _
  simp only [execModeMoveDone, hm, hw, hn, Bool.false_eq_true, if_false]
  rfl

theorem exec_modeMoveDone_of_next (hn : s.run.nextMove = some o) : exec .modeMoveDone s = .next ((s.moved to_).takeMove o) := by
  change execModeMoveDone s = _
  simp only [execModeMoveDone, hm, hw, hn, Bool.false_eq_true, if_false]
  rfl

end Move

section SelfTest

variable {s : State} {detail : Option (BitVec 28)} {failed : List (Die × Pc)}

/-- A self-test runs: the module is in DIAG, no move is under way and the clocks run. -/
def State.testRuns (s : State) : Prop := s.mode = mDiag ∧ s.run.moving = none ∧ s.clockWait = false

/-- The DIAG_RESULT of a completed test: PASS, or FAIL with its detail (Table 18-4). -/
def diagResult : Option (BitVec 28) → Nat
  | none => 0x10000000
  | some d => 0x20000000 + d.toNat

theorem State.testRuns_iff (s : State) :
    ¬ (decide (s.mode ≠ mDiag) || s.run.moving.isSome || s.clockWait) = true ↔ s.testRuns := by
  simp [State.testRuns, and_assoc]

theorem exec_diagTestDone_of_no_test (h : ¬ s.testRuns) : exec (.diagTestDone detail failed) s = .next s :=
  if_pos (Classical.not_not.mp (mt s.testRuns_iff.mp h))

theorem exec_diagTestDone_of_test (h : s.testRuns) : exec (.diagTestDone detail failed) s =
    .next ((failed.foldl (fun u c => u.diagMark (cidOf c.1 c.2)) (s.testLeaves.setObj O.DIAG_RESULT (diagResult detail))).setMode
      mStandby) := by
  refine (if_neg (s.testRuns_iff.mpr h)).trans ?_
  cases detail <;> rfl

end SelfTest

/-- Settles O44: the start point goes by the pause and by whether the module is held; one start order is the winner of its window; the end
of a move goes by the move ordered meanwhile and Table 08-3, and the end of a test by whether one runs. -/
theorem ordersTakeEffect : Obligations.OrdersTakeEffect := by
  refine fun s => ⟨exec_startPoint_of_nothing, fun he hc hw ha => ?startPoint, fun o hheld hk => ?start, exec_modeMoveDone_of_nothing,
    fun to_ hm hw => ?move, fun detail failed => ⟨exec_diagTestDone_of_no_test, fun h => ?test⟩⟩
  case startPoint =>
    have h : s.AtStart := ⟨he, hc, hw, ha⟩
    refine ⟨h.exec_of_pause, fun hp hheld => (h.exec_of_no_pause hp).trans (if_pos hheld),
      fun hp hheld => (h.exec_of_no_pause hp).trans (if_neg (Bool.eq_false_iff.mp hheld)),
      fun o hw hd hcs hsnap harm hheld hp hk => ?_⟩
    rw [h.exec_of_no_pause hp, if_pos hheld, State.windowDue_resolveDue_of_only hw hd hcs hsnap harm hheld hp hk]
    rfl
  case start =>
    exact ⟨State.resolveHeld_singleton hk, State.takeOrder_run, State.takeOrder_step, State.takeOrder_tied⟩
  case move =>
    refine ⟨exec_modeMoveDone_of_last hm hw, fun n hn ht => ?_, fun n hn ht => ?_⟩
    · exact (exec_modeMoveDone_of_next hm hw hn).trans (congrArg _ (State.takeMove_of_refused ht))
    · exact (exec_modeMoveDone_of_next hm hw hn).trans (congrArg _ (State.takeMove_of_taken ht))
  case test =>
    rw [exec_diagTestDone_of_test h]
    cases detail <;> rfl

end Sys2Proof.Machine
end

section
/-!
PROOFS. Staging (R191–R200): what CHECK, the commits and DISCARD do at each stage of STAGE_STATE, how a check ends, and how a commit's
pause begins and ends.
-/

namespace Sys2Proof.Machine

/-! ### CHECK and the end of the check (R195, R196) -/

section Check

variable {s : State} {v : Nat}

/-- A check may begin: nothing is staged, or what is staged is neither armed nor under check or commit. -/
def State.mayCheck (s : State) : Prop :=
  s.obj O.STAGE_STATE = stEmpty ∨ s.obj O.STAGE_STATE = stPending ∨ s.obj O.STAGE_STATE = stChecked

/-- The shadows as the check takes them, with the length of the staging list. -/
def State.checkTaken (s : State) : State :=
  { s with run := { s.run with
    checking := tput (fun _ => none) s.shadow O.STAGE_LIST_RECORDS (some (s.obj O.STAGE_LIST_RECORDS)), checkDirty := false } }

theorem State.mayCheck_iff (s : State) :
    (decide (s.obj O.STAGE_STATE = stEmpty) || decide (s.obj O.STAGE_STATE = stPending) || decide (s.obj O.STAGE_STATE = stChecked)) =
      true ↔ s.mayCheck := by
  simp only [State.mayCheck, Bool.or_eq_true, decide_eq_true_eq, or_assoc]

theorem writeCheck_of_other (h : v ≠ 1) : writeCheck v s = (s, eRange) := if_pos h

theorem writeCheck_of_may (hv : v = 1) (hm : s.mayCheck) :
    writeCheck v s = (s.checkTaken.setObj O.STAGE_STATE stChecking, eNone) :=
  (if_neg (Classical.not_not.mpr hv)).trans (if_pos (s.mayCheck_iff.mpr hm))

theorem writeCheck_of_may_not (hv : v = 1) (hm : ¬ s.mayCheck) : writeCheck v s = (s, eMode) :=
  (if_neg (Classical.not_not.mpr hv)).trans (if_neg (mt s.mayCheck_iff.mp hm))

theorem exec_checkDone_of_not_checking {list : List Byte} (h : s.obj O.STAGE_STATE ≠ stChecking ∨ s.engineStopped = true) :
    exec (.checkDone list) s = .next s :=
  if_pos (by simpa using h)

end Check

/-! ### Commits (R192, R197, R198) -/

section Commit

variable {s : State} (m : Master) {v : Nat}

/-- The state that names the master of a commit. -/
def State.armedBy (s : State) (m : Master) : State := { s with run := { s.run with armMaster := m } }

theorem writeCommit_of_other (h : v ≠ 1) : writeCommit m v s = (s, eRange) := if_pos h

theorem writeCommit_of_not_checked (hv : v = 1) (hst : s.obj O.STAGE_STATE ≠ stChecked) :
    writeCommit m v s = ((s.setObj O.COMMIT_RESULT 2).msix 3, eNone) :=
  (if_neg (Classical.not_not.mpr hv)).trans (if_pos hst)

theorem writeCommitAtTime_of_not_checked (t : Nat) (hst : s.obj O.STAGE_STATE ≠ stChecked) :
    writeCommitAtTime m t s = ((s.setObj O.COMMIT_RESULT 2).msix 3, eNone) :=
  if_pos hst

theorem writeCommitAtDc_of_not_checked (n : Nat) (hst : s.obj O.STAGE_STATE ≠ stChecked) :
    writeCommitAtDc m n s = ((s.setObj O.COMMIT_RESULT 2).msix 3, eNone) :=
  if_pos hst

variable (hst : s.obj O.STAGE_STATE = stChecked)

include hst

/-- In CHECKED a commit arms where the module advances, queues behind a pause, and else begins its own. -/
theorem writeCommit_of_checked (hv : v = 1) :
    writeCommit m v s =
      if s.advancing then
        (State.setObj { s.armedBy m with run := { (s.armedBy m).run with arm := .now } } O.STAGE_STATE stArmed, eNone)
      else if s.run.pause.isSome then
        (State.setObj { s.armedBy m with run := { (s.armedBy m).run with queued := (s.armedBy m).run.queued ++ [.commit true] } }
          O.STAGE_STATE stArmed, eNone)
      else ((s.armedBy m).beginCommit, eNone) :=
  (if_neg (Classical.not_not.mpr hv)).trans (if_neg (by simp [hst]))

theorem writeCommit_of_advancing (hv : v = 1) (ha : s.advancing = true) :
    writeCommit m v s =
      (State.setObj { s.armedBy m with run := { (s.armedBy m).run with arm := .now } } O.STAGE_STATE stArmed, eNone) :=
  (writeCommit_of_checked m hst hv).trans (if_pos ha)

theorem writeCommit_of_pause (hv : v = 1) (ha : s.advancing = false) (hp : s.run.pause ≠ none) :
    writeCommit m v s =
      (State.setObj { s.armedBy m with run := { (s.armedBy m).run with queued := (s.armedBy m).run.queued ++ [.commit true] } }
        O.STAGE_STATE stArmed, eNone) :=
  (writeCommit_of_checked m hst hv).trans ((if_neg (by simp [ha])).trans (if_pos (Option.isSome_iff_ne_none.mpr hp)))

theorem writeCommit_of_standing (hv : v = 1) (ha : s.advancing = false) (hp : s.run.pause = none) :
    writeCommit m v s = ((s.armedBy m).beginCommit, eNone) :=
  (writeCommit_of_checked m hst hv).trans ((if_neg (by simp [ha])).trans (if_neg (by simp [hp])))

theorem writeCommitAtTime_of_reached {t : Nat} (h : s.reached t = true) :
    writeCommitAtTime m t s = ((s.setObj O.COMMIT_RESULT 3).msix 3, eNone) :=
  (if_neg (by simp [hst])).trans (if_pos h)

theorem writeCommitAtTime_of_to_come {t : Nat} (h : s.reached t = false) :
    writeCommitAtTime m t s =
      (State.setObj { s with run := { s.run with arm := .time t, armMaster := m } } O.STAGE_STATE stArmed, eNone) :=
  (if_neg (by simp [hst])).trans (if_neg (by simp [h]))

theorem writeCommitAtDc_of_reached {n : Nat} (h : n ≤ s.dcNum) :
    writeCommitAtDc m n s = ((s.setObj O.COMMIT_RESULT 3).msix 3, eNone) :=
  (if_neg (by simp [hst])).trans (if_pos h)

theorem writeCommitAtDc_of_to_come {n : Nat} (h : s.dcNum < n) :
    writeCommitAtDc m n s =
      (State.setObj { s with run := { s.run with arm := .dc n, armMaster := m } } O.STAGE_STATE stArmed, eNone) :=
  (if_neg (by simp [hst])).trans (if_neg (Nat.not_le.mpr h))

end Commit

/-! ### DISCARD (R200, Table 08-10) -/

section Discard

variable {s : State} {v : Nat}

theorem writeDiscard_of_other (h : v ≠ 1) : writeDiscard v s = (s, eRange) := if_pos h

theorem writeDiscard_of_staged (hv : v = 1) (h : s.obj O.STAGE_STATE = stPending ∨ s.obj O.STAGE_STATE = stChecked) :
    writeDiscard v s = (s.stageEmpty.setObjs [(O.DISCARD_RESULT, 1), (O.CHECK_RESULT, 0)], eNone) :=
  (if_neg (Classical.not_not.mpr hv)).trans (if_pos (by simpa using h))

theorem writeDiscard_of_checking (hv : v = 1) (h : s.obj O.STAGE_STATE = stChecking) :
    writeDiscard v s = ((s.stageEmpty.setObjs [(O.DISCARD_RESULT, 1), (O.CHECK_RESULT, 6)]).msix 3, eNone) :=
  (if_neg (Classical.not_not.mpr hv)).trans ((if_neg (by rw [h]; decide)).trans (if_pos h))

theorem writeDiscard_of_armed (hv : v = 1) (h : s.obj O.STAGE_STATE = stArmed) :
    writeDiscard v s =
      ((s.disarm.stageEmpty.setObjs [(O.DISCARD_RESULT, 1), (O.CHECK_RESULT, 0), (O.COMMIT_RESULT, 5)]).msix 3, eNone) :=
  (if_neg (Classical.not_not.mpr hv)).trans ((if_neg (by rw [h]; decide)).trans ((if_neg (by rw [h]; decide)).trans (if_pos h)))

theorem writeDiscard_of_nothing_to_discard (hv : v = 1) (h : s.obj O.STAGE_STATE = stEmpty ∨ stArmed < s.obj O.STAGE_STATE) :
    writeDiscard v s = (s.setObj O.DISCARD_RESULT 2, eNone) := by
  have hne (n : Nat) (h1 : stEmpty < n) (h4 : n ≤ stArmed) : s.obj O.STAGE_STATE ≠ n := by omega
  simp [writeDiscard, hv, hne stPending (by decide) (by decide), hne stChecking (by decide) (by decide),
    hne stChecked (by decide) (by decide), hne stArmed (by decide) (by decide)]

end Discard

/-! ### The pause of a commit (R192, R197) -/

section Pause

variable {s : State}

/-- The instant of a commit at a time has come for a module that stands: nothing else is under way (R197, R505). -/
def State.timeCommitDue (s : State) (t : Nat) : Prop :=
  s.reached t = true ∧ s.advancing = false ∧ s.run.pause = none ∧ s.recovering = false ∧ s.run.abandon = none ∧ s.engineStopped = false

theorem State.timeCommitDue_iff (s : State) (t : Nat) :
    (s.reached t && ! s.advancing && s.run.pause.isNone && ! s.recovering && s.run.abandon.isNone && ! s.engineStopped) = true ↔
      s.timeCommitDue t := by
  simp only [State.timeCommitDue, Bool.and_eq_true, Bool.not_eq_true', Option.isNone_iff_eq_none, and_assoc]

theorem exec_commitTimeReached_of_no_time (h : ∀ t, s.run.arm ≠ .time t) : exec .commitTimeReached s = .next s := by
  change execCommitTimeReached s = _
  unfold execCommitTimeReached
  split
  next t ht => exact absurd ht (h t)
  next => rfl

theorem exec_commitTimeReached_of_due {t : Nat} (ht : s.run.arm = .time t) (hd : s.timeCommitDue t) :
    exec .commitTimeReached s = .next s.beginCommit := by
  change execCommitTimeReached s = _
  simp only [execCommitTimeReached, ht, (s.timeCommitDue_iff t).mpr hd, if_true]

theorem exec_commitTimeReached_of_not_due {t : Nat} (ht : s.run.arm = .time t) (hd : ¬ s.timeCommitDue t) :
    exec .commitTimeReached s = .next s := by
  change execCommitTimeReached s = _
  simp only [execCommitTimeReached, ht]
  exact if_neg (mt (s.timeCommitDue_iff t).mp hd)

theorem exec_commitPauseEnd_of_no_pause (h : s.engineStopped = true ∨ s.clockWait = true ∨ ∀ b, s.run.pause ≠ some (.commit b)) :
    exec .commitPauseEnd s = .next s := by
  change execCommitPauseEnd s = _
  unfold execCommitPauseEnd
  split
  next => rfl
  next hgo =>
    have hpause : ∀ b, s.run.pause ≠ some (.commit b) := by
      rcases h with h | h | h
      · exact absurd (by simp [h]) hgo
      · exact absurd (by simp [h]) hgo
      · exact h
    split
    next hp => exact absurd hp (hpause true)
    next hp => exact absurd hp (hpause false)
    next => rfl

theorem exec_commitPauseEnd_of_commit {b : Bool} (he : s.engineStopped = false) (hw : s.clockWait = false)
    (hp : s.run.pause = some (.commit b)) :
    exec .commitPauseEnd s = .next (if b then s.endCommit else s.flushPause.afterPause) := by
  change execCommitPauseEnd s = _
  cases b <;> simp [execCommitPauseEnd, he, hw, hp]

end Pause

/-- Settles O45: each write goes by its value, then by STAGE_STATE, then by what the module is doing; a check that ends goes by
STAGE_STATE, and a commit's instant and pause by what is armed and what pauses. -/
theorem stagingChecksAndCommits : Obligations.StagingChecksAndCommits := by
  intro s m st
  refine ⟨fun hs v => ?check, fun list => ⟨exec_checkDone_of_not_checking, fun hst he => ?checkDone⟩, fun hs v => ?commit,
    fun hs t => ?atTime, fun hs n => ?atDc, fun hs v => ?discard, exec_commitTimeReached_of_no_time, fun t ht => ?timeReached,
    exec_commitPauseEnd_of_no_pause, fun he hw => ⟨exec_commitPauseEnd_of_commit he hw, exec_commitPauseEnd_of_commit he hw⟩⟩
  case check =>
    exact ⟨fun hv => State.write_refused hs (writeCheck_of_other hv) (by decide),
      fun hv hm => State.write_refused hs (writeCheck_of_may_not hv hm) (by decide),
      fun hv hm => ⟨_, State.write_accepted hs (writeCheck_of_may hv hm), State.wrote_setObj ..⟩⟩
  case checkDone => exact if_neg (by simpa [he] using hst)
  case commit =>
    exact ⟨fun hv => State.write_refused hs (writeCommit_of_other m hv) (by decide),
      fun hv hst => State.write_accepted hs (writeCommit_of_not_checked m hv hst),
      fun hv hst ha => ⟨_, State.write_accepted hs (writeCommit_of_advancing m hst hv ha), State.wrote_setObj ..⟩,
      fun hv hst ha hp => ⟨_, State.write_accepted hs (writeCommit_of_pause m hst hv ha hp), State.wrote_setObj ..⟩,
      fun hv hst ha hp => State.write_accepted hs (writeCommit_of_standing m hst hv ha hp)⟩
  case atTime =>
    exact ⟨fun hst => State.write_accepted hs (writeCommitAtTime_of_not_checked m _ hst),
      fun hst ht => State.write_accepted hs (writeCommitAtTime_of_reached m hst ht),
      fun hst ht => ⟨_, State.write_accepted hs (writeCommitAtTime_of_to_come m hst ht), State.wrote_setObj ..⟩⟩
  case atDc =>
    exact ⟨fun hst => State.write_accepted hs (writeCommitAtDc_of_not_checked m _ hst),
      fun hst hn => State.write_accepted hs (writeCommitAtDc_of_reached m hst hn),
      fun hst hn => ⟨_, State.write_accepted hs (writeCommitAtDc_of_to_come m hst hn), State.wrote_setObj ..⟩⟩
  case discard =>
    exact ⟨fun hv => State.write_refused hs (writeDiscard_of_other hv) (by decide),
      fun hv hst => State.write_accepted hs (writeDiscard_of_staged hv hst),
      fun hv hst => State.write_accepted hs (writeDiscard_of_checking hv hst),
      fun hv hst => State.write_accepted hs (writeDiscard_of_armed hv hst),
      fun hv hst => ⟨_, State.write_accepted hs (writeDiscard_of_nothing_to_discard hv hst), State.wrote_setObj ..⟩⟩
  case timeReached => exact ⟨exec_commitTimeReached_of_due ht, exec_commitTimeReached_of_not_due ht⟩

end Sys2Proof.Machine
end

section
/-!
PROOFS. The line code of a Seam lane (R205–R207, R209): what a receive lane makes of the line bits of a block.
-/

namespace Sys2Proof.Machine

/-! ### Line bits and destuffed bits, one after another -/

theorem SeamLane.lineBits_cons (w : SeamLane) (t : Nat) (b : Bool) (r : List Bool) :
    w.lineBits t (b :: r) =
      (((w.lineBit t b).1.lineBits t r).1, (w.lineBit t b).2 ++ ((w.lineBit t b).1.lineBits t r).2) := by
  have events (l : List Bool) (x : SeamLane) (es : List LaneEvent) :
      l.foldl (fun e b => let o := e.1.lineBit t b; (o.1, e.2 ++ o.2)) (x, es) = ((x.lineBits t l).1, es ++ (x.lineBits t l).2) := by
    unfold SeamLane.lineBits
    induction l generalizing x es with
    | nil => simp
    | cons c l ih =>
      rw [List.foldl_cons, List.foldl_cons, ih, ih _ ([] ++ _), List.nil_append, List.append_assoc]
  exact (List.foldl_cons ..).trans (events r _ _)

/-- Destuffed bits of a receive lane, the first of them first. -/
def SeamLane.blockBits (w : SeamLane) (t : Nat) : List Bool → SeamLane × List LaneEvent
  | [] => (w, [])
  | b :: r => (((w.blockBit t b).1.blockBits t r).1, (w.blockBit t b).2 ++ ((w.blockBit t b).1.blockBits t r).2)

/-- A receive lane with one more bit in its candidate block. -/
def SeamLane.shiftIn (w : SeamLane) (t : Nat) (b : Bool) : SeamLane :=
  { w with
    since := if w.got = 0 then t else w.since
    rxHist := if w.got < 2 then w.rxHist else pushBit w.rxHist b
    acc := w.acc + (if w.got < 2 then b else xor b (scrambleBit w.rxHist)).toNat * 2 ^ w.got
    got := w.got + 1 }

theorem SeamLane.blockBit_eq (w : SeamLane) (t : Nat) (b : Bool) :
    w.blockBit t b =
      if w.slip then ({ w with slip := false }, [])
      else if 258 ≤ w.got + 1 then (w.shiftIn t b).endBlock else (w.shiftIn t b, []) := rfl

theorem SeamLane.blockBits_cons_of_filling {w : SeamLane} {t : Nat} {b : Bool} (r : List Bool) (hs : w.slip = false)
    (hg : w.got + 1 < 258) : w.blockBits t (b :: r) = (w.shiftIn t b).blockBits t r := by
  have hbit : w.blockBit t b = (w.shiftIn t b, []) :=
    (w.blockBit_eq t b).trans ((if_neg (by simp [hs])).trans (if_neg (Nat.not_le.mpr hg)))
  simp only [SeamLane.blockBits, hbit, List.nil_append]

theorem SeamLane.blockBits_last {w : SeamLane} {t : Nat} {b : Bool} (hs : w.slip = false) (hg : w.got + 1 = 258) :
    w.blockBits t [b] = (w.shiftIn t b).endBlock := by
  have hbit : w.blockBit t b = (w.shiftIn t b).endBlock :=
    (w.blockBit_eq t b).trans ((if_neg (by simp [hs])).trans (if_pos (Nat.le_of_eq hg.symm)))
  simp only [SeamLane.blockBits, hbit, List.append_nil]

/-! ### Stuffing (R207) -/

/-- The run that a line bit is the end of. -/
def runAfter (run : Nat) (last b : Bool) : Nat := if b == last then run + 1 else 1

theorem runAfter_le {run : Nat} (h : run < 40) (last b : Bool) : runAfter run last b ≤ 40 := by
  unfold runAfter
  split <;> omega

theorem stuff_cons_of_full {run : Nat} {last b : Bool} (r : List Bool) (h : runAfter run last b = 40) :
    stuff (b :: r) run last = (b :: (! b) :: (stuff r 1 (! b)).1, (stuff r 1 (! b)).2) := if_pos h

theorem stuff_cons_of_short {run : Nat} {last b : Bool} (r : List Bool) (h : runAfter run last b ≠ 40) :
    stuff (b :: r) run last = (b :: (stuff r (runAfter run last b) b).1, (stuff r (runAfter run last b) b).2) := if_neg h

theorem stuff_run_lt (bits : List Bool) (run : Nat) (last : Bool) (h : run < 40) : (stuff bits run last).2.1 < 40 := by
  induction bits generalizing run last with
  | nil => exact h
  | cons b r ih =>
    by_cases hfull : runAfter run last b = 40
    · rw [stuff_cons_of_full r hfull]
      exact ih 1 _ (by decide)
    · rw [stuff_cons_of_short r hfull]
      exact ih _ _ (Nat.lt_of_le_of_ne (runAfter_le h last b) hfull)

/-- A receive lane whose last line bit is `last`, the end of a run of `run`. -/
def SeamLane.atRun (run : Nat) (last : Bool) (w : SeamLane) : SeamLane := { w with rxRun := run, rxLast := last }

theorem SeamLane.endBlock_atRun (w : SeamLane) (run : Nat) (last : Bool) :
    (w.atRun run last).endBlock = w.endBlock.map (SeamLane.atRun run last) id := by
  simp only [SeamLane.endBlock, apply_ite (Prod.map _ _)]
  rfl

/-- The block lock sees no runs. -/
theorem SeamLane.blockBit_atRun (w : SeamLane) (t run : Nat) (last b : Bool) :
    (w.atRun run last).blockBit t b = (w.blockBit t b).map (SeamLane.atRun run last) id := by
  have hshift : (w.atRun run last).shiftIn t b = (w.shiftIn t b).atRun run last := rfl
  simp only [SeamLane.blockBit_eq, hshift, SeamLane.endBlock_atRun, apply_ite (Prod.map _ _)]
  rfl

theorem SeamLane.lineBit_of_short {w : SeamLane} {run : Nat} (h : run < 40) (t : Nat) (last b : Bool) :
    (w.atRun run last).lineBit t b = (w.blockBit t b).map (SeamLane.atRun (runAfter run last b) b) id :=
  (if_neg (Nat.not_le.mpr h)).trans (SeamLane.blockBit_atRun w t (runAfter run last b) b b)

/-- The bit behind a run of 40 is removed, and being the opposite one violates nothing. -/
theorem SeamLane.lineBit_of_full (w : SeamLane) (t : Nat) (b : Bool) : (w.atRun 40 b).lineBit t (! b) = (w.atRun 1 (! b), []) := by
  cases b <;> rfl

/-- Line bits reach the block lock as they were before stuffing. -/
theorem SeamLane.lineBits_stuff (t : Nat) (bits : List Bool) (w : SeamLane) (run : Nat) (last : Bool) (h : run < 40) :
    (w.atRun run last).lineBits t (stuff bits run last).1 =
      (w.blockBits t bits).map (SeamLane.atRun (stuff bits run last).2.1 (stuff bits run last).2.2) id := by
  induction bits generalizing w run last with
  | nil => rfl
  | cons b r ih =>
    by_cases hfull : runAfter run last b = 40
    · simp only [stuff_cons_of_full r hfull, SeamLane.lineBits_cons, SeamLane.lineBit_of_short h, hfull, Prod.map_fst, Prod.map_snd,
        SeamLane.lineBit_of_full, ih _ 1 _ (by decide)]
      rfl
    · simp only [stuff_cons_of_short r hfull, SeamLane.lineBits_cons, SeamLane.lineBit_of_short h, Prod.map_fst, Prod.map_snd,
        ih _ _ _ (Nat.lt_of_le_of_ne (runAfter_le h last b) hfull)]
      rfl

/-! ### Scrambling (R206) and the candidate block (R209) -/

theorem bitsOf_succ (n v : Nat) : bitsOf (n + 1) v = v.testBit 0 :: bitsOf n (v / 2) := by
  simp [bitsOf, List.range_succ_eq_map, Nat.testBit_succ, Function.comp_def]

theorem scramble_hist_lt (bits : List Bool) {h : Nat} (hh : h < 2 ^ 31) : (scramble bits h).2 < 2 ^ 31 := by
  induction bits generalizing h with
  | nil => exact hh
  | cons d r ih => exact ih (Nat.mod_lt _ (by decide))

/-- A receive lane `n` payload bits further, those of `p`: its descrambler goes where the scrambler goes. -/
def SeamLane.took (w : SeamLane) (n p : Nat) : SeamLane :=
  { w with rxHist := (scramble (bitsOf n p) w.rxHist).2, acc := w.acc + p % 2 ^ n * 2 ^ w.got, got := w.got + n }

/-- A scrambled payload bit comes back as it was. -/
theorem SeamLane.shiftIn_scrambled {w : SeamLane} (t p : Nat) (h2 : 2 ≤ w.got) :
    w.shiftIn t (xor (p.testBit 0) (scrambleBit w.rxHist)) = w.took 1 p := by
  have hgot : w.got ≠ 0 := by omega
  have hbit : (p.testBit 0).toNat = p % 2 := (Nat.toNat_testBit p 0).trans (by rw [Nat.pow_zero, Nat.div_one])
  simp only [SeamLane.shiftIn, SeamLane.took, if_neg hgot, if_neg (Nat.not_lt.mpr h2), Bool.xor_assoc, Bool.xor_self, Bool.xor_false,
    hbit, Nat.pow_one]
  rfl

theorem SeamLane.took_took (w : SeamLane) (n p : Nat) : (w.took 1 p).took n (p / 2) = w.took (n + 1) p := by
  have hacc : p % 2 ^ (n + 1) * 2 ^ w.got = p % 2 ^ 1 * 2 ^ w.got + p / 2 % 2 ^ n * 2 ^ (w.got + 1) := by
    rw [Nat.pow_succ', Nat.mod_mul, Nat.pow_one, Nat.pow_succ', Nat.add_mul, Nat.mul_assoc, Nat.mul_left_comm 2]
  simp only [SeamLane.took, bitsOf_succ, hacc, Nat.add_assoc, Nat.add_comm 1 n]
  rfl

/-- The last bits of a payload complete the candidate block. -/
theorem SeamLane.blockBits_scramble (t n : Nat) (w : SeamLane) (p : Nat) (hs : w.slip = false) (h2 : 2 ≤ w.got)
    (hn : w.got + (n + 1) = 258) :
    w.blockBits t (scramble (bitsOf (n + 1) p) w.rxHist).1 = (w.took (n + 1) p).endBlock := by
  induction n generalizing w p with
  | zero => exact (SeamLane.blockBits_last hs hn).trans (congrArg _ (SeamLane.shiftIn_scrambled t p h2))
  | succ n ih =>
    calc w.blockBits t (scramble (bitsOf (n + 1 + 1) p) w.rxHist).1
        = (w.shiftIn t (xor (p.testBit 0) (scrambleBit w.rxHist))).blockBits t
            (scramble (bitsOf (n + 1) (p / 2)) (w.took 1 p).rxHist).1 := by
          rw [bitsOf_succ]
          exact SeamLane.blockBits_cons_of_filling _ hs (by omega)
      _ = ((w.took 1 p).took (n + 1) (p / 2)).endBlock := by
          rw [SeamLane.shiftIn_scrambled t p h2]
          exact ih (w.took 1 p) (p / 2) hs (Nat.le_succ_of_le h2) (by simp only [SeamLane.took]; omega)
      _ = (w.took (n + 1 + 1) p).endBlock := by rw [SeamLane.took_took]

/-! ### The header of a candidate block (Table 09-1) -/

/-- The candidate block has a valid header, and no stuffing violation has marked it. -/
def SeamLane.headerValid (v : SeamLane) : Bool := ! v.bad && (v.acc % 4 == 1 || v.acc % 4 == 2)

/-- The lane at the start of its next candidate block. -/
def SeamLane.nextBlock (v : SeamLane) : SeamLane := { v with got := 0, acc := 0, bad := false }

/-- The lane's last 64 headers with the one examined, true for invalid. -/
def SeamLane.headers (v : SeamLane) : List Bool := ((! v.headerValid) :: v.last64).take 64

section Header

variable {v : SeamLane}

theorem SeamLane.headerValid_eq (v : SeamLane) :
    ((if v.bad then 0 else v.acc % 4) == 1 || (if v.bad then 0 else v.acc % 4) == 2) = v.headerValid := by
  unfold SeamLane.headerValid
  cases v.bad <;> rfl

theorem SeamLane.endBlock_of_locked (hl : v.locked = true) :
    v.endBlock =
      if 16 ≤ (v.headers.filter id).length then
        ({ v.nextBlock with locked := false, good := 0, last64 := [], markers := 0, rx := [] }, [.lost])
      else ({ v.nextBlock with last64 := v.headers }, [.block ⟨if v.bad then 0 else v.acc % 4, v.acc / 4⟩ v.since]) := by
  simp only [SeamLane.endBlock, SeamLane.headerValid_eq]
  exact if_pos hl

theorem SeamLane.endBlock_of_hunting (hl : v.locked = false) :
    v.endBlock =
      if v.headerValid = false then ({ v.nextBlock with good := 0, slip := true }, [])
      else if 64 ≤ v.good + 1 then
        ({ v.nextBlock with locked := true, good := 0, last64 := [], markers := 0, rx := [] }, [.locked])
      else ({ v.nextBlock with good := v.good + 1 }, []) := by
  simp only [SeamLane.endBlock, SeamLane.headerValid_eq]
  refine (if_neg (by simp [hl])).trans ?_
  cases v.headerValid <;> rfl

end Header

/-- Few of the last 64 headers stay invalid when a valid one comes. -/
theorem few_invalid_of_valid {l : List Bool} (h : (l.filter id).length < 16) : (((false :: l).take 64).filter id).length < 16 :=
  Nat.lt_of_le_of_lt ((List.take_sublist 63 l).filter id).length_le h

/-- A locked lane with few invalid headers finds a candidate block with a valid one. -/
theorem SeamLane.endBlock_of_valid {v : SeamLane} (hl : v.locked = true) (hb : v.bad = false) (hh : v.acc % 4 = 1 ∨ v.acc % 4 = 2)
    (hf : (v.last64.filter id).length < 16) :
    v.endBlock = ({ v.nextBlock with last64 := (false :: v.last64).take 64 }, [.block ⟨v.acc % 4, v.acc / 4⟩ v.since]) := by
  have hvalid : v.headerValid = true := by
    rcases hh with hh | hh <;> simp [SeamLane.headerValid, hb, hh]
  have hheaders : v.headers = (false :: v.last64).take 64 := by rw [SeamLane.headers, hvalid, Bool.not_true]
  rw [SeamLane.endBlock_of_locked hl, hheaders, if_neg (Nat.not_le.mpr (few_invalid_of_valid hf)), hb]
  rfl

/-! ### A block sent and received -/

/-- A receive lane stands where a transmit lane does. -/
structure SeamLane.InStep (v w : SeamLane) : Prop where
  hist : w.rxHist = v.txHist
  run : w.rxRun = v.txRun
  last : w.rxLast = v.txLast
  short : v.txRun < 40
  register : v.txHist < 2 ^ 31

/-- A locked receive lane between two blocks, few of whose last headers were invalid. -/
structure SeamLane.Between (w : SeamLane) : Prop where
  locked : w.locked = true
  slip : w.slip = false
  got : w.got = 0
  acc : w.acc = 0
  bad : w.bad = false
  few : (w.last64.filter id).length < 16

/-- The receive lane that has found a block with a valid header and the payload `p`. -/
def SeamLane.found (w : SeamLane) (t p : Nat) : SeamLane :=
  { w with since := t, rxHist := (scramble (bitsOf 256 p) w.rxHist).2, last64 := (false :: w.last64).take 64 }

section Found

variable {w : SeamLane} (hw : w.Between)

include hw

theorem SeamLane.found_between (t p : Nat) : (w.found t p).Between := by
  obtain ⟨hl, hs, hg, ha, hb, hf⟩ := hw
  exact ⟨hl, hs, hg, ha, hb, few_invalid_of_valid hf⟩

/-- The header bits of a block open a candidate block of the lane. -/
theorem SeamLane.blockBits_header (t : Nat) {h : Nat} (hh : h < 4) (r : List Bool) :
    w.blockBits t (bitsOf 2 h ++ r) = SeamLane.blockBits { w with since := t, acc := h, got := 2 } t r := by
  obtain ⟨hl, hs, hg, ha, hb, hf⟩ := hw
  have hbits : bitsOf 2 h ++ r = h.testBit 0 :: h.testBit 1 :: r := rfl
  have hval : (h.testBit 0).toNat + (h.testBit 1).toNat * 2 = h := by
    rw [Nat.toNat_testBit, Nat.toNat_testBit]
    omega
  rw [hbits, SeamLane.blockBits_cons_of_filling _ hs (by omega),
    SeamLane.blockBits_cons_of_filling (w := w.shiftIn t _) _ hs (by simp [SeamLane.shiftIn, hg])]
  simp [SeamLane.shiftIn, hg, ha, hval, -Nat.testBit_zero]

/-- The bits of a block with a valid header are found as that block. -/
theorem SeamLane.blockBits_block (t : Nat) {b : SeamBlock} (hh : b.header = 1 ∨ b.header = 2) (hp : b.payload < 2 ^ 256) :
    w.blockBits t (bitsOf 2 b.header ++ (scramble (bitsOf 256 b.payload) w.rxHist).1) = (w.found t b.payload, [.block b t]) := by
  have hlt : b.header < 4 := by omega
  rw [SeamLane.blockBits_header hw t hlt]
  obtain ⟨hl, hs, hg, ha, hb, hf⟩ := hw
  refine (SeamLane.blockBits_scramble t 255 { w with since := t, acc := b.header, got := 2 } b.payload hs (Nat.le_refl 2) rfl).trans ?_
  have hmod : (b.header + b.payload % 2 ^ (255 + 1) * 2 ^ 2) % 4 = b.header := by omega
  have hdiv : (b.header + b.payload % 2 ^ (255 + 1) * 2 ^ 2) / 4 = b.payload := by omega
  rw [SeamLane.endBlock_of_valid (by exact hl) (by exact hb) (by simpa only [SeamLane.took, hmod] using hh) (by exact hf)]
  simp only [SeamLane.took, hmod, hdiv, SeamLane.nextBlock, SeamLane.found, hg, ha, hb]

end Found

section Sent

variable {v w : SeamLane} (h : v.InStep w)

include h

/-- The line bits of a block with a valid header are found as that block, and leave the receive lane at the run of the transmit lane. -/
theorem SeamLane.InStep.lineBits_encode (hw : w.Between) (t : Nat) {b : SeamBlock} (hh : b.header = 1 ∨ b.header = 2)
    (hp : b.payload < 2 ^ 256) :
    w.lineBits t (v.encode b).2 =
      ((w.found t b.payload).atRun (v.encode b).1.txRun (v.encode b).1.txLast, [.block b t]) := by
  have hself : w.atRun v.txRun v.txLast = w := by rw [← h.run, ← h.last]; rfl
  have hline := SeamLane.lineBits_stuff t (bitsOf 2 b.header ++ (scramble (bitsOf 256 b.payload) w.rxHist).1) w v.txRun v.txLast h.short
  rw [hself, SeamLane.blockBits_block hw t hh hp, h.hist] at hline
  exact hline

theorem SeamLane.InStep.encode (t : Nat) (b : SeamBlock) :
    (v.encode b).1.InStep ((w.found t b.payload).atRun (v.encode b).1.txRun (v.encode b).1.txLast) where
  hist := by simp only [SeamLane.atRun, SeamLane.found, SeamLane.encode, h.hist]
  run := rfl
  last := rfl
  short := stuff_run_lt _ _ _ h.short
  register := by
    simp only [SeamLane.encode]
    exact scramble_hist_lt _ h.register

end Sent

/-- Settles O18: the receive lane undoes the stuffing bit by bit, and its candidate block undoes the scrambling. -/
theorem lineCodeIsReadBack : Obligations.LineCodeIsReadBack := by
  intro v w b t step between hstep hbetween hh hp o r
  obtain ⟨hhist, hrun, hlast, hshort, hreg⟩ := hstep
  obtain ⟨hl, hs, hg, ha, hb, hf⟩ := hbetween
  have hw : w.Between := ⟨hl, hs, hg, ha, hb, hf⟩
  have hvw : v.InStep w := ⟨hhist, hrun, hlast, hshort, hreg⟩
  have hr : r = ((w.found t b.payload).atRun o.1.txRun o.1.txLast, [.block b t]) := hvw.lineBits_encode hw t hh hp
  obtain ⟨hhist, hrun, hlast, hshort, hreg⟩ := hvw.encode t b
  obtain ⟨hl, hs, hg, ha, hb, hf⟩ := SeamLane.found_between hw t b.payload
  rw [hr]
  exact ⟨rfl, ⟨hhist, hrun, hlast, hshort, hreg⟩, hl, hs, hg, ha, hb, hf⟩

end Sys2Proof.Machine
end

section
/-!
SUPPORT. The block outside frames that stands first on a link (R215): what hearing it does.
-/

namespace Sys2Proof.Machine

section Hear

variable {s : State} {l c : Nat} {f : Nat → Nat → State → State}

theorem State.hear_of_none (h : (s.link l).heard c = none) : s.hear l c f = s := by
  simp only [State.hear, h]

variable {p arrive : Nat} {k : SeamLink} (h : (s.link l).heard c = some ((p, arrive), k))

include h

theorem State.hear_of_crc_bad (hc : crcGood p = false) : s.hear l c f = (s.setLink l k).crcFailed l := by
  simp only [State.hear, h, hc, Bool.false_eq_true, if_false]

theorem State.hear_of_crc_good (hc : crcGood p = true) : s.hear l c f = f p arrive (s.setLink l k) := by
  simp only [State.hear, h, hc, if_true]

end Hear

end Sys2Proof.Machine
end

section
/-!
PROOFS. Block lock, alignment and partnering of a Seam link (R204–R213, R215, R230).
-/

namespace Sys2Proof.Machine

/-! ### Block lock (R209) -/

section Lock

variable {v : SeamLane}

theorem SeamLane.endBlock_of_hunting_invalid (hl : v.locked = false) (hv : v.headerValid = false) :
    v.endBlock = ({ v.nextBlock with good := 0, slip := true }, []) :=
  (SeamLane.endBlock_of_hunting hl).trans (if_pos hv)

theorem SeamLane.endBlock_of_hunting_valid (hl : v.locked = false) (hv : v.headerValid = true) (hg : v.good + 1 < 64) :
    v.endBlock = ({ v.nextBlock with good := v.good + 1 }, []) :=
  (SeamLane.endBlock_of_hunting hl).trans ((if_neg (by simp [hv])).trans (if_neg (Nat.not_le.mpr hg)))

theorem SeamLane.endBlock_of_locking (hl : v.locked = false) (hv : v.headerValid = true) (hg : 64 ≤ v.good + 1) :
    v.endBlock = ({ v.nextBlock with locked := true, good := 0, last64 := [], markers := 0, rx := [] }, [.locked]) :=
  (SeamLane.endBlock_of_hunting hl).trans ((if_neg (by simp [hv])).trans (if_pos hg))

theorem SeamLane.endBlock_of_lost (hl : v.locked = true) (hh : 16 ≤ (v.headers.filter id).length) :
    v.endBlock = ({ v.nextBlock with locked := false, good := 0, last64 := [], markers := 0, rx := [] }, [.lost]) :=
  (SeamLane.endBlock_of_locked hl).trans (if_pos hh)

theorem SeamLane.endBlock_of_kept (hl : v.locked = true) (hh : (v.headers.filter id).length < 16) :
    v.endBlock =
      ({ v.nextBlock with last64 := v.headers }, [.block ⟨if v.bad then 0 else v.acc % 4, v.acc / 4⟩ v.since]) :=
  (SeamLane.endBlock_of_locked hl).trans (if_neg (Nat.not_le.mpr hh))

end Lock

/-! ### Markers (R210, R211) -/

/-- A marker's lane and unit number agree with what its receive lane has brought. -/
def SeamLane.agrees (v : SeamLane) (txLane unit : Nat) : Prop :=
  unit % 8 = txLane ∧ (v.markers = 0 ∨ (v.unitNo = unit ∧ v.laneId = txLane))

theorem SeamLane.not_agrees_iff (v : SeamLane) (txLane unit : Nat) :
    (unit % 8 ≠ txLane || (v.markers > 0 && (v.unitNo ≠ unit || v.laneId ≠ txLane))) = true ↔ ¬ v.agrees txLane unit := by
  simp only [SeamLane.agrees, Bool.or_eq_true, Bool.and_eq_true, decide_eq_true_eq]
  omega

/-- A lane that has taken its number from a marker. -/
def SeamLane.numbered (v : SeamLane) (txLane unit skew : Nat) : SeamLane :=
  { v with markers := min 2 (v.markers + 1), laneId := txLane, unitNo := unit, skew := skew }

section Marker

variable {s : State} {l i p skew : Nat}

theorem State.markerHeard_of_disagrees (h : ¬ ((s.link l).lane i).agrees (field p 245 3) (field p 213 32)) :
    s.markerHeard l i p skew = s.laneLost l i :=
  if_pos ((SeamLane.not_agrees_iff ..).mpr h)

theorem State.markerHeard_of_agrees (h : ((s.link l).lane i).agrees (field p 245 3) (field p 213 32)) :
    s.markerHeard l i p skew =
      (let n := (s.link l).setLane i (((s.link l).lane i).numbered (field p 245 3) (field p 213 32) skew)
       let u := (s.setLink l n).raise (O.SKEW l) skew
       (if u.obj (O.LINK_STATE l) = 0 ∧ n.aligned = true then
          (u.setLink l { n with rxUnit := n.firstUnit }).setObj (O.LINK_STATE l) 1 else u).flow l) := by
  refine (if_neg (mt (SeamLane.not_agrees_iff ..).mp (not_not_intro h))).trans ?_
  simp only [State.markerSeen, Bool.and_eq_true, decide_eq_true_eq]
  rfl

end Marker

/-- The state in which the first block of a receive lane has been taken from it. -/
def State.rxTaken (s : State) (l i : Nat) (r : List (SeamBlock × Nat)) : State :=
  s.setLink l ((s.link l).setLane i { (s.link l).lane i with rx := r })

section MarkerReceive

variable {s : State} {link : LinkIx} {lane : LaneIx} {skew : BitVec 16}

theorem exec_laneMarkerReceive_of_no_marker (h : ∀ e r, ((s.link link).lane lane).rx = e :: r → isMarker e.1 = false) :
    exec (.laneMarkerReceive link lane skew) s = .next s := by
  change execLaneMarkerReceive link lane skew s = _
  cases hrx : ((s.link link).lane lane).rx with
  | nil => simp only [execLaneMarkerReceive, hrx]
  | cons e r => simp [execLaneMarkerReceive, hrx, h e r hrx]

variable {e : SeamBlock × Nat} {r : List (SeamBlock × Nat)} (hrx : ((s.link link).lane lane).rx = e :: r) (hm : isMarker e.1 = true)

include hrx hm

theorem exec_laneMarkerReceive_of_crc_bad (hc : crcGood e.1.payload = false) :
    exec (.laneMarkerReceive link lane skew) s = .next (((s.rxTaken link lane r).crcFailed link).flow link) := by
  change execLaneMarkerReceive link lane skew s = _
  simp [execLaneMarkerReceive, hrx, hm, hc, State.rxTaken]

theorem exec_laneMarkerReceive_of_crc_good (hc : crcGood e.1.payload = true) :
    exec (.laneMarkerReceive link lane skew) s =
      .next ((s.rxTaken link lane r).markerHeard link lane e.1.payload skew.toNat) := by
  change execLaneMarkerReceive link lane skew s = _
  simp [execLaneMarkerReceive, hrx, hm, hc, State.rxTaken]

end MarkerReceive

theorem SeamLink.lane_of_aligned {k : SeamLink} (h : k.aligned = true) (i : Nat) (hi : i < 8) :
    (k.lane i).locked = true ∧ 2 ≤ (k.lane i).markers ∧ (k.lane i).skew ≤ 1032 := by
  have hlane := List.all_eq_true.mp h i (List.mem_range.mpr hi)
  simp only [Bool.and_eq_true, decide_eq_true_eq] at hlane
  obtain ⟨⟨⟨hlocked, hmarkers⟩, hskew⟩, -⟩ := hlane
  exact ⟨hlocked, hmarkers, hskew⟩

section MarkerSend

variable {s : State} {link : LinkIx} {lane : LaneIx}

theorem exec_laneMarkerSend_of_not_due (h : s.clk.sysStopped = true ∨ ((s.link link).lane lane).txBlocks < s.markerEvery link) :
    exec (.laneMarkerSend link lane) s = .next s :=
  if_pos (by simpa [State.markerDue] using h)

theorem exec_laneMarkerSend_of_due (hs : s.clk.sysStopped = false) (hd : s.markerEvery link ≤ ((s.link link).lane lane).txBlocks) :
    exec (.laneMarkerSend link lane) s =
      .next (let t := s.sendExtra link lane (markerBlock lane ((s.link link).nextUnitOn lane))
        t.setLink link ((t.link link).setLane lane { (t.link link).lane lane with txBlocks := 0 })) :=
  if_neg (by simp [State.markerDue, hs, hd])

end MarkerSend

/-! ### IDLE blocks (R211–R213, R230) -/

/-- The sender of an IDLE is that of the IDLE before it. -/
abbrev SeamLink.sameSender (k : SeamLink) (b : IdleBlock) : Prop := k.idleSeen = some (b.moduleId, b.link)

/-- A link that has noted an IDLE: its sender, and how many have come of it in a row. -/
def SeamLink.idleNoted (k : SeamLink) (b : IdleBlock) : SeamLink :=
  { k with
    partnerKept := b.llKept, idleSeen := some (b.moduleId, b.link), idleRun := min 4 (if k.sameSender b then k.idleRun + 1 else 1) }

/-- The receiver of an IDLE's sender is DISCOVERED or UP. -/
abbrev senderReady (b : IdleBlock) : Prop := b.rxState = 2 ∨ b.rxState = 3

/-- An IDLE's sender is not the partner of a link (R213). -/
abbrev State.otherPartner (s : State) (l : Nat) (b : IdleBlock) : Prop :=
  s.obj (O.PARTNER_ID l) ≠ b.moduleId ∨ s.obj (O.PARTNER_LINK l) ≠ b.link

/-- The state after an IDLE shows its sender's run state. -/
def State.idleShown (s : State) (l : Nat) (b : IdleBlock) : State := s.setObj (O.PARTNER_RUN l) b.run

/-- The state after the link has noted an IDLE. -/
def State.idleNoted (s : State) (l : Nat) (b : IdleBlock) : State :=
  (s.idleShown l b).setLink l (((s.idleShown l b).link l).idleNoted b)

/-- The state after a link has discovered the sender of an IDLE: what it kept counts no more where that is another partner (R212). -/
def State.discovered (s : State) (l : Nat) (k : SeamLink) (b : IdleBlock) : State :=
  (if s.otherPartner l b then s.setLink l { k with kept := false } else s).setObjs
    [(O.PARTNER_ID l, b.moduleId), (O.PARTNER_LINK l, b.link), (O.LINK_STATE l, 2)]

section Idle

variable {s : State} {l : Nat} {b : IdleBlock}

theorem State.idleHeard_of_aligned (h : (s.idleNoted l b).obj (O.LINK_STATE l) = 1) :
    s.idleHeard l b =
      if 4 ≤ (((s.idleShown l b).link l).idleNoted b).idleRun then
        (let u := (s.idleNoted l b).discovered l (((s.idleShown l b).link l).idleNoted b) b
         if senderReady b then u.linkUp l else u)
      else s.idleNoted l b := by
  unfold State.idleHeard
  extract_lets t k same k' n changed kept found u
  have hn : n.obj (O.LINK_STATE l) = 1 := h
  have hfound : found = u := by
    simp only [found, kept, changed, Bool.or_eq_true, decide_eq_true_eq]
    rfl
  simp only [hn, hfound, Bool.or_eq_true, decide_eq_true_eq]
  rfl

theorem State.idleHeard_of_discovered (h : (s.idleNoted l b).obj (O.LINK_STATE l) = 2) :
    s.idleHeard l b =
      if ¬ ((s.idleShown l b).link l).sameSender b then (s.idleNoted l b).setObj (O.LINK_STATE l) 1
      else if senderReady b then (s.idleNoted l b).linkUp l else s.idleNoted l b := by
  unfold State.idleHeard
  extract_lets t k same k' n
  have hn : n.obj (O.LINK_STATE l) = 2 := h
  simp only [hn, Bool.or_eq_true, decide_eq_true_eq, Bool.not_eq_true', decide_eq_false_iff_not]
  rfl

theorem State.idleHeard_of_up (h : (s.idleNoted l b).obj (O.LINK_STATE l) = 3) :
    s.idleHeard l b = if (s.idleNoted l b).otherPartner l b then (s.idleNoted l b).linkDown l false else s.idleNoted l b := by
  unfold State.idleHeard
  extract_lets t k same k' n
  have hn : n.obj (O.LINK_STATE l) = 3 := h
  simp only [hn, Bool.or_eq_true, decide_eq_true_eq]
  rfl

/-- A link that is DOWN only notes an IDLE. -/
theorem State.idleHeard_of_down
    (h : (s.idleNoted l b).obj (O.LINK_STATE l) = 0 ∨ 3 < (s.idleNoted l b).obj (O.LINK_STATE l)) :
    s.idleHeard l b = s.idleNoted l b := by
  unfold State.idleHeard
  extract_lets t k same k' n
  have hn : n.obj (O.LINK_STATE l) = 0 ∨ 3 < n.obj (O.LINK_STATE l) := h
  split
  next h1 => omega
  next h2 => omega
  next h3 => omega
  next => rfl

end Idle

/-- Settles O15: a lane's bits act through the block lock; a header goes by whether the lane is locked, a marker by its CRC and its
numbers, an IDLE by its CRC and the state of the link. -/
theorem linksAlignAndPartner : Obligations.LinksAlignAndPartner := by
  refine ⟨fun s link lane => ?lanes, fun s link => ?idles⟩
  case lanes =>
    refine ⟨fun bits past filler => rfl,
      ⟨SeamLane.endBlock_of_hunting_invalid, SeamLane.endBlock_of_hunting_valid, SeamLane.endBlock_of_locking,
        SeamLane.endBlock_of_lost, SeamLane.endBlock_of_kept⟩,
      fun skew => ⟨exec_laneMarkerReceive_of_no_marker, fun e r hrx hm => ?marker⟩, SeamLink.lane_of_aligned,
      exec_laneMarkerSend_of_not_due, exec_laneMarkerSend_of_due⟩
    case marker =>
      exact ⟨exec_laneMarkerReceive_of_crc_bad hrx hm,
        fun hc ha => (exec_laneMarkerReceive_of_crc_good hrx hm hc).trans (congrArg _ (State.markerHeard_of_disagrees ha)),
        fun hc ha => (exec_laneMarkerReceive_of_crc_good hrx hm hc).trans (congrArg _ (State.markerHeard_of_agrees ha))⟩
  case idles =>
    refine ⟨fun h => congrArg _ (State.hear_of_none h), fun p t0 k0 hk => ?idle⟩
    refine ⟨fun hc => congrArg _ (State.hear_of_crc_bad hk hc), fun hc => ?good⟩
    have hheard : exec (.idleReceive link) s = .next ((s.setLink link k0).idleHeard link (readIdle p)) :=
      congrArg _ (State.hear_of_crc_good hk hc)
    exact ⟨fun h hr => hheard.trans (congrArg _ ((State.idleHeard_of_aligned h).trans (if_neg (Nat.not_le.mpr hr)))),
      fun h hr => hheard.trans (congrArg _ ((State.idleHeard_of_aligned h).trans (if_pos hr))),
      fun h => hheard.trans (congrArg _ (State.idleHeard_of_discovered h)),
      fun h => hheard.trans (congrArg _ (State.idleHeard_of_up h)),
      fun h => hheard.trans (congrArg _ (State.idleHeard_of_down h))⟩

end Sys2Proof.Machine
end

section
/-!
PROOFS. What an open Seam link does with frames (R215, R218, R219), relayed flits (R225, R226), ACKs and NAKs (R219, R220, R227).
-/

namespace Sys2Proof.Machine

/-! ### Frames (R218, R219) -/

/-- The state after a trailer shows its sender's run state. -/
def State.frameShown (s : State) (l t : Nat) : State := s.setObj (O.PARTNER_RUN l) (field t 228 2)

/-- The state after the acknowledgement that a trailer may carry. -/
def State.frameAcks (s : State) (l t : Nat) : State :=
  if t.testBit 227 then s.setLink l ((s.link l).acked (field t 215 12) s.nowNs) else s

section Checked

variable {s : State} {l t : Nat} {units : List SeamUnit}

theorem State.frameChecked_of_closed (ho : (s.frameShown l t).linkOpen l = false) : s.frameChecked l t units = s.frameShown l t :=
  if_pos (by rw [Bool.not_eq_true']; exact ho)

theorem State.frameChecked_of_open (ho : (s.frameShown l t).linkOpen l = true) :
    s.frameChecked l t units =
      (let a := (s.frameShown l t).frameAcks l t
       if t.testBit 32 = true ∨ field t 236 12 ≠ (a.link l).rxSeq then a.discardFrame l
       else State.releaseUnits (State.vouch (a.setLink l { a.link l with
         rxSeq := ((a.link l).rxSeq + 1) % 4096, nakSent := false, ackDue := (a.link l).ackDue + 1 }) l true) l units) := by
  refine (if_neg (by rw [Bool.not_eq_true', Bool.not_eq_false]; exact ho)).trans ?_
  simp only [Bool.or_eq_true, decide_eq_true_eq]
  rfl

end Checked

section FrameEnd

variable {s : State} {link : LinkIx} {e : SeamBlock × Nat} {rest : List (SeamBlock × Nat)}
  (hq : ((s.link link).rxQ.dropWhile fun e => ! isApart e.1) = e :: rest) (ht : ctype e.1.payload = ctFrameEnd)

include hq ht

theorem exec_frameEnd_of_bad (hr : readFrame (s.link link).frameUnits e.1.payload = none) :
    exec (.frameEnd link) s =
      .next (let t := s.setLink link { s.link link with rxQ := rest }
        if t.linkOpen link then (t.crcFailed link).discardFrame link else t.crcFailed link) := by
  change execFrameEnd link s = _
  simp only [execFrameEnd, hq, ht, hr, ne_eq, not_true_eq_false, if_false]

theorem exec_frameEnd_of_good {units : List SeamUnit} (hr : readFrame (s.link link).frameUnits e.1.payload = some units) :
    exec (.frameEnd link) s =
      .next (State.frameChecked (s.setLink link { s.link link with rxQ := rest }) link e.1.payload units) := by
  change execFrameEnd link s = _
  simp only [execFrameEnd, hq, ht, hr, ne_eq, not_true_eq_false, if_false]

end FrameEnd

/-! ### Flits relayed before their trailer (R225, R226) -/

/-- A unit of the frame being received goes on to its next link before the trailer: a slot flit of this DC for another module, not
passed on yet, while nothing is discarded or restored (R531). -/
def State.relays (s : State) (l unit : Nat) (b : SeamBlock) (r epoch : Nat) : Prop :=
  s.linkOpen l = true ∧ b.header = 1 ∧ (s.link l).relayed.contains unit = false ∧ ssDmod r ≠ s.ownId ∧
    s.run.discarding = false ∧ s.restoring = none ∧ epoch = s.dcNum % 4

theorem State.not_relays_iff (s : State) (l unit : Nat) (b : SeamBlock) (r epoch : Nat) :
    (! s.linkOpen l || b.header ≠ 1 || (s.link l).relayed.contains unit || ssDmod r = s.ownId || s.run.discarding
      || s.restoring.isSome || epoch ≠ s.dcNum % 4) = true ↔ ¬ s.relays l unit b r epoch := by
  rw [← Bool.not_eq_false]
  refine not_congr ?_
  simp only [State.relays, Bool.or_eq_false_iff, Bool.not_eq_false', decide_eq_false_iff_not, Decidable.not_not, Option.isSome_eq_false_iff,
    Option.isNone_iff_eq_none, and_assoc, ne_eq]

section Relay

variable {s : State} {link : LinkIx} {unit : Fin 39} {tag : BitVec 11} {epoch : BitVec 2}

theorem exec_relayForward_of_none (h : (s.link link).frameUnits[unit.val]? = none ∨ s.ingressRecord link tag.toNat = none) :
    exec (.relayForward link unit tag epoch) s = .next s := by
  change execRelayForward link unit tag epoch s = _
  unfold execRelayForward
  dsimp only
  split
  next b r hb hr =>
    rcases h with h | h
    · exact absurd (hb.symm.trans h) (by simp)
    · exact absurd (hr.symm.trans h) (by simp)
  next => rfl

variable {b : SeamBlock} {r : Nat} (hb : (s.link link).frameUnits[unit.val]? = some b)
  (hr : s.ingressRecord link tag.toNat = some r)

include hb hr

theorem exec_relayForward_of_relays (h : s.relays link unit b r epoch.toNat) :
    exec (.relayForward link unit tag epoch) s =
      .next ((s.setLink link { s.link link with relayed := (s.link link).relayed ++ [unit.val] }).seamEgress (some link.val)
        (ssDmod r) (ssDdie r) (ssDlc r) (ssKey r) b.payload s.dcNum) := by
  change execRelayForward link unit tag epoch s = _
  simp only [execRelayForward, hb, hr]
  exact if_neg fun hn => (State.not_relays_iff ..).mp hn h

theorem exec_relayForward_of_not_relays (h : ¬ s.relays link unit b r epoch.toNat) :
    exec (.relayForward link unit tag epoch) s = .next s := by
  change execRelayForward link unit tag epoch s = _
  simp only [execRelayForward, hb, hr]
  exact if_pos ((State.not_relays_iff ..).mpr h)

end Relay

/-- Settles O16: a frame goes by its check, then by whether the link is open, then by its place in the sequence; a relayed unit by whether
it may go on; an ACK and a NAK by their CRC. -/
theorem framesAreAcceptedInOrder : Obligations.FramesAreAcceptedInOrder := by
  intro s link
  refine ⟨fun e rest hq ht => ⟨exec_frameEnd_of_bad hq ht, fun units hr => ?frame⟩,
    fun h => congrArg _ (State.hear_of_none h),
    fun p t0 k0 hk => ⟨fun hc => congrArg _ (State.hear_of_crc_bad hk hc), fun hc => congrArg _ (State.hear_of_crc_good hk hc)⟩,
    fun h => congrArg _ (State.hear_of_none h),
    fun p t0 k0 hk => ⟨fun hc => congrArg _ (State.hear_of_crc_bad hk hc), fun hc => congrArg _ (State.hear_of_crc_good hk hc)⟩,
    fun unit tag epoch => ⟨exec_relayForward_of_none,
      fun b r hb hr => ⟨exec_relayForward_of_relays hb hr, exec_relayForward_of_not_relays hb hr⟩⟩⟩
  case frame =>
    have hgood := exec_frameEnd_of_good hq ht hr
    refine ⟨fun ho => hgood.trans (congrArg _ (State.frameChecked_of_closed ho)),
      fun ho hx => hgood.trans (congrArg _ ((State.frameChecked_of_open ho).trans (if_pos hx))),
      fun ho hkill hseq => hgood.trans (congrArg _ ((State.frameChecked_of_open ho).trans (if_neg ?_)))⟩
    rintro (hx | hx)
    · simp [hkill] at hx
    · exact hx hseq

end Sys2Proof.Machine
end

section
/-!
PROOFS. What an UP, enabled link sends of itself (R206–R208, R219, R220, R223, R227), and RESUME_LIMIT (R231).
-/

namespace Sys2Proof.Machine

section Sends

variable {s : State} {link : LinkIx}

/-! ### Timers of the retry (R219, R220) and acknowledgements (R219, R227) -/

/-- A frame of an open link has gone unacknowledged for ACK_TIMEOUT (R220). -/
def State.ackLate (s : State) (l : Nat) : Prop :=
  s.linkOpen l = true ∧ (s.link l).retry ≠ [] ∧ s.reached ((s.link l).ackFrom + s.obj O.ACK_TIMEOUT) = true

/-- The NAK of an open link has gone unanswered for 1 µs (R219). -/
def State.nakUnanswered (s : State) (l : Nat) : Prop :=
  s.linkOpen l = true ∧ (s.link l).nakSent = true ∧ s.reached ((s.link l).nakAt + 1000) = true

theorem State.ackLate_iff (s : State) (l : Nat) :
    (s.linkOpen l && (s.link l).retry ≠ [] && s.reached ((s.link l).ackFrom + s.obj O.ACK_TIMEOUT)) = true ↔ s.ackLate l := by
  simp only [State.ackLate, Bool.and_eq_true, decide_eq_true_eq, and_assoc]

theorem State.nakUnanswered_iff (s : State) (l : Nat) :
    (s.linkOpen l && (s.link l).nakSent && s.reached ((s.link l).nakAt + 1000)) = true ↔ s.nakUnanswered l := by
  simp only [State.nakUnanswered, Bool.and_eq_true, and_assoc]

theorem exec_ackTimeout_of_late (h : s.ackLate link) :
    exec (.ackTimeout link) s =
      .next (s.setLink link { s.link link with resend := (s.link link).retry.map fun f => f.seq, ackFrom := s.nowNs }) :=
  if_pos ((s.ackLate_iff link).mpr h)

theorem exec_ackTimeout_of_not_late (h : ¬ s.ackLate link) : exec (.ackTimeout link) s = .next s :=
  if_neg (mt (s.ackLate_iff link).mp h)

theorem exec_nakRepeat_of_unanswered (h : s.nakUnanswered link) : exec (.nakRepeat link) s = .next (s.sendNak link) :=
  if_pos ((s.nakUnanswered_iff link).mpr h)

theorem exec_nakRepeat_of_answered (h : ¬ s.nakUnanswered link) : exec (.nakRepeat link) s = .next s :=
  if_neg (mt (s.nakUnanswered_iff link).mp h)

theorem exec_ackSend_of_due (ho : s.linkOpen link = true) (hd : 0 < (s.link link).ackDue ∨ (s.link link).ackCredits ≠ []) :
    exec (.ackSend link) s = .next ((s.setLink link { s.link link with ackDue := 0, ackCredits := [] }).sendMsg link
      (.ack (((s.link link).rxSeq + 4095) % 4096)
        ((List.range 4).foldl (fun n v => n + min 255 (tget (fun _ => 0) (s.link link).ackCredits v) * 2 ^ (8 * v)) 0))) :=
  if_pos (by simpa [ho] using hd)

theorem exec_ackSend_of_nothing_due
    (h : s.linkOpen link = false ∨ ((s.link link).ackDue = 0 ∧ (s.link link).ackCredits = [])) :
    exec (.ackSend link) s = .next s := by
  refine if_neg ?_
  rcases h with ho | ⟨hd, hc⟩
  · simp [ho]
  · simp [hd, hc]

/-! ### A block's place on the lane whose unit is next (R208, R223) -/

variable {past : BitVec 34}

theorem exec_seamEgressSend_of_waiting (h : s.clk.sysStopped = true ∨ s.markerDue link ((s.link link).txUnit % 8) = true) :
    exec (.seamEgressSend link past) s = .next s :=
  if_pos (by simpa using h)

section Free

variable (hs : s.clk.sysStopped = false) (hm : s.markerDue link ((s.link link).txUnit % 8) = false)

include hs hm

theorem exec_seamEgressSend_of_filler (hf : (s.link link).fillerDue = true) :
    exec (.seamEgressSend link past) s =
      .next (s.sendExtra link ((s.link link).txUnit % 8) (idleBlock (s.idleOf link))) :=
  (if_neg (by simp [hs, hm])).trans (if_pos hf)

variable (hf : (s.link link).fillerDue = false)

include hf

theorem exec_seamEgressSend_of_closed (ho : s.linkOpen link = false) :
    exec (.seamEgressSend link past) s = .next (s.sendIdle link) :=
  (if_neg (by simp [hs, hm])).trans ((if_neg (by simp [hf])).trans (if_pos (by simp [ho])))

theorem exec_seamEgressSend_of_frames (ho : s.linkOpen link = true) (hq : (s.link link).msgQ = []) :
    exec (.seamEgressSend link past) s = .next (s.sendFrameUnit link) := by
  change execSeamEgressSend link past s = _
  simp [execSeamEgressSend, hs, hm, hf, ho, hq]

theorem exec_seamEgressSend_of_message {m : SeamMsg} {r : List SeamMsg} (ho : s.linkOpen link = true)
    (hq : (s.link link).msgQ = m :: r) :
    exec (.seamEgressSend link past) s =
      .next (State.launch (s.setLink link { s.link link with msgQ := r }) link m ((s.tb.counter + past.toNat) % 2 ^ 96)) := by
  change execSeamEgressSend link past s = _
  simp [execSeamEgressSend, hs, hm, hf, ho, hq]

end Free

/-! ### RESUME_LIMIT (R231) -/

theorem exec_resumeLimitExpiry_of_not_down (h : (s.link link).downSince = none ∨ (s.link link).expired = true) :
    exec (.resumeLimitExpiry link) s = .next s := by
  change execResumeLimitExpiry link s = _
  rcases h with h | h
  · simp [execResumeLimitExpiry, h]
  · simp only [execResumeLimitExpiry, h, Bool.true_or, if_true]
    split <;> rfl

section Down

variable {t : Nat} (ht : (s.link link).downSince = some t) (he : (s.link link).expired = false)

include ht he

theorem exec_resumeLimitExpiry_of_to_come (hr : s.reached (t + s.obj O.RESUME_LIMIT) = false) :
    exec (.resumeLimitExpiry link) s = .next s := by
  change execResumeLimitExpiry link s = _
  simp [execResumeLimitExpiry, ht, he, hr]

theorem exec_resumeLimitExpiry_of_reached (hr : s.reached (t + s.obj O.RESUME_LIMIT) = true) :
    exec (.resumeLimitExpiry link) s =
      .next (let u := s.setLink link { (s.link link).emptied with expired := true }
        if u.objBit O.LINK_ENABLE link then u.raiseFault 9 FaultLoc.hub (link + 32 * u.obj (O.PARTNER_ID link)) 0 0 else u) := by
  change execResumeLimitExpiry link s = _
  simp [execResumeLimitExpiry, ht, he, hr]

end Down

end Sends

/-- Settles O17: a timer goes by whether its time has come on an open link, a block's place by what waits first for it, the resume by
whether the link is down and for how long. -/
theorem linksSendAndForget : Obligations.LinksSendAndForget := by
  intro s link k late again
  exact ⟨exec_ackTimeout_of_late, exec_ackTimeout_of_not_late, exec_nakRepeat_of_unanswered, exec_nakRepeat_of_answered,
    exec_ackSend_of_due, exec_ackSend_of_nothing_due,
    fun past => ⟨exec_seamEgressSend_of_waiting, fun hs hm => ⟨exec_seamEgressSend_of_filler hs hm,
      exec_seamEgressSend_of_closed hs hm, exec_seamEgressSend_of_frames hs hm,
      fun m r hf => exec_seamEgressSend_of_message hs hm hf⟩⟩,
    exec_resumeLimitExpiry_of_not_down, fun t ht he => ⟨exec_resumeLimitExpiry_of_to_come ht he,
      exec_resumeLimitExpiry_of_reached ht he⟩⟩

end Sys2Proof.Machine
end

section
/-!
PROOFS. The path-delay blocks and intervals of the time base (R215, R239–R241), TIME_SYNC (R240–R242, R254) and the judgement of an
offset (R242, R254).
-/

namespace Sys2Proof.Machine

/-! ### Path delays (R239) -/

section Delay

variable {s : State} {l p arrive : Nat}

theorem State.delayAsked_of_closed (ho : s.linkOpen l = false) : s.delayAsked l p arrive = s := if_neg (by simp [ho])

theorem State.delayAsked_of_open (ho : s.linkOpen l = true) :
    s.delayAsked l p arrive = s.sendMsg l (.pdelayResp (field p 232 16) arrive 0) := if_pos ho

theorem State.delayMeasured_of_outside {d : Int} (h : d < 0 ∨ 1000 * (ns : Int) < d) : s.delayMeasured l d = s :=
  if_pos (by simpa using h)

theorem State.delayMeasured_of_within {d : Int} (h0 : 0 ≤ d) (h1 : d ≤ 1000 * (ns : Int)) :
    s.delayMeasured l d =
      (let m := (d :: tget (fun _ => []) s.tb.pdelays l).take 8
       State.setObj { s with tb := { s.tb with pdelays := tput (fun _ => []) s.tb.pdelays l m } }
         (O.PATH_DELAY l) ((meanOf m * 1000 / ns).toNat % 2 ^ 32)) :=
  if_neg (by simpa using And.intro h0 h1)

/-- An answer on a link that is not open, or to no request that is outstanding, is no measurement. -/
theorem State.delayAnswered_of_unasked
    (h : s.linkOpen l = false ∨ ∀ q t1, tget (fun _ => none) s.tb.pdelayReq l = some (q, t1) → q ≠ field p 232 16) :
    s.delayAnswered l p arrive = s := by
  unfold State.delayAnswered
  split
  next => rfl
  next q t1 hq =>
    refine if_pos ?_
    rcases h with ho | hn
    · simp [ho]
    · simp [hn q t1 hq]

theorem State.delayAnswered_of_asked {q t1 : Nat} (ho : s.linkOpen l = true)
    (hq : tget (fun _ => none) s.tb.pdelayReq l = some (q, t1)) (hp : q = field p 232 16) :
    s.delayAnswered l p arrive =
      State.delayMeasured { s with tb := { s.tb with pdelayReq := tput (fun _ => none) s.tb.pdelayReq l none } } l
        ((timeDiff arrive t1 - timeDiff (field p 40 96) (field p 136 96)) / 2) := by
  simp only [State.delayAnswered, hq]
  exact if_neg (by simp [ho, hp])

end Delay

/-! ### Intervals and candidates (R239–R241) -/

section Intervals

variable {s : State} {link : LinkIx}

theorem exec_pdelayIntervalExpiry_of_reached (h : s.reached s.tb.nextPdelay = true) :
    exec .pdelayIntervalExpiry s = .next ((allLinks.filter s.linkOpen).foldl State.startDelay
      { s with tb := { s.tb with nextPdelay := (s.nowNs + s.obj O.PDELAY_INTERVAL) % 2 ^ 64 } }) :=
  if_pos h

theorem exec_pdelayIntervalExpiry_of_to_come (h : s.reached s.tb.nextPdelay = false) : exec .pdelayIntervalExpiry s = .next s :=
  if_neg (by simp [h])

theorem exec_syncIntervalExpiry_of_due (hg : s.obj O.TB_STATE = tbGrandmaster) (h : s.reached s.tb.nextSync = true) :
    exec .syncIntervalExpiry s =
      .next (let q := (s.tb.seqId + 1) % 65536
        State.sendAll { s with tb := { s.tb with seqId := q, nextSync := (s.nowNs + s.obj O.SYNC_INTERVAL) % 2 ^ 64 } } none
          (.sync ⟨q, s.obj O.PRIORITY, s.ownId, 0, s.tb.boot, 0⟩)) :=
  if_pos (by simp [hg, h])

theorem exec_syncIntervalExpiry_of_not_due (h : s.obj O.TB_STATE ≠ tbGrandmaster ∨ s.reached s.tb.nextSync = false) :
    exec .syncIntervalExpiry s = .next s := by
  refine if_neg ?_
  rcases h with h | h <;> simp [h]

theorem exec_candidateExpiry_of_none (h : tget (fun _ => none) s.tb.candidates link = none) :
    exec (.candidateExpiry link) s = .next s := by
  change execCandidateExpiry link s = _
  simp only [execCandidateExpiry, h]

theorem exec_candidateExpiry_of_some {a : Candidate} (h : tget (fun _ => none) s.tb.candidates link = some a) :
    exec (.candidateExpiry link) s =
      if s.reached a.expires then
        .next (State.elect { s with tb := { s.tb with candidates := tput (fun _ => none) s.tb.candidates link none } })
      else .next s := by
  change execCandidateExpiry link s = _
  simp only [execCandidateExpiry, h]

end Intervals

/-! ### TIME_SYNC (R240–R242) -/

/-- A TIME_SYNC is taken on a link (R240): the link is open, its sender not too far, not this module, and the number new. -/
def State.takesSync (s : State) (l : Nat) (b : SyncBlock) : Prop :=
  s.linkOpen l = true ∧ b.steps < 255 ∧ b.gmId ≠ s.ownId ∧
    follows (tget (fun _ => none) s.tb.lastSync (b.gmId * 32 + l)) b.seqId b.boot = true

theorem State.not_takesSync_iff (s : State) (l : Nat) (b : SyncBlock) :
    (! s.linkOpen l || ! s.syncFresh l b) = true ↔ ¬ s.takesSync l b := by
  rw [← Bool.not_eq_false]
  refine not_congr ?_
  simp only [State.takesSync, State.syncFresh, Bool.or_eq_false_iff, Bool.not_eq_false', Bool.and_eq_true, decide_eq_true_eq, bne_iff_ne,
    and_assoc]

/-- A FOLLOWER passes a TIME_SYNC on with its own STEPS (R241). -/
def State.syncOnward (s : State) (l : Nat) (b : SyncBlock) : State :=
  if s.obj O.TB_STATE = tbFollower then s.sendAll (some l) (.sync { b with steps := s.obj O.STEPS, depart := 0 }) else s

section Sync

variable {s : State} {l arrive : Nat} {b : SyncBlock}

theorem State.syncHeard_of_not_taken (h : ¬ s.takesSync l b) : s.syncHeard l b arrive = s := if_pos ((s.not_takesSync_iff l b).mpr h)

section Taken

variable (h : s.takesSync l b)

include h

theorem State.syncHeard_of_taken :
    s.syncHeard l b arrive =
      (let t := (s.noteSync l b).elect
       if t.obj O.PARENT_LINK ≠ l then t
       else (match t.pathDelay l with
         | none => t
         | some d => (t.judge (timeDiff arrive b.depart - d)).ppsShown).syncOnward l b) :=
  if_neg fun hn => (s.not_takesSync_iff l b).mp hn h

theorem State.syncHeard_of_other_parent (hp : (s.noteSync l b).elect.obj O.PARENT_LINK ≠ l) :
    s.syncHeard l b arrive = (s.noteSync l b).elect :=
  (State.syncHeard_of_taken h).trans (if_pos hp)

variable (hp : (s.noteSync l b).elect.obj O.PARENT_LINK = l)

include hp

theorem State.syncHeard_of_no_delay (hd : (s.noteSync l b).elect.pathDelay l = none) :
    s.syncHeard l b arrive = (s.noteSync l b).elect.syncOnward l b := by
  refine (State.syncHeard_of_taken h).trans ((if_neg (not_not_intro hp)).trans ?_)
  rw [hd]

theorem State.syncHeard_of_delay {d : Int} (hd : (s.noteSync l b).elect.pathDelay l = some d) :
    s.syncHeard l b arrive =
      ((s.noteSync l b).elect.judge (timeDiff arrive b.depart - d)).ppsShown.syncOnward l b := by
  refine (State.syncHeard_of_taken h).trans ((if_neg (not_not_intro hp)).trans ?_)
  rw [hd]

end Taken

end Sync

/-! ### The judgement of an offset (R242, R254) -/

section Judge

/-- The state that shows the last offset. -/
def State.offsetShown (s : State) (theta : Int) : State := s.setObj O.OFFSET_LAST (ofSigned 32 (offsetPs theta))

variable {s : State} {theta : Int}

/-- A module joins by a step, but not in a tied run. -/
theorem State.judge_of_joins (hj : (s.offsetShown theta).obj O.JOINED ≠ 1) (ht : (s.offsetShown theta).tiedRun = false) :
    s.judge theta =
      State.setObjs { s.offsetShown theta with tb := { (s.offsetShown theta).tb with stepBy := some (-theta), freq := 0 } }
        [(O.JOINED, 1), (O.TB_STATE, tbFollower), (O.HOLDOVER_CAUSE, 0)] := by
  unfold State.judge
  extract_lets t joined
  exact if_pos (by rw [Bool.and_eq_true, Bool.not_eq_true', Bool.not_eq_true']; exact ⟨beq_false_of_ne hj, ht⟩)

theorem State.judge_of_stays (h : (s.offsetShown theta).obj O.JOINED = 1 ∨ (s.offsetShown theta).tiedRun = true) :
    s.judge theta =
      (let t := s.offsetShown theta
       if theta.natAbs ≤ t.obj O.JUMP_THRESHOLD * ns then
         (t.setObjs [(O.JOINED, 1), (O.TB_STATE, tbFollower), (O.HOLDOVER_CAUSE, 0)]).correctRate theta
           (max 1 ((t.setObjs [(O.JOINED, 1), (O.TB_STATE, tbFollower), (O.HOLDOVER_CAUSE, 0)]).obj O.SYNC_INTERVAL))
       else (t.setObjs [(O.TB_STATE, tbHoldover), (O.HOLDOVER_CAUSE, 2)]).refuseJump theta) := by
  unfold State.judge
  extract_lets t joined u v t'
  have hno : ¬ (! joined && ! t.tiedRun) = true := by
    rw [Bool.and_eq_true, Bool.not_eq_true', Bool.not_eq_true']
    rintro ⟨hj, ht⟩
    rcases h with h | h
    · exact ne_of_beq_false hj h
    · exact Bool.eq_false_iff.mp ht h
  have hinterval : (t'.setObjs [(O.JOINED, 1), (O.TB_STATE, tbFollower), (O.HOLDOVER_CAUSE, 0)]).obj O.SYNC_INTERVAL =
      t.obj O.SYNC_INTERVAL := t.obj_setObjs _ (by decide)
  rw [if_neg hno, hinterval]
  rfl

end Judge

/-! ### The blocks as they come (R215) -/

section Heard

variable {s : State} {link : LinkIx} {p arrive : Nat} {k : SeamLink} (hc : crcGood p = true)

include hc

theorem exec_pdelayReq_of_crc_good (hk : (s.link link).heard ctPdelayReq = some ((p, arrive), k)) :
    exec (.pdelayReq link) s = .next ((s.setLink link k).delayAsked link p arrive) :=
  congrArg _ (State.hear_of_crc_good hk hc)

theorem exec_pdelayResp_of_crc_good (hk : (s.link link).heard ctPdelayResp = some ((p, arrive), k)) :
    exec (.pdelayResp link) s = .next ((s.setLink link k).delayAnswered link p arrive) :=
  congrArg _ (State.hear_of_crc_good hk hc)

theorem exec_timeSync_of_crc_good (hk : (s.link link).heard ctTimeSync = some ((p, arrive), k)) :
    exec (.timeSync link) s = .next ((s.setLink link k).syncHeard link (readSync p) arrive) :=
  congrArg _ (State.hear_of_crc_good hk hc)

end Heard

/-- Settles O19: a block that stands first goes by its CRC, then by what its type asks; an interval or candidate by whether its time has
come; an offset by whether the module has joined and by the threshold. -/
theorem timeMessagesAreAnswered : Obligations.TimeMessagesAreAnswered := by
  refine ⟨fun s link => ?delays, fun s link => ⟨?nothing, ?sync, ?judge⟩⟩
  case delays =>
    refine ⟨fun h => congrArg _ (State.hear_of_none h), fun p arrive k hk => ?request,
      fun h => congrArg _ (State.hear_of_none h), fun p arrive k hk => ?answer,
      exec_pdelayIntervalExpiry_of_reached, exec_pdelayIntervalExpiry_of_to_come, exec_syncIntervalExpiry_of_due,
      exec_syncIntervalExpiry_of_not_due, exec_candidateExpiry_of_none, fun a ha => ?candidate⟩
    case request =>
      have hgood (hc : crcGood p = true) := exec_pdelayReq_of_crc_good hc hk
      exact ⟨fun hc => congrArg _ (State.hear_of_crc_bad hk hc),
        fun hc ho => (hgood hc).trans (congrArg _ (State.delayAsked_of_closed ho)),
        fun hc ho => (hgood hc).trans (congrArg _ (State.delayAsked_of_open ho))⟩
    case answer =>
      have hgood (hc : crcGood p = true) := exec_pdelayResp_of_crc_good hc hk
      refine ⟨fun hc => congrArg _ (State.hear_of_crc_bad hk hc),
        fun hc h => (hgood hc).trans (congrArg _ (State.delayAnswered_of_unasked h)), fun q t1 hc ho hq hp => ?measured⟩
      have hasked := (hgood hc).trans (congrArg _ (State.delayAnswered_of_asked ho hq hp))
      exact ⟨fun h => hasked.trans (congrArg _ (State.delayMeasured_of_outside h)),
        fun h0 h1 => hasked.trans (congrArg _ (State.delayMeasured_of_within h0 h1))⟩
    case candidate =>
      exact ⟨fun h => (exec_candidateExpiry_of_some ha).trans (if_neg (by simp [h])),
        fun h => (exec_candidateExpiry_of_some ha).trans (if_pos h)⟩
  case nothing => exact fun h => congrArg _ (State.hear_of_none h)
  case sync =>
    intro p arrive k hk
    have hgood (hc : crcGood p = true) := exec_timeSync_of_crc_good hc hk
    exact ⟨fun hc => congrArg _ (State.hear_of_crc_bad hk hc),
      fun hc hf => (hgood hc).trans (congrArg _ (State.syncHeard_of_not_taken hf)),
      fun hc hf => ⟨fun hp => (hgood hc).trans (congrArg _ (State.syncHeard_of_other_parent hf hp)),
        fun hp hd => (hgood hc).trans (congrArg _ (State.syncHeard_of_no_delay hf hp hd)),
        fun d hp hd => (hgood hc).trans (congrArg _ (State.syncHeard_of_delay hf hp hd))⟩⟩
  case judge =>
    exact fun theta => ⟨State.judge_of_joins, fun h hw => (State.judge_of_stays h).trans (if_pos hw),
      fun h hw => (State.judge_of_stays h).trans (if_neg hw)⟩

end Sys2Proof.Machine
end

section
/-!
PROOFS. The tick of the time base and the step with an empty queue (R234, R238, R248).
-/

namespace Sys2Proof.Machine

/-! ### The counter (R234) -/

theorem ofSigned_lt (w : Nat) (i : Int) : ofSigned w i < 2 ^ w := by
  have hpos : (0 : Int) < 2 ^ w := Int.pow_pos (by decide)
  have hlt := Int.emod_lt_of_pos i hpos
  rw [ofSigned, Int.toNat_lt (Int.emod_nonneg i (Int.ne_of_gt hpos))]
  exact_mod_cast hlt

theorem ofSigned_natCast (w n : Nat) : ofSigned w n = n % 2 ^ w := by
  rw [ofSigned]
  exact_mod_cast Int.toNat_natCast (n % 2 ^ w)

/-- The state with the counter of the next tick: the time that a TIME_SET has left for it, or INCREMENT with the step of R246. -/
def State.counted (s : State) : State :=
  { s with tb := { s.tb with
    counter := (match s.tb.setTo with
      | some v => v * ns
      | none => ofSigned 96 ((s.tb.counter + s.obj O.INCREMENT : Int) + s.tb.stepBy.getD 0)) % 2 ^ 96
    setTo := none
    stepBy := none } }

section Counted

variable {s : State}

theorem State.counted_counter_of_set {v : Nat} (h : s.tb.setTo = some v) : s.counted.tb.counter = v * ns % 2 ^ 96 := by
  simp only [State.counted, h]

theorem State.counted_counter_of_step {d : Int} (h : s.tb.setTo = none) (hd : s.tb.stepBy = some d) :
    s.counted.tb.counter = ofSigned 96 (s.tb.counter + s.obj O.INCREMENT + d) := by
  simp only [State.counted, h, hd, Option.getD_some]
  exact Nat.mod_eq_of_lt (ofSigned_lt 96 _)

theorem State.counted_counter_of_neither (h : s.tb.setTo = none) (hd : s.tb.stepBy = none) :
    s.counted.tb.counter = (s.tb.counter + s.obj O.INCREMENT) % 2 ^ 96 := by
  simp only [State.counted, h, hd, Option.getD_none, Int.add_zero]
  rw [← Int.natCast_add, ofSigned_natCast, Nat.mod_mod]

end Counted

theorem State.counted_ppsNext (s : State) : s.counted.tb.ppsNext = s.tb.ppsNext := rfl

/-! ### The whole second that TIME_PPS_OUT waits for (R238, R248) -/

/-- The state that waits for the whole second `next`, whether or not one is due now. Its laws hold for any `due`, so that they do not
compute the comparison of R237. -/
def State.awaitSecond (s : State) (due : Bool) (next : Nat) : State := { s with tb := { s.tb with ppsDue := due, ppsNext := next } }

section Await

variable (s : State) (due : Bool) (next : Nat)

theorem State.awaitSecond_counter : (s.awaitSecond due next).tb.counter = s.tb.counter := rfl

theorem State.awaitSecond_nowNs : (s.awaitSecond due next).nowNs = s.nowNs := rfl

theorem State.awaitSecond_reached (t : Nat) : (s.awaitSecond due next).reached t = s.reached t := rfl

theorem State.awaitSecond_ppsDue : (s.awaitSecond due next).tb.ppsDue = due := rfl

theorem State.awaitSecond_ppsNext : (s.awaitSecond due next).tb.ppsNext = next := rfl

theorem State.ppsTarget_eq :
    s.ppsTarget = s.awaitSecond (s.reached s.tb.ppsNext) (if s.reached s.tb.ppsNext then nextSecond s.nowNs else s.tb.ppsNext) := rfl

theorem State.ppsTarget_counter : s.ppsTarget.tb.counter = s.tb.counter := by
  rw [State.ppsTarget_eq, State.awaitSecond_counter]

theorem State.ppsTarget_ppsDue : s.ppsTarget.tb.ppsDue = s.ppsTarget.reached s.tb.ppsNext := by
  rw [State.ppsTarget_eq, State.awaitSecond_ppsDue, State.awaitSecond_reached]

theorem State.ppsTarget_ppsNext :
    s.ppsTarget.tb.ppsNext = if s.ppsTarget.tb.ppsDue then nextSecond s.ppsTarget.nowNs else s.tb.ppsNext := by
  rw [State.ppsTarget_eq, State.awaitSecond_ppsNext, State.awaitSecond_ppsDue, State.awaitSecond_nowNs]

end Await

theorem nextSecond_of_lt {t : Nat} (h : t < 2 ^ 64 - 1000000000) : nextSecond t = (t / 1000000000 + 1) * 1000000000 :=
  if_pos (by omega)

/-! ### The tick (R234) -/

theorem State.tick_of_stopped {s : State} (h : s.clk.sysStopped = true ∨ s.tb.running = false) : s.tick = s :=
  if_pos (by simpa using h)

section Running

variable {s : State} (hc : s.clk.sysStopped = false) (hr : s.tb.running = true)

include hc hr

theorem State.tick_of_running : s.tick = s.counted.ppsTarget := by
  refine (if_neg (by simp [hc, hr])).trans ?_
  unfold State.counted
  cases s.tb.setTo <;> cases s.tb.stepBy <;> rfl

theorem State.tick_counter : s.tick.tb.counter = s.counted.tb.counter := by
  rw [State.tick_of_running hc hr, State.ppsTarget_counter]

theorem State.tick_ppsDue : s.tick.tb.ppsDue = s.tick.reached s.tb.ppsNext := by
  rw [State.tick_of_running hc hr, State.ppsTarget_ppsDue, State.counted_ppsNext]

theorem State.tick_ppsNext : s.tick.tb.ppsNext = if s.tick.tb.ppsDue then nextSecond s.tick.nowNs else s.tb.ppsNext := by
  rw [State.tick_of_running hc hr, State.ppsTarget_ppsNext, State.counted_ppsNext]

theorem State.tick_ppsNext_of_due (h : s.tick.tb.ppsDue = true) : s.tick.tb.ppsNext = nextSecond s.tick.nowNs :=
  (State.tick_ppsNext hc hr).trans (if_pos h)

theorem State.tick_ppsNext_of_not_due (h : s.tick.tb.ppsDue = false) : s.tick.tb.ppsNext = s.tb.ppsNext :=
  (State.tick_ppsNext hc hr).trans (if_neg (by simp [h]))

end Running

/-- A tick touches the time base only. -/
theorem State.tick_other (s : State) : { s.tick with tb := s.tb } = s := by
  unfold State.tick
  split <;> rfl

theorem State.obj_tick (s : State) (k : Nat) : s.tick.obj k = s.obj k := by
  have h := congrArg (State.obj · k) s.tick_other
  exact h

theorem State.coreRuns_tick (s : State) (c : Nat) : s.tick.coreRuns c = s.coreRuns c := by
  have h := congrArg (State.coreRuns · c) s.tick_other
  exact h

/-! ### The step with an empty queue -/

theorem State.fabCycle_of_unconfigured {s : State} (h : s.obj O.FAB_STATE ≠ 2) : s.fabCycle = s := if_pos h

theorem step_of_empty_queue {s : State} (h : s.pending = []) : step s = .next s.idle := by
  simp only [step, h]

theorem State.idle_of_no_core_runs {s : State} (hf : s.obj O.FAB_STATE ≠ 2) (hc : ∀ c, c < 32 → s.coreRuns c = false) :
    s.idle = s.tick := by
  have hfab : s.tick.fabCycle = s.tick := State.fabCycle_of_unconfigured (by rwa [State.obj_tick])
  unfold State.idle
  rw [hfab, hfab]
  refine List.foldlRecOn (motive := fun t => t = s.tick) _ _ rfl fun t ht c hmem => ?_
  rw [ht, s.coreRuns_tick c, hc c (List.mem_range.mp hmem)]
  rfl

/-- Settles O54: an empty queue is an idle step, which is the tick alone where the fabric and the cores are at rest; a running tick counts,
then judges the whole second that TIME_PPS_OUT waits for. -/
theorem emptyQueueCountsTime : Obligations.EmptyQueueCountsTime := by
  refine fun s => ⟨step_of_empty_queue,
    fun hq hf hc => (step_of_empty_queue hq).trans (congrArg _ (State.idle_of_no_core_runs hf hc)), State.tick_of_stopped,
    fun hc hr => ?running⟩
  have hcount := State.tick_counter hc hr
  refine ⟨s.tick_other, ?frame, ?setTaken, ?stepTaken, State.tick_ppsDue hc hr, State.tick_ppsNext_of_not_due hc hr, ?nextSecond,
    fun hv hd => hcount.trans (State.counted_counter_of_neither hv hd),
    fun d hv hd => hcount.trans (State.counted_counter_of_step hv hd), fun v hv => hcount.trans (State.counted_counter_of_set hv)⟩
  case frame => rw [State.tick_of_running hc hr]; rfl
  case setTaken => rw [State.tick_of_running hc hr]; rfl
  case stepTaken => rw [State.tick_of_running hc hr]; rfl
  case nextSecond =>
    intro hdue hlt
    rw [State.tick_ppsNext_of_due hc hr hdue, nextSecond_of_lt hlt]
    omega

end Sys2Proof.Machine
end

section
/-!
PROOFS. Pulses per second (R246–R248, R254) and the writable objects of the time base (R236, R240, R243, R245, R247).
-/

namespace Sys2Proof.Machine

/-! ### The judgement of an edge (R246, R254) -/

section Judge

variable {s : State} {e : Int}

theorem State.ppsJudge_of_joins (hj : s.obj O.JOINED = 0) (ht : s.tiedRun = false) :
    s.ppsJudge e = State.setObjs { s with tb := { s.tb with stepBy := some (-e), freq := 0 } } [(O.JOINED, 1), (O.PPS_STATE, 2)] :=
  if_pos (by simp [hj, ht])

/-- One that has joined, or is in a tied run, goes by the threshold. -/
theorem State.ppsJudge_of_stays (h : s.obj O.JOINED ≠ 0 ∨ s.tiedRun = true) :
    s.ppsJudge e =
      if e.natAbs ≤ s.obj O.JUMP_THRESHOLD * ns then (s.correctRate e second).setObjs [(O.JOINED, 1), (O.PPS_STATE, 2)]
      else (s.setObj O.PPS_STATE (if s.obj O.JOINED = 0 then 1 else 3)).refuseJump e := by
  refine if_neg ?_
  rcases h with h | h <;> simp [h]

end Judge

/-! ### Edges in (R246, R247) -/

/-- The state that shows an edge of TIME_PPS_IN. -/
def State.ppsTimed (s : State) (stamp : BitVec 96) : State :=
  State.setObj { s with tb := { s.tb with ppsSeen := some s.nowNs } } O.PPS_IN_LAST (stamp.toNat / ns)

/-- The state whose counter has taken a TIME_SET at an edge. -/
def State.setAtEdge (s : State) (v : Nat) : State := { s with tb := { s.tb with counter := v * ns % 2 ^ 96, setPps := none } }

/-- What an edge of TIME_PPS_IN does once it is shown, `e` from a whole second: a TIME_SET that waits for it goes before the judgement. -/
def State.ppsEdge (s : State) (e : Int) : Out :=
  match s.tb.setPps with
  | some v =>
    if s.tiedRun then .next s
    else .next (if (s.setAtEdge v).disciplined then (s.setAtEdge v).setObj O.PPS_STATE 2 else s.setAtEdge v)
  | none => .next (if s.disciplined then s.ppsJudge e else s)

theorem exec_ppsInEdge (stamp : BitVec 96) (s : State) :
    exec (.ppsInEdge stamp) s = (s.ppsTimed stamp).ppsEdge (fromSecond stamp.toNat) := rfl

section Edge

variable {s : State} {e : Int}

section Set

variable {v : Nat} (hv : s.tb.setPps = some v)

include hv

theorem State.ppsEdge_of_set_tied (ht : s.tiedRun = true) : s.ppsEdge e = .next s := by
  simp only [State.ppsEdge, hv, ht, if_true]

theorem State.ppsEdge_of_set (ht : s.tiedRun = false) :
    s.ppsEdge e = .next (if (s.setAtEdge v).disciplined then (s.setAtEdge v).setObj O.PPS_STATE 2 else s.setAtEdge v) := by
  simp only [State.ppsEdge, hv, ht, Bool.false_eq_true, if_false]

end Set

section NoSet

variable (hv : s.tb.setPps = none)

include hv

theorem State.ppsEdge_of_undisciplined (hd : s.disciplined = false) : s.ppsEdge e = .next s := by
  simp only [State.ppsEdge, hv, hd, Bool.false_eq_true, if_false]

theorem State.ppsEdge_of_disciplined (hd : s.disciplined = true) : s.ppsEdge e = .next (s.ppsJudge e) := by
  simp only [State.ppsEdge, hv, hd, if_true]

end NoSet

end Edge

section Pulse

variable {s : State}

theorem exec_ppsLost_of_quiet (hd : s.disciplined = true) (hq : ∀ t, s.tb.ppsSeen = some t → s.reached (t + 2 * second) = true) :
    exec .ppsLost s = .next (s.setObj O.PPS_STATE 4) := by
  change execPpsLost s = _
  unfold execPpsLost
  refine if_pos ?_
  cases h : s.tb.ppsSeen with
  | none => simp [hd]
  | some t => simp [hd, hq t h]

theorem exec_ppsLost_of_not_quiet
    (h : s.disciplined = false ∨ ∃ t, s.tb.ppsSeen = some t ∧ s.reached (t + 2 * second) = false) : exec .ppsLost s = .next s := by
  change execPpsLost s = _
  unfold execPpsLost
  refine if_neg ?_
  rcases h with h | ⟨t, ht, hr⟩
  · simp [h]
  · simp [ht, hr]

/-! ### Pulses out (R248) -/

/-- TIME_PPS_OUT is due to rise: it is enabled and low, and its whole second has come. -/
def State.ppsRises (s : State) : Prop := (s.obj O.PPS_CTRL).testBit 1 = true ∧ s.tb.ppsOut = none ∧ s.tb.ppsDue = true

theorem State.ppsRises_iff (s : State) : ((s.obj O.PPS_CTRL).testBit 1 && s.tb.ppsOut.isNone && s.tb.ppsDue) = true ↔ s.ppsRises := by
  simp only [State.ppsRises, Bool.and_eq_true, Option.isNone_iff_eq_none, and_assoc]

theorem exec_ppsOutRise_of_rises (h : s.ppsRises) :
    exec .ppsOutRise s = .next (State.emit { s with tb := { s.tb with ppsOut := some s.nowNs, ppsDue := false } } (.pin 0 true)) :=
  if_pos (s.ppsRises_iff.mpr h)

theorem exec_ppsOutRise_of_not_rises (h : ¬ s.ppsRises) : exec .ppsOutRise s = .next s :=
  if_neg fun hr => h (s.ppsRises_iff.mp hr)

theorem exec_ppsOutFall_of_low (h : s.tb.ppsOut = none) : exec .ppsOutFall s = .next s := by
  change execPpsOutFall s = _
  simp only [execPpsOutFall, h]

theorem exec_ppsOutFall_of_high {t : Nat} (h : s.tb.ppsOut = some t) :
    exec .ppsOutFall s = .next (if s.reached (t + s.obj O.PPS_OUT_WIDTH) then
      State.emit { s with tb := { s.tb with ppsOut := none } } (.pin 0 false) else s) := by
  change execPpsOutFall s = _
  simp only [execPpsOutFall, h]
  split <;> rfl

end Pulse

/-! ### PPS_STATE (Table 10-3) -/

/-- What PPS_STATE reads after a change of STATE, JOINED or PPS_CTRL. -/
def State.ppsShows (s : State) : Nat :=
  if ! s.disciplined then 0 else if s.obj O.JOINED = 0 then 1 else if s.obj O.PPS_STATE = 0 then 1 else s.obj O.PPS_STATE

theorem State.ppsShown_eq (s : State) : s.ppsShown = s.setObj O.PPS_STATE s.ppsShows := rfl

section Shows

variable {s : State}

theorem State.ppsShows_of_undisciplined (hd : s.disciplined = false) : s.ppsShows = 0 := if_pos (by simp [hd])

variable (hd : s.disciplined = true)

include hd

theorem State.ppsShows_of_aligning (h : s.obj O.JOINED = 0 ∨ s.obj O.PPS_STATE = 0) : s.ppsShows = 1 := by
  refine (if_neg (by simp [hd])).trans ?_
  rcases h with h | h <;> simp [h]

theorem State.ppsShows_of_judged (hj : s.obj O.JOINED ≠ 0) (hp : s.obj O.PPS_STATE ≠ 0) : s.ppsShows = s.obj O.PPS_STATE := by
  simp [State.ppsShows, hd, hj, hp]

end Shows

/-! ### Writes (R243, R245, R247) -/

section Writes

variable {s : State} {v : Nat}

/-- A TIME_SET is taken (R247, R254). -/
def State.takesTimeSet (s : State) : Prop := s.tiedRun = false ∧ (s.obj O.TB_STATE = tbFree ∨ s.obj O.TB_STATE = tbGrandmaster)

theorem State.not_takesTimeSet_iff (s : State) :
    (s.tiedRun || (s.obj O.TB_STATE ≠ tbFree && s.obj O.TB_STATE ≠ tbGrandmaster)) = true ↔ ¬ s.takesTimeSet := by
  rw [← Bool.not_eq_false]
  refine not_congr ?_
  simp only [State.takesTimeSet, Bool.or_eq_false_iff, Bool.and_eq_false_iff, decide_eq_false_iff_not, Classical.not_not]

theorem writeTimeSet_of_taken (h : s.takesTimeSet) :
    writeTimeSet v s = ((State.setObj
      { s with tb := if (s.obj O.PPS_CTRL).testBit 0 then { s.tb with setPps := some v } else { s.tb with setTo := some v } }
      O.JOINED 1).ppsShown, eNone) :=
  if_neg fun hn => s.not_takesTimeSet_iff.mp hn h

theorem writeTimeSet_of_not_taken (h : ¬ s.takesTimeSet) : writeTimeSet v s = (s, eMode) := if_pos (s.not_takesTimeSet_iff.mpr h)

theorem writeRejoin_of_free (hv : v = 1) (ht : s.tiedRun = false) : writeRejoin v s = ((s.setObj O.JOINED 0).ppsShown, eNone) :=
  (if_neg (not_not_intro hv)).trans (if_neg (by simp [ht]))

theorem writeRejoin_of_tied (hv : v = 1) (ht : s.tiedRun = true) : writeRejoin v s = (s, eMode) :=
  (if_neg (not_not_intro hv)).trans (if_pos ht)

theorem writeRejoin_of_ne_one (hv : v ≠ 1) : writeRejoin v s = (s, eRange) := if_pos hv

theorem writeIncrement_of_within (h : 0x3FAE147AF ≤ v ∧ v ≤ 0x4051EB851) :
    writeIncrement v s = (State.setObj { s with tb := { s.tb with nominal := v, freq := 0 } } O.INCREMENT v, eNone) :=
  if_neg (by simpa using h)

theorem writeIncrement_of_outside (h : ¬ (0x3FAE147AF ≤ v ∧ v ≤ 0x4051EB851)) : writeIncrement v s = (s, eRange) :=
  if_pos (by
    simp only [Bool.or_eq_true, decide_eq_true_eq]
    omega)

end Writes

theorem exec_timeNsRead_of_served {s : State} (m : Master) (he : s.engineStopped = false) (hg : s.gate O.TIME_NS false = eNone) :
    exec (.timeNsRead m) s =
      .next (State.emit { s with tb := { s.tb with latch := s.tb.counter } } (.value m O.TIME_NS s.nowNs)) :=
  (if_neg (by simp [he])).trans (if_neg (not_not_intro hg))

/-- Settles O20: an edge goes by the TIME_SET that waits for it, then by whether the time is disciplined and how far it is off; a pulse out
by the second that it waits for; a write by its value and by the tied run. -/
theorem pulsesAndTimeObjectsAct : Obligations.PulsesAndTimeObjectsAct := by
  refine ⟨fun s => ⟨fun stamp => ⟨?setTied, ?setTaken, ?free, ?judged⟩, exec_ppsLost_of_quiet, exec_ppsLost_of_not_quiet,
    fun hc hr => ⟨State.tick_ppsDue hc hr, State.tick_ppsNext_of_due hc hr, State.tick_ppsNext_of_not_due hc hr⟩,
    ⟨exec_ppsOutRise_of_rises, exec_ppsOutRise_of_not_rises⟩, exec_ppsOutFall_of_low, fun t => exec_ppsOutFall_of_high⟩,
    fun s m => ⟨fun hs v => ?timeSet, fun hs v => ?rejoin, fun hs v => ?increment, fun hs v => State.write_accepted hs rfl,
      exec_timeNsRead_of_served m, s.ppsShows, s.wrote_setObj .., State.ppsShows_of_undisciplined, State.ppsShows_of_aligning,
      State.ppsShows_of_judged⟩⟩
  case setTied => exact fun v hv ht => (exec_ppsInEdge stamp s).trans (State.ppsEdge_of_set_tied hv ht)
  case setTaken => exact fun v hv ht => (exec_ppsInEdge stamp s).trans (State.ppsEdge_of_set hv ht)
  case free => exact fun hv hd => (exec_ppsInEdge stamp s).trans (State.ppsEdge_of_undisciplined hv hd)
  case judged =>
    intro hv hd
    have hjudge := (exec_ppsInEdge stamp s).trans (State.ppsEdge_of_disciplined hv hd)
    exact ⟨fun hj ht => hjudge.trans (congrArg _ (State.ppsJudge_of_joins hj ht)),
      fun h hw => hjudge.trans (congrArg _ ((State.ppsJudge_of_stays h).trans (if_pos hw))),
      fun h hw => hjudge.trans (congrArg _ ((State.ppsJudge_of_stays h).trans (if_neg (Nat.not_le_of_gt hw))))⟩
  case timeSet =>
    exact ⟨fun h => State.write_accepted hs (writeTimeSet_of_taken h),
      fun h => State.write_refused hs (writeTimeSet_of_not_taken h) (by decide)⟩
  case rejoin =>
    exact ⟨fun hv ht => State.write_accepted hs (writeRejoin_of_free hv ht),
      fun hv ht => State.write_refused hs (writeRejoin_of_tied hv ht) (by decide),
      fun hv => State.write_refused hs (writeRejoin_of_ne_one hv) (by decide)⟩
  case increment =>
    exact ⟨fun h => ⟨_, State.write_accepted hs (writeIncrement_of_within h), State.wrote_setObj ..⟩,
      fun h => State.write_refused hs (writeIncrement_of_outside h) (by decide)⟩

end Sys2Proof.Machine
end

section
/-!
PROOFS. What the dictionary engine and the fault ring keep of each event (R374, R394, R413), what a power-on reset leaves (R401, R441,
R448, R454), and which commands a step takes from the queue.
-/

namespace Sys2Proof.Machine

/-! ### A step and the queue -/

/-- Settles O53: the step of a state with a command at the front is that command's branch. -/
theorem stepRunsFrontCommand : Obligations.StepRunsFrontCommand := fun _ _ _ => rfl

/-- Settles O57: the queue behind the front is one of the things that every step keeps. -/
theorem stepTakesOnlyTheFront : Obligations.StepTakesOnlyTheFront := by
  intro s t ht hb hstep
  have hkept : t.Kept s.pending.tail := step_kept (State.kept_of_tidy_of_bounded ht hb) t hstep
  exact hkept.queue

/-! ### A power-on reset -/

/-- Nothing is written in the dictionary at reset, so every object reads its default (R401). -/
theorem State.reset_obj (k : Nat) : State.reset.obj k = dflt k := rfl

theorem State.reset_kept : State.reset.Kept [] := by
  constructor <;> decide

/-- Settles O55: every store is empty at reset, and the default of BOOT_STATE is AUX_START. -/
theorem resetHoldsTheDefaults : Obligations.ResetHoldsTheDefaults :=
  ⟨State.reset_obj, by decide, rfl, rfl, rfl, rfl, rfl, rfl, State.reset_kept.tidy, State.reset_kept.bounded⟩

/-! ### A refused access (R374) -/

section Refusal

variable (s : State) (m : Master) (k code : Nat)

/-- The record and the count of a refusal, without its interrupt. -/
def State.refusalNoted : State := (s.setObj (O.ACCESS_ERR (errPlace m)) (k * 2 ^ 40 + code)).bump O.ACCESS_ERRORS 1

theorem State.refusalNoted_sent : (s.refusalNoted m k code).sent = s.sent := (State.bump_sent ..).trans (State.setObj_sent ..)

theorem State.refusalNoted_vecPending : (s.refusalNoted m k code).vecPending = s.vecPending :=
  (State.bump_vecPending ..).trans (State.setObj_vecPending ..)

theorem State.refusalNoted_vecMasked : (s.refusalNoted m k code).vecMasked = s.vecMasked :=
  (State.bump_vecMasked ..).trans (State.setObj_vecMasked ..)

theorem access_err_ne_accepted : O.ACCEPTED_0 ≠ O.ACCESS_ERR (errPlace m) := by cases m <;> decide

theorem access_err_ne_errors : O.ACCESS_ERR (errPlace m) ≠ O.ACCESS_ERRORS := by cases m <;> decide

theorem State.obj_refusalNoted_other {j : Nat} (hr : j ≠ O.ACCESS_ERR (errPlace m)) (hc : j ≠ O.ACCESS_ERRORS) :
    (s.refusalNoted m k code).obj j = s.obj j :=
  (State.obj_bump_other _ _ hc).trans (State.obj_setObj_other _ _ hr)

/-- A refusal interrupts on vector 4, where the host has accepted that. -/
theorem State.refuse_eq : s.refuse m k code =
    if (s.obj O.ACCEPTED_0).testBit 4 then (s.refusalNoted m k code).msix 4 else s.refusalNoted m k code := by
  rw [← s.obj_refusalNoted_other m k code (access_err_ne_accepted m) (by decide)]
  rfl

theorem State.obj_refuse (j : Nat) : (s.refuse m k code).obj j = (s.refusalNoted m k code).obj j := by
  rw [State.refuse_eq]
  split
  · exact State.msix_obj ..
  · rfl

end Refusal

theorem State.msix_if_outside (s : State) (v : Nat) (b : Prop) [Decidable b] :
    { (if b then s.msix v else s) with sent := s.sent, vecPending := s.vecPending } = s := by
  unfold State.msix
  split
  · split <;> rfl
  · rfl

/-- What changes only the queue of interrupts after what changes only the dictionary. -/
theorem outside_of_dict_of_sent {s u t : State} (hu : s.SameOutside u) (ht : { t with sent := u.sent, vecPending := u.vecPending } = u) :
    { t with dict := s.dict, sent := s.sent, vecPending := s.vecPending } = s :=
  calc ({ t with dict := s.dict, sent := s.sent, vecPending := s.vecPending } : State)
    _ = { ({ t with sent := u.sent, vecPending := u.vecPending } : State) with
          dict := s.dict, sent := s.sent, vecPending := s.vecPending } := rfl
    _ = { ({ u with dict := s.dict } : State) with sent := s.sent, vecPending := s.vecPending } := by rw [ht]
    _ = s := by rw [hu]

theorem State.refusalNoted_outside (s : State) (m : Master) (k code : Nat) : s.SameOutside (s.refusalNoted m k code) :=
  ((State.SameOutside.refl s).setObj _ _).setObj _ _

theorem State.refuse_outside (s : State) (m : Master) (k code : Nat) :
    { s.refuse m k code with dict := s.dict, sent := s.sent, vecPending := s.vecPending } = s := by
  rw [State.refuse_eq]
  exact outside_of_dict_of_sent (s.refusalNoted_outside m k code) (State.msix_if_outside ..)

/-- A vector that is neither masked nor pending sends its interrupt at once (R383). -/
theorem State.msix_of_free {s : State} {v : Nat} (hm : s.vecMasked.contains v = false) (hp : s.vecPending.contains v = false) :
    s.msix v = s.emit (.msix v) :=
  if_neg (by rw [hm, hp]; decide)

/-- Settles O37: a refusal writes its record and its count, and its interrupt touches no object. -/
theorem refusalLeavesOnlyItsRecord : Obligations.RefusalLeavesOnlyItsRecord := by
  refine fun s m k code => ⟨?record, ?count, ?others, s.refuse_outside m k code, fun hq => ?quiet, fun ha hm hp => ?told⟩
  case record =>
    rw [State.obj_refuse]
    exact (State.obj_bump_other _ _ (access_err_ne_errors m)).trans (State.obj_setObj_same ..)
  case count =>
    rw [State.obj_refuse]
    exact (State.obj_bump_same ..).trans
      (congrArg (satAdd _ · 1) (State.obj_setObj_other _ _ (access_err_ne_errors m).symm))
  case others =>
    intro j hr hc
    rw [State.obj_refuse]
    exact s.obj_refusalNoted_other m k code hr hc
  case quiet =>
    rw [State.refuse_eq, if_neg (Bool.eq_false_iff.mp hq)]
    exact ⟨State.refusalNoted_sent .., State.refusalNoted_vecPending ..⟩
  case told =>
    rw [State.refuse_eq, if_pos ha,
      State.msix_of_free (by rw [State.refusalNoted_vecMasked, hm]) (by rw [State.refusalNoted_vecPending, hp])]
    exact congrArg (Sent.msix 4 :: ·) (State.refusalNoted_sent ..)

/-! ### The consuming reads (R374, R394) -/

theorem State.readBy_of_served {s : State} {k : Nat} (m : Master) (he : s.engineStopped = false) (hg : s.gate k false = eNone) :
    s.readBy m k = (s.consumeObj k).emit (.value m k (s.readObj k)) :=
  (if_neg (Bool.eq_false_iff.mp he)).trans (if_neg (not_not_intro hg))

theorem State.consumeObj_accessErr (s : State) (i : Fin 4) : s.consumeObj (O.ACCESS_ERR i) = s.setObj (O.ACCESS_ERR i) 0 := by
  have hrow : (rowOf (O.ACCESS_ERR i)).isNone = false := by revert i; decide
  refine (if_neg (Bool.eq_false_iff.mp hrow)).trans (if_pos ?_)
  simp only [O.ACCESS_ERR, Bool.and_eq_true, decide_eq_true_eq]
  omega

theorem State.consumeObj_errorRegister (s : State) : s.consumeObj O.ERROR_REGISTER = s.clearErrorBits := by
  have hrow : (rowOf O.ERROR_REGISTER).isNone = false := by decide
  exact (if_neg (Bool.eq_false_iff.mp hrow)).trans ((if_neg (by decide)).trans (if_pos rfl))

theorem State.readObj_errorRegister (s : State) : s.readObj O.ERROR_REGISTER = s.errorRegister := by
  have hrow : ∃ r, rowOf O.ERROR_REGISTER = some r ∧ r.acc ≠ .wo := ⟨_, rfl, by decide⟩
  obtain ⟨r, hr, ha⟩ := hrow
  have hview : s.viewObj O.ERROR_REGISTER = some s.errorRegister := rfl
  simp only [State.readObj, hr, ha, hview, if_false, Option.getD_some]

theorem State.errorSettles_eq (old new : State) :
    old.errorSettles new = if old.errorRegister ≠ 0 ∧ new.errorRegister = 0 then new.emcy 0 0 else new := by
  simp only [State.errorSettles, Bool.and_eq_true, decide_eq_true_eq]

/-- Settles O36: a served read answers the object as it stood and then has the object's own side effect. -/
theorem consumingReadsAnswerAndClear : Obligations.ConsumingReadsAnswerAndClear := by
  refine fun s m he => ⟨fun i hg => ?accessErr, fun hg => ?errorRegister⟩
  case accessErr =>
    have hread := State.readBy_of_served m he hg
    rw [State.consumeObj_accessErr] at hread
    exact ⟨_, congrArg Host.Outcome.next hread, State.wrote_setObj ..⟩
  case errorRegister =>
    have hread := State.readBy_of_served m he hg
    rw [State.consumeObj_errorRegister, State.readObj_errorRegister, State.clearErrorBits, State.errorSettles_eq] at hread
    exact congrArg Host.Outcome.next hread

/-! ### The fault ring (R413) -/

@[simp] theorem State.emcy_obj (s : State) (code record k : Nat) : (s.emcy code record).obj k = s.obj k := by
  unfold State.emcy
  split
  · rfl
  · split
    · rfl
    · split <;> rfl

@[simp] theorem State.emcy_faults (s : State) (code record : Nat) : (s.emcy code record).faults = s.faults := by
  unfold State.emcy
  split
  · rfl
  · split
    · rfl
    · split <;> rfl

@[simp] theorem State.msix_faults (s : State) (v : Nat) : (s.msix v).faults = s.faults := by
  unfold State.msix
  split <;> rfl

/-- The oldest record is about to be overwritten without having been acknowledged. -/
abbrev State.losesOldest (s : State) : Prop := 256 ≤ s.faults.ring.length ∧ s.obj O.FAULT_ACKED < s.obj O.FAULT_OLDEST

/-- The number of the oldest record after one more. -/
def State.nextOldest (s : State) : Nat :=
  if 256 ≤ s.faults.ring.length then s.obj O.FAULT_OLDEST + 1 else if s.obj O.FAULT_OLDEST = 0 then 1 else s.obj O.FAULT_OLDEST

section Record

variable (s : State) (r : FaultRec)

theorem State.writeRecord_ring :
    (s.writeRecord r).faults.ring = ({ r with number := s.obj O.FAULT_TOTAL + 1 } :: s.faults.ring).take 256 := by
  have hlost (b : Bool) : (if b then s.bump O.FAULT_LOST 1 else s).faults = s.faults := by
    split
    · exact State.bump_faults ..
    · rfl
  have hemcy (u : State) (b : Bool) (c n : Nat) : (if b then u.emcy c n else u).faults = u.faults := by
    split
    · exact State.emcy_faults ..
    · rfl
  simp only [State.writeRecord, hemcy, State.msix_faults, State.bump_faults, State.setObj_faults, hlost]

/-- What a record leaves in an object other than the count of its own code. -/
theorem State.writeRecord_obj {j : Nat} (hj : j ≠ O.FAULT_COUNT (r.code - 1)) :
    (s.writeRecord r).obj j =
      (((if s.losesOldest then s.bump O.FAULT_LOST 1 else s).setObj O.FAULT_TOTAL (s.obj O.FAULT_TOTAL + 1)).setObj O.FAULT_OLDEST
        s.nextOldest).obj j := by
  have hx (u : State) : ((u.bump (O.FAULT_COUNT (r.code - 1)) 1).msix 2).obj j = u.obj j :=
    (State.msix_obj ..).trans (State.obj_bump_other _ _ hj)
  have hq (u : State) (b : Bool) (c n : Nat) : (if b then u.emcy c n else u).obj j = u.obj j := by
    split
    · exact State.emcy_obj ..
    · rfl
  refine (hq ..).trans ((hx _).trans ?_)
  simp only [State.nextOldest, State.losesOldest, Bool.and_eq_true, decide_eq_true_eq]
  split <;> rfl

theorem State.writeRecord_total : (s.writeRecord r).obj O.FAULT_TOTAL = s.obj O.FAULT_TOTAL + 1 := by
  rw [s.writeRecord_obj r (by simp only [O.FAULT_TOTAL, O.FAULT_COUNT]; omega), State.obj_setObj_other _ _ (by decide),
    State.obj_setObj_same]

theorem State.writeRecord_oldest : (s.writeRecord r).obj O.FAULT_OLDEST = s.nextOldest := by
  rw [s.writeRecord_obj r (by simp only [O.FAULT_OLDEST, O.FAULT_COUNT]; omega), State.obj_setObj_same]

theorem State.writeRecord_lost : (s.writeRecord r).obj O.FAULT_LOST =
    if s.losesOldest then satAdd 32 (s.obj O.FAULT_LOST) 1 else s.obj O.FAULT_LOST := by
  rw [s.writeRecord_obj r (by simp only [O.FAULT_LOST, O.FAULT_COUNT]; omega), State.obj_setObj_other _ _ (by decide),
    State.obj_setObj_other _ _ (by decide)]
  split
  · exact State.obj_bump_same ..
  · rfl

end Record

/-- Settles O60: the ring takes the record at its front and is cut to 256, and the oldest is lost where the ring was full and it had not
been acknowledged. -/
theorem faultRecordsAreNumberedAndKept : Obligations.FaultRecordsAreNumberedAndKept := by
  refine ⟨by decide, rfl, fun s r _ _ => ⟨s.writeRecord_total r, fun hroom => ?room, fun newer old hring hlen hold => ?full⟩⟩
  case room =>
    refine ⟨(s.writeRecord_ring r).trans (List.take_of_length_le ?_), (s.writeRecord_lost r).trans (if_neg ?_)⟩
    · simp only [List.length_cons]
      omega
    · exact fun h => absurd h.1 (by omega)
  case full =>
    have hfull : s.faults.ring.length = 256 := by simp [hring, hlen]
    have hlost : s.losesOldest ↔ s.obj O.FAULT_ACKED < old.number := by simp [State.losesOldest, hfull, hold]
    refine ⟨?_, ?_, ?_⟩
    · rw [State.writeRecord_ring, hring, ← List.cons_append, List.take_left' (by simp [hlen])]
    · rw [s.writeRecord_oldest r, State.nextOldest, if_pos (by omega), hold]
    · rw [s.writeRecord_lost r]
      simp only [hlost]

end Sys2Proof.Machine
end

section
/-!
PROOFS. What a tie unit captures and applies (R257–R260, R263, R359–R361).
-/

namespace Sys2Proof.Machine

section Ties

variable {s : State} {slot : Fin 8}

/-! ### Captures -/

theorem exec_tieEdgeReached_of_stopped (fin : BitVec 8192) (h : s.clk.sysStopped = true) : exec (.tieEdgeReached slot fin) s = .next s :=
  if_pos h

theorem exec_tieEdgeReached_of_running (fin : BitVec 8192) (h : s.clk.sysStopped = false) :
    exec (.tieEdgeReached slot fin) s =
      .next (State.capture { s with fabric := { s.fabric with fin := s.finBoundary fin } } slot (s.finBoundary fin)) :=
  if_neg (Bool.eq_false_iff.mp h)

/-- An edge of the slot has been reached since its last capture. -/
abbrev State.edgeReached (s : State) (i : Nat) : Prop :=
  s.tieUsed i = true ∧ s.obj O.TIED_STATE ≠ 0 ∧ s.obj (O.PERIOD i) ≠ 0 ∧ s.reached (s.tie i).capEdge = true

theorem State.edgeReached_iff (s : State) (i : Nat) :
    (s.tieUsed i && decide (s.obj O.TIED_STATE ≠ 0) && decide (s.obj (O.PERIOD i) ≠ 0) && s.reached (s.tie i).capEdge) = true ↔
      s.edgeReached i := by
  simp only [State.edgeReached, Bool.and_eq_true, decide_eq_true_eq, and_assoc]

theorem State.capture_of_reached {i : Nat} (b : Memory) (h : s.edgeReached i) :
    s.capture i b = ((s.setTie i { s.tie i with
      capEdge := (s.tie i).capEdge +
        ((s.nowNs + 2 ^ 64 - (s.tie i).capEdge) % 2 ^ 64 / s.obj (O.PERIOD i) + 1) * s.obj (O.PERIOD i)
      capture := bitsAt b (s.tieInFirst i) (s.tieInCount i) }).setObj (O.SAMPLE_TIME i) s.nowNs).emit (.fabric 0 i 1) :=
  if_pos ((s.edgeReached_iff i).mpr h)

theorem State.capture_of_not_reached {i : Nat} (b : Memory) (h : ¬ s.edgeReached i) : s.capture i b = s :=
  if_neg fun hr => h ((s.edgeReached_iff i).mp hr)

/-! ### Applications -/

theorem exec_tieApply_of_none (h : (s.tie slot).apps = []) : exec (.tieApply slot) s = .next s := by
  change execTieApply slot s = _
  simp only [execTieApply, h]

variable {a : Application} {rest : List Application} (ha : (s.tie slot).apps = a :: rest)

include ha

theorem exec_tieApply_of_waits (h : (a.late = false ∧ s.reached a.due = false) ∨ s.clk.sysStopped = true ∨ s.replaying = true) :
    exec (.tieApply slot) s = .next s := by
  change execTieApply slot s = _
  simp only [execTieApply, ha]
  refine if_pos ?_
  rcases h with ⟨hl, hr⟩ | h | h
  · simp [hl, hr]
  · simp [h]
  · simp [h]

/-- The state in which the application `a` has reached the boundary register. -/
def State.applied (s : State) (slot : Nat) (a : Application) (rest : List Application) : State :=
  let t := s.setTie slot { s.tie slot with apps := rest }
  let u : State := { t with fabric := { t.fabric with
    fout := putBitsAt t.fabric.fout a.first a.value a.count
    tieSafe := if t.obj O.TIED_STATE = 1 then setBit t.fabric.tieSafe slot false else t.fabric.tieSafe } }
  (u.fabObjs.setObj (O.OUT_TIME slot) u.nowNs).emit (.fabric 1 slot a.value)

theorem exec_tieApply_of_due (hd : a.late = true ∨ s.reached a.due = true) (hc : s.clk.sysStopped = false) (hr : s.replaying = false) :
    exec (.tieApply slot) s =
      .next (if a.late then (s.applied slot a rest).bump (O.OUT_LATE slot) 1 else s.applied slot a rest) := by
  change execTieApply slot s = _
  simp only [execTieApply, ha]
  exact if_neg (by rcases hd with hd | hd <;> simp [hd, hc, hr])

end Ties

/-- Settles O21: a capture goes by whether an edge has been reached, an application by whether it is due and nothing holds it. -/
theorem tieUnitsCaptureAndApply : Obligations.TieUnitsCaptureAndApply := by
  refine fun s slot fin => ⟨fun hc => ⟨exec_tieEdgeReached_of_stopped fin hc, ?stopped⟩, exec_tieEdgeReached_of_running fin,
    fun b => ⟨State.capture_of_reached b, State.capture_of_not_reached b⟩, fun h => ?held, fun a rest ha =>
    ⟨fun hl hr => exec_tieApply_of_waits ha (.inl ⟨hl, hr⟩), exec_tieApply_of_due ha⟩⟩
  case stopped =>
    cases ha : (s.tie slot).apps with
    | nil => exact exec_tieApply_of_none ha
    | cons a rest => exact exec_tieApply_of_waits ha (.inr (.inl hc))
  case held =>
    cases ha : (s.tie slot).apps with
    | nil => exact exec_tieApply_of_none ha
    | cons a rest => exact exec_tieApply_of_waits ha (.inr (.inr (h.resolve_left (by simp [ha]))))

end Sys2Proof.Machine
end

section
/-!
PROOFS. The instructions of a transactor core that reach its locks, its memories and its registers (R267, R270–R280, R470): each acts only
while the core executes a thread, and an access that its protection refuses traps.
-/

namespace Sys2Proof.Machine

/-! ### Locks (R273) -/

section Locks

variable {s : State} {core : CoreIx} {n : Fin 256}

theorem exec_lock_of_idle (h : s.executing core = none) (w : Width) (rd : Fin 32) :
    exec (.lockLoad core n w rd) s = .next s ∧ exec (.lockStore core n w) s = .next s := by
  change execLockLoad core n w rd s = _ ∧ execLockStore core n w s = _
  simp only [execLockLoad, execLockStore, h, and_self]

variable {t : Nat} (h : s.executing core = some t)

include h

theorem exec_lockLoad_of_refused {w : Width} (rd : Fin 32) (hw : w ≠ .double ∨ s.coreDenied core false (0x10000000 + 8 * n) 8 = true) :
    exec (.lockLoad core n w rd) s = .next (s.trap core 5 (0x10000000 + 8 * n)) := by
  change execLockLoad core n w rd s = _
  simp only [execLockLoad, h]
  exact if_pos (by simpa using hw)

theorem exec_lockStore_of_refused {w : Width} (hw : w ≠ .double ∨ s.coreDenied core true (0x10000000 + 8 * n) 8 = true) :
    exec (.lockStore core n w) s = .next (s.trap core 7 (0x10000000 + 8 * n)) := by
  change execLockStore core n w s = _
  simp only [execLockStore, h]
  exact if_pos (by simpa using hw)

section Load

variable (hd : s.coreDenied core false (0x10000000 + 8 * n) 8 = false) (rd : Fin 32)

include hd

theorem exec_lockLoad_of_free (ho : s.lockOwner n = none) :
    exec (.lockLoad core n .double rd) s = .next ((s.setLock n (some t)).setCore core ((s.core core).setX rd 0)) := by
  change execLockLoad core n .double rd s = _
  simp [execLockLoad, h, hd, ho]

theorem exec_lockLoad_of_owned {o : Nat} (ho : s.lockOwner n = some o) :
    exec (.lockLoad core n .double rd) s = .next (s.setCore core ((s.core core).setX rd (2 ^ 63 + o))) := by
  change execLockLoad core n .double rd s = _
  simp [execLockLoad, h, hd, ho]

end Load

section Store

variable (hd : s.coreDenied core true (0x10000000 + 8 * n) 8 = false)

include hd

theorem exec_lockStore_of_owner (ho : s.lockOwner n = some t) :
    exec (.lockStore core n .double) s = .next ((s.setLock n none).lockFreed core t) := by
  change execLockStore core n .double s = _
  simp [execLockStore, h, hd, ho]

theorem exec_lockStore_of_foreign (ho : s.lockOwner n ≠ some t) : exec (.lockStore core n .double) s = .next (s.bump O.LOCK_FOREIGN 1) := by
  change execLockStore core n .double s = _
  simp [execLockStore, h, hd, ho]

end Store

end Locks

theorem State.lockOwner_setLock_other (s : State) {n k : Nat} (o : Option Nat) (h : k ≠ n) : (s.setLock n o).lockOwner k = s.lockOwner k :=
  tget_tput_other _ _ o h

theorem State.lockOwner_setCore (s : State) (c : Nat) (k : Core) (n : Nat) : (s.setCore c k).lockOwner n = s.lockOwner n := rfl

/-- Settles O22: a lock's load goes by whether it has an owner, its store by whether that is the running thread. -/
theorem locksHaveOneOwner : Obligations.LocksHaveOneOwner := by
  refine fun s core n rd => ⟨fun h w => exec_lock_of_idle h w rd, fun t h => ⟨fun w => exec_lockLoad_of_refused h rd,
    fun w => exec_lockStore_of_refused h, fun hd ho => ⟨_, exec_lockLoad_of_free h hd rd ho, ?_⟩,
    fun hd o => exec_lockLoad_of_owned h hd rd, exec_lockStore_of_owner h,
    fun hd ho => ⟨_, exec_lockStore_of_foreign h hd ho, State.wrote_setObj ..⟩⟩⟩
  exact ⟨(State.lockOwner_setCore ..).trans (s.lockOwner_setLock_same n _),
    fun k hk => (State.lockOwner_setCore ..).trans (s.lockOwner_setLock_other _ hk), State.core_setCore_same ..,
    fun c => State.core_setCore_other _ _, rfl, rfl⟩

/-! ### Atomics and reservations (R270–R272) -/

section Atomics

variable {s : State} {core : CoreIx}

section Idle

variable (h : s.executing core = none) (wide : Bool) (rd : Fin 32) (addr value : BitVec 64)

include h

theorem exec_lr_of_idle : exec (.lr core wide rd addr) s = .next s := by
  change execLr core wide rd addr s = _
  simp only [execLr, h]

theorem exec_sc_of_idle : exec (.sc core wide rd addr value) s = .next s := by
  change execSc core wide rd addr value s = _
  simp only [execSc, h]

theorem exec_amo_of_idle (op : AmoOp) : exec (.amo core op wide rd addr value) s = .next s := by
  change execAmo core op wide rd addr value s = _
  simp only [execAmo, h]

theorem exec_fenceI_of_idle : exec (.fenceI core) s = .next s := by
  change execFenceI core s = _
  simp only [execFenceI, h]

end Idle

section Running

variable {t : Nat} (h : s.executing core = some t) {wide : Bool} (rd : Fin 32) {addr : BitVec 64} (value : BitVec 64)

include h

theorem exec_lr_of_fault {c : Nat} (hf : s.atomicFault core true addr.toNat (if wide then 8 else 4) = some c) :
    exec (.lr core wide rd addr) s = .next (s.trap core c addr.toNat) := by
  change execLr core wide rd addr s = _
  simp only [execLr, h, hf]

theorem exec_sc_of_fault {c : Nat} (hf : s.atomicFault core false addr.toNat (if wide then 8 else 4) = some c) :
    exec (.sc core wide rd addr value) s = .next (s.trap core c addr.toNat) := by
  change execSc core wide rd addr value s = _
  simp only [execSc, h, hf]

theorem exec_amo_of_fault (op : AmoOp) {c : Nat} (hf : s.atomicFault core false addr.toNat (if wide then 8 else 4) = some c) :
    exec (.amo core op wide rd addr value) s = .next (s.trap core c addr.toNat) := by
  change execAmo core op wide rd addr value s = _
  simp only [execAmo, h, hf]

theorem exec_lr_of_granted (hf : s.atomicFault core true addr.toNat (if wide then 8 else 4) = none) :
    exec (.lr core wide rd addr) s = .next (s.setCore core { (s.core core).setX rd (loadValue (if wide then 8 else 4)
      (s.sramRead core addr.toNat (if wide then 8 else 4))) with resv := some (addr.toNat / 64) }) := by
  change execLr core wide rd addr s = _
  simp only [execLr, h, hf]

theorem exec_sc_of_reserved (hf : s.atomicFault core false addr.toNat (if wide then 8 else 4) = none)
    (hr : (s.core core).resv = some (addr.toNat / 64)) :
    exec (.sc core wide rd addr value) s =
      .next ((s.sramWrite core addr.toNat (if wide then 8 else 4) value.toNat).setCore core
        { ((s.sramWrite core addr.toNat (if wide then 8 else 4) value.toNat).core core).setX rd 0 with resv := none }) := by
  change execSc core wide rd addr value s = _
  simp only [execSc, h, hf, hr, if_true]

theorem exec_sc_of_unreserved (hf : s.atomicFault core false addr.toNat (if wide then 8 else 4) = none)
    (hr : (s.core core).resv ≠ some (addr.toNat / 64)) :
    exec (.sc core wide rd addr value) s = .next (s.setCore core { (s.core core).setX rd 1 with resv := none }) := by
  change execSc core wide rd addr value s = _
  simp only [execSc, h, hf, hr, if_false]

theorem exec_amo_of_granted (op : AmoOp) (hf : s.atomicFault core false addr.toNat (if wide then 8 else 4) = none) :
    exec (.amo core op wide rd addr value) s =
      .next (let old := s.sramRead core addr.toNat (if wide then 8 else 4)
        let u := s.sramWrite core addr.toNat (if wide then 8 else 4) (amoResult op (if wide then 8 else 4) old value.toNat)
        u.setCore core ((u.core core).setX rd (loadValue (if wide then 8 else 4) old))) := by
  change execAmo core op wide rd addr value s = _
  simp only [execAmo, h, hf]

theorem exec_fenceI_of_running : exec (.fenceI core) s = .next (s.setCore core { s.core core with fenced := s.hub.writes.length }) := by
  change execFenceI core s = _
  simp only [execFenceI, h]

end Running

end Atomics

/-- Settles O23: each atomic goes by the fault of its address, SC then by its reservation. -/
theorem atomicsAndReservations : Obligations.AtomicsAndReservations := by
  refine fun s core wide rd addr value op => ⟨fun h => ?idle, fun hw => if_pos hw, fun hw => if_neg (Bool.eq_false_iff.mp hw),
    fun t h => ⟨fun c => exec_lr_of_fault h rd, fun c hf => ⟨exec_sc_of_fault h rd value hf, exec_amo_of_fault h rd value op hf⟩,
    exec_lr_of_granted h rd, exec_sc_of_reserved h rd value, exec_sc_of_unreserved h rd value, exec_amo_of_granted h rd value op,
    exec_fenceI_of_running h⟩⟩
  exact ⟨exec_lr_of_idle h wide rd addr, exec_sc_of_idle h wide rd addr value, exec_amo_of_idle h wide rd addr value op,
    exec_fenceI_of_idle h⟩

/-! ### XPORT windows, pacing and the virtual terminal (R275–R280, R470) -/

/-- The state in which a core has latched OUT of an XPORT with its DC (R278). -/
def State.outLatched (s : State) (core x : Nat) : State :=
  s.setCore core { s.core core with latch := tput (fun _ => (0, 0)) (s.core core).latch x ((s.xport x).out, s.hub.outDc) }

theorem decide_window {a b n : Nat} (hlo : a ≤ n) (hhi : n < b) : (decide (a ≤ n) && decide (n < b)) = true := by simp [hlo, hhi]

theorem decide_window_outside {a b n : Nat} (h : n < a ∨ b ≤ n) : (decide (a ≤ n) && decide (n < b)) = false := by
  simp only [Bool.and_eq_false_iff, decide_eq_false_iff_not]
  omega

section Registers

variable {s : State} {core : CoreIx} {t : Nat} (h : s.executing core = some t)

include h

theorem exec_post_of_running (x : XportIx) : exec (.post core x) s = .next (s.xportStore core x 0x90 8 0) := by
  change execPost core x s = _
  simp only [execPost, h]

theorem exec_inStageStore_of_running (x : XportIx) (off : Fin 256) (width : Width) (value : BitVec 64) :
    exec (.inStageStore core x off width value) s = .next (s.xportStore core x off width.bytes value.toNat) := by
  change execInStageStore core x off width value s = _
  simp only [execInStageStore, h]

section OutLoad

variable (x : XportIx) {off : Fin 256} {width : Width} (rd : Fin 32)

theorem exec_outLoad_of_misaligned (ha : off.val % width.bytes ≠ 0) :
    exec (.outLoad core x off width rd) s = .next (s.trap core 4 (0x11000000 + 256 * x.val + off.val)) := by
  change execOutLoad core x off width rd s = _
  simp only [execOutLoad, h]
  exact if_pos ha

variable (ha : off.val % width.bytes = 0)

include ha

theorem exec_outLoad_of_refused
    (hr : 0xA8 ≤ off.val ∨ s.coreDenied core false (0x11000000 + 256 * x.val + off.val) width.bytes = true) :
    exec (.outLoad core x off width rd) s = .next (s.trap core 5 (0x11000000 + 256 * x.val + off.val)) := by
  change execOutLoad core x off width rd s = _
  simp only [execOutLoad, h]
  exact (if_neg (not_not_intro ha)).trans (if_pos (by simpa using hr))

variable (hd : s.coreDenied core false (0x11000000 + 256 * x.val + off.val) width.bytes = false)

include hd

/-- A load of the low word of OUT latches OUT with its DC, and reads what it has latched (R278). -/
theorem exec_outLoad_of_out (hlo : 0x40 ≤ off.val) (hhi : off.val < 0x48) :
    exec (.outLoad core x off width rd) s =
      .next ((s.outLatched core x).setCore core
        (((s.outLatched core x).core core).setX rd ((s.outLatched core x).xportValue core x off width.bytes))) := by
  change execOutLoad core x off width rd s = _
  simp only [execOutLoad, h, ha, hd, decide_window hlo hhi, decide_window_outside (show off.val < 0x90 ∨ 0x98 ≤ off.val by omega),
    show ¬ off.val ≥ 0xA8 by omega, ne_eq, not_true_eq_false, decide_false, Bool.or_self, if_false, if_true, Bool.false_eq_true]
  rfl

theorem exec_outLoad_of_plain (hp : off.val < 0x40 ∨ (0x48 ≤ off.val ∧ off.val < 0x90) ∨ (0x98 ≤ off.val ∧ off.val < 0xA8)) :
    exec (.outLoad core x off width rd) s = .next (s.setCore core ((s.core core).setX rd (s.xportValue core x off width.bytes))) := by
  change execOutLoad core x off width rd s = _
  simp only [execOutLoad, h, ha, hd, decide_window_outside (show off.val < 0x40 ∨ 0x48 ≤ off.val by omega),
    decide_window_outside (show off.val < 0x90 ∨ 0x98 ≤ off.val by omega), show ¬ off.val ≥ 0xA8 by omega, ne_eq, not_true_eq_false,
    decide_false, Bool.or_self, if_false, Bool.false_eq_true]

/-- What POST reads as is left open. -/
theorem exec_outLoad_of_post (hlo : 0x90 ≤ off.val) (hhi : off.val < 0x98) :
    exec (.outLoad core x off width rd) s =
      .next (s.draw.setCore core ((s.core core).setX rd (s.xportValue core x off width.bytes))) := by
  change execOutLoad core x off width rd s = _
  simp only [execOutLoad, h, ha, hd, decide_window hlo hhi, decide_window_outside (show off.val < 0x40 ∨ 0x48 ≤ off.val by omega),
    show ¬ off.val ≥ 0xA8 by omega, ne_eq, not_true_eq_false, decide_false, Bool.or_self, if_false, if_true, Bool.false_eq_true]
  rfl

end OutLoad

section Pace

variable {d : Fin 64} (value : BitVec 64)

theorem exec_paceStore_of_denied (hd : s.coreDenied core true (0x12000000 + 8 * d) 8 = true) :
    exec (.paceStore core d value) s = .next (s.trap core 7 (0x12000000 + 8 * d)) := by
  change execPaceStore core d value s = _
  simp only [execPaceStore, h]
  exact if_pos hd

variable (hd : s.coreDenied core true (0x12000000 + 8 * d) 8 = false)

include hd

theorem exec_paceStore_of_paced (hk : domKind (tget (fun _ => 0) s.sluice.domains d) = 3)
    (hc : field (tget (fun _ => 0) s.sluice.domains d) 0 5 = core.val) :
    exec (.paceStore core d value) s = .next { s with hub := { s.hub with
      pace := tput (fun _ => 0) s.hub.pace d (satAdd 16 (tget (fun _ => 0) s.hub.pace d) (value.toNat % 65536)) } } := by
  change execPaceStore core d value s = _
  simp only [execPaceStore, h]
  exact (if_neg (Bool.eq_false_iff.mp hd)).trans (if_pos (by simp [hk, hc]))

theorem exec_paceStore_of_foreign (hf : domKind (tget (fun _ => 0) s.sluice.domains d) ≠ 3 ∨
    field (tget (fun _ => 0) s.sluice.domains d) 0 5 ≠ core.val) : exec (.paceStore core d value) s = .next s := by
  change execPaceStore core d value s = _
  simp only [execPaceStore, h]
  exact (if_neg (Bool.eq_false_iff.mp hd)).trans (if_neg (by simpa [Classical.or_iff_not_imp_left] using hf))

end Pace

section Terminal

variable (rd : Fin 32)

theorem exec_vttx_of_room (b : Byte) (hl : (s.core core).vtTx.length < 64) :
    exec (.vttx core rd b) s = .next (s.setCore core
      { (s.core core).setX rd (64 - (s.core core).vtTx.length) with vtTx := (s.core core).vtTx ++ [b] }) := by
  change execVttx core rd b s = _
  simp only [execVttx, h]
  exact if_pos hl

theorem exec_vttx_of_blocked (b : Byte) (hl : 64 ≤ (s.core core).vtTx.length) (hb : s.objBit O.VT_BLOCK core = true) :
    exec (.vttx core rd b) s = .next s := by
  change execVttx core rd b s = _
  simp only [execVttx, h]
  exact (if_neg (Nat.not_lt.mpr hl)).trans (if_pos hb)

theorem exec_vttx_of_dropped (b : Byte) (hl : 64 ≤ (s.core core).vtTx.length) (hb : s.objBit O.VT_BLOCK core = false) :
    exec (.vttx core rd b) s =
      .next ((s.setCore core ((s.core core).setX rd (64 - (s.core core).vtTx.length))).bump O.VT_DROPPED 1) := by
  change execVttx core rd b s = _
  simp only [execVttx, h]
  exact (if_neg (Nat.not_lt.mpr hl)).trans (if_neg (Bool.eq_false_iff.mp hb))

theorem exec_vtrx_of_none (hr : (s.core core).vtRx = []) : exec (.vtrx core rd) s = .next (s.setCore core ((s.core core).setX rd 0)) := by
  change execVtrx core rd s = _
  simp only [execVtrx, h, hr]

theorem exec_vtrx_of_some {c : Byte} {rest : List Byte} (hr : (s.core core).vtRx = c :: rest) :
    exec (.vtrx core rd) s = .next (s.setCore core { (s.core core).setX rd (256 + c.toNat) with vtRx := rest }) := by
  change execVtrx core rd s = _
  simp only [execVtrx, h, hr]

end Terminal

end Registers

/-- Settles O24: each access goes by its alignment and its protection, then by the register, the domain or the room it meets. -/
theorem coreRegistersAct : Obligations.CoreRegistersAct :=
  fun _ _ x off width value rd _ b _ h => ⟨exec_post_of_running h x, exec_inStageStore_of_running h x off width value,
    exec_outLoad_of_misaligned h x rd, exec_outLoad_of_refused h x rd, fun hl => exec_outLoad_of_out h x rd hl.1 hl.2,
    fun hl => exec_outLoad_of_plain h x rd hl.1 hl.2, fun hl => exec_outLoad_of_post h x rd hl.1 hl.2,
    ⟨exec_paceStore_of_denied h value, exec_paceStore_of_paced h value, exec_paceStore_of_foreign h value⟩,
    exec_vttx_of_room h rd b, exec_vttx_of_blocked h rd b, exec_vttx_of_dropped h rd b, exec_vtrx_of_none h rd,
    fun _ _ => exec_vtrx_of_some h rd⟩

end Sys2Proof.Machine
end

section
/-!
PROOFS. Watchdog, timer, EBREAK and debug halts of a transactor core (R268, R281, R282, R463–R466).
-/

namespace Sys2Proof.Machine

section Core

variable {s : State} {core : CoreIx}

/-! ### The watchdog (R281) -/

section Kick

variable {t : Nat} (h : s.executing core = some t) {v : Byte}

include h

theorem exec_wdtKick_of_denied (v : Byte) (hd : s.coreDenied core true 0x12010008 8 = true) :
    exec (.wdtKick core v) s = .next (s.trap core 7 0x12010008) := by
  change execWdtKick core v s = _
  simp only [execWdtKick, h]
  exact if_pos hd

variable (hd : s.coreDenied core true 0x12010008 8 = false)

include hd

theorem exec_wdtKick_of_kick (hv : v.toNat = 0xA5) : exec (.wdtKick core v) s = .next (s.setCore core
    { s.core core with wdt := s.obj (O.WDT_PERIOD core), wdtTicks := 0, wdtDue := false, warned := false }) := by
  change execWdtKick core v s = _
  simp only [execWdtKick, h]
  exact (if_neg (Bool.eq_false_iff.mp hd)).trans (if_pos hv)

theorem exec_wdtKick_of_other (hv : v.toNat ≠ 0xA5) : exec (.wdtKick core v) s = .next s := by
  change execWdtKick core v s = _
  simp only [execWdtKick, h]
  exact (if_neg (Bool.eq_false_iff.mp hd)).trans (if_neg hv)

end Kick

theorem exec_wdtKick_of_idle (h : s.executing core = none) (v : Byte) : exec (.wdtKick core v) s = .next s := by
  change execWdtKick core v s = _
  simp only [execWdtKick, h]

/-- The watchdog of a core counts (R281, R282). -/
abbrev State.wdtCounts (s : State) (c : Nat) : Prop := s.coreRuns c = true ∧ s.obj (O.WDT_PERIOD c) ≠ 0 ∧ (s.core c).wdt ≠ 0

theorem State.not_wdtCounts_iff (s : State) (c : Nat) :
    (! s.coreRuns c || decide (s.obj (O.WDT_PERIOD c) = 0) || decide ((s.core c).wdt = 0)) = true ↔ ¬ s.wdtCounts c := by
  simp only [State.wdtCounts, Bool.or_eq_true, Bool.not_eq_true', decide_eq_true_eq, not_and_or, Bool.not_eq_true, or_assoc,
    Classical.not_not]

theorem State.wdtTick_of_not_counts {c : Nat} (h : ¬ s.wdtCounts c) : s.wdtTick c = s := if_pos ((s.not_wdtCounts_iff c).mpr h)

theorem State.wdtTick_of_between {c : Nat} (h : s.wdtCounts c) (ht : (s.core c).wdtTicks < 249) :
    s.wdtTick c = s.setCore c { s.core c with wdtTicks := (s.core c).wdtTicks + 1 } :=
  (if_neg fun hn => (s.not_wdtCounts_iff c).mp hn h).trans (if_pos (by omega))

theorem State.wdtTick_of_end {c : Nat} (h : s.wdtCounts c) (ht : 249 ≤ (s.core c).wdtTicks) :
    s.wdtTick c = s.setCore c { s.core c with wdtTicks := 0, wdt := (s.core c).wdt - 1, wdtDue := (s.core c).wdt == 1 } :=
  (if_neg fun hn => (s.not_wdtCounts_iff c).mp hn h).trans (if_neg (by omega))

/-- The state in which an expiry of a core's watchdog has been counted. -/
def State.wdtExpired (s : State) (c : Nat) : State := (s.setCore c { s.core c with wdtDue := false }).bump (O.WDT_EXPIRIES c) 1

section Expiry

variable (h : s.coreRuns core = true ∧ (s.core core).wdtDue = true)

include h

theorem exec_wdtExpiry_of_due :
    exec (.wdtExpiry core) s =
      if (decide ((s.wdtExpired core).obj (O.WDT_ACTION core) = 1) && ! (s.core core).warned) = true then
        .next (((s.wdtExpired core).setCore core { s.core core with
          wdtDue := false, mip := setBit (s.core core).mip 16 true, wdt := (s.wdtExpired core).obj (O.WDT_PERIOD core), warned := true
          }).takeIrq core)
      else .next (((s.wdtExpired core).raiseFault 0x0B FaultLoc.hub
        (core.val + ((s.wdtExpired core).obj (O.RUNNING_TCX core) % 16384) * 65536) 0 0).resetCore core 3) := by
  refine (if_pos (by simp [h])).trans ?_
  simp only [State.core_setCore_same]
  rfl

theorem exec_wdtExpiry_of_warns (ha : (s.wdtExpired core).obj (O.WDT_ACTION core) = 1) (hw : (s.core core).warned = false) :
    exec (.wdtExpiry core) s = .next (((s.wdtExpired core).setCore core { s.core core with
      wdtDue := false, mip := setBit (s.core core).mip 16 true, wdt := (s.wdtExpired core).obj (O.WDT_PERIOD core), warned := true
      }).takeIrq core) :=
  (exec_wdtExpiry_of_due h).trans (if_pos (by simp [ha, hw]))

theorem exec_wdtExpiry_of_resets (hn : ¬ ((s.wdtExpired core).obj (O.WDT_ACTION core) = 1 ∧ (s.core core).warned = false)) :
    exec (.wdtExpiry core) s = .next (((s.wdtExpired core).raiseFault 0x0B FaultLoc.hub
      (core.val + ((s.wdtExpired core).obj (O.RUNNING_TCX core) % 16384) * 65536) 0 0).resetCore core 3) :=
  (exec_wdtExpiry_of_due h).trans (if_neg (by simpa using hn))

end Expiry

theorem exec_wdtExpiry_of_not_due (h : ¬ (s.coreRuns core = true ∧ (s.core core).wdtDue = true)) : exec (.wdtExpiry core) s = .next s :=
  if_neg (by simpa using h)

/-! ### EBREAK (R463) -/

theorem exec_ebreak_of_idle (h : s.executing core = none) : exec (.ebreak core) s = .next s := by
  change execEbreak core s = _
  simp only [execEbreak, h]

theorem exec_ebreak_of_halts {t : Nat} (h : s.executing core = some t) (hk : (s.core core).ebreakHalt = true) :
    exec (.ebreak core) s = .next (s.haltCore core hcEbreak 0 0) := by
  change execEbreak core s = _
  simp only [execEbreak, h]
  exact if_pos hk

/-- The breakpoint exception: its mtval is the pc or 0, freely. -/
theorem exec_ebreak_of_traps {t : Nat} (h : s.executing core = some t) (hk : (s.core core).ebreakHalt = false) :
    exec (.ebreak core) s =
      .next (s.trap core 3 (if Config.freeBit s.fresh then (s.core core).issuing.getD (s.core core).ctx.pc else 0)).draw := by
  change execEbreak core s = _
  simp only [execEbreak, h]
  exact if_neg (Bool.eq_false_iff.mp hk)

theorem ite_eq_or {α : Type} (c : Prop) [Decidable c] (a b : α) : (if c then a else b) = a ∨ (if c then a else b) = b := by
  split
  · exact .inl rfl
  · exact .inr rfl

/-! ### Debug halts (R464–R466) -/

theorem exec_cdctl_of_open (h : s.portOpen = true) :
    exec (.haltreq core) s = .next (s.writeCdctl core (s.cdctl core + 1)) ∧
      exec (.resumereq core) s = .next (s.writeCdctl core (s.cdctl core + 2)) ∧
      exec (.clrBroke core) s = .next (s.writeCdctl core (s.cdctl core + 16)) := by
  have hbit (n : Nat) : s.cdctlBit core n = .next (s.writeCdctl core (s.cdctl core + n)) := if_pos h
  exact ⟨hbit 1, hbit 2, hbit 16⟩

theorem exec_cdctl_of_closed (h : s.portOpen = false) :
    exec (.haltreq core) s = .next s ∧ exec (.resumereq core) s = .next s ∧ exec (.clrBroke core) s = .next s := by
  have hbit (n : Nat) : s.cdctlBit core n = .next s := if_neg (Bool.eq_false_iff.mp h)
  exact ⟨hbit 1, hbit 2, hbit 16⟩

/-- A core's clock runs and it is not halted, so that it may come to a halt. -/
abbrev State.mayHalt (s : State) (c : Nat) : Prop := s.obj (O.CORE_STATE c) = 1 ∧ (s.core c).halted = false ∧ s.clockWait = false

theorem State.not_mayHalt_iff (s : State) (c : Nat) :
    (decide (s.obj (O.CORE_STATE c) ≠ 1) || (s.core c).halted || s.clockWait) = true ↔ ¬ s.mayHalt c := by
  simp only [State.mayHalt, Bool.or_eq_true, decide_eq_true_eq, not_and_or, Bool.not_eq_false, or_assoc, ne_eq]

theorem exec_coreHalted_of_not_mayHalt (cycles : BitVec 13) (h : ¬ s.mayHalt core) : exec (.coreHalted core cycles) s = .next s :=
  if_pos ((s.not_mayHalt_iff core).mpr h)

/-- What is asked of a halt that breaks a locked sequence (R465). -/
abbrev State.breaksLock (s : State) (c : Nat) : Prop :=
  s.mayHalt c ∧ (s.core c).haltReq = true ∧ (s.core c).deferring = true ∧ s.lockedSequence c = true

theorem State.breaksLock_iff (s : State) (c : Nat) :
    (decide (s.obj (O.CORE_STATE c) = 1) && ! (s.core c).halted && (s.core c).haltReq && (s.core c).deferring && s.lockedSequence c
      && ! s.clockWait) = true ↔ s.breaksLock c := by
  simp only [State.breaksLock, State.mayHalt, Bool.and_eq_true, decide_eq_true_eq, Bool.not_eq_true']
  tauto

theorem exec_haltDeferLimit_of_breaks (h : s.breaksLock core) :
    exec (.haltDeferLimit core) s =
      .next ((s.bump O.BROKE_LOCK_HALTS 1).haltCore core (s.core core).haltBy 4096 (s.brokenBy core)) :=
  if_pos ((s.breaksLock_iff core).mpr h)

theorem exec_haltDeferLimit_of_not_breaks (h : ¬ s.breaksLock core) : exec (.haltDeferLimit core) s = .next s :=
  if_neg fun hb => h ((s.breaksLock_iff core).mp hb)

section Halted

variable (cycles : BitVec 13) (h : s.mayHalt core)

include h

theorem exec_coreHalted_of_mayHalt :
    exec (.coreHalted core cycles) s =
      if (s.core core).stepArm then .next (s.haltCore core hcStep 0 (s.brokenBy core))
      else if (s.core core).haltReq && ! s.lockedSequence core then
        .next (s.haltCore core (s.core core).haltBy (if (s.core core).deferring then min cycles.toNat 4096 else 0) 0)
      else .next s :=
  if_neg fun hn => (s.not_mayHalt_iff core).mp hn h

theorem exec_coreHalted_of_step (ha : (s.core core).stepArm = true) :
    exec (.coreHalted core cycles) s = .next (s.haltCore core hcStep 0 (s.brokenBy core)) :=
  (exec_coreHalted_of_mayHalt cycles h).trans (if_pos ha)

variable (ha : (s.core core).stepArm = false)

include ha

theorem exec_coreHalted_of_request (hr : (s.core core).haltReq = true) (hl : s.lockedSequence core = false) :
    exec (.coreHalted core cycles) s =
      .next (s.haltCore core (s.core core).haltBy (if (s.core core).deferring then min cycles.toNat 4096 else 0) 0) :=
  (exec_coreHalted_of_mayHalt cycles h).trans ((if_neg (Bool.eq_false_iff.mp ha)).trans (if_pos (by simp [hr, hl])))

theorem exec_coreHalted_of_no_request (hr : (s.core core).haltReq = false ∨ s.lockedSequence core = true) :
    exec (.coreHalted core cycles) s = .next s :=
  (exec_coreHalted_of_mayHalt cycles h).trans
    ((if_neg (Bool.eq_false_iff.mp ha)).trans (if_neg (by rcases hr with hr | hr <;> simp [hr])))

end Halted

end Core

/-- Settles O25: the watchdog goes by whether it counts and is due, a halt by what asks for it and by the locked sequence. -/
theorem coreTimersAndHaltsAct : Obligations.CoreTimersAndHaltsAct := by
  refine ⟨fun s core => ⟨fun v t h => ⟨exec_wdtKick_of_denied h v, exec_wdtKick_of_kick h, exec_wdtKick_of_other h,
      exec_ebreak_of_halts h, fun hk => ⟨_, ite_eq_or .., exec_ebreak_of_traps h hk⟩⟩,
      fun h v => ⟨exec_wdtKick_of_idle h v, exec_ebreak_of_idle h⟩, fun hw => if_pos hw, fun hw => if_neg (Bool.eq_false_iff.mp hw),
      ⟨State.wdtTick_of_not_counts, State.wdtTick_of_between, State.wdtTick_of_end⟩,
      ⟨exec_wdtExpiry_of_not_due, fun h hw => exec_wdtExpiry_of_warns h hw.1 hw.2, exec_wdtExpiry_of_resets⟩⟩,
    fun s core cycles => ⟨exec_cdctl_of_open, exec_cdctl_of_closed, fun hn => ⟨exec_coreHalted_of_not_mayHalt cycles hn, ?_⟩,
      exec_coreHalted_of_step cycles, exec_coreHalted_of_request cycles, exec_coreHalted_of_no_request cycles,
      fun h hr hd hl => exec_haltDeferLimit_of_breaks ⟨h, hr, hd, hl⟩, fun h hn => ?_⟩⟩
  · exact exec_haltDeferLimit_of_not_breaks fun hb => hn hb.1
  · refine exec_haltDeferLimit_of_not_breaks fun hb => ?_
    obtain ⟨-, hr, hd, hl⟩ := hb
    simp [hr, hd, hl] at hn

end Sys2Proof.Machine
end

section
/-!
PROOFS. What a running thread does to itself and to others (R288–R300): each command acts only while its core executes a thread.
-/

namespace Sys2Proof.Machine

/-! ### A core that executes nothing -/

section Idle

variable {s : State} {core : CoreIx} (h : s.executing core = none)

include h

theorem exec_register_of_idle (x : XportIx) (off : Fin 256) (width : Width) (v : BitVec 64) (rd : Fin 32) (d : Fin 64) (b : Byte) :
    exec (.post core x) s = .next s ∧ exec (.inStageStore core x off width v) s = .next s ∧
      exec (.outLoad core x off width rd) s = .next s ∧ exec (.paceStore core d v) s = .next s ∧
      exec (.vttx core rd b) s = .next s ∧ exec (.vtrx core rd) s = .next s := by
  change execPost core x s = _ ∧ execInStageStore core x off width v s = _ ∧ execOutLoad core x off width rd s = _ ∧
    execPaceStore core d v s = _ ∧ execVttx core rd b s = _ ∧ execVtrx core rd s = _
  simp only [execPost, execInStageStore, execOutLoad, execPaceStore, execVttx, execVtrx, h, and_self]

theorem exec_tcmd_own_of_idle (mask : BitVec 32) (v : BitVec 64) (op : CsrOp) :
    exec (.tcmdWait core mask v) s = .next s ∧ exec (.tcmdYield core) s = .next s ∧ exec (.tcmdExit core) s = .next s ∧
      exec (.tflagsWrite core op mask) s = .next s ∧ exec (.tctlWrite core v) s = .next s := by
  change execTcmdWait core mask v s = _ ∧ execTcmdYield core s = _ ∧ execTcmdExit core s = _ ∧ execTflagsWrite core op mask s = _ ∧
    execTctlWrite core v s = _
  simp only [execTcmdWait, execTcmdYield, execTcmdExit, execTflagsWrite, execTctlWrite, h, and_self]

theorem exec_tcmd_other_of_idle (tcx : Tcx) (flag : FlagIx) (home : CoreIx) (prio : Fin 32) (v : BitVec 64) (unit : Fin 8) :
    exec (.tcmdSignal core tcx flag) s = .next s ∧ exec (.tcmdSpawn core tcx home prio v v v) s = .next s ∧
      exec (.tcmdStop core tcx) s = .next s ∧ exec (.tcmdStart core tcx) s = .next s ∧ exec (.tcmdMigrate core tcx home) s = .next s ∧
      exec (.tcmdAlarm core unit tcx flag v v) s = .next s := by
  change execTcmdSignal core tcx flag s = _ ∧ execTcmdSpawn core tcx home prio v v v s = _ ∧ execTcmdStop core tcx s = _ ∧
    execTcmdStart core tcx s = _ ∧ execTcmdMigrate core tcx home s = _ ∧ execTcmdAlarm core unit tcx flag v v s = _
  simp only [execTcmdSignal, execTcmdSpawn, execTcmdStop, execTcmdStart, execTcmdMigrate, execTcmdAlarm, h, and_self]

theorem State.threadReq_of_idle (write : Bool) (buf addr dmod ddie dnode words flag : Nat) :
    s.threadReq core write buf addr dmod ddie dnode words flag = .next s := by
  simp only [State.threadReq, h]

end Idle

/-! ### Commands of a thread to itself (R290–R293, R297) -/

/-- A thread with the mask and timeout of its WAIT. -/
def Thread.waits (th : Thread) (mask timeout : Nat) : Thread := { th with mask := mask, timeout := timeout, result := 0 }

/-- What a WAIT makes of the state `u` in which its mask and timeout stand (R293). -/
def State.waited (u : State) (core t : Nat) (th : Thread) : State :=
  if th.mask = 0 ∧ th.timeout = 0 then u.yield core t
  else if th.holds = true then u.setThread t th.consumed
  else if th.timeout ≠ 0 ∧ u.reached th.timeout = true then u.setThread t { th with wake := 2 }
  else (u.switchOut core 3).schedObjs core

section Waited

variable {u : State} {core t : Nat} {th : Thread}

theorem State.waited_of_nothing (hm : th.mask = 0) (ht : th.timeout = 0) : u.waited core t th = u.yield core t := if_pos ⟨hm, ht⟩

theorem Thread.mask_ne_zero_of_holds (h : th.holds = true) : th.mask ≠ 0 := by
  simp only [Thread.holds, Bool.and_eq_true, bne_iff_ne] at h
  exact h.1

theorem State.waited_of_holds (h : th.holds = true) : u.waited core t th = u.setThread t th.consumed :=
  (if_neg fun hn => Thread.mask_ne_zero_of_holds h hn.1).trans (if_pos h)

theorem State.waited_of_reached (h : th.holds = false) (ht : th.timeout ≠ 0) (hr : u.reached th.timeout = true) :
    u.waited core t th = u.setThread t { th with wake := 2 } :=
  (if_neg fun hn => ht hn.2).trans ((if_neg (Bool.eq_false_iff.mp h)).trans (if_pos ⟨ht, hr⟩))

theorem State.waited_of_waits (h : th.holds = false) (hn : ¬ (th.mask = 0 ∧ th.timeout = 0))
    (hr : th.timeout = 0 ∨ u.reached th.timeout = false) : u.waited core t th = (u.switchOut core 3).schedObjs core :=
  (if_neg hn).trans ((if_neg (Bool.eq_false_iff.mp h)).trans (if_neg (by rcases hr with hr | hr <;> simp [hr])))

end Waited

/-- The flag sets of a mask arrive, each as any other source's (R291). -/
def State.flagsArrive (s : State) (t v : Nat) : State :=
  (List.range 32).foldl (fun u f => if v.testBit f then u.flagArrives t f else u) s

theorem State.flagsArrive_zero (s : State) (t : Nat) : s.flagsArrive t 0 = s := List.foldl_fixed' (fun f => by simp) _

/-- The packet of a thread's request (R300). -/
def State.reqPacket (u : State) (op dmod ddie dnode n addr : Nat) (data : List Byte) : Packet :=
  { vc := 0, op := op, dstMod := dmod, dstDie := ddie, dstNode := dnode, srcMod := u.ownId, srcDie := 4, srcNode := nodeCores
    tag := 0, gen := 0, status := 0, bytes := n, addr := addr, payload := data, poison := false }

/-- The state of a request whose operands TARG0–TARG2 hold (Table 13-3). -/
def State.reqTargs (s : State) (core buf addr dmod ddie dnode words : Nat) : State :=
  s.setCore core ((((s.core core).setTarg 0 buf).setTarg 1 addr).setTarg 2
    (dmod + 2 ^ 10 * ddie + 2 ^ 13 * dnode + 2 ^ 21 * (4 * (words + 1))))

/-- A request of a thread takes a place of its own (R300). -/
def State.reqTaken (u : State) (t : Nat) (th : Thread) : State :=
  u.setThread t { th with outstanding := th.outstanding + 1, result := 0 }

section Own

variable {s : State} {core : CoreIx} {t : Nat} (h : s.executing core = some t)

include h

theorem exec_tcmdWait_of_running (mask : BitVec 32) (timeout : BitVec 64) :
    exec (.tcmdWait core mask timeout) s =
      .next ((s.setThread t ((s.thread t).waits mask.toNat timeout.toNat)).waited core t
        ((s.thread t).waits mask.toNat timeout.toNat)) := by
  change execTcmdWait core mask timeout s = _
  simp only [execTcmdWait, h, State.thread_setThread_same, State.waited, Bool.and_eq_true, decide_eq_true_eq,
    apply_ite Host.Outcome.next]
  rfl

theorem exec_tcmdYield_of_running : exec (.tcmdYield core) s = .next ((s.setThread t { s.thread t with result := 0 }).yield core t) := by
  change execTcmdYield core s = _
  simp only [execTcmdYield, h]
  rfl

/-- EXIT frees the locks, then the context, whose write-back is dropped. -/
theorem exec_tcmdExit_of_running :
    exec (.tcmdExit core) s =
      .next (let a := ((s.locksOf t).foldl (fun u n => u.setLock n none) s).bump O.EXIT_LOCKS (s.locksOf t).length
        let b := (a.switchOut core 0).setThread t Thread.blank
        State.schedObjs (b.setCore core { b.core core with
          writeback := (b.core core).writeback.filter fun e => e.1 != t }) core) := by
  change execTcmdExit core s = _
  simp only [execTcmdExit, h]

theorem exec_tctlWrite_of_running (value : BitVec 64) :
    exec (.tctlWrite core value) s = .next ((s.setThread t { s.thread t with
      prio := field value.toNat 0 5, all := value.toNat.testBit 8, consume := value.toNat.testBit 9 }).judgeRunning core t) := by
  change execTctlWrite core value s = _
  simp only [execTctlWrite, h]

theorem exec_tflagsWrite_set (value : BitVec 32) :
    exec (.tflagsWrite core .set value) s =
      .next ((s.setThread t { s.thread t with flags := (s.thread t).flags }).flagsArrive t value.toNat) := by
  change execTflagsWrite core .set value s = _
  simp only [execTflagsWrite, h]
  rfl

theorem exec_tflagsWrite_clear (value : BitVec 32) :
    exec (.tflagsWrite core .clear value) s =
      .next (s.setThread t { s.thread t with flags := (s.thread t).flags - ((s.thread t).flags &&& value.toNat) }) := by
  change execTflagsWrite core .clear value s = _
  simp only [execTflagsWrite, h]
  exact congrArg Host.Outcome.next (State.flagsArrive_zero ..)

theorem exec_tflagsWrite_replace (value : BitVec 32) :
    exec (.tflagsWrite core .replace value) s =
      .next ((s.setThread t { s.thread t with flags := (s.thread t).flags &&& value.toNat }).flagsArrive t value.toNat) := by
  change execTflagsWrite core .replace value s = _
  simp only [execTflagsWrite, h]
  rfl

section Request

variable {write : Bool} {buf addr dmod ddie dnode words flag : Nat}

theorem State.threadReq_of_full (hn : 8 ≤ ((s.reqTargs core buf addr dmod ddie dnode words).thread t).outstanding) :
    s.threadReq core write buf addr dmod ddie dnode words flag =
      .next ((s.reqTargs core buf addr dmod ddie dnode words).result4 t 4) := by
  simp only [State.threadReq, h]
  exact if_pos hn

variable (hn : ((s.reqTargs core buf addr dmod ddie dnode words).thread t).outstanding < 8)

include hn

theorem State.threadReq_of_sram (hb : bufferOk buf (4 * (words + 1)) = true) :
    s.threadReq core write buf addr dmod ddie dnode words flag =
      .next (let k := s.reqTargs core buf addr dmod ddie dnode words
        let n := 4 * (words + 1)
        (k.reqTaken t (k.thread t)).hubRequest ⟨.thread core t flag write buf n,
          k.reqPacket (if write then 2 else 1) dmod ddie dnode n addr (if ! write then [] else leBytes n (k.sramRead core buf n))⟩) := by
  simp only [State.threadReq, h]
  refine (if_neg (Nat.not_le.mpr hn)).trans ?_
  simp only [hb, if_true]
  rfl

/-- A buffer outside SRAM: the request goes out all the same, with what R8 lets it touch left open. -/
theorem State.threadReq_of_astray (hb : bufferOk buf (4 * (words + 1)) = false) :
    s.threadReq core write buf addr dmod ddie dnode words flag =
      .next (let k := s.reqTargs core buf addr dmod ddie dnode words
        let n := 4 * (words + 1)
        (k.draw.astray.reqTaken t (k.thread t)).hubRequest ⟨.thread core t flag write buf n,
          k.draw.astray.reqPacket (if write then 2 else 1) dmod ddie dnode n addr (if ! write then [] else freeBytes k.fresh buf n)⟩) := by
  simp only [State.threadReq, h]
  refine (if_neg (Nat.not_le.mpr hn)).trans ?_
  simp only [hb, Bool.false_eq_true, if_false]
  rfl

end Request

end Own

/-- Settles O26: a WAIT goes by its mask, its timeout and what holds already, a request by the thread's places and its buffer; the other
commands have one effect each. -/
theorem threadsCommandThemselves : Obligations.ThreadsCommandThemselves := by
  refine fun s core t h => ⟨fun mask timeout => ?wait, exec_tcmdYield_of_running h, exec_tcmdExit_of_running h,
    exec_tctlWrite_of_running h, fun value => ⟨exec_tflagsWrite_set h value, exec_tflagsWrite_clear h value,
    exec_tflagsWrite_replace h value⟩, fun buf addr dmod ddie dnode words flag => ?request⟩
  case wait =>
    have hwait := exec_tcmdWait_of_running h mask timeout
    exact ⟨fun hm ht => hwait.trans (congrArg _ (State.waited_of_nothing hm ht)),
      fun hh => hwait.trans (congrArg _ (State.waited_of_holds hh)),
      fun hh ht hr => hwait.trans (congrArg _ (State.waited_of_reached hh ht hr)),
      fun hh hn hr => hwait.trans (congrArg _ (State.waited_of_waits hh hn hr))⟩
  case request =>
    exact ⟨fun hn => ⟨State.threadReq_of_full h hn, State.threadReq_of_full h hn⟩,
      fun hn hb => ⟨State.threadReq_of_sram h hn hb, State.threadReq_of_sram h hn hb⟩,
      fun hn hb => ⟨_, State.threadReq_of_astray h hn hb, State.threadReq_of_astray h hn hb⟩⟩

/-! ### Commands of a thread to others (R288–R299, Table 13-5) -/

section Stop

variable {s : State} {t : Nat}

theorem State.stopThread_of_ready (c : Option Nat) (hs : (s.thread t).st = 1) :
    s.stopThread c t = ((s.dropReady t).setThread t { s.thread t with st := 4 }, 0) := if_pos hs

theorem State.stopThread_of_waiting (c : Option Nat) (hs : (s.thread t).st = 3) :
    s.stopThread c t = (s.setThread t { s.thread t with st := 4 }, 0) :=
  (if_neg (by omega)).trans (if_pos hs)

theorem State.stopThread_of_self {c : Nat} (hs : (s.thread t).st = 2) (hc : (s.thread t).home = c) :
    s.stopThread (some c) t = (State.schedObjs (s.switchOut c 4) c, 0) := by
  subst hc
  exact (if_neg (by omega)).trans ((if_neg (by omega)).trans (if_pos (by simp [hs])))

theorem State.stopThread_of_other {c : Option Nat}
    (hs : (s.thread t).st = 0 ∨ 4 ≤ (s.thread t).st ∨ ((s.thread t).st = 2 ∧ c ≠ some (s.thread t).home)) : s.stopThread c t = (s, 1) := by
  refine (if_neg (by omega)).trans ((if_neg (by omega)).trans (if_neg ?_))
  simp only [Bool.and_eq_true, decide_eq_true_eq]
  rintro ⟨h2, hc⟩
  rcases hs with h0 | h4 | ⟨-, hn⟩
  · omega
  · omega
  · exact hn hc

theorem State.startThread_of_stopped (hs : (s.thread t).st = 4) :
    s.startThread t = ((s.setThread t { s.thread t with wake := 3 }).makeReady t false, 0) := if_pos hs

theorem State.startThread_of_other (hs : (s.thread t).st ≠ 4) : s.startThread t = (s, 1) := if_neg hs

end Stop

section Others

variable {s : State} {core : CoreIx} {t : Nat} (h : s.executing core = some t)

include h

theorem exec_tcmdSignal_of_running (tcx : Tcx) (flag : FlagIx) :
    exec (.tcmdSignal core tcx flag) s = .next ((s.result4 t 0).flagArrives tcx flag) := by
  change execTcmdSignal core tcx flag s = _
  simp only [execTcmdSignal, h]

theorem exec_tcmdSpawn_of_running (tcx : Tcx) (home : CoreIx) (prio : Fin 32) (targ0 targ1 targ2 : BitVec 64) :
    exec (.tcmdSpawn core tcx home prio targ0 targ1 targ2) s = .next (
      let u := s.setCore core ((((s.core core).setTarg 0 targ0.toNat).setTarg 1 targ1.toNat).setTarg 2 targ2.toNat)
      let regs := tput (fun _ => 0) (tput (fun _ => 0) [] 2 targ1.toNat) 10 targ2.toNat
      let th := { Thread.blank with prio := prio, home := home, ctx := { Ctx.blank with pc := targ0.toNat, x := regs } }
      if (u.thread tcx).st ≠ 0 ∨ tcx.val % 512 = 0 then u.result4 t 1
      else if 512 ≤ (u.homed home).length then u.result4 t 2
      else ((u.result4 t 0).setThread tcx th).makeReady tcx false) := by
  change execTcmdSpawn core tcx home prio targ0 targ1 targ2 s = _
  simp only [execTcmdSpawn, h, Bool.or_eq_true, decide_eq_true_eq, apply_ite Host.Outcome.next, ge_iff_le]

theorem exec_tcmdStart_of_running (tcx : Tcx) :
    exec (.tcmdStart core tcx) s = .next ((s.startThread tcx).1.result4 t (s.startThread tcx).2) := by
  change execTcmdStart core tcx s = _
  simp only [execTcmdStart, h]

theorem exec_tcmdStop_of_running (tcx : Tcx) :
    exec (.tcmdStop core tcx) s = .next ((s.stopThread (if tcx.val = t then some core.val else none) tcx).1.result4 t
      (s.stopThread (if tcx.val = t then some core.val else none) tcx).2) := by
  change execTcmdStop core tcx s = _
  simp only [execTcmdStop, h]

section Migrate

variable {tcx : Tcx} {home : CoreIx}

/-- A context that no MIGRATE of thread `t` takes: a boot thread, a FREE one, or one that another core runs (R298). -/
abbrev State.staysHome (s : State) (tcx t : Nat) : Prop :=
  tcx % 512 = 0 ∨ (s.thread tcx).st = 0 ∨ ((s.thread tcx).st = 2 ∧ ¬ tcx = t)

omit h in
theorem State.staysHome_iff (s : State) (tcx t : Nat) :
    (decide (tcx % 512 = 0) || decide ((s.thread tcx).st = 0) || decide ((s.thread tcx).st = 2) && ! decide (tcx = t)) = true ↔
      s.staysHome tcx t := by
  simp only [State.staysHome, Bool.or_eq_true, Bool.and_eq_true, Bool.not_eq_true', decide_eq_true_eq, decide_eq_false_iff_not, or_assoc]

theorem exec_tcmdMigrate_of_stays (hs : s.staysHome tcx t) : exec (.tcmdMigrate core tcx home) s = .next (s.result4 t 1) := by
  change execTcmdMigrate core tcx home s = _
  simp only [execTcmdMigrate, h]
  exact if_pos ((s.staysHome_iff tcx t).mpr hs)

variable (hs : ¬ s.staysHome tcx t)

include hs

theorem exec_tcmdMigrate_of_no_room (hh : (s.thread tcx).home ≠ home.val) (hr : 512 ≤ (s.homed home).length) :
    exec (.tcmdMigrate core tcx home) s = .next (s.result4 t 2) := by
  change execTcmdMigrate core tcx home s = _
  simp only [execTcmdMigrate, h]
  exact (if_neg fun hn => hs ((s.staysHome_iff tcx t).mp hn)).trans (if_pos (by simp [hh, hr]))

/-- What a MIGRATE does that is taken and finds room. -/
theorem exec_tcmdMigrate_of_room (hr : (s.thread tcx).home = home.val ∨ (s.homed home).length < 512) :
    exec (.tcmdMigrate core tcx home) s =
      if tcx.val = t then
        .next (let v := (s.result4 t 0).switchOut core 1
          State.schedObjs ((v.setThread tcx { v.thread tcx with home := home }).makeReady tcx false) core)
      else if (s.thread tcx).st = 1 then
        .next (((((s.result4 t 0).dropReady tcx).setThread tcx { s.thread tcx with home := home }).makeReady tcx false).schedObjs
          (s.thread tcx).home)
      else .next ((((s.result4 t 0).setThread tcx { s.thread tcx with home := home }).schedObjs home).schedObjs (s.thread tcx).home) := by
  change execTcmdMigrate core tcx home s = _
  simp only [execTcmdMigrate, h]
  refine (if_neg fun hn => hs ((s.staysHome_iff tcx t).mp hn)).trans (if_neg ?_)
  simp only [Bool.and_eq_true, decide_eq_true_eq, ge_iff_le]
  omega

end Migrate

section Alarm

variable (unit : Fin 8) (tcx : Tcx) (flag : FlagIx) (targ0 : BitVec 64) {targ1 : BitVec 64}

theorem exec_tcmdAlarm_of_short (h1 : 1 ≤ targ1.toNat) (h999 : targ1.toNat ≤ 999) :
    exec (.tcmdAlarm core unit tcx flag targ0 targ1) s =
      .next ((s.setCore core (((s.core core).setTarg 0 targ0.toNat).setTarg 1 targ1.toNat)).result4 t 3) := by
  change execTcmdAlarm core unit tcx flag targ0 targ1 s = _
  simp only [execTcmdAlarm, h]
  exact if_pos (by simp [h1, h999])

theorem exec_tcmdAlarm_of_period (hp : targ1.toNat = 0 ∨ 1000 ≤ targ1.toNat) :
    exec (.tcmdAlarm core unit tcx flag targ0 targ1) s =
      .next (let k := ((s.core core).setTarg 0 targ0.toNat).setTarg 1 targ1.toNat
        let a : Option Alarm := if targ0.toNat = 0 then none else some ⟨tcx, flag, targ0.toNat, targ1.toNat⟩
        (s.setCore core { k with alarms := tput (fun _ => none) k.alarms unit a }).result4 t 0) := by
  change execTcmdAlarm core unit tcx flag targ0 targ1 s = _
  simp only [execTcmdAlarm, h]
  refine if_neg ?_
  simp only [Bool.and_eq_true, decide_eq_true_eq]
  omega

end Alarm

end Others

/-- Settles O27: STOP and START go by the context's state, MIGRATE by that and by the room at the new home, ALARM by its period. -/
theorem threadsCommandOthers : Obligations.ThreadsCommandOthers := by
  refine ⟨fun s core t h tcx home flag targ0 targ1 => ⟨exec_tcmdSignal_of_running h tcx flag,
    fun prio targ2 => exec_tcmdSpawn_of_running h tcx home prio targ0 targ1 targ2, ?start, ?startOther, ?stopReady, ?stopWaiting,
    ?stopSelf, ?stopOther, ⟨exec_tcmdMigrate_of_stays h, fun hs => ⟨exec_tcmdMigrate_of_no_room h hs, fun hr => ?migrate⟩⟩,
    fun unit => ⟨exec_tcmdAlarm_of_short h unit tcx flag targ0, exec_tcmdAlarm_of_period h unit tcx flag targ0⟩⟩, ?idle⟩
  case start =>
    intro hs
    rw [exec_tcmdStart_of_running h, State.startThread_of_stopped hs]
  case startOther =>
    intro hs
    rw [exec_tcmdStart_of_running h, State.startThread_of_other hs]
  case stopReady =>
    intro hs
    rw [exec_tcmdStop_of_running h, State.stopThread_of_ready _ hs]
  case stopWaiting =>
    intro hs
    rw [exec_tcmdStop_of_running h, State.stopThread_of_waiting _ hs]
  case stopSelf =>
    intro hs ht hh
    rw [exec_tcmdStop_of_running h, if_pos ht, State.stopThread_of_self hs hh]
  case stopOther =>
    intro hs
    rw [exec_tcmdStop_of_running h, State.stopThread_of_other]
    refine hs.imp_right (Or.imp_right (And.imp_right fun hn hc => ?_))
    split at hc
    · exact hn.elim (absurd ‹_›) fun hn => hn (Option.some.inj hc).symm
    · cases hc
  case migrate =>
    have hgoes := exec_tcmdMigrate_of_room h hs hr
    exact ⟨fun hself => hgoes.trans (if_pos hself), fun hself hready => hgoes.trans ((if_neg hself).trans (if_pos hready)),
      fun hself hready => hgoes.trans ((if_neg hself).trans (if_neg hready))⟩
  case idle =>
    intro s core h x off width v rd d b mask tcx flag home prio unit op dmod ddie dnode words
    obtain ⟨hpost, hin, hout, hpace, htx, hrx⟩ := exec_register_of_idle h x off width v rd d b
    obtain ⟨hwait, hyield, hexit, hflags, hctl⟩ := exec_tcmd_own_of_idle h mask v op
    obtain ⟨hsignal, hspawn, hstop, hstart, hmigrate, halarm⟩ := exec_tcmd_other_of_idle h tcx flag home prio v unit
    have hread : exec (.tcmdReqRead core v v dmod ddie dnode words flag) s = .next s := State.threadReq_of_idle h ..
    have hwrite : exec (.tcmdReqWrite core v v dmod ddie dnode words flag) s = .next s := State.threadReq_of_idle h ..
    simp only [List.forall_mem_cons]
    exact ⟨hpost, hin, hout, hpace, htx, hrx, hwait, hyield, hexit, hsignal, hspawn, hstop, hstart, hmigrate, halarm, hread, hwrite,
      hflags, hctl, List.forall_mem_nil _⟩

end Sys2Proof.Machine
end

section
/-!
PROOFS. The scheduler's own cycles, dispatch and preemption, and the commands of a host to cores and threads (R288, R293–R303, R381).
-/

namespace Sys2Proof.Machine

/-! ### Scheduler cycles (R293, R294, R296, R297, R300) -/

section Cycles

variable {s : State} (h : s.clockWait = false)

include h

theorem exec_flagApply_of_running :
    exec .flagApply s = .next ((List.range 32).foldl
      (fun u c => match u.nextWake c with | some t => u.wake t false | none => u) s.applyFlags) :=
  if_neg (Bool.eq_false_iff.mp h)

section Timeout

variable (t : Tcx)

theorem exec_threadTimeout_of_running :
    exec (.threadTimeout t) s =
      if (decide ((s.thread t).st = 3) && decide ((s.thread t).timeout ≠ 0) && s.reached (s.thread t).timeout) = true then
        .next (s.wake t (! (s.thread t).holds))
      else .next s :=
  if_neg (Bool.eq_false_iff.mp h)

theorem exec_threadTimeout_of_reached (hs : (s.thread t).st = 3) (ht : (s.thread t).timeout ≠ 0)
    (hr : s.reached (s.thread t).timeout = true) : exec (.threadTimeout t) s = .next (s.wake t (! (s.thread t).holds)) :=
  (exec_threadTimeout_of_running h t).trans (if_pos (by simp [hs, ht, hr]))

theorem exec_threadTimeout_of_not_reached
    (hn : (s.thread t).st ≠ 3 ∨ (s.thread t).timeout = 0 ∨ s.reached (s.thread t).timeout = false) :
    exec (.threadTimeout t) s = .next s :=
  (exec_threadTimeout_of_running h t).trans (if_neg (by rcases hn with hn | hn | hn <;> simp [hn]))

end Timeout

section Alarm

variable {core : CoreIx} {unit : Fin 8}

theorem exec_alarmFire_of_none (ha : tget (fun _ => none) (s.core core).alarms unit = none) : exec (.alarmFire core unit) s = .next s := by
  change execAlarmFire core unit s = _
  simp [execAlarmFire, h, ha]

theorem exec_alarmFire_of_armed {a : Alarm} (ha : tget (fun _ => none) (s.core core).alarms unit = some a) :
    exec (.alarmFire core unit) s =
      if s.reached a.when_ = true then
        .next (let next : Option Alarm := if a.period = 0 then none else some { a with when_ := nextInstant a.when_ a.period s.nowNs }
          (s.setCore core { s.core core with
            alarms := tput (fun _ => none) (s.core core).alarms unit next }).flagArrives a.tcx a.flag)
      else .next s := by
  change execAlarmFire core unit s = _
  simp only [execAlarmFire, h, ha, Bool.false_eq_true, if_false]

end Alarm

section Core

variable {core : CoreIx}

theorem exec_contextWriteback_of_none (hw : (s.core core).writeback = []) : exec (.contextWriteback core) s = .next s := by
  change execContextWriteback core s = _
  simp [execContextWriteback, h, hw]

theorem exec_contextWriteback_of_some {t : Nat} {x : Ctx} {rest : List (Nat × Ctx)} (hw : (s.core core).writeback = (t, x) :: rest) :
    exec (.contextWriteback core) s =
      .next ((s.setCore core { s.core core with writeback := rest }).setThread t { s.thread t with ctx := x }) := by
  change execContextWriteback core s = _
  simp only [execContextWriteback, h, hw, Bool.false_eq_true, if_false]

theorem exec_prefetchFill_of_full (hp : ∀ e ∈ (s.core core).prefetch, e.2 = true) : exec (.prefetchFill core) s = .next s := by
  have hnone : ((s.core core).prefetch.findIdx? fun e => ! e.2) = none := List.findIdx?_eq_none_iff.mpr fun e he => by simp [hp e he]
  change execPrefetchFill core s = _
  simp only [execPrefetchFill, h, hnone, Bool.false_eq_true, if_false]

/-- The first of a core's prefetch slots that is still empty is filled (R297). -/
theorem exec_prefetchFill_of_empty {l r : List (Nat × Bool)} {t : Nat} (hp : (s.core core).prefetch = l ++ (t, false) :: r)
    (hl : ∀ e ∈ l, e.2 = true) :
    exec (.prefetchFill core) s = .next (s.setCore core { s.core core with prefetch := l ++ (t, true) :: r }) := by
  have hnone : (l.findIdx? fun e => ! e.2) = none := List.findIdx?_eq_none_iff.mpr fun e he => by simp [hl e he]
  have hfirst : ((l ++ (t, false) :: r).findIdx? fun e => ! e.2) = some l.length := by
    simp [List.findIdx?_append, hnone, List.findIdx?_cons]
  have hat : (l ++ (t, false) :: r)[l.length]? = some (t, false) := by simp
  have hset : (l ++ (t, false) :: r).set l.length (t, true) = l ++ (t, true) :: r := by simp
  change execPrefetchFill core s = _
  simp only [execPrefetchFill, h, hp, hfirst, hat, hset, Bool.false_eq_true, if_false]

end Core

theorem exec_requestCompletion_of_none (hd : s.net.done = []) : exec .requestCompletion s = .next s := by
  change execRequestCompletion s = _
  simp [execRequestCompletion, h, hd]

/-- The data, then the status, then the flag of a completed request are delivered (R300). -/
theorem exec_requestCompletion_of_some {n core t flag buf bytes : Nat} {write : Bool} {p : Packet} {rest : List (Nat × TagOwner × Packet)}
    (hd : s.net.done = (n, .thread core t flag write buf bytes, p) :: rest) :
    exec .requestCompletion s = .next (
      let a : State := { s with net := { s.net with done := rest } }
      let b := if write = false ∧ p.status = 0 ∧ p.op = 8 then a.sramWrite core buf bytes (leNat p.payload) else a
      let c := if (b.thread t).st = 0 then b else
        b.setThread t { b.thread t with status := p.status, outstanding := (b.thread t).outstanding - 1 }
      c.flagArrives t flag) := by
  change execRequestCompletion s = _
  simp only [execRequestCompletion, h, hd, Bool.false_eq_true, if_false, Bool.and_eq_true, Bool.not_eq_true', decide_eq_true_eq, and_assoc]

end Cycles

/-- Settles O28: each cycle of the scheduler goes by what waits for it and by whether its time has come. -/
theorem schedulerCyclesAct : Obligations.SchedulerCyclesAct :=
  fun _ h => ⟨exec_flagApply_of_running h, fun t => ⟨exec_threadTimeout_of_reached h t, exec_threadTimeout_of_not_reached h t⟩,
    fun _ _ => ⟨exec_alarmFire_of_none h, fun _ ha => ⟨fun hr => (exec_alarmFire_of_armed h ha).trans (if_neg (Bool.eq_false_iff.mp hr)),
      fun hr => (exec_alarmFire_of_armed h ha).trans (if_pos hr)⟩⟩,
    fun _ => ⟨exec_contextWriteback_of_none h, fun _ _ _ => exec_contextWriteback_of_some h, exec_prefetchFill_of_full h,
      fun _ _ _ => exec_prefetchFill_of_empty h⟩,
    exec_requestCompletion_of_none h, fun _ _ _ _ _ _ _ _ _ => exec_requestCompletion_of_some h⟩

/-! ### Dispatch and preemption (R296, R297) -/

section Dispatch

variable {s : State} {core : CoreIx}

/-- An idle core that nothing keeps from taking a thread (R296, R421, R464). -/
abbrev State.mayDispatch (s : State) (c : Nat) : Prop :=
  s.clockWait = false ∧ s.obj (O.CORE_STATE c) = 1 ∧ (s.core c).halted = false ∧ (s.core c).haltReq = false
    ∧ ((s.core c).stepArm = false ∨ (s.core c).noThread = true) ∧ s.clk.shutdown = false ∧ s.running c = none

theorem State.mayDispatch_iff (s : State) (c : Nat) (h : s.clockWait = false) :
    (decide (s.obj (O.CORE_STATE c) = 1) && ! (s.core c).halted && ! (s.core c).haltReq && (! (s.core c).stepArm || (s.core c).noThread)
      && ! s.clk.shutdown && decide (s.running c = none)) = true ↔ s.mayDispatch c := by
  simp only [State.mayDispatch, h, true_and, Bool.and_eq_true, Bool.or_eq_true, Bool.not_eq_true', decide_eq_true_eq, and_assoc]

theorem exec_dispatch_of_able {t : Nat} (wait ran idle : Nat) (ha : s.mayDispatch core) (ht : s.dispatchable core = some t) :
    exec (.dispatch core wait ran idle) s =
      .next (((((s.setCore core { s.core core with noThread := false }).bump (O.CYC_RUN core) ran).bump (O.CYC_IDLE core) idle).switchIn
        core t wait).takeIrq core) := by
  change execDispatch core wait ran idle s = _
  refine (if_neg (Bool.eq_false_iff.mp ha.1)).trans ((if_pos ((s.mayDispatch_iff core ha.1).mpr ha)).trans ?_)
  simp only [ht]

theorem exec_dispatch_of_not_able (wait ran idle : Nat) (h : ¬ s.mayDispatch core ∨ s.dispatchable core = none) :
    exec (.dispatch core wait ran idle) s = .next s := by
  change execDispatch core wait ran idle s = _
  cases hc : s.clockWait with
  | true => exact if_pos hc
  | false =>
    refine (if_neg (Bool.eq_false_iff.mp hc)).trans ?_
    by_cases ha : s.mayDispatch core
    · refine (if_pos ((s.mayDispatch_iff core hc).mpr ha)).trans ?_
      simp only [h.resolve_left (not_not_intro ha)]
    · exact if_neg fun hm => ha ((s.mayDispatch_iff core hc).mp hm)

section Preempt

variable {r t : Nat}

/-- The thread that a core would dispatch next may take it from the running one (R297). -/
abbrev State.outranks (s : State) (c t r : Nat) : Prop := s.obj (O.PREEMPT c) = 1 ∧ (s.thread t).prio < (s.thread r).prio

theorem State.preemptor_eq {c : Nat} (ht : s.dispatchable c = some t) : s.preemptor c r = if s.outranks c t r then some t else none := by
  simp only [State.preemptor, ht, Bool.and_eq_true, decide_eq_true_eq]

theorem State.judgeRunning_of_no_preemptor {c : Nat} (hp : s.preemptor c r = none) : s.judgeRunning c r = s :=
  if_neg (by simp [hp])

theorem State.judgeRunning_of_unlocked {c : Nat} (hl : s.locksOf r = []) : s.judgeRunning c r = s := if_neg (by simp [hl])

theorem State.judgeRunning_of_deferred {c : Nat} (hd : (s.core c).deferred = true) : s.judgeRunning c r = s := if_neg (by simp [hd])

theorem State.judgeRunning_of_defers {c : Nat} (hp : s.preemptor c r = some t) (hl : s.locksOf r ≠ []) (hd : (s.core c).deferred = false) :
    s.judgeRunning c r = (s.setCore c { s.core c with deferred := true }).bump (O.LOCK_DEFERRALS c) 1 :=
  if_pos (by simp [hp, hl, hd])

variable (wait ran : Nat)

theorem exec_preemption_of_none (h : s.executing core = none ∨ s.dispatchable core = none) :
    exec (.preemption core wait ran) s = .next s := by
  change execPreemption core wait ran s = _
  cases he : s.executing core with
  | none => simp only [execPreemption, he]
  | some r =>
    have hp : s.preemptor core r = none := by simp only [State.preemptor, h.resolve_left (by simp [he])]
    simp only [execPreemption, he, hp]

section Running

variable (he : s.executing core = some r)

include he

theorem exec_preemption_of_no_preemptor (hp : s.preemptor core r = none) : exec (.preemption core wait ran) s = .next s := by
  change execPreemption core wait ran s = _
  simp only [execPreemption, he, hp]

theorem exec_preemption_of_unlocked (hp : s.preemptor core r = some t) (hl : s.locksOf r = []) :
    exec (.preemption core wait ran) s =
      .next (((((((s.switchOut core 1).makeReady r true)).switchIn core t wait).bump (O.PREEMPTIONS core) 1).bump (O.CYC_RUN core)
        ran).takeIrq core) := by
  change execPreemption core wait ran s = _
  simp only [execPreemption, he, hp]
  exact if_neg (by simp [hl])

theorem exec_preemption_of_locked (hp : s.preemptor core r = some t) (hl : s.locksOf r ≠ []) :
    exec (.preemption core wait ran) s = .next (s.judgeRunning core r) := by
  change execPreemption core wait ran s = _
  simp only [execPreemption, he, hp]
  exact if_pos (by simp [hl])

end Running

end Preempt

end Dispatch

/-- Settles O29: dispatch goes by whether the core may take a thread and has one, preemption by rank, locks and an earlier deferral. -/
theorem coresDispatchAndPreempt : Obligations.CoresDispatchAndPreempt := by
  refine fun s core wait ran idle => ⟨fun t => exec_dispatch_of_able wait ran idle, exec_dispatch_of_not_able wait ran idle,
    fun r t he ht => ?preempt, fun r hd => ?none, exec_preemption_of_none wait ran⟩
  case preempt =>
    have hyes : s.outranks core t r → s.preemptor core r = some t := fun hm => (State.preemptor_eq ht).trans (if_pos hm)
    have hno : ¬ s.outranks core t r → s.preemptor core r = none := fun hm => (State.preemptor_eq ht).trans (if_neg hm)
    exact ⟨fun hm => ⟨exec_preemption_of_no_preemptor wait ran he (hno hm), State.judgeRunning_of_no_preemptor (hno hm)⟩,
      fun hm hl => ⟨State.judgeRunning_of_unlocked hl, exec_preemption_of_unlocked wait ran he (hyes hm) hl⟩,
      fun hm hl => exec_preemption_of_locked wait ran he (hyes hm) hl, fun _ _ hd => State.judgeRunning_of_deferred hd,
      fun hm hl hd => State.judgeRunning_of_defers (hyes hm) hl hd⟩
  case none =>
    exact State.judgeRunning_of_no_preemptor (by simp only [State.preemptor, hd])

/-! ### Commands of a host (R288, R299, R303, R381) -/

section Host

variable {s : State} {m : Master}

/-- The modes in which CORE_RUN stays 0 (Table 12-6). -/
theorem standing_iff (s : State) :
    (decide (s.mode = mStandby) || decide (s.mode = mLoad) || decide (s.mode = mDiag)) = true ↔
      s.mode = mStandby ∨ s.mode = mLoad ∨ s.mode = mDiag := by
  simp only [Bool.or_eq_true, decide_eq_true_eq, or_assoc]

theorem writeCoreRun_of_standing (v : Nat) (h : s.mode = mStandby ∨ s.mode = mLoad ∨ s.mode = mDiag) :
    writeCoreRun v s = (s, eNone) := if_pos ((standing_iff s).mpr h)

theorem writeCoreRun_of_powered (v : Nat) (h : ¬ (s.mode = mStandby ∨ s.mode = mLoad ∨ s.mode = mDiag)) :
    writeCoreRun v s = ((List.range 32).foldl (fun t c =>
      if v.testBit c && ! (s.obj O.CORE_RUN).testBit c then t.releaseCore c
      else if ! v.testBit c && (s.obj O.CORE_RUN).testBit c then t.resetCore c 0 else t) (s.setObj O.CORE_RUN v), eNone) :=
  if_neg fun hn => h ((standing_iff s).mp hn)

/-- A FREE context that the host has written starts on its home (R299, R303). -/
def State.hostStarts (u : State) (t : Nat) : State :=
  ((u.setThread t { u.thread t with home := u.startHome t, wake := 3, written := false }).makeReady t false).setObj O.THREAD_CMD_RESULT 0

theorem writeThreadCmd_stop (s : State) :
    writeThreadCmd 1 s = ((s.stopThread none (s.obj O.THREAD_SEL)).1.setObj O.THREAD_CMD_RESULT
      (s.stopThread none (s.obj O.THREAD_SEL)).2, eNone) := rfl

theorem writeThreadCmd_start (s : State) :
    writeThreadCmd 2 s =
      if s.startsFree (s.obj O.THREAD_SEL) = true then
        ((if s.startUnchecked then s.astray else s).hostStarts (s.obj O.THREAD_SEL), eNone)
      else ((s.startThread (s.obj O.THREAD_SEL)).1.setObj O.THREAD_CMD_RESULT (s.startThread (s.obj O.THREAD_SEL)).2, eNone) := rfl

theorem writeThreadCmd_start_of_free (h : s.startsFree (s.obj O.THREAD_SEL) = true) :
    writeThreadCmd 2 s = ((if s.startUnchecked then s.astray else s).hostStarts (s.obj O.THREAD_SEL), eNone) :=
  (writeThreadCmd_start s).trans (if_pos h)

theorem writeThreadCmd_start_of_not_free (h : s.startsFree (s.obj O.THREAD_SEL) = false) :
    writeThreadCmd 2 s = ((s.startThread (s.obj O.THREAD_SEL)).1.setObj O.THREAD_CMD_RESULT
      (s.startThread (s.obj O.THREAD_SEL)).2, eNone) :=
  (writeThreadCmd_start s).trans (if_neg (Bool.eq_false_iff.mp h))

section Doorbell

variable (t : Tcx) (v : BitVec 64)

theorem exec_threadDoorbell_of_down (h : s.endpointUp = false) : exec (.threadDoorbell t v) s = .next s := if_pos (by simp [h])

variable (h : s.endpointUp = true)

include h

theorem exec_threadDoorbell_of_stopped (he : s.engineStopped = true) :
    exec (.threadDoorbell t v) s = .next (s.holdWrite (.thread t v.toNat)) :=
  (if_neg (by simp [h])).trans (if_pos he)

theorem exec_threadDoorbell_of_running (he : s.engineStopped = false) :
    exec (.threadDoorbell t v) s = .next (s.ringThread t v.toNat) :=
  (if_neg (by simp [h])).trans (if_neg (Bool.eq_false_iff.mp he))

end Doorbell

end Host

/-- Settles O30: CORE_RUN goes by the mode, THREAD_CMD by the selected context, a doorbell by the endpoint and the engine. -/
theorem hostCommandsThreads : Obligations.HostCommandsThreads :=
  fun s _ => ⟨fun hs _ => ⟨fun h => State.write_accepted hs (writeCoreRun_of_standing _ h),
      fun h => State.write_accepted hs (writeCoreRun_of_powered _ h)⟩,
    fun hs => ⟨State.write_accepted hs (writeThreadCmd_stop s), fun h => State.write_accepted hs (writeThreadCmd_start_of_free h),
      fun h => State.write_accepted hs (writeThreadCmd_start_of_not_free h)⟩,
    fun hs _ => State.write_accepted hs rfl,
    fun t v => ⟨exec_threadDoorbell_of_down t v, exec_threadDoorbell_of_stopped t v, exec_threadDoorbell_of_running t v⟩⟩

end Sys2Proof.Machine
end

section
/-!
PROOFS. The edge fabric (16): loads, regional clocks, pads, cells, lanes, user flash, scrub and measurements.
-/

namespace Sys2Proof.Machine

/-! ### Stand-alone loads (R366, R368) -/

section Load

variable {s : State}

theorem State.fabLoadOrder_of_busy (h : s.fabric.phase ≠ 0) : s.fabLoadOrder = (s, eMode) := if_pos h

theorem State.fabLoadOrder_of_taken (hp : s.fabric.phase = 0) (hm : s.fabModes = true) :
    s.fabLoadOrder = ({ s with fabric := { s.fabric with phase := 1, fetched := [] } }, eNone) :=
  (if_neg (not_not_intro hp)).trans (if_pos hm)

theorem State.fabLoadOrder_of_refused (hp : s.fabric.phase = 0) (hm : s.fabModes = false) :
    s.fabLoadOrder = ((s.setObjs [(O.FAB_RESULT, 2), (O.FAB_CHECK, 1), (O.FAB_CHECK_DETAIL, 0)]).msix 3, eNone) :=
  (if_neg (not_not_intro hp)).trans (if_neg (Bool.eq_false_iff.mp hm))

theorem State.fabAbortOrder_of_none (h : s.fabric.phase = 0) : s.fabAbortOrder = (s.setObj O.FAB_ABORT_RESULT 2, eNone) := if_pos h

/-- The state in which no load is in progress. -/
def State.fabIdle (s : State) : State := { s with fabric := { s.fabric with phase := 0, fetched := [] } }

theorem State.fabAbortOrder_of_load (h : s.fabric.phase ≠ 0) :
    s.fabAbortOrder = (((if s.fabric.phase = 3 then s.fabIdle.fabClear else s.fabIdle).setObjs
      [(O.FAB_RESULT, 3), (O.FAB_ABORT_RESULT, 1)]).msix 3, eNone) := by
  refine (if_neg h).trans ?_
  rfl

theorem State.fabUnconfigOrder_of_taken (hm : s.fabModes = true) (hp : s.fabric.phase ≠ 3) :
    s.fabUnconfigOrder = (s.fabClear, eNone) :=
  if_pos (by simp [hm, hp])

theorem State.fabUnconfigOrder_of_refused (h : s.fabModes = false ∨ s.fabric.phase = 3) : s.fabUnconfigOrder = (s, eMode) :=
  if_neg (by rcases h with h | h <;> simp [h])

theorem exec_fabFetchDone_of_other (h : s.fabric.phase ≠ 1) (data : Option (List Byte)) : exec (.fabFetchDone data) s = .next s :=
  if_pos h

theorem exec_fabFetchDone_of_fetching (h : s.fabric.phase = 1) :
    exec (.fabFetchDone none) s = .next (s.fabRefuse 2 0) ∧
      ∀ b, exec (.fabFetchDone (some b)) s = .next { s with fabric := { s.fabric with phase := 2, fetched := b } } :=
  ⟨if_neg (not_not_intro h), fun _ => if_neg (not_not_intro h)⟩

section Check

variable (vddio : List Nat)

/-- The state in which the measured bank voltages are shown. -/
def State.banksShown (s : State) (vddio : List Nat) : State := s.setObjs ((List.range 8).map fun i => (O.BANK_VDDIO i, vddio.getD i 0))

/-- The check of the container that has been fetched (R366). -/
def State.fabVerdict (s t : State) (vddio : List Nat) : Nat × Nat :=
  fabCheck s.fabric.fetched (t.obj O.FAB_ID) (t.obj O.FAB_BYTES) false (t.fabPolicyBad s.fabric.fetched)
    (tget (fun _ => []) t.keys.signing (bytesNat s.fabric.fetched 0x1C 4)) vddio

theorem exec_fabCheckDone_of_other (h : s.fabric.phase ≠ 2) : exec (.fabCheckDone vddio) s = .next s := if_pos h

theorem exec_fabCheckDone_of_bad (h : s.fabric.phase = 2) (hr : (s.fabVerdict (s.banksShown vddio) vddio).1 ≠ 0) :
    exec (.fabCheckDone vddio) s = .next ((s.banksShown vddio).fabRefuse (s.fabVerdict (s.banksShown vddio) vddio).1
      (s.fabVerdict (s.banksShown vddio) vddio).2) :=
  (if_neg (not_not_intro h)).trans (if_pos hr)

theorem exec_fabCheckDone_of_good (h : s.fabric.phase = 2) (hr : (s.fabVerdict (s.banksShown vddio) vddio).1 = 0) :
    exec (.fabCheckDone vddio) s =
      .next (let u := (s.banksShown vddio).setObjs [(O.FAB_CHECK, 0), (O.FAB_CHECK_DETAIL, 0), (O.FAB_STATE, 1)]
        State.fabObjs { u with fabric := { u.fabric with phase := 3 } }) :=
  (if_neg (not_not_intro h)).trans (if_neg (not_not_intro hr))

end Check

theorem exec_fabWriteDone_of_other (h : s.fabric.phase ≠ 3) : exec .fabWriteDone s = .next s := if_pos h

theorem exec_fabWriteDone_of_writing (h : s.fabric.phase = 3) :
    exec .fabWriteDone s =
      .next (let t : State := { s with fabric := { s.fabric with phase := 0, fetched := [], fin := [], pend := [] } }
        ((t.fabConfigure s.fabric.fetched).setObj O.FAB_RESULT 1).msix 3) :=
  if_neg (not_not_intro h)

end Load

/-- Settles O32: an order goes by the mode and the phase, the end of a phase by whether it is the phase in progress. -/
theorem fabricLoadsInPhases : Obligations.FabricLoadsInPhases := by
  refine fun s m => ⟨fun hs => ⟨?busy, ?taken, ?refused, ?idle, ?abort, ?empties, ?kept⟩, exec_fabFetchDone_of_other,
    exec_fabFetchDone_of_fetching, fun vddio => ⟨exec_fabCheckDone_of_other vddio, exec_fabCheckDone_of_bad vddio,
    exec_fabCheckDone_of_good vddio⟩, exec_fabWriteDone_of_other, exec_fabWriteDone_of_writing⟩
  case busy => exact fun h => State.write_refused hs (State.fabLoadOrder_of_busy h) (by decide)
  case taken => exact fun hp hm => State.write_accepted hs (State.fabLoadOrder_of_taken hp hm)
  case refused => exact fun hp hm => State.write_accepted hs (State.fabLoadOrder_of_refused hp hm)
  case idle => exact fun hp => ⟨_, State.write_accepted hs (State.fabAbortOrder_of_none hp), State.wrote_setObj ..⟩
  case abort => exact fun hp => State.write_accepted hs (State.fabAbortOrder_of_load hp)
  case empties => exact fun hm hp => State.write_accepted hs (State.fabUnconfigOrder_of_taken hm hp)
  case kept => exact fun h => State.write_refused hs (State.fabUnconfigOrder_of_refused h) (by decide)

/-! ### Regional clocks (R351, R352, R370) -/

section Region

variable {s : State} {region : RegionIx}

section Select

variable (sel alive : Bool)

theorem exec_regionSelectChange_of_fixed (h : ¬ (regEnable (s.region region).entry = true ∧ regByLogic (s.region region).entry = true)) :
    exec (.regionSelectChange region sel alive) s = .next s :=
  if_neg (by simpa using h)

variable (he : regEnable (s.region region).entry = true) (hl : regByLogic (s.region region).entry = true)

include he hl

theorem exec_regionSelectChange_of_switching {b : Bool} (h : (s.region region).switching = some b) :
    exec (.regionSelectChange region sel alive) s = .next (s.setRegion region { s.region region with wanted := some sel }) := by
  change execRegionSelectChange region sel alive s = _
  simp only [execRegionSelectChange, he, hl, h, Bool.and_self, if_true]

theorem exec_regionSelectChange_of_settled (h : (s.region region).switching = none) :
    exec (.regionSelectChange region sel alive) s =
      if sel = (s.region region).sel then .next s
      else if alive = true then .next (s.setRegion region { s.region region with sel := sel, count := 0 })
      else .next (s.setRegion region { s.region region with switching := some sel }) := by
  change execRegionSelectChange region sel alive s = _
  simp only [execRegionSelectChange, he, hl, h, Bool.and_self, if_true]

end Select

theorem exec_regionForcedSwitch_of_settled (h : (s.region region).switching = none) : exec (.regionForcedSwitch region) s = .next s := by
  change execRegionForcedSwitch region s = _
  simp only [execRegionForcedSwitch, h]

theorem exec_regionForcedSwitch_of_switching {sel : Bool} (h : (s.region region).switching = some sel) :
    exec (.regionForcedSwitch region) s = .next ((s.setRegion region { s.region region with
      sel := (s.region region).wanted.getD sel, switching := none, wanted := none, count := 0 }).setObjBit O.CLK_FORCED region true) := by
  change execRegionForcedSwitch region s = _
  simp only [execRegionForcedSwitch, h]

theorem exec_regionLoss_of_unwatched (h : regEnable (s.region region).entry = false ∨ regLossWindow (s.region region).entry = 0) :
    exec (.regionLoss region) s = .next s :=
  if_neg (by rcases h with h | h <;> simp [h])

theorem exec_regionLoss_of_watched (he : regEnable (s.region region).entry = true) (hw : regLossWindow (s.region region).entry ≠ 0) :
    exec (.regionLoss region) s = .next (State.fabObjs (s.setObjBit O.CLK_LOST region true)) :=
  if_pos (by simp [he, hw])

end Region

/-! ### Pads and delay lines (R354–R357) -/

section Pads

variable {s : State}

/-- A pad as a safe state leaves it (R356). -/
def State.padSafe (s : State) (levels enables : BitVec 384) (e : Nat × Pad) : Nat × Pad :=
  if pinDrives e.2.entry = true ∧ e.2.forced = false ∧ s.padCauses e.2.entry ≠ 0 then
    let v := safeLevel (pinSafe e.2.entry) (levels.getLsbD e.1) (enables.getLsbD e.1)
    (e.1, { e.2 with level := v.1, enable := v.2, forced := true })
  else e

theorem exec_safeStateBegin (s : State) (levels enables : BitVec 384) :
    exec (.safeStateBegin levels enables) s =
      .next (State.fabObjs { s with fabric := { s.fabric with pads := s.fabric.pads.map (s.padSafe levels enables) } }) := by
  change execSafeStateBegin levels enables s = _
  simp only [execSafeStateBegin, Bool.and_eq_true, Bool.not_eq_true', bne_iff_ne, and_assoc]
  rfl

section Release

variable (pad : Fin 384) (level enable : Bool)

theorem exec_padRelease_of_free (hf : (s.pad pad).forced = true) (hc : s.padCauses (s.pad pad).entry = 0) :
    exec (.padRelease pad level enable) s = .next (State.fabObjs (s.setPad pad
      { s.pad pad with level := level, enable := pinDriven (s.pad pad).entry level enable, forced := false })) :=
  if_pos (by simp [hf, hc])

theorem exec_padRelease_of_held (h : (s.pad pad).forced = false ∨ s.padCauses (s.pad pad).entry ≠ 0) :
    exec (.padRelease pad level enable) s = .next s :=
  if_neg (by rcases h with h | h <;> simp [h])

end Release

theorem State.writeSafeForce_of_bit {v : Nat} (h : v ≤ 1) : s.writeSafeForce v = (State.fabObjs (s.setObj O.SAFE_FORCE v), eNone) :=
  if_neg (Nat.not_lt.mpr h)

theorem State.writeSafeForce_of_more {v : Nat} (h : 1 < v) : s.writeSafeForce v = (s, eRange) := if_pos h

section Delay

variable {pad : Fin 384} (up : Bool)

theorem exec_delayTapStep_of_dynamic (hd : pinDyn (s.pad pad).entry = true) (hm : pinMode (s.pad pad).entry ≠ 0) :
    exec (.delayTapStep pad up) s = .next (s.setPad pad
      { s.pad pad with tap := if up then min 511 ((s.pad pad).tap + 1) else (s.pad pad).tap - 1 }) :=
  if_pos (by simp [hd, hm])

theorem exec_delayTapStep_of_fixed (h : ¬ (pinDyn (s.pad pad).entry = true ∧ pinMode (s.pad pad).entry ≠ 0)) :
    exec (.delayTapStep pad up) s = .next s :=
  if_neg (by simpa using h)

end Delay

end Pads

/-- Settles O33: a select change goes by the region's configuration and its multiplexer, a pad by its causes. -/
theorem fabricClocksAndPadsAct : Obligations.FabricClocksAndPadsAct := by
  refine ⟨fun s region => ⟨fun sel alive => ⟨exec_regionSelectChange_of_fixed sel alive, fun he hl => ?select⟩,
    exec_regionForcedSwitch_of_settled, fun sel => exec_regionForcedSwitch_of_switching, exec_regionLoss_of_unwatched,
    exec_regionLoss_of_watched, rfl, fun khz => ⟨_, rfl, State.wrote_setObj ..⟩⟩,
    fun s => ⟨exec_safeStateBegin s, fun pad level enable => ⟨exec_padRelease_of_free pad level enable,
      exec_padRelease_of_held pad level enable⟩, fun m hs v => ⟨?force, ?range⟩,
      fun pad => ⟨fun hd => ⟨exec_delayTapStep_of_dynamic true hd.1 hd.2, exec_delayTapStep_of_dynamic false hd.1 hd.2⟩,
        fun hd up => exec_delayTapStep_of_fixed up hd⟩, fun bank fs => ⟨_, rfl, State.wrote_setObj ..⟩⟩⟩
  case select =>
    have hsettled := exec_regionSelectChange_of_settled sel alive he hl
    refine ⟨fun hw => ?_, fun hw hs => (hsettled hw).trans (if_pos hs),
      fun hw hs ha => (hsettled hw).trans ((if_neg hs).trans (if_pos ha)),
      fun hw hs ha => (hsettled hw).trans ((if_neg hs).trans (if_neg (Bool.eq_false_iff.mp ha)))⟩
    obtain ⟨b, hb⟩ := Option.ne_none_iff_exists'.mp hw
    exact exec_regionSelectChange_of_switching sel alive he hl hb
  case force => exact fun hv => State.write_accepted hs (State.writeSafeForce_of_bit hv)
  case range => exact fun hv => State.write_refused hs (State.writeSafeForce_of_more hv) (by decide)

/-! ### Cells (R346, R347) -/

section Cells

variable (f : FlopConf) (async enable d q : Bool)

/-- Set/reset goes before the clock enable (R347). -/
theorem flopNext_of_edge :
    flopNext f async true enable true d q = f.setReset ∧ flopNext f async true true false d q = d ∧
      flopNext f async true false false d q = q := by
  simp [flopNext]

/-- Between edges only an asynchronous set/reset acts (R347). -/
theorem flopNext_between_edges :
    flopNext f true false enable true d q = f.setReset ∧ flopNext f false false enable true d q = q ∧
      flopNext f async false enable false d q = q := by
  simp [flopNext]

end Cells

/-- A key that a table does not list reads its default. -/
theorem tget_of_not_listed {α : Type} (d : Nat → α) {t : Tab α} {k : Nat} (h : (t.all fun e => e.1 != k) = true) : tget d t k = d k := by
  induction t with
  | nil => rfl
  | cons e t ih =>
    simp only [List.all_cons, Bool.and_eq_true, bne_iff_ne] at h
    simp only [tget, if_neg h.1]
    exact ih h.2

theorem State.flops_of_not_clocked (s : State) {cell : Nat} (h : (s.fabric.flops.all fun e => e.1 != cell) = true) :
    s.flops cell = ((Config.fabCell s.fabric.conf cell).first.init, (Config.fabCell s.fabric.conf cell).second.init) :=
  tget_of_not_listed _ h

/-! ### Lanes (R358) -/

section Lane

variable {s : State} {lane : Fin 128} (value : BitVec 64)

/-- The state in which the fabric drives a lane's boundary. -/
def State.laneDriven (s : State) (lane v : Nat) : State := { s with fabric := { s.fabric with fin := mputNat s.fabric.fin (8 * lane) 8 v } }

/-- The state in which a lane's value is pending. -/
def State.lanePends (t : State) (lane v : Nat) : State :=
  { t with fabric := { t.fabric with pend := tput (fun _ => none) t.fabric.pend lane (some v) } }

theorem exec_finLanePost_of_off (h : s.obj O.FAB_STATE ≠ 2 ∨ s.obj O.CLOCK_WAIT = 1) : exec (.finLanePost lane value) s = .next s :=
  if_pos (by simpa using h)

theorem exec_finLanePost_of_on (hf : s.obj O.FAB_STATE = 2) (hw : s.obj O.CLOCK_WAIT ≠ 1) :
    exec (.finLanePost lane value) s =
      if (s.laneDriven lane value.toNat).lanePosted lane = true then
        .next (if (tget (fun _ => none) s.fabric.pend lane).isSome = true then
            ((s.laneDriven lane value.toNat).lanePends lane value.toNat).bump O.FIN_OVERWRITES 1
          else (s.laneDriven lane value.toNat).lanePends lane value.toNat)
      else .next (s.laneDriven lane value.toNat) :=
  if_neg (by simp [hf, hw])

end Lane

/-! ### User flash (R363) -/

section Flash

variable {s : State} {op : UserFlash} {addr : BitVec 23}

theorem exec_userFlashAccess_of_below (h : addr.toNat < 0x400000) :
    exec (.userFlashAccess op addr) s = .fault (.noSuchFlashAddress addr.toNat) :=
  if_pos h

variable (h : 0x400000 ≤ addr.toNat)

include h

theorem exec_userFlashAccess_of_busy (hb : s.obj O.FAB_STATE ≠ 2 ∨ s.fabric.flashOp ≠ none) :
    exec (.userFlashAccess op addr) s = .next s :=
  (if_neg (Nat.not_lt.mpr h)).trans (if_pos (by simpa [Option.isSome_iff_ne_none] using hb))

variable (hb : ¬ (s.obj O.FAB_STATE ≠ 2 ∨ s.fabric.flashOp ≠ none))

include hb

/-- A read starts; what would change the flash starts where FLASH_USER_WP lets it, and is turned away elsewhere. -/
theorem exec_userFlashAccess_of_free :
    exec (.userFlashAccess op addr) s =
      if op ≠ .read ∧ s.obj O.FLASH_USER_WP = 1 then
        .next (State.emit { s with fabric := { s.fabric with flashReply := some (false, 0) } } (.fabric 3 0 0))
      else .next { s with fabric := { s.fabric with flashOp := some (op, addr.toNat) } } := by
  refine (if_neg (Nat.not_lt.mpr h)).trans ((if_neg (by simpa [Option.isSome_iff_ne_none] using hb)).trans ?_)
  cases op with
  | read => rfl
  | program data => simp
  | erase => simp

end Flash

section FlashDone

variable {s : State}

/-- The state in which a user flash access has completed with the data `v`. -/
def State.flashDone (t : State) (v : Nat) : State :=
  State.emit { t with fabric := { t.fabric with flashOp := none, flashReply := some (true, v) } } (.fabric 3 1 v)

theorem exec_userFlashDone_of_none (h : s.obj O.FL_STATE = 1 ∨ s.fabric.flashOp = none) : exec .userFlashDone s = .next s := by
  change execUserFlashDone s = _
  unfold execUserFlashDone
  split
  · rfl
  next hs => simp only [h.resolve_left hs]

variable {a : Nat} (hs : s.obj O.FL_STATE ≠ 1)

include hs

theorem exec_userFlashDone_of_read (ho : s.fabric.flashOp = some (.read, a)) :
    exec .userFlashDone s = .next (s.flashDone (leNat (flashRead s.flash (a / 4 * 4) 4))) := by
  change execUserFlashDone s = _
  simp only [execUserFlashDone, hs, ho, if_false]
  rfl

theorem exec_userFlashDone_of_program {data : List Byte} (ho : s.fabric.flashOp = some (.program data, a)) :
    exec .userFlashDone s =
      .next (State.flashDone { s with flash := flashWrite s.flash (a / 256 * 256) (data.take 256) } 0) := by
  change execUserFlashDone s = _
  simp only [execUserFlashDone, hs, ho, if_false]
  rfl

theorem exec_userFlashDone_of_erase (ho : s.fabric.flashOp = some (.erase, a)) :
    exec .userFlashDone s = .next (State.flashDone { s with flash := flashErase s.flash (a / 4096 * 4096) 4096 } 0) := by
  change execUserFlashDone s = _
  simp only [execUserFlashDone, hs, ho, if_false]
  rfl

end FlashDone

/-! ### Scrub and measurements (R364, R367) -/

section Scrub

variable {s : State} (frame : BitVec 32)

theorem exec_configScrub_of_off (h : s.obj O.FAB_STATE ≠ 2) (c : WordCheck) : exec (.configScrub c frame) s = .next s := if_pos h

theorem exec_configScrub_of_on (h : s.obj O.FAB_STATE = 2) :
    exec (.configScrub .clean frame) s = .next s ∧
      exec (.configScrub .corrected frame) s = .next (s.bump O.CFG_CORRECTED 1) ∧
      exec (.configScrub .uncorrectable frame) s = .next (State.fabObjs (State.raiseFault
        { s with fabric := { s.fabric with cfgFault := true } } 0x0C FaultLoc.hub frame.toNat 0 0)) :=
  ⟨if_neg (not_not_intro h), if_neg (not_not_intro h), if_neg (not_not_intro h)⟩

end Scrub

/-- Settles O34: the fabric's events go by whether it is configured and its base clock runs, then by the lane, the access or the check. -/
theorem configuredFabricActs : Obligations.ConfiguredFabricActs := by
  refine fun s => ⟨fun f async enable d q => ?flop, fun cell edge => rfl, fun h => if_pos h, fun cell => s.flops_of_not_clocked,
    fun lane value => ⟨exec_finLanePost_of_off value, fun hf hw => ?lane⟩,
    fun addr op => ⟨exec_userFlashAccess_of_below, exec_userFlashAccess_of_busy, fun ha hb hop => ?starts, fun ha hb hop hw => ?turned⟩,
    exec_userFlashDone_of_none, fun a hs => ⟨exec_userFlashDone_of_read hs, fun data => exec_userFlashDone_of_program hs,
      exec_userFlashDone_of_erase hs⟩,
    fun frame => ⟨exec_configScrub_of_off frame, exec_configScrub_of_on frame⟩,
    fun osc khz => ⟨fun hw => if_pos hw, fun hw => ⟨_, if_neg hw, State.wrote_setObj ..⟩⟩⟩
  case flop =>
    obtain ⟨hset, htakes, hkeeps⟩ := flopNext_of_edge f async enable d q
    obtain ⟨hasync, hsync, hholds⟩ := flopNext_between_edges f async enable d q
    exact ⟨hset, htakes, hkeeps, hasync, hsync, hholds⟩
  case lane =>
    have hon := exec_finLanePost_of_on (lane := lane) value hf hw
    refine ⟨fun hp => hon.trans (if_neg (Bool.eq_false_iff.mp hp)), fun hp hn => hon.trans ((if_pos hp).trans ?_),
      fun hp hn => hon.trans ((if_pos hp).trans ?_)⟩
    · exact congrArg _ (if_neg (by simp [hn]))
    · exact congrArg _ (if_pos (Option.isSome_iff_ne_none.mpr hn))
  case starts =>
    refine (exec_userFlashAccess_of_free ha hb).trans (if_neg ?_)
    rintro ⟨hr, hw⟩
    exact hop.elim hr fun hn => hn hw
  case turned => exact (exec_userFlashAccess_of_free ha hb).trans (if_pos ⟨hop, hw⟩)

end Sys2Proof.Machine
end

section
/-!
PROOFS. The host's side (17): BAR2, DMA channels, the resets of the PCIe function, and the CAN node.
-/

namespace Sys2Proof.Machine

/-! ### BAR2 (R377, R378, R380) -/

section Bar2

variable {s : State} {off : BitVec 37}

/-- A BAR2 read is taken: the endpoint is up, its shape is legal, and its tag is free. -/
structure State.TakesRead (s : State) (o n tag : Nat) : Prop where
  up : s.endpointUp = true
  shape : busShapely o n = true
  free : tget (fun _ => none) s.host.reads tag = none

/-- The state in which a read of `n` bytes is in progress whose packets go to `dst`. -/
def State.readBegun (s : State) (o n tag : Nat) (dst : Nat × Nat × Nat) : State :=
  let r : BusRead := ⟨o, n, (busPieces (n + 1) dst.2.2 n).length, [], none⟩
  { s with host := { s.host with reads := tput (fun _ => none) s.host.reads tag (some r) } }

section Read

variable {n : Fin 4097} {tag : Fin 1024}

theorem exec_bar2Read_of_ignored
    (h : s.endpointUp = false ∨ busShapely off.toNat n = false ∨ tget (fun _ => none) s.host.reads tag ≠ none) :
    exec (.bar2Read off n tag) s = .next s := by
  refine if_pos ?_
  rcases h with h | h | h
  · simp [h]
  · simp [h]
  · simp [Option.isSome_iff_ne_none.mpr h]

variable (h : s.TakesRead off.toNat n tag)

include h

theorem exec_bar2Read_of_booting (hb : s.booted = false) :
    exec (.bar2Read off n tag) s = .next (s.emit (.completion tag (List.replicate n 0xFF))) := by
  change execBar2Read off n tag s = _
  simp only [execBar2Read, h.up, h.shape, h.free, hb, Bool.not_true, Bool.not_false, Option.isSome_none, Bool.or_self, Bool.false_eq_true,
    if_false, if_true]

variable (hb : s.booted = true)

include hb

theorem exec_bar2Read_of_waiting (hw : s.clockWait = true) :
    exec (.bar2Read off n tag) s = .next { s with host := { s.host with waitReads := s.host.waitReads ++ [.bar2 tag n] } } := by
  change execBar2Read off n tag s = _
  simp only [execBar2Read, h.up, h.shape, h.free, hb, hw, Bool.not_true, Option.isSome_none, Bool.or_self, Bool.false_eq_true,
    if_false, if_true]

variable (hw : s.clockWait = false)

include hw

theorem exec_bar2Read_of_packets {dst : Nat × Nat × Nat} (hp : s.packetPlace (busPlace false off.toNat) = some dst) :
    exec (.bar2Read off n tag) s = .next ((s.readBegun off.toNat n tag dst).busNode (.hostRead tag) off.toNat dst n []) := by
  change execBar2Read off n tag s = _
  simp only [execBar2Read, h.up, h.shape, h.free, hb, hw, hp, Bool.not_true, Option.isSome_none, Bool.or_self, Bool.false_eq_true,
    if_false]
  rfl

theorem exec_bar2Read_of_hub (hp : s.packetPlace (busPlace false off.toNat) = none) :
    exec (.bar2Read off n tag) s = .next ((s.busRead (busPlace false off.toNat) n).1.bar2Answer off.toNat n tag
      (s.busRead (busPlace false off.toNat) n).2.1 (s.busRead (busPlace false off.toNat) n).2.2) := by
  change execBar2Read off n tag s = _
  simp only [execBar2Read, h.up, h.shape, h.free, hb, hw, hp, Bool.not_true, Option.isSome_none, Bool.or_self, Bool.false_eq_true,
    if_false]

end Read

section Write

variable {data : List Byte}

theorem exec_bar2Write_of_ignored (h : s.endpointUp = false ∨ busShapely off.toNat data.length = false ∨ s.booted = false) :
    exec (.bar2Write off data) s = .next s :=
  if_pos (by rcases h with h | h | h <;> simp [h])

theorem exec_bar2Write_of_taken (hu : s.endpointUp = true) (hs : busShapely off.toNat data.length = true) (hb : s.booted = true) :
    exec (.bar2Write off data) s =
      if s.clockWait then .next (s.holdWrite (.bar2 off.toNat data)) else .next (s.bar2Write off.toNat data) :=
  if_neg (by simp [hu, hs, hb])

theorem State.bar2Write_of_packets {o : Nat} {dst : Nat × Nat × Nat} (hp : s.packetPlace (busPlace false o) = some dst) :
    s.bar2Write o data = s.busNode .hostWrite o dst data.length data := by
  simp only [State.bar2Write, hp]

theorem State.bar2Write_of_hub {o : Nat} (hp : s.packetPlace (busPlace false o) = none) :
    s.bar2Write o data =
      if (s.busWrite (busPlace false o) data).2 = stOk then (s.busWrite (busPlace false o) data).1
      else (s.busWrite (busPlace false o) data).1.bar2Error o (s.busWrite (busPlace false o) data).2 := by
  simp only [State.bar2Write, hp]

end Write

theorem State.packetPlace_node_of_bound {die lc pc : Nat} (a : Nat) (h : s.pcOf die lc = some pc) :
    s.packetPlace (.node die lc a) = some (die, pc, a) := by
  simp only [State.packetPlace, h, Option.map_some]

theorem State.packetPlace_node_of_unbound {die lc : Nat} (a : Nat) (h : s.pcOf die lc = none) : s.packetPlace (.node die lc a) = none := by
  simp only [State.packetPlace, h, Option.map_none]

section Timeouts

variable {tag : Fin 1024}

theorem exec_completionTimeout_of_none (h : tget (fun _ => none) s.host.reads tag = none) :
    exec (.completionTimeout tag) s = .next s := by
  change execCompletionTimeout tag s = _
  simp only [execCompletionTimeout, h]

theorem exec_completionTimeout_of_some {r : BusRead} (h : tget (fun _ => none) s.host.reads tag = some r) :
    exec (.completionTimeout tag) s =
      .next ((s.orphan (· == .hostRead tag)).readDone tag { r with bad := some stTimeout }) := by
  change execCompletionTimeout tag s = _
  simp only [execCompletionTimeout, h]

theorem exec_cwReadTimeout_of_none (h : s.host.waitReads = []) : exec .cwReadTimeout s = .next s := by
  change execCwReadTimeout s = _
  simp only [execCwReadTimeout, h]

/-- The state in which the oldest read held by a stopped clock has been counted. -/
def State.waitReadCounted (s : State) (rest : List WaitRead) : State :=
  State.bump { s with host := { s.host with waitReads := rest } } O.CW_READS 1

theorem exec_cwReadTimeout_of_object {k : Nat} {rest : List WaitRead} (h : s.host.waitReads = .obj k :: rest) :
    exec .cwReadTimeout s = .next ((s.waitReadCounted rest).emit (.value .pcie k (2 ^ widthOf k - 1))) := by
  change execCwReadTimeout s = _
  simp only [execCwReadTimeout, h]
  rfl

theorem exec_cwReadTimeout_of_bar2 {t n : Nat} {rest : List WaitRead} (h : s.host.waitReads = .bar2 t n :: rest) :
    exec .cwReadTimeout s = .next ((s.waitReadCounted rest).emit (.completion t (List.replicate n 0xFF))) := by
  change execCwReadTimeout s = _
  simp only [execCwReadTimeout, h]
  rfl

end Timeouts

end Bar2

/-- Settles O38: an access goes by its shape, the boot and the clock, then by whether its place is reached in packets. -/
theorem bar2AccessesComplete : Obligations.Bar2AccessesComplete := by
  refine fun s off n tag data => ⟨fun hu hs hf => ?read, exec_bar2Read_of_ignored, exec_bar2Write_of_ignored, fun hu hs hb => ?write,
    fun a die lc => ⟨rfl, fun pc => State.packetPlace_node_of_bound a,
      fun h => ⟨State.packetPlace_node_of_unbound a h, rfl, rfl⟩⟩,
    exec_completionTimeout_of_none, fun r => exec_completionTimeout_of_some, exec_cwReadTimeout_of_none, fun r rest h => ?held⟩
  case read =>
    have hr : s.TakesRead off.toNat n tag := ⟨hu, hs, hf⟩
    exact ⟨exec_bar2Read_of_booting hr, exec_bar2Read_of_waiting hr,
      fun hb hw => ⟨fun dst => exec_bar2Read_of_packets hr hb hw, exec_bar2Read_of_hub hr hb hw⟩⟩
  case write =>
    have htaken := exec_bar2Write_of_taken hu hs hb
    refine ⟨fun hw => htaken.trans (if_pos hw), fun hw => ?_⟩
    have hserved := htaken.trans (if_neg (Bool.eq_false_iff.mp hw))
    exact ⟨fun dst hp => hserved.trans (congrArg _ (State.bar2Write_of_packets hp)),
      fun hp => hserved.trans (congrArg _ (State.bar2Write_of_hub hp))⟩
  case held =>
    cases r with
    | obj k => exact exec_cwReadTimeout_of_object h
    | bar2 t n => exact exec_cwReadTimeout_of_bar2 h

/-! ### DMA channels and resets of the function (R379, R382, R385–R387, R447) -/

section Channel

variable {s : State} {ch : ChanIx}

section Doorbell

variable (p : BitVec 16)

theorem exec_dmaDoorbell_of_down (h : s.endpointUp = false) : exec (.dmaDoorbell ch p) s = .next s := if_pos (by simp [h])

variable (h : s.endpointUp = true)

include h

theorem exec_dmaDoorbell_of_stopped (he : s.engineStopped = true) : exec (.dmaDoorbell ch p) s = .next (s.holdWrite (.dma ch p.toNat)) :=
  (if_neg (by simp [h])).trans (if_pos he)

theorem exec_dmaDoorbell_of_served (hs : s.serves (bar0Key (0x2020000 + 64 * ch))) :
    exec (.dmaDoorbell ch p) s =
      .next (if (p.toNat + 65536 - s.obj (O.CONSUMER ch)) % 65536 > s.obj (O.RING_ENTRIES ch) then s.channelFails ch 2
        else s.setObj (O.PRODUCER ch) p.toNat) := by
  obtain ⟨he, hg⟩ := hs
  exact (if_neg (by simp [h])).trans ((if_neg (Bool.eq_false_iff.mp he)).trans (congrArg _ (if_neg (not_not_intro hg))))

end Doorbell

section Perst

variable (speed : BitVec 4) (width : BitVec 6)

/-- The function with PERST_N at a level. -/
def State.perst (s : State) (high : Bool) : State := { s with host := { s.host with perstHigh := high } }

theorem exec_perstN_low : exec (.perstN false speed width) s = .next ((s.functionReset.perst false).setObj O.LINK_STATUS 0) := rfl

theorem exec_perstN_high :
    exec (.perstN true speed width) s =
      if s.objBit O.PLL_STATE 3 && linkShape speed.toNat width.toNat then
        .next ((s.perst true).setObj O.LINK_STATUS (speed.toNat + 16 * width.toNat))
      else .next (s.perst true) := rfl

end Perst

section Command

/-- A channel that no descriptor is in progress on. -/
def State.dmaDropped (s : State) (c : Nat) : State :=
  { s with host := { s.host with dma := tput (fun _ => none) s.host.dma c none } }

theorem writeChCmd_run (c : Nat) (s : State) : writeChCmd c 1 s = (s.setObj (O.CH_STATE c) 1, eNone) := rfl

theorem writeChCmd_stop (c : Nat) (s : State) :
    writeChCmd c 2 s = ((s.dmaDropped c).setObjs [(O.CH_STATE c, 2), (O.STOP_RESULT c,
      if (tget (fun _ => none) s.host.dma c).isSome ∧ s.obj (O.CH_STATE c) = 1 then 1 else 2)], eNone) := by
  refine (if_neg (show ¬ (2 : Nat) = 1 by decide)).trans ((if_pos rfl).trans ?_)
  simp only [Bool.and_eq_true, beq_iff_eq]
  rfl

end Command

section Descriptor

/-- A channel that may work on a descriptor (R386). -/
abbrev State.dmaWorks (s : State) (c : Nat) : Prop :=
  s.endpointUp = true ∧ s.clockWait = false ∧ s.booted = true ∧ s.obj (O.CH_STATE c) = 1 ∧ s.obj (O.CONSUMER c) ≠ s.obj (O.PRODUCER c)

theorem State.not_dmaWorks_iff (s : State) (c : Nat) :
    (! s.endpointUp || s.clockWait || ! s.booted || decide (s.obj (O.CH_STATE c) ≠ 1)
      || decide (s.obj (O.CONSUMER c) = s.obj (O.PRODUCER c))) = true ↔ ¬ s.dmaWorks c := by
  simp only [State.dmaWorks, Bool.or_eq_true, Bool.not_eq_true', decide_eq_true_eq, not_and_or, Bool.not_eq_true, Bool.not_eq_false,
    Classical.not_not, or_assoc, ne_eq]

/-- The descriptor in progress on a channel, or else the one that it has fetched. -/
def State.dmaRun (s : State) (c desc : Nat) : DmaRun :=
  (tget (fun _ => none) s.host.dma c).getD ⟨desc, (s.obj O.ACCEPTED_0).testBit 1⟩

/-- The state in which that descriptor is in progress. -/
def State.dmaBegun (s : State) (c desc : Nat) : State :=
  { s with host := { s.host with dma := tput (fun _ => none) s.host.dma c (some (s.dmaRun c desc)) } }

variable {desc : BitVec 256} {data : List Byte} {pcieError done : Bool}

theorem exec_dmaDescriptor_of_not_works (h : ¬ s.dmaWorks ch) : exec (.dmaDescriptor ch desc data pcieError done) s = .next s :=
  if_pos ((s.not_dmaWorks_iff ch).mpr h)

variable (h : s.dmaWorks ch)

include h

theorem exec_dmaDescriptor_of_works :
    exec (.dmaDescriptor ch desc data pcieError done) s =
      (let r := s.dmaRun ch desc.toNat
       let t := s.dmaBegun ch desc.toNat
       let asleep := if dmaShapely r.desc then t.dmaAsleep r.desc else []
       if pcieError then .next (t.channelFails ch 1)
       else if ! dmaShapely r.desc then .next (if done then t.dmaCompletes ch r stUnmapped else t)
       else if asleep ≠ [] then .next (asleep.foldl (fun s c => s.setPort c 2) t)
       else if done && (dmaOut r.desc || data.length = dmaBytes r.desc) then .next (t.dmaRuns ch r data)
       else if ! dmaOut r.desc && (dmaParts r.desc).all (fun e => t.dmaStatus e.1 e.2 == stOk) then .next (t.dmaMoveIn r.desc data)
       else .next t) := by
  refine (if_neg fun hn => (s.not_dmaWorks_iff ch).mp hn h).trans ?_
  unfold State.dmaBegun State.dmaRun
  cases tget (fun _ => none) s.host.dma ch <;> rfl

theorem exec_dmaDescriptor_of_pcieError (he : pcieError = true) :
    exec (.dmaDescriptor ch desc data pcieError done) s = .next ((s.dmaBegun ch desc.toNat).channelFails ch 1) :=
  (exec_dmaDescriptor_of_works h).trans (if_pos he)

variable (he : pcieError = false)

include he

theorem exec_dmaDescriptor_of_unmapped (hs : dmaShapely (s.dmaRun ch desc.toNat).desc = false) :
    exec (.dmaDescriptor ch desc data pcieError done) s =
      .next (if done then (s.dmaBegun ch desc.toNat).dmaCompletes ch (s.dmaRun ch desc.toNat) stUnmapped else s.dmaBegun ch desc.toNat) :=
  (exec_dmaDescriptor_of_works h).trans ((if_neg (Bool.eq_false_iff.mp he)).trans (if_pos (by simp [hs])))

variable (hs : dmaShapely (s.dmaRun ch desc.toNat).desc = true)

include hs

theorem exec_dmaDescriptor_of_asleep (ha : (s.dmaBegun ch desc.toNat).dmaAsleep (s.dmaRun ch desc.toNat).desc ≠ []) :
    exec (.dmaDescriptor ch desc data pcieError done) s =
      .next (((s.dmaBegun ch desc.toNat).dmaAsleep (s.dmaRun ch desc.toNat).desc).foldl (fun u c => u.setPort c 2)
        (s.dmaBegun ch desc.toNat)) := by
  refine (exec_dmaDescriptor_of_works h).trans ((if_neg (Bool.eq_false_iff.mp he)).trans ?_)
  simp only [hs, Bool.not_true, Bool.false_eq_true, if_false, if_true, ne_eq, ha, not_false_eq_true]

variable (ha : (s.dmaBegun ch desc.toNat).dmaAsleep (s.dmaRun ch desc.toNat).desc = [])

include ha

theorem exec_dmaDescriptor_of_awake :
    exec (.dmaDescriptor ch desc data pcieError done) s =
      (let r := s.dmaRun ch desc.toNat
       let t := s.dmaBegun ch desc.toNat
       if done && (dmaOut r.desc || data.length = dmaBytes r.desc) then .next (t.dmaRuns ch r data)
       else if ! dmaOut r.desc && (dmaParts r.desc).all (fun e => t.dmaStatus e.1 e.2 == stOk) then .next (t.dmaMoveIn r.desc data)
       else .next t) := by
  refine (exec_dmaDescriptor_of_works h).trans ((if_neg (Bool.eq_false_iff.mp he)).trans ?_)
  simp only [hs, ha, Bool.not_true, Bool.false_eq_true, if_false, if_true, ne_eq, not_true_eq_false]

theorem exec_dmaDescriptor_of_done (hd : done = true)
    (hl : dmaOut (s.dmaRun ch desc.toNat).desc = true ∨ data.length = dmaBytes (s.dmaRun ch desc.toNat).desc) :
    exec (.dmaDescriptor ch desc data pcieError done) s =
      .next ((s.dmaBegun ch desc.toNat).dmaRuns ch (s.dmaRun ch desc.toNat) data) :=
  (exec_dmaDescriptor_of_awake h he hs ha).trans (if_pos (by simpa [hd] using hl))

/-- What has come of a descriptor that moves data in is written as it comes. -/
theorem exec_dmaDescriptor_of_partial
    (hn : done = false ∨ (dmaOut (s.dmaRun ch desc.toNat).desc = false ∧ data.length ≠ dmaBytes (s.dmaRun ch desc.toNat).desc)) :
    exec (.dmaDescriptor ch desc data pcieError done) s =
      .next (if dmaOut (s.dmaRun ch desc.toNat).desc = false ∧
          (∀ e ∈ dmaParts (s.dmaRun ch desc.toNat).desc, (s.dmaBegun ch desc.toNat).dmaStatus e.1 e.2 = stOk) then
        (s.dmaBegun ch desc.toNat).dmaMoveIn (s.dmaRun ch desc.toNat).desc data else s.dmaBegun ch desc.toNat) := by
  refine (exec_dmaDescriptor_of_awake h he hs ha).trans ((if_neg ?_).trans ?_)
  · rcases hn with hn | ⟨ho, hl⟩
    · simp [hn]
    · simp [ho, hl]
  · rw [apply_ite Host.Outcome.next]
    exact if_congr (by simp) rfl rfl

end Descriptor

end Channel

/-- Settles O39: a doorbell goes by the ring's room, a command by its value, a descriptor by its shape and by what it still waits for. -/
theorem endpointAndChannelsAct : Obligations.EndpointAndChannelsAct := by
  refine fun s ch => ⟨fun p => ⟨exec_dmaDoorbell_of_down p, exec_dmaDoorbell_of_stopped p, fun hu hs => ?doorbell⟩,
    (apply_ite Host.Outcome.next ..).symm, fun speed width => ⟨⟨_, exec_perstN_low speed width, State.wrote_setObj ..⟩, ?trained, ?untrained⟩,
    fun m hs => ⟨⟨_, State.write_accepted hs (writeChCmd_run ch s), State.wrote_setObj ..⟩,
      ⟨_, State.write_accepted hs (writeChCmd_stop ch s), State.wrote_setObjs _ _ ?stop⟩⟩,
    fun desc data pcieError done => ⟨exec_dmaDescriptor_of_not_works, exec_dmaDescriptor_of_pcieError, exec_dmaDescriptor_of_unmapped,
      fun h he hs => ⟨exec_dmaDescriptor_of_asleep h he hs, exec_dmaDescriptor_of_done h he hs, exec_dmaDescriptor_of_partial h he hs⟩⟩⟩
  case doorbell =>
    have hserved := exec_dmaDoorbell_of_served p hu hs
    exact ⟨fun hr => ⟨_, hserved.trans (congrArg _ (if_neg (Nat.not_lt.mpr hr))), State.wrote_setObj ..⟩,
      fun hr => hserved.trans (congrArg _ (if_pos hr))⟩
  case trained =>
    rintro ⟨hp, hl⟩
    exact ⟨_, (exec_perstN_high speed width).trans (if_pos (by simp [hp, hl])), State.wrote_setObj ..⟩
  case untrained => exact fun hn => (exec_perstN_high speed width).trans (if_neg (by simpa using hn))
  case stop => simp

end Sys2Proof.Machine
end

section
/-!
PROOFS. The CAN node (R389–R395): NMT and its own messages, SDO transfers, and the error states of the bus.
-/

namespace Sys2Proof.Machine

section Node

variable {s : State}

/-! ### NMT, heartbeat and EMCY (R391, R392, R394) -/

theorem State.sdoUp_of_not_canUp (h : s.canUp = false) : s.sdoUp = false := by simp only [State.sdoUp, h, Bool.false_and]

section Up

variable (h : s.canUp = true)

include h

theorem State.nmtMove_of_up (st : Nat) : s.nmtMove st = .next (s.setObj O.NMT_STATE st) := congrArg Host.Outcome.next (if_pos h)

theorem exec_nmtResetNode_of_up : exec .nmtResetNode s = .next (s.commReset.persistMaybe.managementReset 5) :=
  congrArg Host.Outcome.next (if_pos h)

theorem exec_nmtResetCommunication_of_up : exec .nmtResetCommunication s = .next s.commReset.bootUp := congrArg Host.Outcome.next (if_pos h)

theorem exec_heartbeat_of_time (ht : s.obj O.HEARTBEAT_TIME ≠ 0) :
    exec .heartbeat s = .next (s.canSend (0x700 + s.nodeId) [BitVec.ofNat 8 (s.obj O.NMT_STATE)]) :=
  if_pos (by simp [h, ht])

end Up

theorem exec_heartbeat_of_none (h : s.canUp = false ∨ s.obj O.HEARTBEAT_TIME = 0) : exec .heartbeat s = .next s :=
  if_neg (by rcases h with h | h <;> simp [h])

theorem exec_emcySend_of_none (h : s.sdoUp = false ∨ s.emcyQ = []) : exec .emcySend s = .next s := by
  change execEmcySend s = _
  rcases h with h | h <;> simp [execEmcySend, h]

/-- The overflow message that takes the place freed in the queue. -/
def State.overflowEmcy (s : State) : List (Nat × Nat) := match s.emcyDropped with | some r => [(0xFFFF, r)] | none => []

theorem exec_emcySend_of_queued {code record : Nat} {rest : List (Nat × Nat)} (h : s.sdoUp = true) (hq : s.emcyQ = (code, record) :: rest) :
    exec .emcySend s = .next (
      let t := State.enterError { s with
        emcyQ := rest ++ s.overflowEmcy, emcyDropped := none } code record
      if (s.obj O.COB_ID_EMCY).testBit 31 then t else
        t.canSend (s.obj O.COB_ID_EMCY % 2048) (leBytes 2 code ++ leBytes 1 s.errorRegister ++ leBytes 4 record ++ [0])) := by
  change execEmcySend s = _
  simp only [execEmcySend, h, hq, Bool.not_true, Bool.false_eq_true, if_false]
  rfl

theorem exec_nmt_of_down (h : s.canUp = false) :
    ∀ c ∈ [Instr.nmtStart, .nmtStop, .nmtEnterPreOperational, .nmtResetNode, .nmtResetCommunication, .heartbeat, .emcySend],
      exec c s = .next s := by
  have hmove (st : Nat) : s.nmtMove st = .next s := congrArg Host.Outcome.next (if_neg (Bool.eq_false_iff.mp h))
  have hreset : exec .nmtResetNode s = .next s := congrArg Host.Outcome.next (if_neg (Bool.eq_false_iff.mp h))
  have hcomm : exec .nmtResetCommunication s = .next s := congrArg Host.Outcome.next (if_neg (Bool.eq_false_iff.mp h))
  simp only [List.forall_mem_cons]
  exact ⟨hmove 5, hmove 4, hmove 0x7F, hreset, hcomm, exec_heartbeat_of_none (.inl h),
    exec_emcySend_of_none (.inl (State.sdoUp_of_not_canUp h)), List.forall_mem_nil _⟩

/-! ### SDO (R393) -/

section Sdo

variable {key : BitVec 24} {data : List Byte} {last : Bool} {proto : Fin 3}

/-- The bytes of a download to `k` that are kept so far. -/
def State.sdoKept (s : State) (k : Nat) : List Byte :=
  match s.host.sdo with | some (j, b) => if j = k then b else [] | none => []

/-- The state in which no transfer is in progress. -/
def State.sdoIdle (s : State) : State := { s with host := { s.host with sdo := none } }

theorem exec_sdo_of_down (h : s.sdoUp = false) :
    exec (.sdoDownload key data last proto) s = .next s ∧ exec (.sdoUpload key) s = .next s ∧ exec .sdoTimeout s = .next s := by
  refine ⟨if_pos (by simp [h]), if_pos (by simp [h]), ?_⟩
  change execSdoTimeout s = _
  unfold execSdoTimeout
  split
  · rfl
  · exact if_neg (Bool.eq_false_iff.mp h)

section Download

variable (h : s.sdoUp = true)

include h

theorem exec_sdoDownload_of_bad_specifier (hp : proto = 1) :
    exec (.sdoDownload key data last proto) s = .next (s.sdoAbort key.toNat 0x05040001) :=
  (if_neg (by simp [h])).trans (if_pos hp)

theorem exec_sdoDownload_of_bad_crc (hp : proto = 2) :
    exec (.sdoDownload key data last proto) s = .next (s.sdoAbort key.toNat 0x05040004) :=
  (if_neg (by simp [h])).trans ((if_neg (by simp [hp])).trans (if_pos hp))

theorem exec_sdoDownload_of_missing {c : Nat} (hp : proto = 0) (hm : sdoMissing key.toNat = some c) :
    exec (.sdoDownload key data last proto) s = .next (s.sdoAbort key.toNat c) := by
  subst hp
  change execSdoDownload key data last 0 s = _
  simp [execSdoDownload, h, hm]

theorem exec_sdoDownload_of_served (hp : proto = 0) (hm : sdoMissing key.toNat = none) :
    exec (.sdoDownload key data last proto) s =
      if last then s.sdoWrite key.toNat (s.sdoKept key.toNat ++ data)
      else .next { s with host := { s.host with sdo := some (key.toNat, s.sdoKept key.toNat ++ data) } } := by
  subst hp
  change execSdoDownload key data last 0 s = _
  simp only [execSdoDownload, h, hm, Bool.not_true, Bool.false_eq_true, if_false]
  rfl

omit h in
theorem State.sdoWrite_of_wrong_length {k : Nat} (hl : 8 * data.length ≠ widthOf k) :
    s.sdoWrite k data = .next ((s.sdoIdle.refuse .can k eSize).sdoAbort k (sdoCode eSize)) := if_pos hl

omit h in
theorem State.sdoWrite_of_length {k : Nat} (hl : 8 * data.length = widthOf k) :
    s.sdoWrite k data = .next (
      let r := s.sdoIdle.access .can k (leNat data) (writeObj .can k (leNat data))
      if r.2 = eNone then r.1.sdoSend (0x60 :: sdoMux k ++ leBytes 4 0) else r.1.sdoAbort k (sdoCode r.2)) :=
  if_neg (not_not_intro hl)

theorem exec_sdoUpload_of_missing {c : Nat} (hm : sdoMissing key.toNat = some c) :
    exec (.sdoUpload key) s = .next (s.sdoIdle.sdoAbort key.toNat c) := by
  change execSdoUpload key s = _
  simp only [execSdoUpload, h, hm, Bool.not_true, Bool.false_eq_true, if_false]
  rfl

theorem exec_sdoUpload_of_served (hm : sdoMissing key.toNat = none) (hg : s.sdoIdle.gate key.toNat false = eNone) :
    exec (.sdoUpload key) s =
      .next ((s.sdoIdle.readBy .can key.toNat).sdoReply key.toNat (leBytes (widthOf key.toNat / 8) (s.sdoIdle.readObj key.toNat))) := by
  change execSdoUpload key s = _
  simp only [execSdoUpload, h, hm, Bool.not_true, Bool.false_eq_true, if_false]
  exact if_neg (not_not_intro hg)

theorem exec_sdoUpload_of_refused (hm : sdoMissing key.toNat = none) (hg : s.sdoIdle.gate key.toNat false ≠ eNone) :
    exec (.sdoUpload key) s = .next ((s.sdoIdle.refuse .can key.toNat (s.sdoIdle.gate key.toNat false)).sdoAbort key.toNat
      (sdoCode (s.sdoIdle.gate key.toNat false))) := by
  change execSdoUpload key s = _
  simp only [execSdoUpload, h, hm, Bool.not_true, Bool.false_eq_true, if_false]
  exact if_pos hg

theorem exec_sdoTimeout_of_transfer {j : Nat} {b : List Byte} (hs : s.host.sdo = some (j, b)) :
    exec .sdoTimeout s = .next (s.sdoAbort j 0x05040000) := by
  change execSdoTimeout s = _
  simp only [execSdoTimeout, hs]
  exact if_pos h

end Download

theorem exec_sdoTimeout_of_none (hs : s.host.sdo = none) : exec .sdoTimeout s = .next s := by
  change execSdoTimeout s = _
  simp only [execSdoTimeout, hs]

end Sdo

/-! ### The error states of the bus (R389) -/

section Bus

theorem exec_canBus_of_stopped (h : s.engineStopped = true) :
    (∀ r, exec (.busOff r) s = .next s) ∧ ∀ a b, exec (.canErrorPassive a b) s = .next s :=
  ⟨fun _ => if_pos h, fun _ _ => if_pos h⟩

/-- What a controller that goes bus-off shows, with the transmit count that is left open. -/
def State.busOffObjs (s : State) (tec : Nat) : List (Nat × Nat) :=
  [(O.BUS_OFFS, satAdd (widthOf O.BUS_OFFS) (s.obj O.BUS_OFFS) 1), (O.ERROR_REGISTER, setBit (s.obj O.ERROR_REGISTER) 4 true),
    (O.ERR_COUNTERS, s.obj O.ERR_COUNTERS / 256 * 256 + tec)]

/-- The controller off the bus, with a free value drawn. -/
def State.offBus (s : State) : State := { s with host := { s.host with busOff := true }, fresh := s.fresh + 1 }

section Running

variable (h : s.engineStopped = false)

include h

theorem exec_busOff_recovers (hb : s.host.busOff = true) :
    exec (.busOff true) s = .next (State.setObj { s with host := { s.host with busOff := false } } O.ERR_COUNTERS 0) :=
  (if_neg (Bool.eq_false_iff.mp h)).trans (congrArg Host.Outcome.next (if_pos hb))

theorem exec_busOff_on_bus (hb : s.host.busOff = false) : exec (.busOff true) s = .next s :=
  (if_neg (Bool.eq_false_iff.mp h)).trans (congrArg Host.Outcome.next (if_neg (Bool.eq_false_iff.mp hb)))

theorem exec_busOff_again (hb : s.host.busOff = true) : exec (.busOff false) s = .next s :=
  (if_neg (Bool.eq_false_iff.mp h)).trans (if_pos hb)

theorem exec_busOff_of_error (hb : s.host.busOff = false) :
    exec (.busOff false) s = .next (s.offBus.setObjs (s.busOffObjs (Config.freeNat s.fresh % 256))) := by
  have hreg (u : State) : (u.bump O.BUS_OFFS 1).setObjBit O.ERROR_REGISTER 4 true =
      (u.bump O.BUS_OFFS 1).setObj O.ERROR_REGISTER (setBit (u.obj O.ERROR_REGISTER) 4 true) := by
    rw [State.setObjBit, State.obj_bump_other _ _ (by decide)]
  have hcount (u : State) (v : Nat) : ((u.bump O.BUS_OFFS 1).setObj O.ERROR_REGISTER v).obj O.ERR_COUNTERS = u.obj O.ERR_COUNTERS := by
    rw [State.obj_setObj_other _ _ (by decide), State.obj_bump_other _ _ (by decide)]
  refine (if_neg (Bool.eq_false_iff.mp h)).trans ((if_neg Bool.false_ne_true).trans ((if_neg (Bool.eq_false_iff.mp hb)).trans ?_))
  simp only [hreg, hcount]
  rfl

theorem exec_canErrorPassive_of_running (tec rec_ : BitVec 8) :
    exec (.canErrorPassive tec rec_) s = .next (s.setObjs ((O.ERR_COUNTERS, tec.toNat + 256 * rec_.toNat) ::
      if 127 < tec.toNat ∨ 127 < rec_.toNat then [(O.ERROR_REGISTER, setBit (s.obj O.ERROR_REGISTER) 4 true)] else [])) := by
  have hreg (v : Nat) : (s.setObj O.ERR_COUNTERS v).setObjBit O.ERROR_REGISTER 4 true =
      (s.setObj O.ERR_COUNTERS v).setObj O.ERROR_REGISTER (setBit (s.obj O.ERROR_REGISTER) 4 true) := by
    rw [State.setObjBit, State.obj_setObj_other _ _ (by decide)]
  refine (if_neg (Bool.eq_false_iff.mp h)).trans (congrArg Host.Outcome.next ?_)
  simp only [hreg, Bool.or_eq_true, decide_eq_true_eq]
  split <;> rfl

end Running

end Bus

end Node

/-- Settles O40: a message goes by whether the node is up, a transfer by its first fault and its last part, the bus by its error state. -/
theorem canNodeActs : Obligations.CanNodeActs := by
  refine ⟨fun s => ⟨fun h => ⟨⟨_, State.nmtMove_of_up h _, State.wrote_setObj ..⟩, ⟨_, State.nmtMove_of_up h _, State.wrote_setObj ..⟩,
      ⟨_, State.nmtMove_of_up h _, State.wrote_setObj ..⟩, exec_nmtResetNode_of_up h, exec_nmtResetCommunication_of_up h,
      exec_heartbeat_of_time h, fun ht => exec_heartbeat_of_none (.inr ht)⟩, exec_nmt_of_down, exec_emcySend_of_none,
      fun code record rest => exec_emcySend_of_queued⟩,
    fun s key data last proto => ⟨exec_sdo_of_down, fun h => ⟨exec_sdoDownload_of_bad_specifier h, exec_sdoDownload_of_bad_crc h,
      fun c => exec_sdoDownload_of_missing h, fun hp hm hl => ?part, ⟨fun hp hm hl hw => ?wrongLength, fun hp hm hl hw => ?whole,
        fun c => exec_sdoUpload_of_missing h, exec_sdoUpload_of_served h, exec_sdoUpload_of_refused h⟩,
      exec_sdoTimeout_of_none, fun j b => exec_sdoTimeout_of_transfer h⟩, exec_canBus_of_stopped, fun h => ⟨fun hb => ?off, fun hb => ?on,
      fun tec rec_ => ?passive⟩⟩⟩
  case part => exact (exec_sdoDownload_of_served h hp hm).trans (if_neg (Bool.eq_false_iff.mp hl))
  case wrongLength => exact (exec_sdoDownload_of_served h hp hm).trans ((if_pos hl).trans (State.sdoWrite_of_wrong_length hw))
  case whole => exact (exec_sdoDownload_of_served h hp hm).trans ((if_pos hl).trans (State.sdoWrite_of_length hw))
  case off => exact ⟨exec_busOff_again h hb, _, exec_busOff_recovers h hb, State.wrote_setObj ..⟩
  case on =>
    have hkeys : [O.BUS_OFFS, O.ERROR_REGISTER, O.ERR_COUNTERS].Nodup := by decide
    exact ⟨exec_busOff_on_bus h hb, _, _, Nat.mod_lt _ (by decide), exec_busOff_of_error h hb, State.wrote_setObjs _ _ hkeys⟩
  case passive =>
    refine ⟨_, exec_canErrorPassive_of_running h tec rec_, State.wrote_setObjs _ _ ?_⟩
    have hkeys : [O.ERR_COUNTERS, O.ERROR_REGISTER].Nodup := by decide
    split
    · exact hkeys
    · exact List.nodup_singleton _

end Sys2Proof.Machine
end

section
/-!
PROOFS. Faults and failed clusters as a master handles them, and the end of a remap (R405–R415, R499, R500).
-/

namespace Sys2Proof.Machine

section Records

variable {s : State} {v : Nat}

/-! ### FAULT_SEL and FAULT_ACK (R414, R415) -/

theorem writeFaultSel_of_none (h0 : v = 0) (ht : s.obj O.FAULT_TOTAL = 0) :
    writeFaultSel v s = (s.setObjs [(O.FAULT_SEL, 0), (O.FAULT_LATCHED, 0)], eNone) := if_pos (by simp [h0, ht])

theorem writeFaultSel_of_record {r : FaultRec} (hn : ¬ (v = 0 ∧ s.obj O.FAULT_TOTAL = 0))
    (hr : s.faults.ring.find? (fun r => r.number == v) = some r) (hlo : s.obj O.FAULT_OLDEST ≤ v) (hhi : v ≤ s.obj O.FAULT_TOTAL) :
    writeFaultSel v s =
      (State.setObjs { s with faults := { s.faults with latch := r } } [(O.FAULT_SEL, v), (O.FAULT_LATCHED, v)], eNone) := by
  rw [writeFaultSel, if_neg (by simpa using hn), hr]
  exact if_neg (by simp [hlo, hhi])

theorem writeFaultSel_of_missing (hn : ¬ (v = 0 ∧ s.obj O.FAULT_TOTAL = 0))
    (hm : s.faults.ring.find? (fun r => r.number == v) = none ∨ v < s.obj O.FAULT_OLDEST ∨ s.obj O.FAULT_TOTAL < v) :
    writeFaultSel v s = (s, eRange) := by
  rw [writeFaultSel, if_neg (by simpa using hn)]
  cases hr : s.faults.ring.find? (fun r => r.number == v) with
  | none => rfl
  | some r => exact if_pos (by simpa [hr] using hm)

theorem writeFaultAck_of_beyond (h : s.obj O.FAULT_TOTAL < v) : writeFaultAck v s = (s, eRange) := if_pos h

theorem writeFaultAck_of_acked (h : v ≤ s.obj O.FAULT_TOTAL) (ha : v ≤ s.obj O.FAULT_ACKED) : writeFaultAck v s = (s, eNone) :=
  (if_neg (Nat.not_lt.mpr h)).trans (if_pos ha)

theorem writeFaultAck_of_new (h : v ≤ s.obj O.FAULT_TOTAL) (ha : s.obj O.FAULT_ACKED < v) :
    writeFaultAck v s = (s.errorSettles (s.setObj O.FAULT_ACKED v), eNone) :=
  (if_neg (Nat.not_lt.mpr h)).trans (if_neg (Nat.not_le.mpr ha))

/-! ### FAIL_SET and FAIL_CLEAR (R405, R407, R408) -/

/-- The modes in which a master may mark a cluster (R407): STANDBY and a held module. -/
theorem State.mayMark_iff : (s.mode == mStandby || s.held) = true ↔ s.mode = mStandby ∨ s.held = true := by
  simp only [Bool.or_eq_true, beq_iff_eq]

theorem writeFailSet_of_bad_selector (h : selectorOk v = false) : writeFailSet v s = (s, eRange) := if_pos (by simp [h])

theorem writeFailClear_of_bad_selector (h : selectorOk v = false) : writeFailClear v s = (s, eRange) := if_pos (by simp [h])

section Selector

variable (h : selectorOk v = true)

include h

theorem writeFailSet_of_mode (hm : ¬ (s.mode = mStandby ∨ s.held = true)) : writeFailSet v s = (s, eMode) := by
  rw [← State.mayMark_iff, Bool.not_eq_true] at hm
  exact (if_neg (by simp [h])).trans (if_pos (by simp only [hm, Bool.not_false]))

theorem writeFailClear_of_mode (hm : ¬ (s.mode = mStandby ∨ s.held = true)) : writeFailClear v s = (s, eMode) := by
  rw [← State.mayMark_iff, Bool.not_eq_true] at hm
  exact (if_neg (by simp [h])).trans (if_pos (by simp only [hm, Bool.not_false]))

variable (hm : s.mode = mStandby ∨ s.held = true)

include hm

theorem writeFailSet_of_marked (hk : (s.cl (selectorCid v)).mark ≠ 0) : writeFailSet v s = (s, eNone) := by
  rw [← State.mayMark_iff] at hm
  exact ((if_neg (by simp [h])).trans (if_neg (by simp only [hm, Bool.not_true, Bool.false_eq_true, not_false_eq_true]))).trans
    (if_pos hk)

theorem writeFailSet_of_unmarked (hk : (s.cl (selectorCid v)).mark = 0) :
    writeFailSet v s =
      (if (s.markFailed (selectorCid v) 6).lcOf (selectorCid v) = none
        then (s.markFailed (selectorCid v) 6).isolate (selectorCid v) else s.markFailed (selectorCid v) 6, eNone) := by
  rw [← State.mayMark_iff] at hm
  refine (((if_neg (by simp [h])).trans
    (if_neg (by simp only [hm, Bool.not_true, Bool.false_eq_true, not_false_eq_true]))).trans (if_neg (not_not_intro hk))).trans ?_
  simp only [Option.isNone_iff_eq_none]

theorem writeFailClear_of_mayMark :
    writeFailClear v s = (s.setCl (selectorCid v) { s.cl (selectorCid v) with mark := 0 }, eNone) := by
  rw [← State.mayMark_iff] at hm
  exact (if_neg (by simp [h])).trans (if_neg (by simp only [hm, Bool.not_true, Bool.false_eq_true, not_false_eq_true]))

end Selector

theorem State.markFailed_mark (s : State) (cid cause : Nat) (h : (s.cl cid).mark = 0) :
    ((s.markFailed cid cause).cl cid).mark = cause := by
  rw [show s.markFailed cid cause = s.setCl cid { s.cl cid with mark := cause } from if_pos h, State.cl_setCl_same]

/-! ### REMAP_LC (R499) -/

/-- A REMAP_LC value names a bound logical cluster whose physical cluster is marked. -/
def State.namesMarked (s : State) (v : Nat) : Prop :=
  v < 1024 ∧ field v 6 2 = 0 ∧ bindingOf s.bound (field v 8 2) (field v 0 6) ≠ 0xFF ∧
    (s.cl (cidOf (field v 8 2) (bindingOf s.bound (field v 8 2) (field v 0 6)))).mark ≠ 0

/-- `s` with logical cluster `x` in the list of those to be remapped, once. -/
def State.queueRemap (s : State) (x : Nat) : State :=
  { s with faults := { s.faults with failed := if s.faults.failed.contains x then s.faults.failed else s.faults.failed ++ [x] } }

theorem writeRemapLc_of_not_held (h : s.held = false) : writeRemapLc v s = (s, eMode) := if_pos (by simp [h])

theorem State.not_namesMarked_iff : (v ≥ 1024 || field v 6 2 ≠ 0 || bindingOf s.bound (field v 8 2) (field v 0 6) = 0xFF ||
    (s.cl (cidOf (field v 8 2) (bindingOf s.bound (field v 8 2) (field v 0 6)))).mark = 0) = true ↔ ¬ s.namesMarked v := by
  simp only [State.namesMarked, Bool.or_eq_true, decide_eq_true_eq, not_and_or, not_not, ne_eq, not_lt, or_assoc]

theorem writeRemapLc_of_unnamed (h : s.held = true) (hn : ¬ s.namesMarked v) : writeRemapLc v s = (s, eRange) :=
  (if_neg (by simp [h])).trans (if_pos (State.not_namesMarked_iff.mpr hn))

theorem writeRemapLc_of_named (h : s.held = true) (hn : s.namesMarked v) :
    writeRemapLc v s = (if s.recovering then s.queueRemap (64 * field v 8 2 + field v 0 6)
      else (s.queueRemap (64 * field v 8 2 + field v 0 6)).setObj O.RECOVERY_STATE 2, eNone) :=
  (if_neg (by simp [h])).trans (if_neg fun hc => State.not_namesMarked_iff.mp hc hn)

/-! ### The end of a remap (R172, R500) -/

/-- A remap or a rewrite is at work: the recovery is in REMAPPING on a running clock, with no abandon under way. -/
def State.remaps (s : State) : Prop := s.obj O.RECOVERY_STATE = 2 ∧ s.clockWait = false ∧ s.run.abandon = none

theorem State.not_remaps_iff : (s.obj O.RECOVERY_STATE ≠ 2 || s.clockWait || s.run.abandon.isSome) = true ↔ ¬ s.remaps := by
  simp only [State.remaps, Bool.or_eq_true, decide_eq_true_eq, not_and_or, Bool.not_eq_false, ne_eq, ← Option.isSome_iff_ne_none,
    or_assoc]

theorem exec_remapDone_of_idle (h : ¬ s.remaps) : exec .remapDone s = .next s := if_pos (State.not_remaps_iff.mpr h)

section Works

variable (h : s.remaps)

include h

theorem exec_remapDone_of_nothing (hf : s.faults.failed = []) (hr : s.faults.rewrites = []) :
    exec .remapDone s = .next s.afterRemap := by
  refine (if_neg fun hc => State.not_remaps_iff.mp hc h).trans ?_
  simp only [hf, hr]

theorem exec_remapDone_of_failed {x : Nat} {rest : List Nat} (hf : s.faults.failed = x :: rest) :
    exec .remapDone s = if s.noCopy then .next (s.recoveryFails 7) else
      .next (State.afterRemap (State.remapOne { s with faults := { s.faults with failed := rest } } (x / 64) (x % 64))) := by
  refine (if_neg fun hc => State.not_remaps_iff.mp hc h).trans ?_
  simp only [hf]

theorem exec_remapDone_of_rewrite {d : Nat} {rest : List Nat} (hf : s.faults.failed = []) (hr : s.faults.rewrites = d :: rest) :
    exec .remapDone s = if s.noCopy then .next (s.recoveryFails 7) else
      .next (State.afterRemap (State.rewriteDie { s with faults := { s.faults with rewrites := rest } } d)) := by
  refine (if_neg fun hc => State.not_remaps_iff.mp hc h).trans ?_
  simp only [hf, hr]

theorem exec_remapDone_of_noCopy (hl : s.faults.failed ≠ [] ∨ s.faults.rewrites ≠ []) (hc : s.noCopy = true) :
    exec .remapDone s = .next (s.recoveryFails 7) := by
  cases hf : s.faults.failed with
  | cons x rest => exact (exec_remapDone_of_failed h hf).trans (if_pos hc)
  | nil =>
    cases hr : s.faults.rewrites with
    | cons d rest => exact (exec_remapDone_of_rewrite h hf hr).trans (if_pos hc)
    | nil => exact (hl.elim (absurd hf) (absurd hr))

end Works

end Records

/-- Settles O41: what each object does with its value, case by case, and what REMAP_DONE does with the list it meets. -/
theorem faultsAreHandled : Obligations.FaultsAreHandled := by
  unfold Obligations.FaultsAreHandled
  intro s m
  refine ⟨fun hs v => ⟨fun r hn hr hlo hhi => ?_, fun h0 ht => ?_, fun hn hm => ?_⟩,
    fun hs v => ⟨fun hb => ?_, fun ht ha => ?_, fun ht ha => ?_⟩,
    fun hs v => ⟨fun h => ?_, fun h hm => ?_, fun h hm hk => ?_, fun h hm hk => ⟨?_, ?_⟩⟩,
    fun hs v => ⟨fun h => ?_, fun h hm => ?_, fun h hm => ?_⟩,
    fun hs v => ⟨fun h => ?_, fun h hn => ?_, fun h hn => ?_⟩,
    exec_remapDone_of_idle, exec_remapDone_of_nothing, exec_remapDone_of_noCopy, fun x rest hw hf hc => ?_,
    fun d rest hw hf hr hc => ?_⟩
  · have hkeys : [O.FAULT_SEL, O.FAULT_LATCHED].Nodup := by decide
    exact ⟨_, State.write_accepted hs (writeFaultSel_of_record hn hr hlo hhi), State.wrote_setObjs _ _ hkeys⟩
  · have hkeys : [O.FAULT_SEL, O.FAULT_LATCHED].Nodup := by decide
    exact ⟨_, State.write_accepted hs (writeFaultSel_of_none h0 ht), State.wrote_setObjs _ _ hkeys⟩
  · exact State.write_refused hs (writeFaultSel_of_missing hn hm) (by decide)
  · exact State.write_refused hs (writeFaultAck_of_beyond hb) (by decide)
  · exact State.write_accepted hs (writeFaultAck_of_acked ht ha)
  · exact (State.write_accepted hs (writeFaultAck_of_new ht ha)).trans (congrArg Host.Outcome.next (State.errorSettles_eq _ _))
  · exact State.write_refused hs (writeFailSet_of_bad_selector h) (by decide)
  · exact State.write_refused hs (writeFailSet_of_mode h hm) (by decide)
  · exact State.write_accepted hs (writeFailSet_of_marked h hm hk)
  · exact State.markFailed_mark s _ _ hk
  · exact State.write_accepted hs (writeFailSet_of_unmarked h hm hk)
  · exact State.write_refused hs (writeFailClear_of_bad_selector h) (by decide)
  · exact State.write_refused hs (writeFailClear_of_mode h hm) (by decide)
  · exact State.write_accepted hs (writeFailClear_of_mayMark h hm)
  · exact State.write_refused hs (writeRemapLc_of_not_held h) (by decide)
  · exact State.write_refused hs (writeRemapLc_of_unnamed h hn) (by decide)
  · exact State.write_accepted hs (writeRemapLc_of_named h hn)
  · exact (exec_remapDone_of_failed hw hf).trans (if_neg (Bool.eq_false_iff.mp hc))
  · exact (exec_remapDone_of_rewrite hw hf hr).trans (if_neg (Bool.eq_false_iff.mp hc))

end Sys2Proof.Machine
end

section
/-!
PROOFS. Resets (R439–R443) and the steps of boot (R448, R450, R484, R486, R487).
-/

namespace Sys2Proof.Machine

/-! ### MODULE_RESET_N (R439) -/

section ModuleResetN

variable {s : State} {ns : BitVec 32}

/-- What a taken pulse of MODULE_RESET_N does: a warm reset with source 1, the level of the pin apart. -/
def State.resetTaken (s : State) : State := s.draw.persistMaybe.warmReset 1 true

/-- `s` with the level of MODULE_RESET_N as the hub last saw it. -/
def State.resetLevel (s : State) (high : Bool) : State := { s with host := { s.host with resetHigh := high } }

/-- The hub takes a pulse that has been low for `ns`. -/
def State.takesReset (s : State) (low : Bool) (ns : Nat) : Bool :=
  s.host.resetHigh && (ns ≥ 1000 || (100 ≤ ns && ! low && Config.freeBit s.fresh))

theorem exec_moduleResetN_of_taken {low : Bool} (h : s.takesReset low ns.toNat = true) :
    exec (.moduleResetN low ns) s = .next (s.resetTaken.resetLevel (! low)) := by
  change execModuleResetN low ns s = _
  unfold State.takesReset at h
  simp only [execModuleResetN, h, if_true, Bool.not_true, Bool.and_false, Bool.false_eq_true, if_false]
  rfl

theorem exec_moduleResetN_low_of_not_taken (h : s.takesReset true ns.toNat = false) :
    exec (.moduleResetN true ns) s = .next s.draw := by
  change execModuleResetN true ns s = _
  unfold State.takesReset at h
  simp only [execModuleResetN, h, Bool.not_false, Bool.and_self, if_true, Bool.false_eq_true, if_false]

theorem exec_moduleResetN_high_of_not_taken (h : s.takesReset false ns.toNat = false) :
    exec (.moduleResetN false ns) s = .next (s.draw.resetLevel true) := by
  change execModuleResetN false ns s = _
  unfold State.takesReset at h
  simp only [execModuleResetN, h, Bool.false_and, Bool.false_eq_true, if_false]
  rfl

theorem State.takesReset_of_long (h : s.host.resetHigh = true) (hn : 1000 ≤ ns.toNat) (low : Bool) : s.takesReset low ns.toNat = true := by
  simp [State.takesReset, h, hn]

theorem State.takesReset_low_of_short (h : s.host.resetHigh = false ∨ ns.toNat < 1000) : s.takesReset true ns.toNat = false := by
  rcases h with h | h
  · simp only [State.takesReset, h, Bool.false_and]
  · simp [State.takesReset, h]

theorem State.takesReset_high_of_short (h : s.host.resetHigh = false ∨ ns.toNat < 100) : s.takesReset false ns.toNat = false := by
  rcases h with h | h
  · simp only [State.takesReset, h, Bool.false_and]
  · have h' : ns.toNat < 1000 := by omega
    simp [State.takesReset, h, h']

/-- Between 100 ns and 1 µs the spec leaves open whether the pulse is taken. -/
theorem State.takesReset_high_between (h : s.host.resetHigh = true) (hlo : 100 ≤ ns.toNat) (hhi : ns.toNat < 1000) :
    s.takesReset false ns.toNat = Config.freeBit s.fresh := by
  simp [State.takesReset, h, hlo, Nat.not_le.mpr hhi]

end ModuleResetN

/-! ### Each step of boot, from its own BOOT_STATE (R448) -/

section Boot

variable {s : State}

theorem exec_managementWatchdog_of_running (he : s.engineStopped = false) (hb : 4 ≤ s.obj O.BOOT_STATE) :
    exec .managementWatchdog s = .next (s.managementReset 6) := if_neg (by simp [he, hb])

theorem exec_managementWatchdog_of_not_running (h : s.engineStopped = true ∨ s.obj O.BOOT_STATE < 4) :
    exec .managementWatchdog s = .next s := if_pos (by simpa using h)

theorem exec_auxStartDone_of_aux (hb : s.obj O.BOOT_STATE = 0) (hk : s.booting = 0) :
    exec .auxStartDone s = .next (s.setObj O.BOOT_STATE 1) := if_pos (by simp [hb, hk])

theorem exec_auxStartDone_of_not_aux (h : s.obj O.BOOT_STATE ≠ 0 ∨ s.booting ≠ 0) : exec .auxStartDone s = .next s :=
  if_neg (by rw [Bool.and_eq_true, decide_eq_true_eq, decide_eq_true_eq, not_and_or]; exact h)

/-- CLOCKS may end: the reference and the root PLL are good and no clock is waited for. -/
def State.clocksReady (s : State) : Prop :=
  s.obj O.BOOT_STATE = 1 ∧ s.clockWait = false ∧ s.obj O.REF_STATE % 2 = 1 ∧ s.obj O.PLL_STATE % 2 = 1

theorem State.clocksReady_iff : (s.obj O.BOOT_STATE = 1 && ! s.clockWait && s.obj O.REF_STATE % 2 = 1 && s.obj O.PLL_STATE % 2 = 1) = true ↔
    s.clocksReady := by
  simp only [State.clocksReady, Bool.and_eq_true, decide_eq_true_eq, Bool.not_eq_true', and_assoc]

theorem exec_clocksDone_of_ready (h : s.clocksReady) :
    exec .clocksDone s = .next (State.setObj { s with tb := { s.tb with running := true } } O.BOOT_STATE 2) :=
  if_pos (State.clocksReady_iff.mpr h)

theorem exec_clocksDone_of_not_ready (h : ¬ s.clocksReady) : exec .clocksDone s = .next s :=
  if_neg fun hc => h (State.clocksReady_iff.mp hc)

section HubStart

variable {moduleId : BitVec 10} {mgmtId : BitVec 7}

theorem exec_hubStart_of_up (hb : s.obj O.BOOT_STATE = 2) (hu : s.host.up = true) :
    exec (.hubStart moduleId mgmtId) s = .next (s.setObj O.BOOT_STATE 3).serveTap := if_pos (by simp [hb, hu])

theorem exec_hubStart_of_straps (hb : s.obj O.BOOT_STATE = 2) (hu : s.host.up = false) (hr : s.host.resetHigh = true) :
    exec (.hubStart moduleId mgmtId) s =
      .next (State.setObjs { s with host := { s.host with mgmtStrap := mgmtId.toNat, bootAt := s.nowNs } }
        [(O.MODULE_ID, moduleId.toNat), (O.BOOT_STATE, 3)]).nodeObjs.serveTap :=
  (if_neg (by simp [hu])).trans (if_pos (by simp [hb, hr]))

theorem exec_hubStart_of_not_ready (h : s.obj O.BOOT_STATE ≠ 2 ∨ (s.host.up = false ∧ s.host.resetHigh = false)) :
    exec (.hubStart moduleId mgmtId) s = .next s := by
  rcases h with h | ⟨hu, hr⟩
  · exact (if_neg (by simp [h])).trans (if_neg (by simp [h]))
  · exact (if_neg (by simp [hu])).trans (if_neg (by simp [hr]))

end HubStart

/-- RETURN after its warm reset (R486, step 5): the erasure repeated, RETURN fused, the transactor SRAM cleared. -/
def State.returnCompleted (s : State) : State :=
  { s.returnErase.returnFuse with hub := { s.returnErase.returnFuse.hub with sramOpen := [] } }

section Rom

variable {a b : Option (BitVec 16)}

theorem exec_romDone_of_not_due (h : s.obj O.BOOT_STATE ≠ 3 ∨ s.engineStopped = true) : exec (.romDone a b) s = .next s :=
  if_pos (by simpa using h)

section Due

variable (hb : s.obj O.BOOT_STATE = 3) (he : s.engineStopped = false)

include hb he

theorem exec_romDone_of_scrapped (hl : s.obj O.LC_STATE = 5) : exec (.romDone a b) s = .next (s.setObj O.BOOT_STATE 7) :=
  (if_neg (by simp [hb, he])).trans (if_pos hl)

variable (hl : s.obj O.LC_STATE ≠ 5)

include hl

theorem exec_romDone_of_interrupted_return (hp : s.keys.returnPending = true) (hz : s.hbm.zeroing = false) :
    exec (.romDone a b) s = .next s.returnErase.returnReset :=
  ((if_neg (by simp [hb, he])).trans (if_neg hl)).trans (if_pos (by simp [hp, hz]))

theorem exec_romDone_of_zeroed_return (hp : s.keys.returnPending = true) (hz : s.hbm.zeroing = true) :
    exec (.romDone a b) s = .next (s.returnCompleted.romStarts (s.returnCompleted.copyGood a) (s.returnCompleted.copyGood b)) := by
  refine (((if_neg (by simp [hb, he])).trans (if_neg hl)).trans (if_neg (by simp [hz]))).trans ?_
  rw [if_pos hp]
  rfl

theorem exec_romDone_of_no_return (hp : s.keys.returnPending = false) :
    exec (.romDone a b) s = .next (s.romStarts (s.copyGood a) (s.copyGood b)) := by
  refine (((if_neg (by simp [hb, he])).trans (if_neg hl)).trans (if_neg (by simp [hp]))).trans ?_
  rw [if_neg (Bool.eq_false_iff.mp hp)]

end Due

end Rom

@[simp] theorem State.raise_host (s : State) (k v : Nat) : (s.raise k v).host = s.host :=
  (apply_ite State.host ..).trans (ite_self _)

theorem exec_firmwareDone_of_not_due {version : BitVec 32} {svn : Option (BitVec 16)}
    (h : s.obj O.BOOT_STATE ≠ 4 ∨ s.engineStopped = true) : exec (.firmwareDone version svn) s = .next s := if_pos (by simpa using h)

theorem exec_firmwareDone_of_due {version : BitVec 32} {svn : Option (BitVec 16)} (hb : s.obj O.BOOT_STATE = 4)
    (he : s.engineStopped = false) :
    exec (.firmwareDone version svn) s = .next ((if s.host.up
      then (s.setObj O.FW_VERSION version.toNat).raise O.FW_SVN_MIN ((svn.map BitVec.toNat).getD 0)
      else ((s.setObj O.FW_VERSION version.toNat).raise O.FW_SVN_MIN ((svn.map BitVec.toNat).getD 0)).restorePersist).setObj
        O.BOOT_STATE 5) := by
  have hu (v : Nat) : ((s.setObj O.FW_VERSION version.toNat).raise O.FW_SVN_MIN v).host.up = s.host.up :=
    congrArg HostIf.up (State.raise_host ..)
  refine (if_neg (by simp [hb, he])).trans ?_
  cases svn with
  | none => simp only [Option.map_none, Option.getD_none, hu]
  | some v => simp only [Option.map_some, Option.getD_some, hu]

/-! ### The end of boot (R441, R448, R452) -/

/-- BOOT_TIME in µs, as the end of boot shows it (R448). -/
def State.bootTime (s : State) : Nat := (s.nowNs + 2 ^ 64 - s.host.bootAt) % 2 ^ 64 / 1000 % 2 ^ 32

/-- The module has booted in `time` µs: it is up, shows the time and STANDBY, and sends its boot-up message. -/
def State.bootEnds (t : State) (time : Nat) : State :=
  (State.setObjs { t with host := { t.host with up := true } } [(O.BOOT_TIME, time), (O.BOOT_STATE, 6)]).bootUp

theorem exec_hbmDone_of_not_due {trained : Bool} (h : s.obj O.BOOT_STATE ≠ 5 ∨ s.engineStopped = true) :
    exec (.hbmDone trained) s = .next s := if_pos (by simpa using h)

section Due

variable (hb : s.obj O.BOOT_STATE = 5) (he : s.engineStopped = false)

include hb he

theorem exec_hbmDone_of_untrained : exec (.hbmDone false) s = .next (s.setObjs [(O.BOOT_STATE, 7), (O.BOOT_ERROR, 3)]) :=
  (if_neg (by simp [hb, he])).trans (if_pos rfl)

theorem exec_hbmDone_of_up (hu : s.host.up = true) : exec (.hbmDone true) s = .next (s.bootEnds s.bootTime) := by
  refine ((if_neg (by simp [hb, he])).trans (if_neg (by decide))).trans ?_
  rw [if_pos hu]
  rfl

theorem exec_hbmDone_of_zeroing (hu : s.host.up = false) (hz : s.hbm.zeroing = true) :
    exec (.hbmDone true) s = .next (State.bootEnds { s with hbm := { s.hbm with
      mem := [], bad := [], open_ := [], zeroing := false, selfRefresh := true } } s.bootTime) := by
  refine ((if_neg (by simp [hb, he])).trans (if_neg (by decide))).trans ?_
  rw [if_neg (Bool.eq_false_iff.mp hu), if_pos hz]
  rfl

theorem exec_hbmDone_of_kept (hu : s.host.up = false) (hz : s.hbm.zeroing = false) :
    exec (.hbmDone true) s = .next (State.bootEnds { s with hbm := { s.hbm with selfRefresh := true } } s.bootTime) := by
  refine ((if_neg (by simp [hb, he])).trans (if_neg (by decide))).trans ?_
  rw [if_neg (Bool.eq_false_iff.mp hu), if_neg (Bool.eq_false_iff.mp hz)]
  rfl

end Due

end Boot

/-- Settles O49: each reset command's rule; a pulse between 100 ns and 1 µs is taken as the free bit says. -/
theorem resetsTakeEffect : Obligations.ResetsTakeEffect := by
  unfold Obligations.ResetsTakeEffect
  intro s
  refine ⟨rfl, fun m hs => ⟨State.write_accepted hs rfl, State.write_accepted hs rfl⟩, exec_managementWatchdog_of_running,
    exec_managementWatchdog_of_not_running, fun die => (apply_ite Host.Outcome.next _ _ _).symm,
    fun ns => ⟨fun h hn => ⟨?_, ?_⟩, fun h => ?_, fun h => ?_, fun h hlo hhi => ⟨Config.freeBit s.fresh, ?_⟩⟩⟩
  · exact exec_moduleResetN_of_taken (State.takesReset_of_long h hn true)
  · exact exec_moduleResetN_of_taken (State.takesReset_of_long h hn false)
  · exact exec_moduleResetN_low_of_not_taken (State.takesReset_low_of_short h)
  · exact exec_moduleResetN_high_of_not_taken (State.takesReset_high_of_short h)
  · have ht := State.takesReset_high_between h hlo hhi
    cases hb : Config.freeBit s.fresh with
    | true => exact exec_moduleResetN_of_taken (ht.trans hb)
    | false => exact exec_moduleResetN_high_of_not_taken (ht.trans hb)

/-- Settles O50: each command of boot acts in its own BOOT_STATE and leaves the state alone in every other. -/
theorem bootGoesStepByStep : Obligations.BootGoesStepByStep := by
  unfold Obligations.BootGoesStepByStep
  intro s
  refine ⟨fun hb hk => ⟨_, exec_auxStartDone_of_aux hb hk, State.wrote_setObj ..⟩, exec_auxStartDone_of_not_aux,
    ⟨fun h => ⟨_, exec_clocksDone_of_ready h, State.wrote_setObj ..⟩, exec_clocksDone_of_not_ready⟩,
    fun moduleId mgmtId => ⟨exec_hubStart_of_straps, exec_hubStart_of_up, State.serveTap_of_idle, exec_hubStart_of_not_ready⟩,
    fun a b => ⟨exec_romDone_of_not_due, fun hb he => ⟨fun hl => ⟨_, exec_romDone_of_scrapped hb he hl, State.wrote_setObj ..⟩,
      exec_romDone_of_interrupted_return hb he, exec_romDone_of_zeroed_return hb he, exec_romDone_of_no_return hb he⟩⟩,
    fun version svn => ⟨exec_firmwareDone_of_not_due, exec_firmwareDone_of_due⟩, fun trained => exec_hbmDone_of_not_due,
    fun hb he => ⟨?_, exec_hbmDone_of_up hb he, exec_hbmDone_of_zeroing hb he, exec_hbmDone_of_kept hb he⟩⟩
  have hkeys : [O.BOOT_STATE, O.BOOT_ERROR].Nodup := by decide
  exact ⟨_, exec_hbmDone_of_untrained hb he, State.wrote_setObjs _ _ hkeys⟩

end Sys2Proof.Machine
end

section
/-!
PROOFS. Operating points and power (R424, R426–R428, R430, R431), supply and heat (R429–R432) and ageing (R435, R436).
-/

namespace Sys2Proof.Machine

section

variable {s : State}

/-! ### Multiplexers (R424) -/

/-- A forced switch of multiplexer `i` of the hub is shown. -/
def State.showForced (s : State) (i : Nat) (forced : Bool) : State := if forced then s.setObjBit O.CLK_FORCED_HUB i true else s

theorem State.showForced_clk (s : State) (i : Nat) (forced : Bool) : (s.showForced i forced).clk = s.clk := by
  cases forced with
  | true => exact State.setObjBit_clk ..
  | false => rfl

theorem exec_stepMuxSwitch_core_of_none {forced : Bool} (hm : s.clk.coreMux = none) : exec (.stepMuxSwitch true forced) s = .next s := by
  change execStepMuxSwitch true forced s = _
  simp only [execStepMuxSwitch, if_true, hm]

theorem exec_stepMuxSwitch_step_of_none {forced : Bool} (hm : s.clk.stepMux = none) : exec (.stepMuxSwitch false forced) s = .next s := by
  change execStepMuxSwitch false forced s = _
  simp only [execStepMuxSwitch, Bool.false_eq_true, if_false, hm]

theorem exec_stepMuxSwitch_core_of_some {forced h : Bool} (hm : s.clk.coreMux = some h) :
    exec (.stepMuxSwitch true forced) s = if h = s.clk.coreHalved
      then .next { s.showForced 1 forced with clk := { (s.showForced 1 forced).clk with coreMux := none } }
      else .next { s.showForced 1 forced with clk := { (s.showForced 1 forced).clk with coreHalved := h } } := by
  rw [← State.showForced_clk s 1 forced]
  change execStepMuxSwitch true forced s = _
  simp only [execStepMuxSwitch, if_true, hm]
  rfl

theorem exec_stepMuxSwitch_step_of_some {forced : Bool} {d : Nat} (hm : s.clk.stepMux = some d) :
    exec (.stepMuxSwitch false forced) s = if d = (s.showForced 0 forced).obj O.STEP_DIV
      then .next { s.showForced 0 forced with clk := { (s.showForced 0 forced).clk with stepMux := none } }
      else .next ((s.showForced 0 forced).setObj O.STEP_DIV d) := by
  change execStepMuxSwitch false forced s = _
  simp only [execStepMuxSwitch, Bool.false_eq_true, if_false, hm]
  rfl

/-! ### Rails (R426–R428) -/

/-- A rail's report is awaited: a change is in progress and the rail has not reported. -/
def State.railOpen (s : State) (rail : Nat) : Prop := s.obj O.OP_STATE ≠ 0 ∧ s.clk.railsAt.testBit rail = false

theorem State.not_railOpen_iff {rail : Nat} : (s.obj O.OP_STATE = 0 || s.clk.railsAt.testBit rail) = true ↔ ¬ s.railOpen rail := by
  simp only [State.railOpen, Bool.or_eq_true, decide_eq_true_eq, not_and_or, Bool.not_eq_false, ne_eq, not_not]

section Rail

variable {rail : Fin 4}

theorem exec_railTargetReached_of_closed (h : ¬ s.railOpen rail) : exec (.railTargetReached rail) s = .next s :=
  if_pos (State.not_railOpen_iff.mpr h)

theorem exec_rampLimitExpiry_of_closed (h : ¬ s.railOpen rail) : exec (.rampLimitExpiry rail) s = .next s :=
  if_pos (State.not_railOpen_iff.mpr h)

/-- `s` with the report of a rail noted. -/
def State.railReports (s : State) (rail : Nat) : State := { s with clk := { s.clk with railsAt := setBit s.clk.railsAt rail true } }

theorem exec_railTargetReached_of_open (h : s.railOpen rail) :
    exec (.railTargetReached rail) s = .next (if (s.railReports rail).clk.railsAt % 16 = 15
      then (s.railReports rail).railsDone.pointNext else s.railReports rail) :=
  if_neg fun hc => State.not_railOpen_iff.mp hc h

/-- The change in progress given up: no target, no divider change due. -/
def State.endChange (s : State) : State := State.setObj { s with clk := { s.clk with pointTo := none, dividerDue := false } } O.OP_STATE 0

theorem exec_rampLimitExpiry_of_open (h : s.railOpen rail) :
    exec (.rampLimitExpiry rail) s = .next (s.raiseFault 0x0E FaultLoc.hub rail 0 0).endChange.pointNext :=
  if_neg fun hc => State.not_railOpen_iff.mp hc h

theorem exec_avsbusPoll_of_stopped {mv : BitVec 16} {fails : Nat} (he : s.engineStopped = true) :
    exec (.avsbusPoll rail mv fails) s = .next s := if_pos he

theorem exec_avsbusPoll_of_failed {mv : BitVec 16} {fails : Nat} (he : s.engineStopped = false) (hf : 3 < fails) :
    exec (.avsbusPoll rail mv fails) s = .next (s.raiseFault 0x0E FaultLoc.hub (rail + 256) 0 0) :=
  (if_neg (Bool.eq_false_iff.mp he)).trans (if_pos hf)

theorem exec_avsbusPoll_of_answered {mv : BitVec 16} {fails : Nat} (he : s.engineStopped = false) (hf : fails ≤ 3) :
    exec (.avsbusPoll rail mv fails) s = .next (s.setObj (O.RAIL_MV rail) mv.toNat) :=
  (if_neg (Bool.eq_false_iff.mp he)).trans (if_neg (Nat.not_lt.mpr hf))

end Rail

/-! ### Samples and the end of halving (R430, R431) -/

theorem State.wrote_thermalSample (s : State) (temp : BitVec 16) :
    ∃ t, exec (.thermalSample temp) s = .next t ∧ s.wrote t ((O.TJ_HOT, temp.toNat) ::
      if toSigned 16 (s.obj O.TJ_THROTTLE) ≤ toSigned 16 temp.toNat then [(O.HALVE_CAUSES, setBit (s.obj O.HALVE_CAUSES) 2 true)]
      else []) := by
  have hlimit : (s.setObj O.TJ_HOT temp.toNat).obj O.TJ_THROTTLE = s.obj O.TJ_THROTTLE := State.obj_setObj_other _ _ (by decide)
  have hcauses : (s.setObj O.TJ_HOT temp.toNat).obj O.HALVE_CAUSES = s.obj O.HALVE_CAUSES := State.obj_setObj_other _ _ (by decide)
  refine ⟨_, rfl, ?_⟩
  rw [hlimit]
  by_cases hot : toSigned 16 (s.obj O.TJ_THROTTLE) ≤ toSigned 16 temp.toNat
  · have hkeys : [O.TJ_HOT, O.HALVE_CAUSES].Nodup := by decide
    rw [if_pos hot, if_pos hot, State.setObjBit, hcauses]
    exact State.wrote_setObjs s [(O.TJ_HOT, temp.toNat), (O.HALVE_CAUSES, setBit (s.obj O.HALVE_CAUSES) 2 true)] hkeys
  · rw [if_neg hot, if_neg hot]
    exact State.wrote_setObj ..

/-- `s` with the thermal cause of halving ended where the hottest sensor lies 3 °C below its limit. -/
def State.cooled (s : State) : State :=
  if toSigned 16 (s.obj O.TJ_HOT) + 3 ≤ toSigned 16 (s.obj O.TJ_THROTTLE) then s.setObjBit O.HALVE_CAUSES 2 false else s

theorem exec_halveEnd_of_waiting (h : s.cooled.obj O.HALVE_CAUSES ≠ 0 ∨ s.cooled.inOpening = false) :
    exec .halveEnd s = .next s.cooled :=
  congrArg Host.Outcome.next (if_neg (by rw [Bool.and_eq_true, decide_eq_true_eq, not_and_or, Bool.not_eq_true]; exact h))

theorem exec_halveEnd_of_opening (h : s.cooled.obj O.HALVE_CAUSES = 0) (ho : s.cooled.inOpening = true) :
    exec .halveEnd s = .next s.cooled.applyHalving :=
  congrArg Host.Outcome.next (if_pos (by rw [Bool.and_eq_true, decide_eq_true_eq]; exact ⟨h, ho⟩))

end

/-- Settles O47: each command's two sides, through the condition that its object or multiplexer sets. -/
theorem pointsAndPowerChange : Obligations.PointsAndPowerChange := by
  unfold Obligations.PointsAndPowerChange
  intro s
  refine ⟨fun forced => ⟨exec_stepMuxSwitch_core_of_none,
      fun h hm => ⟨fun he => (exec_stepMuxSwitch_core_of_some hm).trans (if_pos he),
        fun hn => (exec_stepMuxSwitch_core_of_some hm).trans (if_neg hn)⟩, exec_stepMuxSwitch_step_of_none,
      fun d hm => ⟨fun he => (exec_stepMuxSwitch_step_of_some hm).trans (if_pos he),
        fun hn => (exec_stepMuxSwitch_step_of_some hm).trans (if_neg hn)⟩⟩,
    fun rail => ⟨fun h => ⟨exec_railTargetReached_of_closed h, exec_rampLimitExpiry_of_closed h⟩,
      fun h => ⟨exec_railTargetReached_of_open h, exec_rampLimitExpiry_of_open h⟩⟩,
    fun rail mv fails => ⟨exec_avsbusPoll_of_stopped, exec_avsbusPoll_of_failed,
      fun he hf => ⟨_, exec_avsbusPoll_of_answered he hf, State.wrote_setObj ..⟩⟩,
    fun watts => ⟨fun ha => congrArg Host.Outcome.next (if_pos ha),
      fun ha hu => congrArg Host.Outcome.next ((if_neg ha).trans (if_pos hu)),
      fun ha hu => congrArg Host.Outcome.next ((if_neg ha).trans (if_neg hu))⟩,
    State.wrote_thermalSample s, exec_halveEnd_of_waiting, exec_halveEnd_of_opening⟩

end Sys2Proof.Machine
end

section
/-!
PROOFS. Supply and heat (R429–R432) and ageing (R435, R436).
-/

namespace Sys2Proof.Machine

/-! ### Brown-out (R429–R431) -/

section BrownOut

variable {s : State} {rail : RailIx} {mv : BitVec 16}

/-- `s` with the voltage of a rail shown. -/
def State.showRail (s : State) (rail : Nat) (mv : Nat) : State := s.setObj (O.RAIL_MV rail) mv

/-- A rail's voltage is the warning that R429 speaks of: not AUX's, below 95 % of its setpoint, on a good rail. -/
def State.brownOutWarns (t : State) (rail : RailIx) (mv : Nat) : Prop :=
  rail ≠ 6 ∧ 100 * mv < 95 * t.setpointOf rail ∧ t.obj (O.BO_STATE rail) = 0

theorem State.not_brownOutWarns_iff {t : State} {v : Nat} :
    (rail = 6 || 100 * v ≥ 95 * t.setpointOf rail || t.obj (O.BO_STATE rail) ≠ 0) = true ↔ ¬ t.brownOutWarns rail v := by
  simp only [State.brownOutWarns, Bool.or_eq_true, decide_eq_true_eq, not_and_or, ne_eq, not_not, ge_iff_le, not_lt, or_assoc]

/-- A warning as it acts: shown, counted, and the step clock halved. -/
def State.brownOutWarned (t : State) (rail : Nat) : State :=
  (((t.setObj (O.BO_STATE rail) 1).bump (O.BO_WARNINGS rail) 1).setObjBit O.HALVE_CAUSES 0 true).applyHalving

theorem exec_brownOutWarning_of_none (h : ¬ (s.showRail rail mv.toNat).brownOutWarns rail mv.toNat) :
    exec (.brownOutWarning rail mv) s = .next (s.showRail rail mv.toNat) := if_pos (State.not_brownOutWarns_iff.mpr h)

theorem exec_brownOutWarning_of_warning (h : (s.showRail rail mv.toNat).brownOutWarns rail mv.toNat) :
    exec (.brownOutWarning rail mv) s = .next (if 4 ≤ rail.val
      then ((s.showRail rail mv.toNat).brownOutWarned rail).askCore true else (s.showRail rail mv.toNat).brownOutWarned rail) :=
  if_neg fun hc => State.not_brownOutWarns_iff.mp hc h

theorem exec_brownOutWarningEnd_of_low (h : (s.showRail rail mv.toNat).obj (O.BO_STATE rail) = 0 ∨
    100 * mv.toNat < 91 * (s.showRail rail mv.toNat).setpointOf rail) :
    exec (.brownOutWarningEnd rail mv) s = .next (s.showRail rail mv.toNat) :=
  if_pos (by rw [Bool.or_eq_true, decide_eq_true_eq, decide_eq_true_eq]; exact h)

section Recovers

variable (hb : (s.showRail rail mv.toNat).obj (O.BO_STATE rail) ≠ 0)
  (hv : 91 * (s.showRail rail mv.toNat).setpointOf rail ≤ 100 * mv.toNat)

include hb hv

theorem exec_brownOutWarningEnd_of_rearmed (hg : 100 * mv.toNat < 96 * (s.showRail rail mv.toNat).setpointOf rail) :
    exec (.brownOutWarningEnd rail mv) s = .next ((s.showRail rail mv.toNat).setObj (O.BO_STATE rail) 1) := by
  refine (if_neg ?_).trans (if_pos hg)
  rw [Bool.or_eq_true, decide_eq_true_eq, decide_eq_true_eq, not_or, Nat.not_lt]
  exact ⟨hb, hv⟩

/-- The rails, AUX's apart, that still show a warning or a reset. -/
def State.warnedRails (u : State) : List Nat := (List.range 6).filter fun r => u.obj (O.BO_STATE r) != 0

/-- The supply's cause of halving as the rails left in warning ask for it. -/
def State.showSupply (u : State) : State := u.setObjBit O.HALVE_CAUSES 0 (u.warnedRails != [])

theorem exec_brownOutWarningEnd_of_good (hg : 96 * (s.showRail rail mv.toNat).setpointOf rail ≤ 100 * mv.toNat) :
    exec (.brownOutWarningEnd rail mv) s = .next (if ((s.showRail rail mv.toNat).setObj (O.BO_STATE rail) 0).warnedRails.any (· ≥ 4)
      then ((s.showRail rail mv.toNat).setObj (O.BO_STATE rail) 0).showSupply
      else ((s.showRail rail mv.toNat).setObj (O.BO_STATE rail) 0).showSupply.askCore false) := by
  refine (if_neg ?_).trans (if_neg (Nat.not_lt.mpr hg))
  rw [Bool.or_eq_true, decide_eq_true_eq, decide_eq_true_eq, not_or, Nat.not_lt]
  exact ⟨hb, hv⟩

end Recovers

/-- A rail's voltage is its reset level (R429): below 90 % of its setpoint, on a rail not yet in reset. -/
def State.brownOutResets (t : State) (rail : RailIx) (mv : Nat) : Prop :=
  100 * mv < 90 * t.setpointOf rail ∧ t.obj (O.BO_STATE rail) ≠ 2

theorem State.not_brownOutResets_iff {t : State} {v : Nat} :
    (100 * v ≥ 90 * t.setpointOf rail || t.obj (O.BO_STATE rail) = 2) = true ↔ ¬ t.brownOutResets rail v := by
  simp only [State.brownOutResets, Bool.or_eq_true, decide_eq_true_eq, not_and_or, ne_eq, not_not, ge_iff_le, not_lt]

/-- A reset level shown and counted. -/
def State.brownOutReset (t : State) (rail : Nat) : State := (t.setObj (O.BO_STATE rail) 2).bump (O.BO_RESETS rail) 1

theorem exec_brownOutResetLevel_of_none (h : ¬ (s.showRail rail mv.toNat).brownOutResets rail mv.toNat) :
    exec (.brownOutResetLevel rail mv) s = .next (s.showRail rail mv.toNat) := if_pos (State.not_brownOutResets_iff.mpr h)

section Resets

variable (h : (s.showRail rail mv.toNat).brownOutResets rail mv.toNat)

include h

theorem exec_brownOutResetLevel_of_die (hr : rail.val < 4) :
    exec (.brownOutResetLevel rail mv) s = .next (if ((s.showRail rail mv.toNat).brownOutReset rail).host.up
      then ((s.showRail rail mv.toNat).brownOutReset rail).dieReset rail else (s.showRail rail mv.toNat).brownOutReset rail) :=
  (if_neg fun hc => State.not_brownOutResets_iff.mp hc h).trans (if_pos hr)

theorem exec_brownOutResetLevel_of_hub (hr : rail.val = 4) : exec (.brownOutResetLevel rail mv) s =
    .next (((s.showRail rail mv.toNat).brownOutReset rail).persistMaybe.warmReset 3 false) :=
  ((if_neg fun hc => State.not_brownOutResets_iff.mp hc h).trans (if_neg (show ¬ rail.val < 4 by omega))).trans
    (if_pos (Fin.ext hr))

theorem exec_brownOutResetLevel_of_hbm (hr : rail.val = 5) : exec (.brownOutResetLevel rail mv) s =
    .next (((s.showRail rail mv.toNat).brownOutReset rail).persistMaybe.warmReset 4 false) := by
  obtain rfl : rail = 5 := Fin.ext hr
  exact (((if_neg fun hc => State.not_brownOutResets_iff.mp hc h).trans (if_neg (by decide))).trans (if_neg (by decide))).trans
    (if_pos rfl)

theorem exec_brownOutResetLevel_of_aux (hr : rail.val = 6) : exec (.brownOutResetLevel rail mv) s =
    .next ((s.showRail rail mv.toNat).brownOutReset rail).persistMaybe.powerReset := by
  obtain rfl : rail = 6 := Fin.ext hr
  exact (((if_neg fun hc => State.not_brownOutResets_iff.mp hc h).trans (if_neg (by decide))).trans (if_neg (by decide))).trans
    (if_neg (by decide))

end Resets

end BrownOut

/-! ### Thermal shutdown (R432) -/

section Heat

variable {s : State} {die : Fin 5} {sensor : Fin 16} {temp : BitVec 16}

theorem exec_thermalShutdown_of_cool (h : toSigned 16 temp.toNat < 105 ∨ s.clk.shutdown = true) :
    exec (.thermalShutdown die sensor temp) s = .next s :=
  if_pos (by rw [Bool.or_eq_true, decide_eq_true_eq]; exact h)

theorem exec_thermalShutdown_of_hot (h : 105 ≤ toSigned 16 temp.toNat) (hs : s.clk.shutdown = false) :
    exec (.thermalShutdown die sensor temp) s =
      .next ((s.interruptRecovery.raiseFault 0x0F ⟨die, 255, 255, 0xFFFF⟩ (die + 16 * sensor) temp.toNat 0).shutdownNow) :=
  if_neg (by rw [Bool.or_eq_true, decide_eq_true_eq, not_or, not_lt]; exact ⟨h, Bool.eq_false_iff.mp hs⟩)

end Heat

/-! ### Ageing (R435, R436) -/

section Ageing

variable {s : State}

theorem writeAgePlan_of_start {v : Nat} (h : v = 1) : writeAgePlan v s = (s.setObj O.AGE_STATE 1, eNone) := if_neg (not_not_intro h)

theorem writeAgePlan_of_bad {v : Nat} (h : v ≠ 1) : writeAgePlan v s = (s, eRange) := if_pos h

theorem exec_agePlan_hour_of_stopped {v : Byte} (he : s.engineStopped = true) : exec (.agePlan none v) s = .next s := if_pos he

theorem exec_agePlan_hour {v : Byte} (he : s.engineStopped = false) :
    exec (.agePlan none v) s = .next (if (s.bump O.POWER_HOURS 1).obj O.POWER_HOURS % 1000 = 0
      then (s.bump O.POWER_HOURS 1).setObj O.AGE_STATE 1 else s.bump O.POWER_HOURS 1) := if_neg (Bool.eq_false_iff.mp he)

theorem exec_agePlanCommit_of_none (h : s.obj O.AGE_STATE ≠ 1 ∨ s.engineStopped = true) : exec .agePlanCommit s = .next s :=
  if_pos (by rw [Bool.or_eq_true, decide_eq_true_eq]; exact h)

/-- The condition under which AGE_PLAN_COMMIT has nothing to do fails while a plan is at work. -/
theorem State.plans (h : s.obj O.AGE_STATE = 1) (he : s.engineStopped = false) :
    ¬ (s.obj O.AGE_STATE ≠ 1 || s.engineStopped) = true := by
  rw [Bool.or_eq_true, decide_eq_true_eq, not_or]
  exact ⟨not_not_intro h, Bool.eq_false_iff.mp he⟩

end Ageing

/-- Settles O48: each level of a rail, the shutdown, and the steps of the margin plan, by the conditions that part them. -/
theorem supplyHeatAndAgeingAct : Obligations.SupplyHeatAndAgeingAct := by
  unfold Obligations.SupplyHeatAndAgeingAct
  refine ⟨fun s rail mv => ⟨⟨fun h => ⟨_, exec_brownOutWarning_of_none h, State.wrote_setObj ..⟩, exec_brownOutWarning_of_warning⟩,
      exec_brownOutWarningEnd_of_low, exec_brownOutWarningEnd_of_rearmed, exec_brownOutWarningEnd_of_good,
      ⟨exec_brownOutResetLevel_of_none, exec_brownOutResetLevel_of_die, exec_brownOutResetLevel_of_hub,
        exec_brownOutResetLevel_of_hbm, exec_brownOutResetLevel_of_aux⟩,
      fun die sensor temp => ⟨exec_thermalShutdown_of_cool, exec_thermalShutdown_of_hot⟩⟩,
    fun s => ⟨fun m v hs => ⟨fun h => ⟨_, State.write_accepted hs (writeAgePlan_of_start h), State.wrote_setObj ..⟩,
        fun h => State.write_refused hs (writeAgePlan_of_bad h) (by decide)⟩,
      fun v => ⟨exec_agePlan_hour_of_stopped, fun he hn => (exec_agePlan_hour he).trans (congrArg Host.Outcome.next (if_neg hn)),
        fun he hz => (exec_agePlan_hour he).trans (congrArg Host.Outcome.next (if_pos hz))⟩,
      exec_agePlanCommit_of_none, fun h he => if_neg (State.plans h he), fun he => if_pos he,
      fun he => if_neg (Bool.eq_false_iff.mp he), fun die pc a b c d => ⟨_, rfl, ?_⟩⟩⟩
  have hkeys : [O.AGE_WORST, O.AGE_WORST_WHERE].Nodup := by decide
  exact State.wrote_setObjs _ _ hkeys

end Sys2Proof.Machine
end

section
/-!
PROOFS. Flash commands (R472), life-cycle requests and transitions (R479, R480, R486) and keys (R481).
-/

namespace Sys2Proof.Machine

/-! ### Flash commands (R472) -/

section FlCmd

variable {s : State} {m : Master}

/-- Who may give a flash command: the debug master, in STANDBY or after a failed boot, with none in progress. -/
def State.mayFlash (s : State) (m : Master) : Prop := m = .debug ∧ (s.mode = mStandby ∨ s.obj O.BOOT_STATE = 7) ∧ s.obj O.FL_STATE ≠ 1

theorem State.not_mayFlash_iff :
    (m ≠ .debug || ! (s.mode == mStandby || s.obj O.BOOT_STATE == 7) || s.obj O.FL_STATE = 1) = true ↔ ¬ s.mayFlash m := by
  simp only [State.mayFlash, Bool.or_eq_true, decide_eq_true_eq, Bool.not_eq_true', Bool.or_eq_false_iff, beq_eq_false_iff_ne,
    not_and_or, not_or, ne_eq, not_not, or_assoc]

section Command

variable {n cmd : Nat} (hc : n = 256 ∧ cmd = 1 ∨ n = 4096 ∧ cmd = 2)

include hc

/-- Of a command with `n` bytes only the guards after the first are left. -/
theorem writeFlCmd_eq : writeFlCmd m cmd s =
    if m ≠ .debug || ! (s.mode == mStandby || s.obj O.BOOT_STATE == 7) || s.obj O.FL_STATE = 1 then (s, eMode)
    else if s.obj O.FL_ADDR % n ≠ 0 then (s, eRange)
    else if ! flashAllowed (s.obj O.LC_STATE) (s.obj O.FL_ADDR) n then (s.setObj O.FL_RESULT 2, eNone)
    else (State.setObj { s with tap := { s.tap with flOp := some (cmd, s.obj O.FL_ADDR) } } O.FL_STATE 1, eNone) := by
  rcases hc with ⟨rfl, rfl⟩ | ⟨rfl, rfl⟩
  · simp [writeFlCmd]
  · simp [writeFlCmd]

theorem writeFlCmd_of_not_mayFlash (h : ¬ s.mayFlash m) : writeFlCmd m cmd s = (s, eMode) :=
  (writeFlCmd_eq hc).trans (if_pos (State.not_mayFlash_iff.mpr h))

variable (h : s.mayFlash m)

include h

theorem writeFlCmd_of_misaligned (ha : s.obj O.FL_ADDR % n ≠ 0) : writeFlCmd m cmd s = (s, eRange) :=
  ((writeFlCmd_eq hc).trans (if_neg fun hn => State.not_mayFlash_iff.mp hn h)).trans (if_pos ha)

variable (ha : s.obj O.FL_ADDR % n = 0)

include ha

theorem writeFlCmd_of_kept (hk : flashAllowed (s.obj O.LC_STATE) (s.obj O.FL_ADDR) n = false) :
    writeFlCmd m cmd s = (s.setObj O.FL_RESULT 2, eNone) :=
  (((writeFlCmd_eq hc).trans (if_neg fun hn => State.not_mayFlash_iff.mp hn h)).trans (if_neg (not_not_intro ha))).trans
    (if_pos (by simp only [hk, Bool.not_false]))

theorem writeFlCmd_of_allowed (hk : flashAllowed (s.obj O.LC_STATE) (s.obj O.FL_ADDR) n = true) :
    writeFlCmd m cmd s = (State.setObj { s with tap := { s.tap with flOp := some (cmd, s.obj O.FL_ADDR) } } O.FL_STATE 1, eNone) :=
  (((writeFlCmd_eq hc).trans (if_neg fun hn => State.not_mayFlash_iff.mp hn h)).trans (if_neg (not_not_intro ha))).trans
    (if_neg (by simp [hk]))

end Command

end FlCmd

section FlDone

variable {s : State}

theorem State.setObjs_draw (s : State) (l : List (Nat × Nat)) : (s.setObjs l).draw = s.draw.setObjs l := by
  induction l generalizing s with
  | nil => rfl
  | cons e l ih => exact ih (s.setObj e.1 e.2)

theorem exec_flDone_of_none {b : Bool} (h : s.tap.flOp = none) : exec (.flDone b) s = .next s := by
  change execFlDone b s = _
  simp only [execFlDone, h]

/-- `s` with its persistent store left open where the command's address lies in it. -/
def State.flashBase (s : State) (a : Nat) : State := if 0x3F0000 ≤ a ∧ a < 0x400000 then s.openPersist else s

/-- The end of a flash command, its two objects apart. -/
def State.flashEnds (s : State) (a : Nat) (f : Tab Byte) : State :=
  { s.flashBase a with flash := f, tap := { (s.flashBase a).tap with flOp := none }, fresh := (s.flashBase a).fresh + 1 }

theorem exec_flDone_of_verified {v a : Nat} (h : s.tap.flOp = some (v, a)) :
    exec (.flDone true) s = .next ((s.flashEnds a
      (if v = 1 then flashWrite s.flash a (mread s.tap.page 0 256) else flashErase s.flash a 4096)).setObjs
        [(O.FL_STATE, 0), (O.FL_RESULT, 1)]) := by
  change execFlDone true s = _
  simp only [execFlDone, h, State.setObjs_draw, Bool.not_true, Bool.false_eq_true, if_false, if_true, Bool.and_eq_true, decide_eq_true_eq]
  rfl

/-- The area of a flash command that did not verify: its bytes are left open. -/
def State.openArea (s : State) (v a : Nat) : Tab Byte :=
  flashWrite s.flash a ((List.range (if v = 1 then 256 else 4096)).map fun i => Config.freeByte s.fresh (a + i))

theorem exec_flDone_of_unverified {v a : Nat} (h : s.tap.flOp = some (v, a)) :
    exec (.flDone false) s = .next ((s.flashEnds a (s.openArea v a)).setObjs [(O.FL_STATE, 0), (O.FL_RESULT, 3)]) := by
  change execFlDone false s = _
  simp only [execFlDone, h, State.setObjs_draw, Bool.not_false, Bool.false_eq_true, if_false, if_true, Bool.and_eq_true, decide_eq_true_eq]
  rfl

end FlDone

/-! ### Life-cycle requests (R478–R480) -/

section LcReq

variable {s : State} {to_ : Nat} {sig : List Byte}

theorem State.lcServe_of_busy (h : s.obj O.LC_RESULT = 6) : s.lcServe to_ sig = (s.newNonce, eMode) := if_pos h

/-- A request that finds none in progress as it leaves the state: the nonce, the answer and, accepted, its transition. -/
def State.lcRequested (s : State) (to_ : Nat) (sig : List Byte) : State :=
  let t := s.newNonce.setObj O.LC_RESULT (s.lcAnswer to_ sig)
  if s.lcAnswer to_ sig = 6 then
    { t with keys := { t.keys with target := some to_, returnPending := t.keys.returnPending || to_ == 4 } } else t

theorem State.lcServe_of_idle (h : s.obj O.LC_RESULT ≠ 6) : s.lcServe to_ sig = (s.lcRequested to_ sig, eNone) := by
  refine (if_neg h).trans ?_
  by_cases hr : s.lcAnswer to_ sig = 6
  · exact (if_pos hr).trans (congrArg (·, eNone) (if_pos hr).symm)
  · exact (if_neg hr).trans (congrArg (·, eNone) (if_neg hr).symm)

theorem writeLcReq_of_bad {v : Nat} (h : 5 < v) : writeLcReq v s = (s, eRange) := if_pos h

theorem writeLcReq_of_state {v : Nat} (h : v ≤ 5) : writeLcReq v s = s.lcServe v s.lcSig := if_neg (Nat.not_lt.mpr h)

theorem exec_lcReq_tap_of_stopped {target : Byte} {sg : BitVec 768} (he : s.engineStopped = true) :
    exec (.lcReq none target sg) s = .next s := if_pos he

theorem exec_lcReq_tap {target : Byte} {sg : BitVec 768} (he : s.engineStopped = false) :
    exec (.lcReq none target sg) s = .next (s.lcServe (target.toNat % 16) (leBytes 96 sg.toNat)).1 := if_neg (Bool.eq_false_iff.mp he)

theorem State.lcAnswer_of_mode (hm : s.mode ≠ mStandby) (hb : s.obj O.BOOT_STATE ≠ 7) : s.lcAnswer to_ sig = 2 :=
  if_pos (by simp [hm, hb])

section Judged

variable (h : s.mode = mStandby ∨ s.obj O.BOOT_STATE = 7)

include h

/-- The mode's guard of a request fails in STANDBY and after a failed boot. -/
theorem State.lcJudged : ¬ (s.mode ≠ mStandby && s.obj O.BOOT_STATE ≠ 7) = true := by
  rw [Bool.and_eq_true, decide_eq_true_eq, decide_eq_true_eq, not_and_or, not_not, not_not]
  exact h

theorem State.lcAnswer_of_no_row (hr : lcRow (s.obj O.LC_STATE) to_ = none) : s.lcAnswer to_ sig = 3 := by
  rw [State.lcAnswer, if_neg (State.lcJudged h), hr]

theorem State.lcAnswer_of_row {maker : Bool} (hr : lcRow (s.obj O.LC_STATE) to_ = some maker) : s.lcAnswer to_ sig =
    if ! maker && s.obj O.OWNER_SET = 0 then 4
    else if to_ = 4 && s.obj O.RETURNS_LEFT = 0 then 7
    else if ecdsaOk (if maker then Config.makerKey else s.keys.owner) (s.lcMessage to_) sig then 6
    else 5 := by
  rw [State.lcAnswer, if_neg (State.lcJudged h), hr]

theorem State.lcAnswer_of_no_owner (hr : lcRow (s.obj O.LC_STATE) to_ = some false) (ho : s.obj O.OWNER_SET = 0) :
    s.lcAnswer to_ sig = 4 := (State.lcAnswer_of_row h hr).trans (if_pos (by simp [ho]))

/-- With a key to check it by, a request is judged by the limit of returns and its signature. -/
theorem State.lcAnswer_of_key (hr : lcRow (s.obj O.LC_STATE) to_ = some true ∨
    (lcRow (s.obj O.LC_STATE) to_ = some false ∧ s.obj O.OWNER_SET ≠ 0)) : s.lcAnswer to_ sig =
    if to_ = 4 && s.obj O.RETURNS_LEFT = 0 then 7
    else if ecdsaOk (if lcRow (s.obj O.LC_STATE) to_ = some true then Config.makerKey else s.keys.owner) (s.lcMessage to_) sig then 6
    else 5 := by
  rcases hr with hr | ⟨hr, ho⟩
  · simp [State.lcAnswer_of_row h hr, hr]
  · simp [State.lcAnswer_of_row h hr, hr, ho]

end Judged

end LcReq

/-! ### Transitions (R480, R486) -/

section LcDone

variable {s : State}

theorem exec_lcTransitionDone_of_none (h : s.engineStopped = true ∨ s.keys.target = none) : exec .lcTransitionDone s = .next s := by
  change execLcTransitionDone s = _
  rcases h with h | h
  · exact if_pos h
  · simp only [execLcTransitionDone, h, ite_self]

variable (he : s.engineStopped = false)

include he

theorem exec_lcTransitionDone_of_state {to_ : Nat} (h : s.keys.target = some to_) (hn : to_ ≠ 4) : exec .lcTransitionDone s =
    .next (State.setObjs { s with keys := { s.keys with target := none } } [(O.LC_STATE, to_), (O.LC_RESULT, 1)]) := by
  change execLcTransitionDone s = _
  unfold execLcTransitionDone
  rw [if_neg (Bool.eq_false_iff.mp he), h]
  split
  next heq => exact absurd (Option.some.inj heq) hn
  next heq => rw [Option.some.inj heq]
  next heq => cases heq

theorem exec_lcTransitionDone_of_return (h : s.keys.target = some 4) : exec .lcTransitionDone s =
    .next (if s.obj O.BOOT_STATE = 3 ∧ s.hbm.zeroing = true then s.returnFuse else s.returnErase.returnReset) := by
  change execLcTransitionDone s = _
  unfold execLcTransitionDone
  rw [if_neg (Bool.eq_false_iff.mp he), h, apply_ite Host.Outcome.next]
  exact if_congr (by rw [Bool.and_eq_true, decide_eq_true_eq]) rfl rfl

end LcDone

/-! ### Key commands (R481) -/

section Keys

variable {s : State} {m : Master}

/-- Who may give a key command: the host and debug masters, in the states that have keys. -/
def State.mayKeys (s : State) (m : Master) : Prop := (m = .pcie ∨ m = .debug) ∧ (s.obj O.LC_STATE = 1 ∨ s.obj O.LC_STATE = 2)

theorem State.mayKeys_iff :
    ((m == .pcie || m == .debug) && (s.obj O.LC_STATE == 1 || s.obj O.LC_STATE == 2)) = true ↔ s.mayKeys m := by
  simp only [State.mayKeys, Bool.and_eq_true, Bool.or_eq_true, beq_iff_eq]

section Write

variable {n : Nat} (hn : 1 ≤ n ∧ n ≤ 4)

include hn

theorem writeKeyCmd_eq : writeKeyCmd m n s =
    if ! ((m == .pcie || m == .debug) && (s.obj O.LC_STATE == 1 || s.obj O.LC_STATE == 2)) then (s, eDenied)
    else if s.obj O.LC_RESULT = 6 then (s.keyEnds 4, eNone)
    else (s.keyCommand n, eNone) := if_neg (by simp; omega)

theorem writeKeyCmd_of_denied (h : ¬ s.mayKeys m) : writeKeyCmd m n s = (s, eDenied) := by
  rw [← State.mayKeys_iff, Bool.not_eq_true] at h
  exact (writeKeyCmd_eq hn).trans (if_pos (by rw [h]; rfl))

variable (h : s.mayKeys m)

include h

theorem writeKeyCmd_of_busy (hl : s.obj O.LC_RESULT = 6) : writeKeyCmd m n s = (s.keyEnds 4, eNone) := by
  rw [← State.mayKeys_iff] at h
  exact ((writeKeyCmd_eq hn).trans (if_neg (by rw [h]; decide))).trans (if_pos hl)

theorem writeKeyCmd_of_served (hl : s.obj O.LC_RESULT ≠ 6) : writeKeyCmd m n s = (s.keyCommand n, eNone) := by
  rw [← State.mayKeys_iff] at h
  exact ((writeKeyCmd_eq hn).trans (if_neg (by rw [h]; decide))).trans (if_neg hl)

end Write

/-! #### The owner's key -/

theorem State.keyCommand_owner_eq : s.keyCommand 3 =
    if s.obj O.OWNER_SET = 1 then s.keyEnds 2
    else if ! onCurve (s.keyData 96) then s.keyEnds 3
    else (State.setObj { s with keys := { s.keys with owner := s.keyData 96 } } O.OWNER_SET 1).keyEnds 1 := by
  simp only [State.keyCommand, if_true]

/-! #### Slots -/

theorem State.keyCommand_of_bad_slot {n : Nat} (hn : n ≠ 3) (h : s.obj O.KEY_SLOT = 0 ∨ 8 < s.obj O.KEY_SLOT) :
    s.keyCommand n = s.keyEnds 3 := (if_neg hn).trans (if_pos (by simp; omega))

section Slot

variable (hlo : 1 ≤ s.obj O.KEY_SLOT) (hhi : s.obj O.KEY_SLOT ≤ 8)

include hlo hhi

theorem State.keyCommand_image_eq : s.keyCommand 1 =
    if s.objBit O.IMG_KEYS (s.obj O.KEY_SLOT - 1) then s.keyEnds 2
    else (State.setObjBit { s with keys := { s.keys with
      image := tput (fun _ => []) s.keys.image (s.obj O.KEY_SLOT) (s.keyData 32) } } O.IMG_KEYS (s.obj O.KEY_SLOT - 1) true).keyEnds 1 := by
  simp [State.keyCommand, State.objBit, hlo, hhi]
  rfl

theorem State.keyCommand_signing_eq : s.keyCommand 2 =
    if s.objBit O.SIG_KEYS (s.obj O.KEY_SLOT - 1) then s.keyEnds 2
    else if ! onCurve (s.keyData 96) then s.keyEnds 3
    else (State.setObjBit { s with keys := { s.keys with
      signing := tput (fun _ => []) s.keys.signing (s.obj O.KEY_SLOT) (s.keyData 96) } } O.SIG_KEYS (s.obj O.KEY_SLOT - 1) true).keyEnds 1 := by
  simp [State.keyCommand, State.objBit, hlo, hhi]

theorem State.keyCommand_revoke_eq : s.keyCommand 4 =
    if s.obj O.KEY_KIND = 0 then (State.setObjBit { s with keys := { s.keys with
      image := tput (fun _ => []) s.keys.image (s.obj O.KEY_SLOT) [] } } O.IMG_KEYS (s.obj O.KEY_SLOT - 1) false).keyEnds 1
    else (State.setObjBit { s with keys := { s.keys with
      signing := tput (fun _ => []) s.keys.signing (s.obj O.KEY_SLOT) [] } } O.SIG_KEYS (s.obj O.KEY_SLOT - 1) false).keyEnds 1 := by
  simp [State.keyCommand, hlo, hhi]

end Slot

/-- Each of the four key commands is a write of its number to KEY_CMD. -/
theorem exec_keyCmd {c : Instr} {n : Nat} (hc : (c, n) ∈ [(Instr.keyCmdInstallImageKey m, 1), (.keyCmdInstallSigningKey m, 2),
    (.keyCmdSetOwnerKey m, 3), (.keyCmdRevoke m, 4)]) :
    exec c s = s.write m O.KEY_CMD n (writeKeyCmd m n) ∧ 1 ≤ n ∧ n ≤ 4 := by
  simp only [List.mem_cons, Prod.mk.injEq, List.not_mem_nil, or_false] at hc
  rcases hc with ⟨rfl, rfl⟩ | ⟨rfl, rfl⟩ | ⟨rfl, rfl⟩ | ⟨rfl, rfl⟩
  · exact ⟨rfl, by decide⟩
  · exact ⟨rfl, by decide⟩
  · exact ⟨rfl, by decide⟩
  · exact ⟨rfl, by decide⟩

end Keys

/-- Settles O52: the guards of each command in their order, and what each leaves behind. -/
theorem flashLifeCycleAndKeys : Obligations.FlashLifeCycleAndKeys := by
  unfold Obligations.FlashLifeCycleAndKeys
  intro s
  refine ⟨?flCmd, fun h b => exec_flDone_of_none h, ?flDone, ?lcReq, ?judged, exec_lcTransitionDone_of_none,
    fun to_ he h => ⟨fun hn => ⟨_, exec_lcTransitionDone_of_state he h hn, ?moved⟩,
      fun h4 => exec_lcTransitionDone_of_return he (h4 ▸ h)⟩, ?keys⟩
  case flCmd =>
    intro m hs _ _ c n cmd hcmd
    have hc : n = 256 ∧ cmd = 1 ∨ n = 4096 ∧ cmd = 2 := hcmd.imp And.right And.right
    have hw : exec c s = s.write m O.FL_CMD cmd (writeFlCmd m cmd) := by
      rcases hcmd with ⟨rfl, -, rfl⟩ | ⟨rfl, -, rfl⟩ <;> rfl
    rw [hw]
    exact ⟨fun h => State.write_refused hs (writeFlCmd_of_not_mayFlash hc h) (by decide),
      fun h ha => State.write_refused hs (writeFlCmd_of_misaligned hc h ha) (by decide),
      fun h ha hk => ⟨_, State.write_accepted hs (writeFlCmd_of_kept hc h ha hk), State.wrote_setObj ..⟩,
      fun h ha hk => ⟨_, State.write_accepted hs (writeFlCmd_of_allowed hc h ha hk), State.wrote_setObj ..⟩⟩
  case flDone =>
    intro v a h
    have hkeys : [O.FL_STATE, O.FL_RESULT].Nodup := by decide
    exact ⟨⟨_, exec_flDone_of_verified h, State.wrote_setObjs _ _ hkeys⟩,
      ⟨_, _, exec_flDone_of_unverified h, State.wrote_setObjs _ _ hkeys⟩⟩
  case lcReq =>
    intro target sig
    refine ⟨fun m hs => ⟨fun h => State.write_refused hs (writeLcReq_of_bad h) (by decide),
        fun h hb => State.write_refused hs ((writeLcReq_of_state h).trans (State.lcServe_of_busy hb)) (by decide)⟩,
      exec_lcReq_tap_of_stopped, fun he hb => (exec_lcReq_tap he).trans (by rw [State.lcServe_of_busy hb]), ?_⟩
    rintro hi c to_ sg (⟨m, hs, hv, rfl, rfl, rfl⟩ | ⟨he, rfl, rfl, rfl⟩)
    · exact State.write_accepted hs ((writeLcReq_of_state hv).trans (State.lcServe_of_idle hi))
    · exact (exec_lcReq_tap he).trans (by rw [State.lcServe_of_idle hi]; rfl)
  case judged =>
    exact fun to_ sg => ⟨State.lcAnswer_of_mode, fun h => ⟨State.lcAnswer_of_no_row h, State.lcAnswer_of_no_owner h,
      fun hr => ⟨fun h4 hl => (State.lcAnswer_of_key h hr).trans (if_pos (by simp [h4, hl])),
        fun hl => (State.lcAnswer_of_key h hr).trans (if_neg (by simpa [imp_iff_not_or] using hl))⟩⟩⟩
  case moved =>
    have hkeys : [O.LC_STATE, O.LC_RESULT].Nodup := by decide
    exact State.wrote_setObjs _ _ hkeys
  case keys =>
    intro m hs _ c n hc
    obtain ⟨hw, hn⟩ := exec_keyCmd (s := s) hc
    rw [hw]
    have notTrue {b : Bool} (hb : b = false) : (! b) = true := by rw [hb]; rfl
    have notFalse {b : Bool} (hb : b = true) : ¬ (! b) = true := by rw [hb]; decide
    refine ⟨fun h => State.write_refused hs (writeKeyCmd_of_denied hn h) (by decide),
      fun h hl => State.write_accepted hs (writeKeyCmd_of_busy hn h hl), fun h hl => ?_⟩
    rw [State.write_accepted hs (writeKeyCmd_of_served hn h hl)]
    refine ⟨fun h3 hb => congrArg Host.Outcome.next (State.keyCommand_of_bad_slot h3 hb), ?_, ?_, ?_, ?_⟩
    · rintro rfl hlo hhi
      rw [State.keyCommand_image_eq hlo hhi]
      exact ⟨fun hf => congrArg Host.Outcome.next (if_pos hf), fun hf => congrArg Host.Outcome.next (if_neg (Bool.eq_false_iff.mp hf))⟩
    · rintro rfl hlo hhi
      rw [State.keyCommand_signing_eq hlo hhi]
      exact ⟨fun hf => congrArg Host.Outcome.next (if_pos hf),
        fun hf hk => congrArg Host.Outcome.next ((if_neg (Bool.eq_false_iff.mp hf)).trans (if_pos (notTrue hk))),
        fun hf hk => congrArg Host.Outcome.next ((if_neg (Bool.eq_false_iff.mp hf)).trans (if_neg (notFalse hk)))⟩
    · rintro rfl
      rw [State.keyCommand_owner_eq]
      exact ⟨fun ho => congrArg Host.Outcome.next (if_pos ho),
        fun ho hk => congrArg Host.Outcome.next ((if_neg ho).trans (if_pos (notTrue hk))),
        fun ho hk => congrArg Host.Outcome.next ((if_neg ho).trans (if_neg (notFalse hk)))⟩
    · rintro rfl hlo hhi
      rw [State.keyCommand_revoke_eq hlo hhi]
      exact ⟨fun hk => congrArg Host.Outcome.next (if_pos hk), fun hk => congrArg Host.Outcome.next (if_neg hk)⟩

end Sys2Proof.Machine
end

section
/-!
PROOFS. The debug port: the TAP's instructions (R454–R457), debug accesses in their three spaces (R458–R463, R468, R471) and DHALT (R469).
-/

namespace Sys2Proof.Machine

/-! ### Instructions (R454–R457) -/

section Instructions

variable {s : State}

/-- The boundary register as an Update-DR leaves it, where the port is open. -/
def State.boundaryUpdated (s : State) (v : Option (BitVec 392)) : State :=
  { s with tap := { s.tap with boundary := match v with | some b => b.toNat | none => s.tap.boundary } }

theorem State.tapOpen_of_open (h : s.portOpen = true) (ir len dr : Nat) : s.tapOpen ir len dr = s.tapIr ir len dr := if_pos h

theorem State.tapOpen_of_closed (h : s.portOpen = false) (ir len dr : Nat) : s.tapOpen ir len dr = s.tapIr irBypass 1 0 :=
  if_neg (Bool.eq_false_iff.mp h)

theorem State.updateBoundary_of_open (h : s.portOpen = true) (v : Option (BitVec 392)) : s.updateBoundary v = s.boundaryUpdated v := by
  cases v with
  | none => rfl
  | some b => exact if_pos h

theorem State.updateBoundary_of_closed (h : s.portOpen = false) (v : Option (BitVec 392)) : s.updateBoundary v = s := by
  cases v with
  | none => rfl
  | some b => exact if_neg (Bool.eq_false_iff.mp h)

/-- A boundary instruction of an open port: the register updated, the balls captured. -/
theorem State.tapOpen_updateBoundary_of_open (h : s.portOpen = true) (v : Option (BitVec 392)) (ir len dr : Nat) :
    (s.updateBoundary v).tapOpen ir len dr = (s.boundaryUpdated v).tapIr ir len dr := by
  rw [State.updateBoundary_of_open h]
  exact State.tapOpen_of_open (s := s.boundaryUpdated v) h ir len dr

theorem State.tapOpen_updateBoundary_of_closed (h : s.portOpen = false) (v : Option (BitVec 392)) (ir len dr : Nat) :
    (s.updateBoundary v).tapOpen ir len dr = s.tapIr irBypass 1 0 := by
  rw [State.updateBoundary_of_closed h, State.tapOpen_of_closed h]

end Instructions

/-! ### Debug accesses (R457–R460) -/

section Accesses

variable {s : State} {a : DebugAccess}

/-- The four commands that order a debug access, with the access that each orders. -/
def ordersAccess (c : Instr) (a : DebugAccess) : Prop :=
  (∃ consume space size addr, c = .daccRead consume space size addr ∧ a = ⟨false, consume, space, size, addr.toNat, 0, false⟩) ∨
  (∃ space size addr data, c = .daccWrite space size addr data ∧ a = ⟨true, false, space, size, addr.toNat, data.toNat, false⟩) ∨
  (∃ core consume, c = .vtTx core consume ∧ a = ⟨false, consume, 2, 0, coreReg core 0x2002, 0, false⟩) ∨
  (∃ core v, c = .vtRx core v ∧ a = ⟨v.isSome, false, 2, 0, coreReg core 0x2003, (v.getD 0).toNat, false⟩)

/-- Each of the four commands starts its access, which no packet has yet left for. -/
theorem exec_of_ordersAccess {c : Instr} (h : ordersAccess c a) : exec c s = .next (s.tapStart a) ∧ a.sent = false := by
  rcases h with ⟨consume, space, size, addr, rfl, rfl⟩ | ⟨space, size, addr, data, rfl, rfl⟩ | ⟨core, consume, rfl, rfl⟩ |
    ⟨core, v, rfl, rfl⟩
  · exact ⟨rfl, rfl⟩
  · exact ⟨rfl, rfl⟩
  · exact ⟨rfl, rfl⟩
  · exact ⟨rfl, rfl⟩

/-- DACC in the instruction register. -/
def State.daccSelected (s : State) : State := { s with tap := { s.tap with ir := irDacc, drLen := 112 } }

/-- The access `a` taken by the port. -/
def State.tapTaken (s : State) (a : DebugAccess) : State :=
  { s.daccSelected with tap := { s.daccSelected.tap with busy := some a } }

theorem State.tapStart_of_busy (h : s.tap.busy ≠ none) :
    s.tapStart a = { s.daccSelected with tap := { s.daccSelected.tap with ignored := true } } :=
  if_pos (Option.isSome_iff_ne_none.mpr h)

section Free

variable (h : s.tap.busy = none)

include h

/-- Of an access that meets no other only the judgement of the port and the space is left. -/
theorem State.tapStart_of_free : s.tapStart a =
    if ! s.portOpen then
      (if a.space = 0 then s.daccSelected.refuse .debug (a.addr % 2 ^ 24) eDenied else s.daccSelected).tapRefused eDenied
    else if a.space = 3 then s.daccSelected.tapRefused eRange
    else (s.tapTaken a).serveTap := by
  have hb : (s.tapIr irDacc 112 s.tap.dr).tap.busy = none := h
  refine (if_neg (by rw [hb]; decide)).trans ?_
  rfl

theorem State.tapStart_of_closed (hp : s.portOpen = false) : s.tapStart a =
    (if a.space = 0 then s.daccSelected.refuse .debug (a.addr % 2 ^ 24) eDenied else s.daccSelected).tapRefused eDenied :=
  (State.tapStart_of_free h).trans (if_pos (by rw [hp]; rfl))

variable (hp : s.portOpen = true)

include hp

theorem State.tapStart_of_no_space (ha : a.space = 3) : s.tapStart a = s.daccSelected.tapRefused eRange :=
  ((State.tapStart_of_free h).trans (if_neg (by rw [hp]; decide))).trans (if_pos ha)

theorem State.tapStart_of_space (ha : a.space ≠ 3) : s.tapStart a = (s.tapTaken a).serveTap :=
  ((State.tapStart_of_free h).trans (if_neg (by rw [hp]; decide))).trans (if_neg ha)

end Free

/-- The clocks of a space run, and the hub has started. -/
def State.spaceRuns (s : State) (space : Nat) : Prop :=
  3 ≤ s.obj O.BOOT_STATE ∧ if space = 0 then s.engineStopped = false else s.clockWait = false

theorem State.tapReady_iff {space : Nat} : s.tapReady space = true ↔ s.spaceRuns space := by
  rw [State.tapReady, State.spaceRuns, Bool.and_eq_true, decide_eq_true_eq]
  split
  · rw [Bool.not_eq_true']
  · rw [Bool.not_eq_true']

theorem State.serveTap_tapTaken_of_waiting (h : ¬ s.spaceRuns a.space) : (s.tapTaken a).serveTap = s.tapTaken a := by
  rw [← State.tapReady_iff, Bool.not_eq_true] at h
  have hw : (s.tapTaken a).tapReady a.space = false := h
  change (if a.sent || ! (s.tapTaken a).tapReady a.space then s.tapTaken a else _) = _
  exact if_pos (by rw [hw, Bool.not_false, Bool.or_true])

section Served

variable (hs : a.sent = false) (h : s.spaceRuns a.space)

include hs h

theorem State.serveTap_tapTaken : (s.tapTaken a).serveTap =
    if a.space = 0 then (s.tapTaken a).tapDict a else if a.space = 1 then (s.tapTaken a).tapBus a else (s.tapTaken a).tapCore a := by
  rw [← State.tapReady_iff] at h
  have hr : (s.tapTaken a).tapReady a.space = true := h
  change (if a.sent || ! (s.tapTaken a).tapReady a.space then s.tapTaken a else _) = _
  exact if_neg (by rw [hs, hr]; decide)

theorem State.serveTap_tapTaken_of_bus (ha : a.space = 1) : (s.tapTaken a).serveTap = (s.tapTaken a).tapBus a :=
  ((State.serveTap_tapTaken hs h).trans (if_neg (by rw [ha]; decide))).trans (if_pos ha)

theorem State.serveTap_tapTaken_of_core (ha : a.space = 2) : (s.tapTaken a).serveTap = (s.tapTaken a).tapCore a :=
  ((State.serveTap_tapTaken hs h).trans (if_neg (by rw [ha]; decide))).trans (if_neg (by rw [ha]; decide))

theorem State.serveTap_tapTaken_of_dict (ha : a.space = 0) : (s.tapTaken a).serveTap = (s.tapTaken a).tapDict a :=
  (State.serveTap_tapTaken hs h).trans (if_pos ha)

end Served

/-- A read of an object that does not consume gives its value (R460). -/
theorem State.tapDict_of_read (ha : a.addr < 2 ^ 24) (hg : s.gate a.addr a.write = eNone) (hw : a.write = false)
    (hc : a.consume = false) (hr : (rowOf a.addr).isSome) : s.tapDict a = s.tapDone 0 0 (some (s.readObj a.addr)) := by
  have hk : a.addr % 2 ^ 24 = a.addr := Nat.mod_eq_of_lt ha
  rw [hw] at hg
  have hn : ¬ (a.consume || (rowOf a.addr).isNone) = true := by simp [hc, Option.isSome_iff_ne_none.mp hr]
  simp only [State.tapDict, hk, hg, hw, ne_eq, not_true_eq_false, if_false, Bool.false_eq_true, if_neg hn]

/-! ### A core's debug registers (R463, R471, Table 21-6) -/

section Registers

variable {core : CoreIx}

theorem coreReg_core {n : Nat} (hn : n < 65536) : coreReg core n / 2 ^ 35 = core := by unfold coreReg; omega

theorem coreReg_reg {n : Nat} (hn : n < 65536) : coreReg core n % 65536 = n := by unfold coreReg; omega

theorem coreReg_gap {n : Nat} (hn : n < 65536) : coreReg core n / 65536 % 2 ^ 19 = 0 := by unfold coreReg; omega

/-- An access to a debug register proper of a core, by the register's number. -/
theorem State.tapCore_of_coreReg {n : Nat} (ha : a.addr = coreReg core n) (hlo : 0x1020 < n) (hn : n < 65536) : s.tapCore a =
    if n = 0x2000 then
      if a.write then (s.writeCdctl core a.data).tapDone 0 0 none else s.tapDone 0 0 (some (s.cdctl core))
    else if n = 0x2001 then
      if a.write then s.tapRefused eReadOnly else s.tapDone 0 0 (some (s.cdstat core))
    else if n = 0x2002 then
      if a.write then s.tapRefused eReadOnly
      else (if a.consume then s.setCore core { s.core core with vtTx := (s.core core).vtTx.tail } else s).tapDone 0 0
        (some (s.core core).vtTxWord)
    else if n = 0x2003 then
      if ! a.write then s.tapDone 0 0 (some (64 - (s.core core).vtRx.length))
      else if (s.core core).vtRx.length < 64 then
        (s.setCore core { s.core core with vtRx := (s.core core).vtRx ++ [BitVec.ofNat 8 a.data] }).tapDone 0 0 none
      else s.tapDone 4 0 none
    else s.tapRefused eRange := by
  simp only [State.tapCore, ha, coreReg_core hn, coreReg_reg hn, coreReg_gap hn, Nat.not_le.mpr hlo, ne_eq, not_true_eq_false, if_false]

theorem State.tapCore_cdctl_write (ha : a.addr = coreReg core 0x2000) (hw : a.write = true) :
    s.tapCore a = (s.writeCdctl core a.data).tapDone 0 0 none :=
  (State.tapCore_of_coreReg ha (by decide) (by decide)).trans (if_pos hw)

theorem State.tapCore_cdstat_read (ha : a.addr = coreReg core 0x2001) (hw : a.write = false) :
    s.tapCore a = s.tapDone 0 0 (some (s.cdstat core)) :=
  (State.tapCore_of_coreReg ha (by decide) (by decide)).trans (if_neg (Bool.eq_false_iff.mp hw))

theorem State.tapCore_vtTx_read (ha : a.addr = coreReg core 0x2002) (hw : a.write = false) : s.tapCore a =
    (if a.consume then s.setCore core { s.core core with vtTx := (s.core core).vtTx.tail } else s).tapDone 0 0
      (some (s.core core).vtTxWord) :=
  (State.tapCore_of_coreReg ha (by decide) (by decide)).trans (if_neg (Bool.eq_false_iff.mp hw))

theorem State.tapCore_vtRx_eq (ha : a.addr = coreReg core 0x2003) : s.tapCore a =
    if ! a.write then s.tapDone 0 0 (some (64 - (s.core core).vtRx.length))
    else if (s.core core).vtRx.length < 64 then
      (s.setCore core { s.core core with vtRx := (s.core core).vtRx ++ [BitVec.ofNat 8 a.data] }).tapDone 0 0 none
    else s.tapDone 4 0 none := State.tapCore_of_coreReg ha (by decide) (by decide)

end Registers

end Accesses

/-! ### DHALT (R469) -/

section Dhalt

variable {s : State} {m : Master}

theorem writeDhalt_of_bad {v : Nat} (h : v ≠ 1) : writeDhalt m v s = (s, eRange) := if_pos h

theorem writeDhalt_of_one {v : Nat} (h : v = 1) : writeDhalt m v s =
    ((s.debugHold (Master.number m)).1.answered m (s.debugHold (Master.number m)).2, eNone) := if_neg (not_not_intro h)

theorem State.debugHold_of_refused {n : Nat} (h : orderTable .hold s.judgedMode = 0) : s.debugHold n = (s, 2) := by
  simp only [State.debugHold, h]

theorem State.debugHold_of_no_change {n : Nat} (h : orderTable .hold s.judgedMode = 2) : s.debugHold n = (s, 1) := by
  simp only [State.debugHold, h]

theorem State.debugHold_of_advancing {n : Nat} (ha : s.advancing = true) (hr : s.recovering = false) :
    s.debugHold n = ((s.raiseStop 8 0 n).designHalts, 1) := by
  have hm : (s.mode = mRun ∨ s.mode = mStep) ∨ s.mode = mTied := by
    simpa only [State.advancing, Bool.or_eq_true, beq_iff_eq] using ha
  have ht : orderTable .hold s.judgedMode = 1 := by
    rcases hm with (hm | hm) | hm <;> rw [State.judgedMode_of_not_snapshot (by rw [hm]; decide), hm] <;> rfl
  simp only [State.debugHold, ht, hr, ha, Bool.false_eq_true, if_false, if_true]

theorem orderTable_hold_of_standing (h : s.held = true ∨ s.mode = mStandby) : orderTable .hold s.judgedMode = 2 := by
  have hm : (s.mode = mReady ∨ s.mode = mHold) ∨ s.mode = mStandby := by
    simpa only [State.held, Bool.or_eq_true, beq_iff_eq] using h
  rcases hm with (hm | hm) | hm <;> rw [State.judgedMode_of_not_snapshot (by rw [hm]; decide), hm] <;> rfl

theorem orderTable_hold_of_diag (h : s.mode = mDiag) : orderTable .hold s.judgedMode = 0 := by
  rw [State.judgedMode_of_not_snapshot (by rw [h]; decide), h]
  rfl

end Dhalt

/-- Settles O51: an access is judged by the port, its space and the clocks, then served by the space's own rule. -/
theorem debugPortActs : Obligations.DebugPortActs := by
  unfold Obligations.DebugPortActs
  refine ⟨fun s => ⟨rfl, rfl, rfl, rfl, rfl, fun hp => ⟨?clamp, ?highz, fun v => ⟨?extest, ?sample⟩⟩,
    fun hp => ⟨?clampClosed, ?highzClosed, fun v => ⟨?extestClosed, ?sampleClosed⟩⟩⟩, fun s => ⟨fun a c hc => ?access, ?dhalt⟩⟩
  case clamp => exact congrArg Host.Outcome.next (State.tapOpen_of_open hp ..)
  case highz => exact congrArg Host.Outcome.next (State.tapOpen_of_open hp ..)
  case extest => exact congrArg (fun t : State => Host.Outcome.next t.draw.draw) (State.tapOpen_updateBoundary_of_open hp v ..)
  case sample => exact congrArg (fun t : State => Host.Outcome.next t.draw.draw) (State.tapOpen_updateBoundary_of_open hp v ..)
  case clampClosed => exact congrArg Host.Outcome.next (State.tapOpen_of_closed hp ..)
  case highzClosed => exact congrArg Host.Outcome.next (State.tapOpen_of_closed hp ..)
  case extestClosed => exact congrArg (fun t : State => Host.Outcome.next t.draw.draw) (State.tapOpen_updateBoundary_of_closed hp v ..)
  case sampleClosed => exact congrArg (fun t : State => Host.Outcome.next t.draw.draw) (State.tapOpen_updateBoundary_of_closed hp v ..)
  case access =>
    obtain ⟨he, hs⟩ := exec_of_ordersAccess (s := s) hc
    rw [he]
    refine ⟨fun h => congrArg Host.Outcome.next (State.tapStart_of_busy h),
      fun h hp => congrArg Host.Outcome.next (State.tapStart_of_closed h hp),
      fun h hp ha => congrArg Host.Outcome.next (State.tapStart_of_no_space h hp ha), fun h hp ha => ?_⟩
    rw [State.tapStart_of_space h hp ha]
    refine ⟨fun hw => congrArg Host.Outcome.next (State.serveTap_tapTaken_of_waiting hw), fun hr h0 hlt hg hw hc hrow => ?_,
      fun hr h1 => congrArg Host.Outcome.next (State.serveTap_tapTaken_of_bus hs hr h1), fun hr h2 core => ?_⟩
    · rw [State.serveTap_tapTaken_of_dict hs hr h0]
      exact congrArg Host.Outcome.next (State.tapDict_of_read (s := s.tapTaken a) hlt hg hw hc hrow)
    · rw [State.serveTap_tapTaken_of_core hs hr h2]
      refine ⟨fun hreg hw => congrArg Host.Outcome.next (State.tapCore_cdctl_write hreg hw),
        fun hreg hw => congrArg Host.Outcome.next (State.tapCore_cdstat_read hreg hw),
        fun hreg hw => congrArg Host.Outcome.next (State.tapCore_vtTx_read hreg hw), fun hreg => ?_⟩
      rw [State.tapCore_vtRx_eq hreg]
      refine ⟨fun hw => congrArg Host.Outcome.next (if_pos (by rw [hw]; rfl)), fun hw hl => ?_, fun hw hl => ?_⟩
      · exact congrArg Host.Outcome.next ((if_neg (by rw [hw]; decide)).trans (if_pos hl))
      · exact congrArg Host.Outcome.next ((if_neg (by rw [hw]; decide)).trans (if_neg (Nat.not_lt.mpr hl)))
  case dhalt =>
    intro m hs v
    refine ⟨fun h => State.write_refused hs (writeDhalt_of_bad h) (by decide),
      fun h ha hr => (State.write_accepted hs (writeDhalt_of_one h)).trans (by rw [State.debugHold_of_advancing ha hr]),
      fun h hm => (State.write_accepted hs (writeDhalt_of_one h)).trans
        (by rw [State.debugHold_of_no_change (orderTable_hold_of_standing hm)]),
      fun h hm => (State.write_accepted hs (writeDhalt_of_one h)).trans
        (by rw [State.debugHold_of_refused (orderTable_hold_of_diag hm)])⟩

end Sys2Proof.Machine
end
